-- ==== Sys2Proof/Word.lean ====
section
/-! DEFINITION. Word: the register word of BAR0, the byte of the memories, and the wider words of the
block (00_scope.md R5: every register is 32 bits wide and little-endian). -/
namespace Sys2Proof

/-- A register, or a dword of a BAR0 access (R5). -/
abbrev Word := BitVec 32

/-- One byte of GDDR7 or of an image. -/
abbrev Byte := BitVec 8

/-- A word of a result queue (11_acquisition_queues.md R316). -/
abbrev Word64 := BitVec 64

end Sys2Proof
end

