-- ==== Sys2Proof/Syntax.lean ====
section
/-! DEFINITION. Syntax: the commands of the block: one constructor of Instr per row of spec/opcode_table.json, with
the row's operands. Beats, values measured in the analog world, and the contents of received messages are operands:
the block does not choose them. -/
namespace Sys2Proof

/-- A requester path (03_register_pages.md R89, Table 3.17; 04_commit_groups.md Table 4.12): PCIe function 0 is the
physical function, 1 to 31 are virtual functions; SMBus; JTAG; the calibration engine's own path. -/
inductive Path where
  | func (n : Fin 32)
  | smbus
  | jtag
  | cal
deriving DecidableEq, Repr

/-- The path number of CGRP[g].STATE.PATH (Table 4.12). -/
def Path.code : Path → Nat
  | .func n => n.val
  | .smbus => 32
  | .jtag => 33
  | .cal => 63

/-- Whether the path is a PCIe function. -/
def Path.isFunc : Path → Bool
  | .func _ => true
  | _ => false

/-- Whether the path is a virtual function. -/
def Path.isVf : Path → Bool
  | .func n => decide (n.val ≠ 0)
  | _ => false

/-- The PCIe function recorded for a path; 0 off PCIe. -/
def Path.fn : Path → Nat
  | .func n => n.val
  | _ => 0

/-- The PATH field of a violation log entry (18_tufts_and_security.md Table 18.3). -/
def Path.bus : Path → Nat
  | .smbus => 1
  | .jtag => 2
  | _ => 0

/-- The state of the control-store word a Crozier fetches: clean, with a corrected single-bit error, or with an
uncorrectable one (05_crozier_sequencer.md Table 5.12, CS_ECC). -/
inductive Ecc where
  | clean | corrected | bad
deriving DecidableEq, Repr


/-- A Crozier's opportunity to execute a word: the frond, a beat, and the state of the fetched word. The word
executes at the earliest beat, not before b, at which R145's costs allow it. -/
structure WordEv where
  f : Fin 32
  b : Nat
  ecc : Ecc := .clean
deriving DecidableEq, Repr

/-- An event of one frond at a beat. -/
structure FrondEv where
  f : Fin 32
  b : Nat
deriving DecidableEq, Repr

/-- Overrange samples of one frond in ball beat b (08_readout_front_end.md R233): the place of each in the beat, and whether its voltage lies
above the range rather than below. -/
structure OvrEv where
  f : Fin 32
  b : Nat
  rails : List (Fin 24 × Bool)
deriving DecidableEq, Repr

/-- A demodulated sample of a trace tap (08_readout_front_end.md R244, R249): frond, tone, the ADC sample its filter is
centred on, and the 192 ADC codes of its filter span. -/
structure DemodUnit where
  f : Nat
  tone : Nat
  centre : Nat
  codes : List (BitVec 12)
deriving DecidableEq, Repr

/-- What a thermometry phase measured (16_housekeeping_analog.md R434, R436): the sense voltage of the positive phase and that of the
negative phase, in pV; the magnitude of the measured current in fA; whether the source reached its compliance (current mode) or its limit
(voltage mode); and the front end's temperature, LSB 2^−8 °C. -/
structure ThermoMeas where
  vp : Int
  vm : Int
  current : Nat
  limit : Bool
  tfe : BitVec 16
deriving DecidableEq, Repr

/-- Two independent estimates of a calibrated quantity (15_calibration.md R407): the offset of its register in the page, its
lowest bit, and the estimates. -/
structure CalPair where
  off : Nat
  lo : Nat
  a : Int
  b : Int
deriving DecidableEq, Repr

/-- One background estimate of a quantity (15_calibration.md R408, R409) and the beat it began. -/
structure CalEst where
  off : Nat
  lo : Nat
  v : Int
  start : Nat
deriving DecidableEq, Repr

/-- What was being read when a GDDR7 data error came (14_serial_links.md R392): ring r of frond f, image k of group g, or n bytes of
BAR2 for a requester. -/
inductive CrcKind where
  | ring (f : Fin 32) (r : Fin 8)
  | image (g : Fin 64) (k : Nat)
  | bar2 (path : Path) (n : Nat)
deriving DecidableEq, Repr

/-- How the host has set up the PCIe endpoint when its link is up (14_serial_links.md R372, R374, R375, R398): the speed code; Enable Relaxed
Ordering; the IDE streams that are active, of the link and by function; and the MSI-X vectors that are masked, with their functions. -/
structure PcieUp where
  speed : Nat
  relaxed : Bool := true
  linkIde : Bool := false
  ideSel : Word := 0
  masked : List (Nat × Nat) := []
deriving DecidableEq, Repr

/-- A PTP frame received (13_time_and_cluster.md R352, R353): the MAC cycle m and its fraction ph/64 at which the timestamp point
passes, the port, the header fields, the timestamp carried and correctionField in 2^−16 ns; src: the sender's clockIdentity; mine:
the requester it names is this port; ds: the dataset of an Announce, in the order priority1, class, accuracy, variance, priority2,
grandmaster, stepsRemoved; mo: the MAC cycle fixed for the frame that leaves on its account (R354); tr: 0 IEEE 802.3, 1 UDP over IPv4,
2 UDP over IPv6; multi: it goes to the multicast address that Table 13.1 gives its type; csum: its UDP checksum; body: what follows these
fields, as in Management and Signaling. -/
structure PtpMsg where
  m : Nat
  ph : Fin 64
  port : Fin 2
  domain : Nat := 0
  seq : Nat := 0
  ts : Int := 0
  corr : Int := 0
  twoStep : Bool := false
  src : Nat := 0
  mine : Bool := true
  ds : List Nat := []
  mo : Nat := 0
  tr : Fin 3 := 0
  multi : Bool := true
  csum : Nat := 0
  body : List Byte := []
deriving DecidableEq, Repr

/-- A unit that fails a SKIP step of boot (02_modes_power_boot.md R67, R71): its index, cause code, DETAIL and the always-on cycle
at which the failure was detected. -/
structure BootUnit where
  unit : Nat
  cause : Nat
  detail : Nat := 0
  t : Nat
deriving DecidableEq, Repr

/-- What a boot step, or the method of it that ran, ends with (R66 to R71): the always-on cycle since entry to BOOT; its cause
code, 0 where it passes, and DETAIL; the units that fail a SKIP step; the image's VERSION, EXPECT and digest (step 9); and what the
step found: the capacity in GiB and, where training failed, the channels that trained (step 7), the link width and speed and the cycle in
which PERST_N rose, counted from the start of the step (step 8). -/
structure BootRes where
  t : Nat
  cause : Nat := 0
  detail : Nat := 0
  units : List BootUnit := []
  version : Nat := 0
  expect : Nat := 0
  digest : List Byte := []
  vals : List Nat := []
deriving DecidableEq, Repr

/-- The commands: one constructor per row of the operation table (spec/opcode_table.json). -/
inductive Instr where
  /-- REGISTER_WRITE (R78): A BAR0 write to a register that has no row of its own takes effect by access type once the interconnect checks admit it. -/
  | registerWrite (path : Path) (a : BitVec 25) (v : List Word) (be : Bool)
  /-- LO_READ (R96): A read of the LO word of a 64-bit pair returns bits 31:0 and latches the upper bits into the requester's HI latch. -/
  | loRead (path : Path) (a : BitVec 25) (dw : Nat) (be : Bool)
  /-- LO_WRITE (R97): A write of the LO word of a writable pair goes to the requester's staging latch. -/
  | loWrite (path : Path) (a : BitVec 25) (v : Word)
  /-- HI_WRITE (R97): A write of the HI word applies HI together with the staged LO in one cycle. -/
  | hiWrite (path : Path) (a : BitVec 25) (v : Word)
  /-- FLAGS_CLEAR (R99): A W1C write to FLAGS clears bits and re-sends the page interrupt if the enabled flags remain non-zero. -/
  | flagsClear (path : Path) (a : BitVec 25) (v : Word)
  /-- FLAGS_SET (R99): A write to FLAGS_SET sets FLAGS bits as though hardware had set them, for test. -/
  | flagsSet (path : Path) (a : BitVec 25) (v : Word)
  /-- FLAGS_EN_WRITE (R99): A write to FLAGS_EN changes the interrupt enables and sends an interrupt if the pending value is non-zero. -/
  | flagsEnWrite (path : Path) (a : BitVec 25) (v : Word)
  /-- CNT_CLR (R83): CTRL.CNT_CLR clears LCNT[0..47] and ERR_COUNT of the page in one cycle. -/
  | cntClr (path : Path) (a : BitVec 25)
  /-- SHADOW_WRITE (R106): A write to an RW-C field by a path with an attached OPEN group goes to the page's shadow copy and binds the page. -/
  | shadowWrite (path : Path) (a : BitVec 25) (v : Word)
  /-- POWER_ON_RESET (R47): The always-on supply rising or POR_N released brings the device to DORMANT, and to BOOT if BOOT_AUTO is set. -/
  | powerOnReset
  /-- PIN_RESET (R63): POR_N low for at least 1 µs resets everything except the boot log, failure counters and thermal lock. -/
  | pinReset
  /-- SUPPLY_RESET (R63): The always-on supply falling below its threshold resets everything, thermal lock included. -/
  | supplyReset
  /-- WAKE_N (R47): WAKE_N low for at least 160 ns moves the device from DORMANT to BOOT unless thermal lock is set. -/
  | wakeN
  /-- BOOT_STEP_COMPLETE (R66): A boot step ends and its pass, ALT, SKIP or STOP outcome is applied before the next step starts. -/
  | bootStepComplete (b : Nat) (r : BootRes)
  /-- BOOT_STEP_TIMEOUT (R66): A boot step that exceeds its timeout fails with cause TIMEOUT under its policy. -/
  | bootStepTimeout (b t : Nat) (units : List Nat)
  /-- MODE_REQ_RUN (R47): MODE_REQ with TARGET RUN moves READY to RUN. -/
  | modeReqRun (path : Path) (key : BitVec 16)
  /-- MODE_REQ_READY (R54): MODE_REQ with TARGET READY leaves RUN, SERVICE or HOLD for READY when the conditions hold. -/
  | modeReqReady (path : Path) (key : BitVec 16)
  /-- MODE_REQ_SERVICE (R58): MODE_REQ with TARGET SERVICE mutes the outputs, aborts groups and enters SERVICE. -/
  | modeReqService (path : Path) (key : BitVec 16)
  /-- MODE_REQ_DORMANT (R47): MODE_REQ with TARGET DORMANT switches domains off and mirrors the log. -/
  | modeReqDormant (path : Path) (key : BitVec 16)
  /-- MODE_REQ_HOLD (R51): A software request enters HOLD with cause SW. -/
  | modeReqHold (path : Path) (key : BitVec 16)
  /-- RUN_STOP_COMPLETE (R56): The device enters READY from RUN at the first beat at which no frond is inside a shot. -/
  | runStopComplete (b : Nat)
  /-- STOP_TIMEOUT (R56): STOP_TIMEOUT expires during a RUN-to-READY transition, halting remaining Croziers and forcing READY. -/
  | stopTimeout (b : Nat)
  /-- WARM (R65): MODE_RESET.WARM resets every domain but always-on and restarts boot at step 1. -/
  | warmReset (path : Path) (key : BitVec 16)
  /-- THERMAL_LOCK_POWER_OFF (R55): Ten milliseconds after a thermal shutdown the sequencer switches off the slice, GDDR7, Ndeor and Ethernet domains. -/
  | thermalLockPowerOff (b : Nat)
  /-- PGOOD_LOST (R59): Loss of power-good in a domain that should be on sets DOM_FAULT and enters HOLD with cause FAULT. -/
  | pgoodLost (b : Nat) (d : Fin 26)
  /-- DOM_GATE_WRITE (R62): A write of POWER.DOM_GATE in READY gates slice domains unless a gated slice holds an owned frond. -/
  | domGateWrite (path : Path) (v : Word)
  /-- CLR_CNT (R72): BOOT.LOG_CTRL.CLR_CNT clears every boot failure counter. -/
  | clrCnt (path : Path)
  /-- MIRROR (R73): BOOT.LOG_CTRL.MIRROR mirrors the boot log ring and counters to flash now. -/
  | logMirror (path : Path)
  /-- PCIE_FUNDAMENTAL_RESET (R64): PERST_N low resets the PCIe endpoint and DMA state, stops host captures and aborts open groups of affected paths. -/
  | pcieFundamentalReset (b : Nat)
  /-- FUNCTION_LEVEL_RESET (R481): An FLR on a virtual function clears its latches and MSI-X state, aborts its open group and stops its tuft's host streams. -/
  | functionLevelReset (b : Nat) (fn : Fin 32)
  /-- UNLOCK (R33): Loss of REF_CLK or main PLL lock drives every DAC to CLEAR_CODE, sets UNLOCK and enters HOLD. -/
  | clockUnlock (b : Nat) (ref : Bool)
  /-- MAIN_PLL_RELOCK (R34): The main PLL chain relocks and the beat counter resumes at its held value plus 1. -/
  | mainPllRelock
  /-- PF_ABORT_DOORBELL (R38): The physical function's ABORT doorbell aborts every tuft and puts the device into HOLD. -/
  | pfAbortDoorbell (b : Nat) (v : Word)
  /-- VF_ABORT_DOORBELL (R39): A virtual function's ABORT doorbell halts and clears its tuft's fronds and aborts its undecided groups. -/
  | vfAbortDoorbell (b : Nat) (fn : Fin 32) (v : Word)
  /-- ABORT_N (R40): A falling edge on ABORT_N held for 4 beats drives every DAC to CLEAR_CODE and enters HOLD. -/
  | abortN (b : Nat) (low : Option Nat)
  /-- NDEOR_ABORT (R391): A received ABORT flit enters HOLD when ABORT_IN is 1 and is forwarded as a broadcast. -/
  | ndeorAbort (b : Nat) (port : Fin 4) (w : BitVec 64)
  /-- DECISION_BUS_RECORD (R19): A 128-bit frond egress record arrives at a frond or the central Sorus at its fixed latency. -/
  | decisionBusRecord (b : Nat) (f : Fin 32) (r : Nat) (dst : Fin 33) (perr : Bool)
  /-- BEAT_COUNT_SAMPLE (R121): Every 256 beats the beat count and its phase are sent to the other domains to maintain their local beat counts. -/
  | beatCountSample (b : Nat)
  /-- OPEN (R103): CGRP CMD OPEN attaches an IDLE group to the writing requester path. -/
  | openGroup (path : Path) (g : Fin 64) (key : BitVec 16)
  /-- ARM (R111): CGRP CMD ARM detaches an OPEN group and starts its validation. -/
  | armGroup (path : Path) (g : Fin 64) (key : BitVec 16)
  /-- ABORT (R120): CGRP CMD ABORT aborts the group with cause SW if it reaches the apply stage before D. -/
  | abortGroup (path : Path) (g : Fin 64) (key : BitVec 16)
  /-- VALIDATION_COMPLETE (R112): Validation of an armed group ends, loading referenced images and either arming it or aborting it with the first failed check. -/
  | validationComplete (b : Nat) (g : Fin 64)
  /-- READY_BEAT (R111): An armed group reaches the beat-domain apply stage at beat R, where late TIME and CLUSTER groups abort. -/
  | readyBeat (b : Nat) (g : Fin 64)
  /-- DECISION_BEAT (R116): Beat D of a TIME or CLUSTER group arrives and the group enters DECIDED and distributes its apply token. -/
  | decisionBeat (b : Nat) (g : Fin 64)
  /-- APPLY_BEAT (R121): At beat A every shadow write of the group becomes active in every domain and the group returns to IDLE. -/
  | applyBeat (b : Nat) (g : Fin 64)
  /-- EXPIRED (R119): A SHOT or SYNC group whose D has not occurred by DEADLINE aborts with cause EXPIRED. -/
  | groupExpired (b : Nat) (g : Fin 64)
  /-- VOTE (R129): At beat T − L each participant sends its VOTE for a CLUSTER group to the coordinator. -/
  | clusterVote (b : Nat) (g : Fin 64)
  /-- VOTE_RECEIVED (R129): The coordinator receives a VOTE flit and records it if TXID and T match. -/
  | voteReceived (b : Nat) (dst : Fin 32) (w : BitVec 64)
  /-- DECIDE (R129): At T − L/2 the coordinator decides COMMIT or ABORT and sends DECIDE three times to every participant. -/
  | clusterDecide (b : Nat) (g : Fin 64)
  /-- DECIDE_RECEIVED (R129): A participant receives a DECIDE flit for its CLUSTER group. -/
  | decideReceived (b : Nat) (dst : Fin 32) (w : BitVec 64)
  /-- OUTCOME_LOST (R131): A received OUTCOME LOST sets CLUSTER_SPLIT and marks affected shots INVALID. -/
  | outcomeLost (b : Nat) (port : Fin 4) (w : BitVec 64)
  /-- NEXT (R145): A microword with SEQ NEXT posts its bundle, runs its ALU operation and continues at PC + 1. -/
  | uwNext (e : WordEv)
  /-- GOTO (R145): A microword with SEQ GOTO continues at TARGET. -/
  | uwGoto (e : WordEv)
  /-- BRT (R147): BRT branches to TARGET when its condition is true, waiting for a pending slot first. -/
  | uwBrt (e : WordEv)
  /-- BRF (R147): BRF branches to TARGET when its condition is false, waiting for a pending slot first. -/
  | uwBrf (e : WordEv)
  /-- CALL (R145): CALL pushes PC + 1 and continues at TARGET, faulting on a full stack. -/
  | uwCall (e : WordEv)
  /-- RET (R145): RET continues at the popped address and clears HANDLER on return from an interrupt. -/
  | uwRet (e : WordEv)
  /-- LOOP (R145): LOOP decrements a loop counter and branches to TARGET while it exceeded 1. -/
  | uwLoop (e : WordEv)
  /-- DISPATCH (R147): DISPATCH branches to TARGET + 1 + v on a trusted slot value, or to TARGET by default. -/
  | uwDispatch (e : WordEv)
  /-- SHOT_BEGIN (R157): SHOT_BEGIN sets the shot start S, increments SHOT_NUM and sets TC to S. -/
  | uwShotBegin (e : WordEv)
  /-- SHOT_END (R155): SHOT_END posts a SHOT_END bundle that ends the frond's shot at its issue beat. -/
  | uwShotEnd (e : WordEv)
  /-- SYNC (R153): SYNC posts a bundle that sends a sync record naming a commit group at its issue beat. -/
  | uwSync (e : WordEv)
  /-- HALT (R145): SEQ HALT halts the Crozier after posting the word's bundle. -/
  | uwHalt (e : WordEv)
  /-- WAITEV (R147): WAITEV waits until its condition is true or its slot resolves. -/
  | uwWaitev (e : WordEv)
  /-- IRQ (R145): IRQ sets FLAGS.SWI and loads SWI_CODE. -/
  | uwIrq (e : WordEv)
  /-- MOVI (R144): ALU MOVI loads a zero-extended immediate into a parameter register. -/
  | aluMovi (e : WordEv)
  /-- ADDI (R144): ALU ADDI adds an immediate to a parameter register modulo 2^32. -/
  | aluAddi (e : WordEv)
  /-- SUBI (R144): ALU SUBI subtracts an immediate from a parameter register modulo 2^32. -/
  | aluSubi (e : WordEv)
  /-- MOV (R144): ALU MOV copies one parameter register into another. -/
  | aluMov (e : WordEv)
  /-- ADD (R144): ALU ADD adds one parameter register to another. -/
  | aluAdd (e : WordEv)
  /-- SUB (R144): ALU SUB subtracts one parameter register from another. -/
  | aluSub (e : WordEv)
  /-- SHL6 (R144): ALU SHL6 shifts a parameter register left by 6 and ORs in an immediate. -/
  | aluShl6 (e : WordEv)
  /-- LDLC (R144): ALU LDLC loads a loop counter from a parameter register. -/
  | aluLdlc (e : WordEv)
  /-- LDLCI (R144): ALU LDLCI loads a loop counter with an immediate plus 1. -/
  | aluLdlci (e : WordEv)
  /-- RDSLOT (R147): ALU RDSLOT waits for a slot to resolve and reads its value or all ones. -/
  | aluRdslot (e : WordEv)
  /-- RDLC (R144): ALU RDLC reads a loop counter into a parameter register. -/
  | aluRdlc (e : WordEv)
  /-- RDSHOT (R144): ALU RDSHOT reads SHOT_NUM into a parameter register. -/
  | aluRdshot (e : WordEv)
  /-- WAIT_ADD (R134): WAIT mode 0 advances TC by VAL after the bundle is stamped. -/
  | waitAdd (e : WordEv)
  /-- WAIT_PARAM (R134): WAIT mode 1 advances TC by a parameter register. -/
  | waitParam (e : WordEv)
  /-- WAIT_CLAMP (R139): WAIT mode 2 clamps TC to at least e + 3 before stamping and then adds VAL. -/
  | waitClamp (e : WordEv)
  /-- STALL_RELEASE (R137): A Crozier stalled on a full queue or lookahead limit resumes posting once room returns. -/
  | stallRelease (e : WordEv)
  /-- WAIT_RESUME (R147): A Crozier waiting on a slot or event proceeds in the beat it resolves, clamping TC. -/
  | waitResume (e : WordEv)
  /-- HOLD_RELEASE (R156): A Crozier held at SHOT_BEGIN resumes when its hold conditions end. -/
  | holdRelease (e : WordEv)
  /-- CMD_HALT (R162): CROZIER.CMD.HALT halts a running, held, stalled or waiting Crozier at its next microword boundary. -/
  | cmdHalt (path : Path) (e : FrondEv) (key : BitVec 16)
  /-- INTERRUPT_ENTRY (R164): At a boundary with an enabled EVIN latched, the Crozier pushes its address and fetches the handler. -/
  | interruptEntry (e : FrondEv)
  /-- XY_START (R150): An XY field with JMP 0 starts its list entry on its tone at ball beat issue + 24, subject to its gate. -/
  | xyStart (e : FrondEv)
  /-- PROBE_START (R150): A probe field with JMP 0 starts its list entry on its tone, subject to its gate. -/
  | probeStart (e : FrondEv)
  /-- FLUX_START (R150): A flux field starts its segment on every channel in MASK. -/
  | fluxStart (e : FrondEv)
  /-- JUMP_REQUEST (R154): An XY or probe field with JMP 1 hands a jump request to the tone's player for the next boundary. -/
  | jumpRequest (e : FrondEv)
  /-- READOUT_WINDOW (R142): A read-out field opens a window on each tone in MASK unless invalid or colliding. -/
  | readoutWindow (e : FrondEv)
  /-- EV_PULSE (R143): An EV bit pulses EVOUT[n] into Hypha for one beat at ball beat issue + 24. -/
  | evPulse (e : FrondEv)
  /-- FRAME_TOGGLE_X (R296): Frame operation 1 toggles X of a qubit at the issue beat. -/
  | frameToggleX (e : FrondEv)
  /-- FRAME_TOGGLE_Z (R296): Frame operation 2 toggles Z of a qubit at the issue beat. -/
  | frameToggleZ (e : FrondEv)
  /-- FRAME_TOGGLE_XZ (R296): Frame operation 3 toggles X and Z of a qubit. -/
  | frameToggleXz (e : FrondEv)
  /-- FRAME_CLEAR (R296): Frame operation 4 clears X and Z of a qubit. -/
  | frameClear (e : FrondEv)
  /-- FRAME_CLEAR_ALL (R296): Frame operation 5 clears the frames of all 16 local qubits. -/
  | frameClearAll (e : FrondEv)
  /-- FRAME_XOR_SLOT (R146): Frame operation 6 XORs a trusted slot's correction word into the 16 frames. -/
  | frameXorSlot (e : FrondEv)
  /-- SHOT_END_ISSUE (R158): A SHOT_END bundle issues, ending the frond's shot, emptying its slots and placing a shot-end record. -/
  | shotEndIssue (e : FrondEv)
  /-- SYNC_ISSUE (R153): A SYNC bundle issues and sends a sync record on the decision bus. -/
  | syncIssue (e : FrondEv)
  /-- SHOT_STATUS_ITEM (R159): After the latest of its events the frond writes one status item for the shot into its result queue. -/
  | shotStatusItem (e : FrondEv)
  /-- SEGMENT_BOUNDARY (R179): A pass ends and the player continues by jump, LINK or becomes idle. -/
  | segmentBoundary (e : FrondEv) (c : Fin 40)
  /-- JUMP_LATCH (R180): At the end of beat Bj − 6 the player latches its next entry and samples the slot of a gated jump. -/
  | jumpLatch (e : FrondEv) (c : Fin 32)
  /-- WR (R190): A write of RING[r].WR or its doorbell advances the ring's write pointer or is refused. -/
  | ringWr (path : Path) (f : Fin 32) (r : Fin 8) (v : Word) (bell : Bool)
  /-- RING_REFILL (R191): Ring data read from GDDR7 enters staging and RD advances. -/
  | ringRefill (e : FrondEv) (r : Fin 8)
  /-- UNDERRUN (R194): A streamed sample missing from staging plays zero for the rest of the pass and marks the shot UNDERRUN and INVALID. -/
  | ringUnderrun (e : FrondEv) (c : Fin 40)
  /-- STB_SW (R216): HK.STB_SW fires the selected strobes from software. -/
  | stbSw (path : Path) (v : BitVec 8)
  /-- LDAC_N (R217): A falling edge on LDAC_N fires its strobe into the housekeeping domain. -/
  | ldacN (b : Nat) (k : Fin 4)
  /-- STROBE_LOAD (R426): A strobe arriving at the housekeeping die loads every assigned channel with a pending staged code. -/
  | strobeLoad (h : Nat) (n : Fin 8)
  /-- CLR_N_ASSERT (R220): A falling edge on CLR_N held for 4 beats forces every drive and bias output to CLEAR_CODE. -/
  | clrNAssert (b : Nat)
  /-- CLR_N_RELEASE (R220): A rising edge on CLR_N held for 4 beats releases the forcing of the drive outputs. -/
  | clrNRelease (b : Nat)
  /-- OVR (R236): An overrange sample at the read-out input clamps, flags OVR and records its beat. -/
  | adcOvr (e : OvrEv)
  /-- FE_SWITCH (R237): A pending front-end change takes effect at the first beat clear of every window, blanking 4 beats. -/
  | feSwitch (e : FrondEv)
  /-- TONE_CHANGE (R246): Committed TONE[t] demodulation registers take effect once outside every window's filter span. -/
  | toneChange (e : FrondEv) (t : Fin 16)
  /-- SELFCAL (R251): READOUT.ADC_CMD SELFCAL starts an ADC self-calibration of the frond. -/
  | selfcal (path : Path) (f : Fin 32) (key : BitVec 16)
  /-- SELFCAL_DONE (R252): An ADC self-calibration ends and commits its factors through group 63 or reports failure. -/
  | selfcalDone (e : FrondEv) (pairs : List CalPair)
  /-- MACMIN (R259): A decimated sample is presented and the kernel executes one MACMIN step. -/
  | macmin (e : FrondEv) (t : Fin 16) (codes : List (BitVec 12)) (ecc : Ecc)
  /-- WINDOW_RESULT (R264): After a window's last step the kernel rounds, classifies and forms its result word. -/
  | windowResult (e : FrondEv) (t : Fin 16)
  /-- WMEM_DATA_LO_READ (R271): A read of WMEM_DATA_LO reads the selected weight-memory word and latches its upper bits. -/
  | wmemDataLoRead (path : Path) (f : Fin 32)
  /-- DEADLINE_PASSED (R283): Beat D passes with an input missing and the decision resolves LATE. -/
  | deadlinePassed (b : Nat) (n : Fin 64) (r : Fin 16)
  /-- ARM_NOTICE (R285): An arm notice from the central Sorus reaches a frond's port and makes its slot PENDING. -/
  | armNotice (e : FrondEv) (perr : Bool)
  /-- SLOT_RESOLUTION (R285): A central slot resolution reaches a frond's port and writes the slot and frames. -/
  | slotResolution (e : FrondEv) (perr : Bool)
  /-- LOCKSTEP_DISAGREEMENT (R298): The two copies of a decision path disagree and the affected decisions resolve MISMATCH. -/
  | lockstepDisagreement (b : Nat) (unit : Fin 33) (frames : List (Fin 32 × Fin 16))
  /-- NDEOR_DECISION_RECORD (R294): A decision record received over Ndeor resolves its EXTERNAL rule or is discarded. -/
  | ndeorDecisionRecord (b : Nat) (dst : Fin 32) (w : BitVec 64)
  /-- TRIG_IN (R302): A qualified edge on TRIG_IN meets the trigger source of every context that enables it. -/
  | trigIn (b : Nat) (i : Fin 4) (falling : Bool) (held : Nat)
  /-- TIME_MATCH (R303): The beat counter reaches TMATCH and meets the TIME source. -/
  | timeMatch (b : Nat) (c : Fin 16)
  /-- SWTRIG_FIRE (R302): SWTRIG.FIRE meets the SW source of the context. -/
  | swtrigFire (path : Path) (c : Fin 16)
  /-- AUTO (R302): AUTO.TMO beats pass without a trigger and the AUTO source is met. -/
  | autoTrigger (b : Nat) (c : Fin 16)
  /-- CAPTURE_END (R308): A gated capture reaches T + POST and stops recording. -/
  | captureEnd (b : Nat) (c : Fin 16)
  /-- HOLDOFF_END (R308): A gated context's holdoff ends and it is ARMED again. -/
  | holdoffEnd (b : Nat) (c : Fin 16)
  /-- DATA_RECORD (R313): A context completes a data record and writes it into its capture ring. -/
  | dataRecord (b : Nat) (c : Fin 16) (raw : List (List (BitVec 12))) (demod : List DemodUnit) (lost : List Nat)
  /-- HOST_COPY (R314): A HOST context copies its next record into the host ring and writes HOST_WR back. -/
  | hostCopy (b : Nat) (c : Fin 16)
  /-- HOST_RD (R314): A write of HOST_RD or its doorbell frees host ring space or is refused. -/
  | hostRd (path : Path) (c : Fin 16) (v : Word) (bell : Bool)
  /-- QUEUE_FIRST_WORD (R317): An item's first word arrives and the queue allocates the whole item or drops it. -/
  | queueFirstWord (b k : Nat)
  /-- QUEUE_WORD (R317): A later word of an item lands in its slot, possibly making items visible or completing a reclamation. -/
  | queueWord (b k : Nat)
  /-- HEAD (R318): A HEAD read takes the word at RD into the requester's latch or waits for one. -/
  | queueHead (path : Path) (q : Fin 64)
  /-- HEAD_TIMEOUT (R318): A waiting HEAD read ends after 2 µs with VALID 0. -/
  | headTimeout (b : Nat) (q : Fin 64)
  /-- DRAIN_COPY (R318): The drain engine copies a visible item with its header into the host ring and releases it. -/
  | drainCopy (b : Nat) (q : Fin 64)
  /-- DRD (R318): A write of DRD or its doorbell frees drain ring space or is refused. -/
  | queueDrd (path : Path) (q : Fin 64) (v : Word) (bell : Bool)
  /-- RELEASE (R319): CMD.RELEASE moves REL forward by COUNT whole read items. -/
  | queueRelease (path : Path) (q : Fin 64) (n : BitVec 16)
  /-- ALL (R319): CMD.ALL releases every whole item that has been read. -/
  | queueAll (path : Path) (q : Fin 64)
  /-- MARK (R319): CMD.MARK saves the item boundary at RD as the mark. -/
  | queueMark (path : Path) (q : Fin 64)
  /-- REWIND (R319): CMD.REWIND sets RD to the mark or is refused with NO_MARK. -/
  | queueRewind (path : Path) (q : Fin 64)
  /-- FLUSH (R321): CMD.FLUSH discards every item allocated before the cycle and clears the mark. -/
  | queueFlush (path : Path) (q : Fin 64)
  /-- QUEUE_TIMEOUT (R320): The queue timer expires with unread words, flagging TIMEOUT and pulsing its Hypha event. -/
  | queueTimeout (b : Nat) (q : Fin 64)
  /-- SWPULSE (R329): A write to SWPULSE pulses the selected event channels. -/
  | swpulse (path : Path) (p : Fin 16) (j : Fin 2) (v : Word)
  /-- CHANNEL_EVENT (R334): A channel event reaches every task input bound to it by a tap. -/
  | channelEvent (b : Nat) (c : Fin 1024)
  /-- SET (R347): CLOCK.CMD SET loads the PTP clock and clears the mapping history. -/
  | clockSet (path : Path) (m : Nat) (key : BitVec 16)
  /-- ADJ (R347): CLOCK.CMD ADJ steps the PTP clock by ADJ_NS. -/
  | clockAdj (path : Path) (m : Nat) (key : BitVec 16)
  /-- SNAP (R347): CLOCK.CMD SNAP copies the PTP clock and latest mapping pair into the SNAP and MAP registers. -/
  | clockSnap (path : Path) (m : Nat) (key : BitVec 16)
  /-- ALARM (R349): The PTP clock reaches an enabled alarm time and the alarm fires. -/
  | clockAlarm (m : Nat) (n : Fin 2)
  /-- MAPPING_PAIR (R350): Every 4,096 beats a beat count reaches the Ethernet domain and a new mapping pair is recorded. -/
  | mappingPair (b m : Nat) (ph : Fin 64)
  /-- SYNC_MESSAGE (R352): A PTP Sync message is received, timestamped and used, forwarded or answered by the instance. -/
  | syncMessage (x : PtpMsg)
  /-- FOLLOW_UP (R352): A PTP Follow_Up message is received for a two-step Sync. -/
  | followUp (x : PtpMsg)
  /-- DELAY_REQ (R352): A PTP Delay_Req is received and answered by a master instance. -/
  | delayReq (x : PtpMsg)
  /-- DELAY_RESP (R352): A PTP Delay_Resp is received, completing an offset measurement. -/
  | delayResp (x : PtpMsg)
  /-- PDELAY_REQ (R355): A PTP Pdelay_Req is received and answered. -/
  | pdelayReq (x : PtpMsg)
  /-- PDELAY_RESP (R352): A PTP Pdelay_Resp is received for a peer-delay measurement. -/
  | pdelayResp (x : PtpMsg)
  /-- PDELAY_RESP_FOLLOW_UP (R352): A PTP Pdelay_Resp_Follow_Up is received completing a peer-delay measurement. -/
  | pdelayRespFollowUp (x : PtpMsg)
  /-- ANNOUNCE (R356): A PTP Announce is received and fed to the best master clock algorithm. -/
  | announce (x : PtpMsg)
  /-- SIGNALING (R356): A PTP Signaling message is discarded and counted. -/
  | signaling (x : PtpMsg)
  /-- MANAGEMENT (R356): A PTP Management message is placed in the warden's receive queue. -/
  | management (x : PtpMsg) (raw : List Byte) (full : Bool)
  /-- PTP_MESSAGE_TX (R354): An instance's message interval expires and it sends Sync, Announce, Delay_Req or Pdelay_Req. -/
  | ptpMessageTx (m : Nat) (n port : Fin 2) (kind : Nat)
  /-- ANNOUNCE_TIMEOUT (R358): No offset for ANN_TMO intervals puts the instance in HOLDOVER. -/
  | announceTimeout (m : Nat) (n port : Fin 2) (ann : Bool)
  /-- SEL (R359): A write of SERVO.CTRL.SEL switches the steering instance at its next measurement. -/
  | servoSel (path : Path) (m : Nat) (v : Word)
  /-- SYNC_REQ_SEND (R360): A child's exchange interval expires and it sends SYNC_REQ to its parent. -/
  | syncReqSend (b : Nat) (phi : Fin 2048)
  /-- SYNC_REQ (R360): A parent receives SYNC_REQ and replies with SYNC_RESP within 16 beats. -/
  | syncReq (b : Nat) (port : Fin 4) (phi : Fin 2048) (turn : Nat) (w : BitVec 64)
  /-- SYNC_RESP (R360): A child receives SYNC_RESP and computes link delay and offset for measuring or tracking. -/
  | syncResp (b : Nat) (port : Fin 4) (phi : Fin 2048) (w : BitVec 64)
  /-- START_SEND (R365): An ALIGNED parent sends START_HI and START_LO at beats with BEAT[11:0] = 0. -/
  | startSend (b : Nat)
  /-- START_HI (R365): A joining child receives START_HI with the parent's count and depth. -/
  | startHi (b : Nat) (port : Fin 4) (w : BitVec 64)
  /-- START_LO (R365): A joining child receives START_LO and schedules its counter load. -/
  | startLo (b : Nat) (port : Fin 4) (w : BitVec 64)
  /-- BEAT_COUNTER_LOAD (R366): The beat counter is loaded in one beat and the device enters ALIGNED. -/
  | beatCounterLoad (b : Nat)
  /-- PING (R367): A received PING is answered with a PONG carrying the one-way latency. -/
  | csyncPing (b : Nat) (dst : Fin 32) (w : BitVec 64)
  /-- PONG (R367): A received PONG sets PEER_LAT for that device. -/
  | csyncPong (b : Nat) (dst : Fin 32) (w : BitVec 64)
  /-- JOIN (R364): CSYNC.CMD JOIN starts the device's part of a cluster start. -/
  | csyncJoin (path : Path) (key : BitVec 16)
  /-- LEAVE (R367): CSYNC.CMD LEAVE returns the device to SOLO. -/
  | csyncLeave (path : Path) (key : BitVec 16)
  /-- REMEASURE (R367): CSYNC.CMD REMEASURE repeats the peer latency measurement. -/
  | csyncRemeasure (path : Path) (key : BitVec 16)
  /-- PARENT_LINK_LOSS (R362): Loss of the parent link puts an aligned child in HOLDOVER. -/
  | parentLinkLoss (b : Nat)
  /-- HOLD_MS (R362): HOLDOVER lasting HOLD_MS puts the device in ALIGN_LOST. -/
  | holdMs (b : Nat)
  /-- JOIN_MS (R365): A JOIN not ALIGNED within JOIN_MS enters FAILED with TIMEOUT. -/
  | joinMs (b : Nat)
  /-- ETH_FRAME_RX (R378): A received Ethernet frame goes to the 1588 engine, the warden's receive ring, or is discarded. -/
  | ethFrameRx (port : Fin 2) (kind : Nat) (bytes : List Byte) (full : Bool)
  /-- ETH_FRAME_TX (R378): The warden's transmit ring sends a frame on its port. -/
  | ethFrameTx (port : Fin 2) (bytes : List Byte)
  /-- NDEOR_FRAME (R381): A received Ndeor frame is CRC-checked and its flit delivered, routed or discarded. -/
  | ndeorFrame (b : Nat) (port lane : Fin 4) (crc : BitVec 15) (mode : Fin 4) (dst : Fin 32) (cls : Fin 4) (phi : Fin 2048) (turn : Nat) (w : BitVec 64)
  /-- TRAINING_STATE_DONE (R385): A port training state completes and the port moves to the next state. -/
  | trainingStateDone (b : Nat) (p : Fin 4) (vals : List Nat) (dev : Fin 32)
  /-- TRAINING_TIMEOUT (R385): A training state exceeds its limit and the port fails with a cause. -/
  | trainingTimeout (b : Nat) (p : Fin 4) (alt : Bool)
  /-- RETRAIN (R386): PORT_CTRL.RETRAIN restarts training at EQ. -/
  | portRetrain (path : Path) (p : Fin 4) (v : Word)
  /-- EIDLE (R389): A write of PORT_CTRL.EIDLE puts the port into or takes it out of electrical idle. -/
  | portEidle (path : Path) (p : Fin 4) (v : Word)
  /-- FAST_EXIT (R389): A flit to send on an idle port triggers a fast exit burst and resumes frames. -/
  | fastExit (b : Nat) (p : Fin 4)
  /-- SLIP (R387): NLANE.CTRL.SLIP moves the lane's frame boundary one UI later. -/
  | laneSlip (path : Path) (n : Fin 16) (v : Word)
  /-- RESUME (R387): NLANE.CTRL.RESUME continues training at DESKEW once all lanes have frame lock. -/
  | laneResume (path : Path) (n : Fin 16) (v : Word)
  /-- PRBS_CHK (R390): Setting PRBS_CHK starts the checker and clears the error count. -/
  | prbsChk (path : Path) (n : Fin 16) (v : Word)
  /-- PRBS_GEN (R390): Setting PRBS_GEN makes the lane transmit the selected PRBS pattern. -/
  | prbsGen (path : Path) (n : Fin 16) (v : Word)
  /-- INJ_FIRE (R390): INJ.FIRE inverts BURST bits of the next transmitted pattern or frame. -/
  | injFire (path : Path) (n : Fin 16) (v : Word)
  /-- MBOX_TX (R382): A write of MBOX_TX queues a bulk word for device MBOX_DST or is refused. -/
  | mboxTx (path : Path) (w : BitVec 64)
  /-- MBOX_RX_LO_READ (R396): A read of MBOX_RX_LO returns and removes the next received bulk word. -/
  | mboxRxLoRead (path : Path)
  /-- GDDR7_CRC_ERROR (R392): A GDDR7 data CRC error is retried once and a persistent error is handled per access kind. -/
  | gddr7CrcError (b : Nat) (c : Fin 8) (kind : CrcKind) (persist : Bool)
  /-- BAR2_READ (R480): A BAR2 read is mapped to the function's granules and decrypted, or returns 0 and is logged. -/
  | bar2Read (path : Path) (off n : Nat)
  /-- BAR2_WRITE (R476): A BAR2 write is encrypted under the granule owner's key, or dropped and logged. -/
  | bar2Write (path : Path) (off : Nat) (bytes : List Byte)
  /-- REG_READ (R394): SMBus REG_READ reads a BAR0 dword with warden identity. -/
  | smbusRegRead (a : BitVec 32)
  /-- REG_WRITE (R394): SMBus REG_WRITE writes a BAR0 dword with warden identity. -/
  | smbusRegWrite (a : BitVec 32) (v : Word)
  /-- WAKE (R394): SMBus WAKE is a wake trigger from DORMANT. -/
  | smbusWake
  /-- MODE (R394): SMBus MODE returns THERM_LOCK and the current mode. -/
  | smbusMode
  /-- JTAG_DEBUG (R395): A JTAG debug instruction accesses registers with warden identity while unlocked, or acts as BYPASS. -/
  | jtagDebug (a : BitVec 32) (v : Option Word)
  /-- FULL (R405): CALF.CMD FULL starts a full calibration of the frond. -/
  | calFull (path : Path) (f : Fin 32) (key : BitVec 16)
  /-- DACCAL (R405): CALF.CMD DACCAL starts the DAC self-calibration of the frond alone. -/
  | calDac (path : Path) (f : Fin 32) (key : BitVec 16)
  /-- DAC_CAL_DONE (R406): A DAC self-calibration ends and commits its trims through group 63 or reports failure. -/
  | dacCalDone (e : FrondEv) (pairs : List CalPair)
  /-- ESTIMATE_DONE (R407): A background estimate completes and pairs of estimates are accepted or rejected. -/
  | estimateDone (e : FrondEv) (ests : List CalEst) (weak : Bool)
  /-- QUIET_SLOT_DECISION (R411): At b − 32 the engine claims or skips a declared or found quiet slot. -/
  | quietSlotDecision (e : FrondEv) (found : Bool)
  /-- DUE (R413): A frond whose slice temperature drifts beyond DTEMP becomes DUE for calibration. -/
  | calDue (e : FrondEv)
  /-- OVERDUE (R413): A frond still DUE after DUE_TMO sets CAL.FLAGS.OVERDUE. -/
  | calOverdue (e : FrondEv)
  /-- GROUP63_ROUND (R414): With group 63 IDLE, the engine opens and arms it with the pending trims of the next owner. -/
  | group63Round (b : Nat)
  /-- TRIM_TAKE_EFFECT (R415): Committed CALF values take effect at the first quiet beat of the unit after A + 24. -/
  | trimTakeEffect (e : FrondEv) (u : Fin 12)
  /-- BURN (R402): FUSEBANK.CMD BURN burns the lowest unused field-bank generation. -/
  | fuseBurn (path : Path) (key : BitVec 16)
  /-- BURN_DONE (R402): A burn ends, the generation is read back and RESULT loaded. -/
  | fuseBurnDone (ok : Bool)
  /-- REVOKE (R403): FUSEBANK.CMD REVOKE burns a generation's revoke fuse. -/
  | fuseRevoke (path : Path) (key : BitVec 16) (g : Fin 8)
  /-- WINDOW_BECOMES_SET (R430): A window monitor's latch bit goes from 0 to 1 and the event is sent to its consumers. -/
  | windowBecomesSet (b h : Nat) (w : Fin 16) (levels : List (Option Nat)) (ph : Bool)
  /-- WINMON_ENABLE (R431): A window monitor's EN going to 1 initialises its comparators and filter to INIT_LEVEL. -/
  | winmonEnable (path : Path) (w : Fin 16) (v : Word)
  /-- WINMON_RESOLVE (R431): An UNRESOLVED window resolves and reports at most one edge. -/
  | winmonResolve (b h : Nat) (w : Fin 16) (levels : List (Option Nat)) (ph : Bool)
  /-- EXC (R435): A write that changes a thermometry channel's EXC restarts its filter and marks its result STALE. -/
  | thermoExc (path : Path) (h : Nat) (c : Fin 16) (v : Word)
  /-- THERMO_RESULT (R434): A thermometry result is published in RES_R and RES_T, with fault detection. -/
  | thermoResult (h : Nat) (c : Fin 16) (m : ThermoMeas)
  /-- CONVERSION (R440): A housekeeping ADC conversion ends and the sequence entry or injected conversion advances. -/
  | hkConversion (h : Nat) (x : Option Int)
  /-- INJ (R441): HKADC CMD.INJ requests an injected conversion. -/
  | hkInject (path : Path) (h : Nat) (key : BitVec 16)
  /-- HK_CAL_ADC (R444): HK.CAL_CMD bit ADC starts a housekeeping ADC calibration. -/
  | hkCalAdc (path : Path) (h : Nat) (key : BitVec 16)
  /-- HK_CAL_BIAS (R444): HK.CAL_CMD bit BIAS starts a DC bias calibration of cleared banks. -/
  | hkCalBias (path : Path) (h : Nat) (key : BitVec 16)
  /-- HK_CAL_THERMO (R444): HK.CAL_CMD bit THERMO starts a thermometry calibration. -/
  | hkCalThermo (path : Path) (h : Nat) (key : BitVec 16)
  /-- HK_CAL_DONE (R444): A housekeeping calibration ends and commits its trims through group 63. -/
  | hkCalDone (b h : Nat) (pairs : List CalPair)
  /-- PERIOD (R445): A general timer passes PERIOD and produces a period event. -/
  | timerPeriod (h : Nat) (n : Fin 4)
  /-- POWER_SAMPLE (R453): Every 10 µs each domain's power monitor is sampled and published. -/
  | powerSample (p : List (BitVec 16))
  /-- MODEL_STEP (R454): The thermal model steps and Tg is compared with the thresholds and bands. -/
  | modelStep (b : Nat) (nodes : List Int)
  /-- DIODE_READING (R456): A diode is read and judged against the model and its neighbours, possibly marked BROKEN. -/
  | diodeReading (b : Nat) (i : Fin 40) (t : BitVec 16)
  /-- READMIT (R456): DIODE.CMD READMIT returns a diode unjudged. -/
  | diodeReadmit (path : Path) (key : BitVec 16) (i : Fin 64)
  /-- COUNTER_SNAP (R467): CNT CMD.SNAP copies all 16 counters of the page at one beat. -/
  | counterSnap (path : Path) (b : Nat) (p : Fin 16) (key : BitVec 16)
  /-- PROVISION (R487): LC_CMD PROVISION burns the warden key and moves BLANK to PROVISIONED. -/
  | lcProvision (path : Path) (key : BitVec 16)
  /-- DEPLOY (R487): LC_CMD DEPLOY moves PROVISIONED to DEPLOYED and locks debug. -/
  | lcDeploy (path : Path) (key : BitVec 16)
  /-- RETURN (R487): LC_CMD RETURN destroys the device and warden keys and moves to RETURNED. -/
  | lcReturn (path : Path) (key : BitVec 16)
  /-- RAISE_FLOOR (R487): LC_CMD operation 4 raises ROLLBACK.FLOOR to the running image's VERSION. -/
  | lcRaiseFloor (path : Path) (key : BitVec 16)
  /-- DEBUG_UNLOCK (R489): DEBUG.CMD UNLOCK checks a signed token and sets UNLOCKED in DEPLOYED. -/
  | debugUnlock (path : Path) (key : BitVec 16)
  /-- DEBUG_LOCK (R488): DEBUG.CMD LOCK returns UNLOCKED to 0. -/
  | debugLock (path : Path) (key : BitVec 16)
  /-- TAMPER_ALARM (R475): A tamper alarm clears all key slots, sets TAMPER and enters HOLD. -/
  | tamperAlarm (b : Nat) (src : Fin 3)
  /-- FROND_SCRUB_END (R474): A frond's scrub ends and waiting validations may proceed. -/
  | frondScrubEnd (b : Nat) (f : Fin 32)
  /-- GRANULE_SCRUB_END (R477): A granule's scrub ends and it belongs to its new owner. -/
  | granuleScrubEnd (b : Nat) (k : Fin 128)
  /-- GET_VERSION (R486): SPDM GET_VERSION returns the supported version. -/
  | getVersion
  /-- GET_CAPABILITIES (R486): SPDM GET_CAPABILITIES returns the supported capabilities. -/
  | getCapabilities (ver : Nat)
  /-- NEGOTIATE_ALGORITHMS (R486): SPDM NEGOTIATE_ALGORITHMS selects the algorithms. -/
  | negotiateAlgorithms (ver asym hash dhe aead : Nat)
  /-- GET_DIGESTS (R486): SPDM GET_DIGESTS returns the certificate chain digest. -/
  | getDigests (ver : Nat)
  /-- GET_CERTIFICATE (R486): SPDM GET_CERTIFICATE returns the slot 0 certificate chain. -/
  | getCertificate (ver slot off len : Nat)
  /-- CHALLENGE (R486): SPDM CHALLENGE returns a response signed by the device key. -/
  | challenge (ver slot : Nat) (nonce : List Byte)
  /-- GET_MEASUREMENTS (R486): SPDM GET_MEASUREMENTS returns signed measurements. -/
  | getMeasurements (ver index : Nat) (sign : Bool) (nonce : List Byte)
  /-- KEY_EXCHANGE (R486): SPDM KEY_EXCHANGE starts a secured session. -/
  | keyExchange (ver slot sid : Nat) (pub : List Byte)
  /-- FINISH (R486): SPDM FINISH completes the session handshake. -/
  | finish (ver sid : Nat) (mac : List Byte)
  /-- HEARTBEAT (R486): SPDM HEARTBEAT keeps a session alive. -/
  | heartbeat (ver sid : Nat)
  /-- KEY_UPDATE (R486): SPDM KEY_UPDATE updates session keys. -/
  | keyUpdate (ver sid op : Nat)
  /-- END_SESSION (R486): SPDM END_SESSION ends a secured session. -/
  | endSession (ver sid : Nat)
  /-- UNCORRECTABLE_SRAM_ERROR (R51): An uncorrectable Thallus SRAM error is a fatal fault that enters HOLD with cause FAULT. -/
  | uncorrectableSramError (b : Nat)
  /-- MODE_TRANSITION_DONE (R50): A mode transition in progress (to SERVICE, DORMANT, READY from HOLD, RUN, or a warm reset) completes, MODE_STAT.CUR shows the new mode and BUSY clears. -/
  | modeTransitionDone (b : Nat)
  /-- PCIE_LINK_UP (R63): When PERST_N rises the PCIe link retrains, and once it is up with bus mastering enabled a stopped HOST context writes its OVERFLOW mark first. -/
  | pcieLinkUp (b width : Nat) (up : PcieUp)
  /-- LIFECYCLE_TRANSITION_DONE (R487): A lifecycle fuse burn ends and LC_STAT shows the new state within 200 ms, setting SEC.FLAGS.LC_CHG. -/
  | lifecycleTransitionDone
  /-- REVOKE_DONE (R403): A field-bank revoke-fuse burn ends and FUSEBANK.STAT.BUSY clears. -/
  | fuseRevokeDone
  /-- POLARITY_REVERSAL (R434): With REV = 1, a positive thermometry phase ends and the excitation reverses into the negative phase, without publishing a result. -/
  | polarityReversal (h : Nat) (c : Fin 16)
  /-- REFRESH_INTERVAL (R460): At each GDDR7 refresh interval the device reads each GDDR7 device's temperature sensor, sets the refresh multiplier band and runs WCK tracking. -/
  | refreshInterval (b : Nat) (temps : List (Option (BitVec 16)))
deriving DecidableEq, Repr

end Sys2Proof
end

