-- ==== Sys2Proof/Decode.lean ====
section
/-! DEFINITION. Decode: the commands that words spell. No row of the table gives bits, so no word spells a command. -/
namespace Sys2Proof

/-- The command a word spells by the table's bits: the table gives none, so there is none. -/
def decodeTableWord (_nbits _w : Nat) : Option Instr := none

end Sys2Proof
end

