-- ==== Sys2Proof/Config.lean ====
section
/-! DEFINITION. Config: what one device fixes and the spec gives no value for, and the free values. Every entry is
an opaque constant: nothing in Lean can evaluate it or prove a value of it, so a statement holds whatever it is. -/
namespace Sys2Proof

/-- A free value: the n-th value of a result the spec leaves open (log entry 5). -/
opaque Config.freeWord : Nat → BitVec 64

/-- Whether a quotient whose rounding the spec does not state is rounded up, by the place it is formed in and its exact numerator
(log entry 25). -/
opaque Config.roundUp : Nat → Int → Bool

/-- How many beats after the start of a beat a domain's first clock edge lies, by the domain's bound and the beat
(04_commit_groups.md R121; log entry 5). -/
opaque Config.clockEdge : Nat → Nat → Nat

/-- The fuse BOOT_AUTO (02_modes_power_boot.md Table 2.2): BOOT follows a power-on reset by itself. -/
opaque Config.bootAuto : Bool

/-- The baseline value of a calibration register at a BAR0 address (15_calibration.md R400), from factory trims
and field-bank fuses. -/
opaque Config.baseline : Nat → Word

/-- Coefficient n of filter bank k of the read-out decimator (08_readout_front_end.md R242, R248): a fixed ROM whose
values the spec does not list. -/
opaque Config.decimRom : Nat → Nat → BitVec 18

/-- SHA-384 over a byte string (18_tufts_and_security.md R483). -/
opaque Config.sha384 : List Byte → List Byte

/-- ECDSA P-384 verification: public key, digest, signature (18_tufts_and_security.md R483). -/
opaque Config.ecdsaOk : List Byte → List Byte → List Byte → Bool

/-- The device's clockIdentity and offsetScaledLogVariance (13_time_and_cluster.md R356), which no register holds. -/
opaque Config.clockIdentity : Nat
opaque Config.clockVariance : Nat

/-- The certificate chain of slot 0 (18_tufts_and_security.md Table 18.6). -/
opaque Config.certChain : List Byte

/-- The device key's signature over a transcript (R486). -/
opaque Config.deviceSign : List Byte → List Byte

/-- Measurement 5: the digest over each tuft's EN, FUNC, WARDEN_MEM, QUOTA, SQUOTA and PUBKEY, given as the registers that hold
them, in tuft order (Table 18.6). -/
opaque Config.tuftDigest : List Word → List Byte

/-- The verification data of an SPDM FINISH holds for a session (R486). -/
opaque Config.finishOk : Nat → List Byte → Bool

end Sys2Proof
end

