-- ==== Sys2Proof/Machine/Bits.lean ====
section
/-! DEFINITION. Bits: bit fields, sign extension, saturation and byte order, written once for every chapter.
A field is read and written arithmetically, so that a linear-arithmetic procedure sees through it. -/
namespace Sys2Proof.Machine

/-- The unsigned value of bits [hi:lo] of a natural number. -/
def nfld (w hi lo : Nat) : Nat := w / 2 ^ lo % 2 ^ (hi + 1 - lo)

/-- The unsigned value of bits [hi:lo] of a register (00_scope.md R5). -/
def fld (w : Word) (hi lo : Nat) : Nat := nfld w.toNat hi lo

/-- Bit i of a register. -/
def bit (w : Word) (i : Nat) : Bool := fld w i i == 1

/-- A number with bits [hi:lo] replaced by the low bits of v. -/
def nsetFld (w hi lo v : Nat) : Nat :=
  w / 2 ^ (hi + 1) * 2 ^ (hi + 1) + v % 2 ^ (hi + 1 - lo) * 2 ^ lo + w % 2 ^ lo

/-- A register with bits [hi:lo] replaced by the low bits of v. -/
def setFld (w : Word) (hi lo v : Nat) : Word := BitVec.ofNat 32 (nsetFld w.toNat hi lo v)

/-- A register with bit i set to b. -/
def setBit (w : Word) (i : Nat) (b : Bool) : Word := setFld w i i (if b then 1 else 0)

/-- The two's complement value of the low n bits of a number (00_scope.md R4). -/
def sgn (v n : Nat) : Int :=
  let u := v % 2 ^ n
  if u < 2 ^ (n - 1) then (u : Int) else (u : Int) - 2 ^ n

/-- The n-bit two's complement encoding of an integer. -/
def enc (v : Int) (n : Nat) : Nat := (v % (2 ^ n : Int)).toNat

/-- An integer limited to [lo, hi]. -/
def clampI (lo hi v : Int) : Int := if v < lo then lo else if hi < v then hi else v

/-- An integer limited to the n-bit two's complement range. -/
def satI (n : Nat) (v : Int) : Int := clampI (-(2 ^ (n - 1) : Int)) (2 ^ (n - 1) - 1) v

/-- Arithmetic shift right by n with rounding to nearest, a half rounding towards plus infinity. -/
def roundShift (v : Int) (n : Nat) : Int := if n = 0 then v else (v + 2 ^ (n - 1)) / 2 ^ n

/-- A 32-bit counter that saturates (03_register_pages.md R85, R88). -/
def satInc (w : Word) (k : Nat) : Word := BitVec.ofNat 32 (min 0xFFFFFFFF (w.toNat + k))

/-- A word of n low ones. -/
def ones (n : Nat) : Nat := 2 ^ n - 1

/-- The little-endian number a byte list spells. -/
def leNat : List Byte → Nat
  | [] => 0
  | b :: t => b.toNat + 256 * leNat t

/-- The n little-endian bytes of a number. -/
def leBytes : Nat → Nat → List Byte
  | 0, _ => []
  | n + 1, v => BitVec.ofNat 8 v :: leBytes n (v / 256)

/-- Number of set bits among the low n bits. -/
def popCount : Nat → Nat → Nat
  | 0, _ => 0
  | n + 1, v => v % 2 + popCount n (v / 2)

/-- The indices, below n, of the set bits of a mask, in rising order. -/
def maskList (n m : Nat) : List Nat := (List.range n).filter (fun i => m / 2 ^ i % 2 == 1)

/-- Whether bit i of a mask is set. -/
def tst (m i : Nat) : Bool := m / 2 ^ i % 2 == 1

/-- A mask with bit i set. -/
def mset (m i : Nat) : Nat := nsetFld m i i 1

/-- A mask with bit i cleared. -/
def mclr (m i : Nat) : Nat := nsetFld m i i 0

/-- Exclusive or of bit i of a mask with b. -/
def mxor (m i : Nat) (b : Bool) : Nat := nsetFld m i i (if tst m i != b then 1 else 0)

end Sys2Proof.Machine
end

