-- ==== Sys2Proof/Machine/RegMap.lean ====
section
/-! DEFINITION. RegMap: the map of BAR0 (03_register_pages.md R79, Tables 3.2 to 3.4) and every register of
every page: the common header (Tables 3.5 to 3.16) and the block registers of each chapter, with the bits of each
access type (00_scope.md Table 0.4) and the reset value. A field whose reset the spec gives as per fuses, per
image, per PHY, baseline, per boot or random resets to 0 here (DESIGN CHOICE, log entry 3, unsafe). -/
namespace Sys2Proof.Machine

/-- The page kinds of Tables 3.3 and 3.4 (R79). -/
inductive PageKind where
  | mode | boot | power | regbus | timeline | sec | violog | tuft | commit | cgrp
  | clock | ptp | servo | csync | hypha | hcell | hchan | qmgr | queue | trig
  | acq | resv | sorus | slot | pcie | eth | ndeor | nlane | flash | smbus
  | debug | memctl | memch | granule | cal | fusebank | calf | calhk | therm | diode
  | cnt | hk | bias | thermo | winmon | hkadc | timer | crozier | waveform | xy
  | probe | readout | kernel | flux
deriving DecidableEq, Repr

/-- One page: its kind, its array index (the frond, for pages of a frond window), and the channel of the XY and
FLUX pages of a frond. -/
structure Pg where
  kind : PageKind
  i : Nat := 0
  n : Nat := 0
deriving DecidableEq, Repr

/-- One row of Table 3.3: kind, address of the first page, number of pages, TYPE, and the power domain of the unit
(02_modes_power_boot.md Table 2.3; the spec names no unit for a page: DEDUCED, log entry 6). -/
structure DevPages where
  kind : PageKind
  base : Nat
  count : Nat
  type : Nat
  domain : Nat
deriving DecidableEq, Repr

/-- The pages outside the frond windows (Table 3.3, R79). -/
def devPages : List DevPages := [
  ⟨.mode, 0x000000, 1, 0x01, 0⟩,
  ⟨.boot, 0x001000, 1, 0x02, 0⟩,
  ⟨.power, 0x002000, 1, 0x03, 0⟩,
  ⟨.regbus, 0x003000, 1, 0x04, 1⟩,
  ⟨.timeline, 0x004000, 1, 0x05, 1⟩,
  ⟨.sec, 0x100000, 1, 0x10, 1⟩,
  ⟨.violog, 0x101000, 1, 0x11, 1⟩,
  ⟨.tuft, 0x102000, 16, 0x12, 1⟩,
  ⟨.commit, 0x200000, 1, 0x20, 1⟩,
  ⟨.cgrp, 0x201000, 64, 0x21, 1⟩,
  ⟨.clock, 0x300000, 1, 0x30, 1⟩,
  ⟨.ptp, 0x301000, 2, 0x31, 1⟩,
  ⟨.servo, 0x303000, 1, 0x32, 1⟩,
  ⟨.csync, 0x304000, 1, 0x33, 1⟩,
  ⟨.hypha, 0x400000, 1, 0x40, 1⟩,
  ⟨.hcell, 0x401000, 16, 0x41, 1⟩,
  ⟨.hchan, 0x411000, 16, 0x42, 1⟩,
  ⟨.qmgr, 0x500000, 1, 0x50, 1⟩,
  ⟨.queue, 0x501000, 64, 0x51, 1⟩,
  ⟨.trig, 0x600000, 1, 0x60, 1⟩,
  ⟨.acq, 0x601000, 16, 0x61, 1⟩,
  ⟨.resv, 0x611000, 1, 0x62, 1⟩,
  ⟨.sorus, 0x700000, 1, 0x70, 1⟩,
  ⟨.slot, 0x701000, 64, 0x72, 1⟩,
  ⟨.pcie, 0x800000, 1, 0x80, 3⟩,
  ⟨.eth, 0x801000, 2, 0x81, 4⟩,
  ⟨.ndeor, 0x803000, 1, 0x82, 5⟩,
  ⟨.nlane, 0x804000, 16, 0x83, 5⟩,
  ⟨.flash, 0x814000, 1, 0x84, 1⟩,
  ⟨.smbus, 0x815000, 1, 0x85, 1⟩,
  ⟨.debug, 0x816000, 1, 0x86, 1⟩,
  ⟨.memctl, 0x900000, 1, 0x90, 6⟩,
  ⟨.memch, 0x901000, 8, 0x91, 6⟩,
  ⟨.granule, 0x909000, 1, 0x92, 1⟩,
  ⟨.cal, 0xA00000, 1, 0xA0, 1⟩,
  ⟨.fusebank, 0xA01000, 1, 0xA1, 1⟩,
  ⟨.calf, 0xA02000, 32, 0xA2, 1⟩,
  ⟨.calhk, 0xA22000, 1, 0xA3, 1⟩,
  ⟨.therm, 0xB00000, 1, 0xB0, 1⟩,
  ⟨.diode, 0xB01000, 1, 0xB1, 1⟩,
  ⟨.cnt, 0xB02000, 16, 0xB2, 1⟩,
  ⟨.hk, 0xC00000, 1, 0xC0, 7⟩,
  ⟨.bias, 0xC01000, 32, 0xC1, 7⟩,
  ⟨.thermo, 0xC21000, 1, 0xC2, 7⟩,
  ⟨.winmon, 0xC22000, 1, 0xC3, 7⟩,
  ⟨.hkadc, 0xC23000, 1, 0xC4, 7⟩,
  ⟨.timer, 0xC24000, 1, 0xC5, 7⟩ ]

/-- Where the pages of a kind start, and the distance between two of them; TYPE (Tables 3.3, 3.4). -/
def PageKind.place : PageKind → Nat × Nat × Nat
  | .mode => (0x000000, 0x1000, 0x01)
  | .boot => (0x001000, 0x1000, 0x02)
  | .power => (0x002000, 0x1000, 0x03)
  | .regbus => (0x003000, 0x1000, 0x04)
  | .timeline => (0x004000, 0x1000, 0x05)
  | .sec => (0x100000, 0x1000, 0x10)
  | .violog => (0x101000, 0x1000, 0x11)
  | .tuft => (0x102000, 0x1000, 0x12)
  | .commit => (0x200000, 0x1000, 0x20)
  | .cgrp => (0x201000, 0x1000, 0x21)
  | .clock => (0x300000, 0x1000, 0x30)
  | .ptp => (0x301000, 0x1000, 0x31)
  | .servo => (0x303000, 0x1000, 0x32)
  | .csync => (0x304000, 0x1000, 0x33)
  | .hypha => (0x400000, 0x1000, 0x40)
  | .hcell => (0x401000, 0x1000, 0x41)
  | .hchan => (0x411000, 0x1000, 0x42)
  | .qmgr => (0x500000, 0x1000, 0x50)
  | .queue => (0x501000, 0x1000, 0x51)
  | .trig => (0x600000, 0x1000, 0x60)
  | .acq => (0x601000, 0x1000, 0x61)
  | .resv => (0x611000, 0x1000, 0x62)
  | .sorus => (0x700000, 0x1000, 0x70)
  | .slot => (0x701000, 0x1000, 0x72)
  | .pcie => (0x800000, 0x1000, 0x80)
  | .eth => (0x801000, 0x1000, 0x81)
  | .ndeor => (0x803000, 0x1000, 0x82)
  | .nlane => (0x804000, 0x1000, 0x83)
  | .flash => (0x814000, 0x1000, 0x84)
  | .smbus => (0x815000, 0x1000, 0x85)
  | .debug => (0x816000, 0x1000, 0x86)
  | .memctl => (0x900000, 0x1000, 0x90)
  | .memch => (0x901000, 0x1000, 0x91)
  | .granule => (0x909000, 0x1000, 0x92)
  | .cal => (0xA00000, 0x1000, 0xA0)
  | .fusebank => (0xA01000, 0x1000, 0xA1)
  | .calf => (0xA02000, 0x1000, 0xA2)
  | .calhk => (0xA22000, 0x1000, 0xA3)
  | .therm => (0xB00000, 0x1000, 0xB0)
  | .diode => (0xB01000, 0x1000, 0xB1)
  | .cnt => (0xB02000, 0x1000, 0xB2)
  | .hk => (0xC00000, 0x1000, 0xC0)
  | .bias => (0xC01000, 0x1000, 0xC1)
  | .thermo => (0xC21000, 0x1000, 0xC2)
  | .winmon => (0xC22000, 0x1000, 0xC3)
  | .hkadc => (0xC23000, 0x1000, 0xC4)
  | .timer => (0xC24000, 0x1000, 0xC5)
  | .crozier => (0x1000000, 0x40000, 0xE0)
  | .waveform => (0x1001000, 0x40000, 0xE1)
  | .xy => (0x1002000, 0x40000, 0xE2)
  | .probe => (0x1004000, 0x40000, 0xE3)
  | .readout => (0x1005000, 0x40000, 0xE4)
  | .kernel => (0x1006000, 0x40000, 0xE5)
  | .flux => (0x1007000, 0x40000, 0xE6)

/-- Owner kinds of the Owner column (R79): Fixed, Assignable, or following the CROZIER page of a frond. -/
inductive OwnKind where
  | fixed | assignable | follows
deriving DecidableEq, Repr

/-- The Owner column of Tables 3.3 and 3.4; CGRP[63] is fixed. -/
def Pg.ownKind (p : Pg) : OwnKind :=
  match p.kind with
  | .mode => .fixed
  | .boot => .fixed
  | .power => .fixed
  | .regbus => .fixed
  | .timeline => .fixed
  | .sec => .fixed
  | .violog => .fixed
  | .tuft => .fixed
  | .commit => .fixed
  | .cgrp => if p.i = 63 then .fixed else .assignable
  | .clock => .fixed
  | .ptp => .fixed
  | .servo => .fixed
  | .csync => .fixed
  | .hypha => .fixed
  | .hcell => .assignable
  | .hchan => .assignable
  | .qmgr => .fixed
  | .queue => .assignable
  | .trig => .fixed
  | .acq => .assignable
  | .resv => .fixed
  | .sorus => .fixed
  | .slot => .assignable
  | .pcie => .fixed
  | .eth => .fixed
  | .ndeor => .fixed
  | .nlane => .fixed
  | .flash => .fixed
  | .smbus => .fixed
  | .debug => .fixed
  | .memctl => .fixed
  | .memch => .fixed
  | .granule => .fixed
  | .cal => .fixed
  | .fusebank => .fixed
  | .calf => .follows
  | .calhk => .fixed
  | .therm => .fixed
  | .diode => .fixed
  | .cnt => .assignable
  | .hk => .fixed
  | .bias => .follows
  | .thermo => .fixed
  | .winmon => .fixed
  | .hkadc => .fixed
  | .timer => .fixed
  | .crozier => .assignable
  | .waveform => .follows
  | .xy => .follows
  | .probe => .follows
  | .readout => .follows
  | .kernel => .follows
  | .flux => .follows

/-- The address of a page in BAR0. -/
def Pg.base (p : Pg) : Nat := p.kind.place.1 + p.i * p.kind.place.2.1 + p.n * 0x1000

/-- The address of the register at an offset of a page. -/
def Pg.reg (p : Pg) (off : Nat) : Nat := p.base + off

/-- Whether the page lies in a frond window (Table 3.4). -/
def PageKind.inFrond : PageKind → Bool
  | .crozier | .waveform | .xy | .probe | .readout | .kernel | .flux => true
  | _ => false

/-- The page whose number (address / 4096) falls into one of the listed arrays. -/
def findDev : List DevPages → Nat → Option Pg
  | [], _ => none
  | r :: t, pn =>
    if r.base / 0x1000 ≤ pn ∧ pn < r.base / 0x1000 + r.count then some { kind := r.kind, i := pn - r.base / 0x1000 }
    else findDev t pn

/-- The page of a frond window by its page index (Table 3.4). -/
def frondPage (f w : Nat) : Option Pg :=
  match w with
  | 0 => some { kind := .crozier, i := f }
  | 1 => some { kind := .waveform, i := f }
  | 2 => some { kind := .xy, i := f, n := 0 }
  | 3 => some { kind := .xy, i := f, n := 1 }
  | 4 => some { kind := .probe, i := f }
  | 5 => some { kind := .readout, i := f }
  | 6 => some { kind := .kernel, i := f }
  | _ => if w < 15 then some { kind := .flux, i := f, n := w - 7 } else none

/-- The page a BAR0 byte address lies in, or none where no page is (R79). -/
def pageOf (a : Nat) : Option Pg :=
  let pn := a / 0x1000
  if pn < 0x1000 then findDev devPages pn
  else
    let f := (pn - 0x1000) / 64
    if f < 32 then frondPage f ((pn - 0x1000) % 64) else none

/-- A block register, or an array of them: n registers st apart, repeated n2 times st2 apart. The masks give the
bits of each access type; every other bit is read-only or reserved. pair is 1 for the LO and 2 for the HI word of a
64-bit pair (R95). -/
structure RegRow where
  name : String
  off : Nat
  n : Nat := 1
  st : Nat := 4
  n2 : Nat := 1
  st2 : Nat := 0
  rst : Nat := 0
  rw : Nat := 0
  rwc : Nat := 0
  w1c : Nat := 0
  w1s : Nat := 0
  wo : Nat := 0
  pair : Nat := 0
deriving DecidableEq, Repr

/-- Block registers of the MODE page (02_modes_power_boot.md; tables 2.10, 2.11, 2.12, 2.13, 2.9). -/
def rowsMode : List RegRow := [
  { name := "MODE_STAT", off := 0x100 },
  { name := "MODE_REQ", off := 0x104, wo := 0xFFFF0007 },
  { name := "HOLD_CAUSE", off := 0x108, w1c := 0x7F },
  { name := "STOP_TIMEOUT", off := 0x10C, rst := 0x2710, rw := 0xFFFFFF },
  { name := "MODE_RESET", off := 0x110, wo := 0xFFFF0001 } ]

/-- Block registers of the BOOT page (02_modes_power_boot.md; tables 2.14, 2.15, 2.16, 2.17, 2.18, 2.19). -/
def rowsBoot : List RegRow := [
  { name := "BOOT_STATUS", off := 0x100 },
  { name := "LOG_SEL", off := 0x108, rw := 0x3F },
  { name := "LOG_DATA[n]", off := 0x10C, n := 4, st := 0x4 },
  { name := "FAIL_CNT", off := 0x11C },
  { name := "LOG_CTRL", off := 0x120, wo := 0x3 },
  { name := "BOOT_TIME", off := 0x124 } ]

/-- Block registers of the POWER page (02_modes_power_boot.md; tables 2.20, 2.21, 2.22). -/
def rowsPower : List RegRow := [
  { name := "DOM_STAT", off := 0x100 },
  { name := "DOM_GATE", off := 0x104, rw := 0x3FFFC00 },
  { name := "DOM_FAULT", off := 0x108, w1c := 0x3FFFFFF } ]

/-- Block registers of the REGBUS page (03_register_pages.md; tables 3.19, 3.20). -/
def rowsRegbus : List RegRow := [
  { name := "UNMAPPED_CNT", off := 0x100 },
  { name := "UNMAPPED_ADDR", off := 0x104 } ]

/-- Block registers of the TIMELINE page (01_architecture.md; tables 1.10, 1.11, 1.12, 1.13, 1.14). -/
def rowsTimeline : List RegRow := [
  { name := "BEAT_LO", off := 0x100, pair := 1 },
  { name := "BEAT_HI", off := 0x104, pair := 2 },
  { name := "CLK_STAT", off := 0x108 },
  { name := "ABORT_STAT", off := 0x10C, w1c := 0x7 },
  { name := "DBUS_PERR", off := 0x110 } ]

/-- Block registers of the SEC page (18_tufts_and_security.md; tables 18.10). -/
def rowsSec : List RegRow := [
  { name := "LC_STAT", off := 0x100 },
  { name := "LC_CMD", off := 0x104, wo := 0xFFFF0007 },
  { name := "KEYADDR_LO", off := 0x108, rw := 0xFFFFFFFF, pair := 1 },
  { name := "KEYADDR_HI", off := 0x10C, rw := 0xFFFFFFFF, pair := 2 },
  { name := "ROLLBACK", off := 0x110 },
  { name := "KEY_STAT", off := 0x114 },
  { name := "TAMPER_SRC", off := 0x118 },
  { name := "SCRUB", off := 0x11C },
  { name := "WLOG[j]", off := 0x140, n := 12, st := 0x4 } ]

/-- Block registers of the VIOLOG page (18_tufts_and_security.md; tables 18.12). -/
def rowsViolog : List RegRow := [
  { name := "HEAD", off := 0x100 },
  { name := "SEL", off := 0x104, rw := 0xFF },
  { name := "DATA[k]", off := 0x108, n := 4, st := 0x4 },
  { name := "TOTAL", off := 0x118 },
  { name := "NONE_CNT", off := 0x11C },
  { name := "TUFT_CNT[t]", off := 0x140, n := 16, st := 0x4 } ]

/-- Block registers of the TUFT page (18_tufts_and_security.md; tables 18.11). -/
def rowsTuft : List RegRow := [
  { name := "CFG", off := 0x100, rwc := 0xC000001F },
  { name := "QUOTA", off := 0x104, rwc := 0x3FF0000 },
  { name := "SQUOTA", off := 0x108, rwc := 0xFFFFFFFF },
  { name := "STAT", off := 0x10C },
  { name := "FRONDS", off := 0x110 },
  { name := "PUBKEY[j]", off := 0x140, n := 24, st := 0x4, rwc := 0xFFFFFFFF },
  { name := "MLOG[j]", off := 0x1A0, n := 12, st := 0x4 } ]

/-- Block registers of the COMMIT page (04_commit_groups.md; tables 4.8, 4.9). -/
def rowsCommit : List RegRow := [
  { name := "OPEN_LO", off := 0x100, pair := 1 },
  { name := "OPEN_HI", off := 0x104, pair := 2 },
  { name := "ARMED_LO", off := 0x108, pair := 1 },
  { name := "ARMED_HI", off := 0x10C, pair := 2 },
  { name := "POOL", off := 0x110 } ]

/-- Block registers of the CGRP page (04_commit_groups.md; tables 4.11, 4.12, 4.13, 4.14, 4.15, 4.16, 4.17, 4.18, 4.19). -/
def rowsCgrp : List RegRow := [
  { name := "CMD", off := 0x100, wo := 0xFFFF0003 },
  { name := "STATE", off := 0x104 },
  { name := "POINT", off := 0x108, rw := 0x1F1F03 },
  { name := "TIME_LO", off := 0x10C, rw := 0xFFFFFFFF, pair := 1 },
  { name := "TIME_HI", off := 0x110, rw := 0xFFFFFFFF, pair := 2 },
  { name := "DEADLINE_LO", off := 0x114, rw := 0xFFFFFFFF, pair := 1 },
  { name := "DEADLINE_HI", off := 0x118, rw := 0xFFFFFFFF, pair := 2 },
  { name := "CLUSTER", off := 0x11C, rw := 0x1FFFFF },
  { name := "PMASK", off := 0x120, rw := 0xFFFFFFFF },
  { name := "LEAD", off := 0x124, rst := 0x1000, rw := 0xFFFF },
  { name := "RESULT", off := 0x128 },
  { name := "APPLY_LO", off := 0x12C, pair := 1 },
  { name := "APPLY_HI", off := 0x130, pair := 2 },
  { name := "PAGES", off := 0x134 } ]

/-- Block registers of the CLOCK page (13_time_and_cluster.md; tables 13.4, 13.5). -/
def rowsClock : List RegRow := [
  { name := "CMD", off := 0x100, wo := 0xFFFF0007 },
  { name := "SNAP_S_LO", off := 0x104, pair := 1 },
  { name := "SNAP_S_HI", off := 0x108, pair := 2 },
  { name := "SNAP_NS", off := 0x10C },
  { name := "SNAP_FRAC", off := 0x110 },
  { name := "SET_S_LO", off := 0x114, rw := 0xFFFFFFFF, pair := 1 },
  { name := "SET_S_HI", off := 0x118, rw := 0xFFFF, pair := 2 },
  { name := "SET_NS", off := 0x11C, rw := 0xFFFFFFFF },
  { name := "ADJ_NS", off := 0x120, rw := 0xFFFFFFFF },
  { name := "INCR_NOM_LO", off := 0x124, rst := 0x8F5C28F6, rw := 0xFFFFFFFF, pair := 1 },
  { name := "INCR_NOM_HI", off := 0x128, rst := 0x2, rw := 0xFFFFFFFF, pair := 2 },
  { name := "INCR_LO", off := 0x12C, rst := 0x8F5C28F6, pair := 1 },
  { name := "INCR_HI", off := 0x130, rst := 0x2, pair := 2 },
  { name := "PHY_RX_LAT[p]", off := 0x134, n := 2, st := 0x4, rw := 0xFFFFFFFF },
  { name := "PHY_TX_LAT[p]", off := 0x13C, n := 2, st := 0x4, rw := 0xFFFFFFFF },
  { name := "ALM_S_LO[n]", off := 0x150, n := 2, st := 0x10, rw := 0xFFFFFFFF, pair := 1 },
  { name := "ALM_S_HI[n]", off := 0x154, n := 2, st := 0x10, rw := 0x8000FFFF, pair := 2 },
  { name := "ALM_NS[n]", off := 0x158, n := 2, st := 0x10, rw := 0xFFFFFFFF },
  { name := "MAP_BEAT_LO", off := 0x170, pair := 1 },
  { name := "MAP_BEAT_HI", off := 0x174, pair := 2 },
  { name := "MAP_S_LO", off := 0x178, pair := 1 },
  { name := "MAP_S_HI", off := 0x17C, pair := 2 },
  { name := "MAP_NS", off := 0x180 },
  { name := "MAP_FRAC", off := 0x184 } ]

/-- Block registers of the PTP page (13_time_and_cluster.md; tables 13.6). -/
def rowsPtp : List RegRow := [
  { name := "CFG0", off := 0x100, rst := 0x2010000, rw := 0xBF8300FF },
  { name := "CFG1", off := 0x104, rst := 0x8080F8FE, rw := 0xFFFFFFFF },
  { name := "CFG2", off := 0x108, rst := 0x10003, rw := 0xFFFFFFFF },
  { name := "OFFSET_LO", off := 0x10C, pair := 1 },
  { name := "OFFSET_HI", off := 0x110, pair := 2 },
  { name := "DELAY_LO", off := 0x114, pair := 1 },
  { name := "DELAY_HI", off := 0x118, pair := 2 },
  { name := "PARENT_LO", off := 0x11C, pair := 1 },
  { name := "PARENT_HI", off := 0x120, pair := 2 } ]

/-- Block registers of the SERVO page (13_time_and_cluster.md; tables 13.7). -/
def rowsServo : List RegRow := [
  { name := "CTRL", off := 0x100, rst := 0x100, rw := 0x111 },
  { name := "KP", off := 0x104, rst := 0x700000, rw := 0xFFFFFFFF },
  { name := "KI", off := 0x108, rst := 0xE0000, rw := 0xFFFFFFFF },
  { name := "STEP_THR", off := 0x10C, rst := 0x3E8, rw := 0xFFFFFFFF },
  { name := "MAX_ADJ", off := 0x110, rst := 0x218DEF, rw := 0xFFFFFFFF },
  { name := "LOCK_THR", off := 0x114, rst := 0x32, rw := 0xFFFFFFFF },
  { name := "ADJ", off := 0x118 },
  { name := "ACC_LO", off := 0x11C, pair := 1 },
  { name := "ACC_HI", off := 0x120, pair := 2 } ]

/-- Block registers of the CSYNC page (13_time_and_cluster.md; tables 13.8). -/
def rowsCsync : List RegRow := [
  { name := "CFG", off := 0x100, rst := 0x70000, rw := 0x1F070100 },
  { name := "MEMBERS", off := 0x104, rw := 0xFFFFFFFF },
  { name := "CMD", off := 0x108, wo := 0xFFFF0007 },
  { name := "STAT", off := 0x10C },
  { name := "TRACK", off := 0x110 },
  { name := "LINK_DELAY[p]", off := 0x114, n := 4, st := 0x4 },
  { name := "ASYM[p]", off := 0x124, n := 4, st := 0x4, rw := 0xFFFF },
  { name := "TMO", off := 0x134, rst := 0x3E80064, rw := 0xFFFFFFFF },
  { name := "PEER_LAT[k]", off := 0x140, n := 8, st := 0x4, rst := 0xFFFFFFFF } ]

/-- Block registers of the HYPHA page (12_hypha_events.md; tables 12.6). -/
def rowsHypha : List RegRow := [
  { name := "LOOP_CH", off := 0x100 } ]

/-- Block registers of the HCELL page (12_hypha_events.md; tables 12.10). -/
def rowsHcell : List RegRow := [
  { name := "CELL.IN01", off := 0x200, n2 := 16, st2 := 0x10, rwc := 0x7FF07FF },
  { name := "CELL.IN23", off := 0x204, n2 := 16, st2 := 0x10, rwc := 0x7FF07FF },
  { name := "CELL.CFG", off := 0x208, n2 := 16, st2 := 0x10, rst := 0x200, rwc := 0xFFFFFF11 },
  { name := "CELL.STAT", off := 0x20C, n2 := 16, st2 := 0x10 } ]

/-- Block registers of the HCHAN page (12_hypha_events.md; tables 12.7, 12.8, 12.9). -/
def rowsHchan : List RegRow := [
  { name := "WATCH[j]", off := 0x100, n := 2, st := 0x4, w1c := 0xFFFFFFFF },
  { name := "WATCH_EN[j]", off := 0x108, n := 2, st := 0x4, rw := 0xFFFFFFFF },
  { name := "SWPULSE[j]", off := 0x110, n := 2, st := 0x4, wo := 0xFFFFFFFF },
  { name := "CFG[i]", off := 0x200, n := 64, st := 0x4, rwc := 0x303FF },
  { name := "CHSTAT[i]", off := 0x300, n := 64, st := 0x4 },
  { name := "FORK[x]", off := 0x400, n := 256, st := 0x4, rwc := 0x803F1F07, w1c := 0x40000000 } ]

/-- Block registers of the QMGR page (11_acquisition_queues.md; tables R325). -/
def rowsQmgr : List RegRow := [
  { name := "NONEMPTY_LO", off := 0x100, pair := 1 },
  { name := "NONEMPTY_HI", off := 0x104, pair := 2 } ]

/-- Block registers of the QUEUE page (11_acquisition_queues.md; tables 11.10). -/
def rowsQueue : List RegRow := [
  { name := "HEAD", off := 0x100 },
  { name := "DATA_LO", off := 0x104, pair := 1 },
  { name := "DATA_HI", off := 0x108, pair := 2 },
  { name := "CMD", off := 0x10C, wo := 0xFFFF001F },
  { name := "CFG", off := 0x110, rst := 0x100000, rwc := 0x1F017F },
  { name := "TMO", off := 0x114, rw := 0xFFFF },
  { name := "FILL", off := 0x118 },
  { name := "UNREAD", off := 0x11C },
  { name := "MARK_STAT", off := 0x120 },
  { name := "DBASE_LO", off := 0x124, rwc := 0xFFFFFFFF, pair := 1 },
  { name := "DBASE_HI", off := 0x128, rwc := 0xFFFFFFFF, pair := 2 },
  { name := "DCFG", off := 0x12C, rwc := 0xF000000 },
  { name := "DWB_LO", off := 0x130, rwc := 0xFFFFFFFF, pair := 1 },
  { name := "DWB_HI", off := 0x134, rwc := 0xFFFFFFFF, pair := 2 },
  { name := "DWR", off := 0x138 },
  { name := "DRD", off := 0x13C, rw := 0xFFFFFFFF } ]

/-- Block registers of the TRIG page (11_acquisition_queues.md; tables 11.6). -/
def rowsTrig : List RegRow := [
  { name := "PIN_CFG[i]", off := 0x100, n := 4, st := 0x4, rw := 0xFFFF010F },
  { name := "WM_GRANT[w]", off := 0x110, n := 16, st := 0x4, rw := 0xFFFF } ]

/-- Block registers of the ACQ page (11_acquisition_queues.md; tables 11.7, 11.8). -/
def rowsAcq : List RegRow := [
  { name := "STAT", off := 0x100 },
  { name := "CTL", off := 0x104, rwc := 0x1317 },
  { name := "FRONDS", off := 0x108, rwc := 0xFFFFFFFF },
  { name := "TONES", off := 0x10C, rwc := 0xFFFF },
  { name := "SRC", off := 0x110, rwc := 0xFFE003FF },
  { name := "HCHAN", off := 0x114, rwc := 0x3FF },
  { name := "WIN", off := 0x118, rst := 0x400000, rwc := 0xFFFFF1FF },
  { name := "HOLDOFF", off := 0x11C, rwc := 0xFFFFFF },
  { name := "AUTO", off := 0x120, rwc := 0xFFFFFF },
  { name := "TMATCH_LO", off := 0x124, rwc := 0xFFFFFFFF, pair := 1 },
  { name := "TMATCH_HI", off := 0x128, rwc := 0xFFFFFFFF, pair := 2 },
  { name := "SWTRIG", off := 0x12C, wo := 0x1 },
  { name := "CAP_BASE_LO", off := 0x130, rwc := 0xFFFFFFFF, pair := 1 },
  { name := "CAP_BASE_HI", off := 0x134, rwc := 0xFFFFFFFF, pair := 2 },
  { name := "CAP_CFG", off := 0x138, rwc := 0xF7F0000 },
  { name := "CAP_WR", off := 0x13C },
  { name := "HOST_BASE_LO", off := 0x140, rwc := 0xFFFFFFFF, pair := 1 },
  { name := "HOST_BASE_HI", off := 0x144, rwc := 0xFFFFFFFF, pair := 2 },
  { name := "HOST_CFG", off := 0x148, rwc := 0xF7F0000 },
  { name := "HOST_WB_LO", off := 0x14C, rwc := 0xFFFFFFFF, pair := 1 },
  { name := "HOST_WB_HI", off := 0x150, rwc := 0xFFFFFFFF, pair := 2 },
  { name := "HOST_WR", off := 0x154 },
  { name := "HOST_RD", off := 0x158, rw := 0xFFFFFFFF },
  { name := "TRIG_COUNT", off := 0x15C },
  { name := "LAST_T_LO", off := 0x160, pair := 1 },
  { name := "LAST_T_HI", off := 0x164, pair := 2 },
  { name := "LAST_SRC", off := 0x168 } ]

/-- Block registers of the RESV page (11_acquisition_queues.md; tables 11.9). -/
def rowsResv : List RegRow := [
  { name := "HOSTDMA[t]", off := 0x100, n := 16, st := 0x4, rwc := 0x7F },
  { name := "HOSTDMA_W", off := 0x140, rst := 0x4, rwc := 0x7F },
  { name := "TOTAL", off := 0x144, rst := 0x4 },
  { name := "SLICE_BW[s]", off := 0x148, n := 4, st := 0x4 },
  { name := "TUFT_BW[t]", off := 0x160, n := 16, st := 0x4 } ]

/-- Block registers of the SORUS page (10_sorus_feedback.md; tables 10.12, 10.13). -/
def rowsSorus : List RegRow := [
  { name := "MM_INFO", off := 0x100 },
  { name := "LUT_OWNER[b]", off := 0x104, n := 16, st := 0x4, rst := 0x1F, rwc := 0x1F },
  { name := "FRAME[f]", off := 0x200, n := 32, st := 0x4 } ]

/-- Block registers of the SLOT page (10_sorus_feedback.md; tables 10.15, 10.16, 10.17). -/
def rowsSlot : List RegRow := [
  { name := "PAR_CFG", off := 0x100, rwc := 0xC0000000 },
  { name := "PAR_MEM[m]", off := 0x104, n := 8, st := 0x4, rwc := 0x800001FF },
  { name := "PAR_LAST", off := 0x124 },
  { name := "LUT_IMG_LO", off := 0x128, rwc := 0xFFFFFFFF, pair := 1 },
  { name := "LUT_IMG_HI", off := 0x12C, rwc := 0xFFFFFFFF, pair := 2 },
  { name := "LUT_LOADED", off := 0x130 },
  { name := "FRAME_SEL", off := 0x134, rw := 0x1F },
  { name := "FRAME_VIEW", off := 0x138 },
  { name := "RULE.DEST", off := 0x200, n2 := 16, st2 := 0x20, rst := 0x7000, rwc := 0xF3FE7000 },
  { name := "RULE.SRC", off := 0x204, n2 := 16, st2 := 0x20, rst := 0xE4, rwc := 0xFFFFF0FF },
  { name := "RULE.DLINE", off := 0x208, n2 := 16, st2 := 0x20, rwc := 0xFFFFFFFF },
  { name := "RULE.OUT", off := 0x20C, n2 := 16, st2 := 0x20, rwc := 0xC3FFFF00 },
  { name := "RULE.FWD", off := 0x210, n2 := 16, st2 := 0x20, rwc := 0xFFFF0000 },
  { name := "RULE.LAST", off := 0x214, n2 := 16, st2 := 0x20 },
  { name := "RULE.LAST_WORD", off := 0x218, n2 := 16, st2 := 0x20 } ]

/-- Block registers of the PCIE page (14_serial_links.md; tables 14.12). -/
def rowsPcie : List RegRow := [
  { name := "LINK_STAT", off := 0x100 },
  { name := "IDE_SEL", off := 0x104 } ]

/-- Block registers of the NDEOR page (14_serial_links.md; tables 14.10). -/
def rowsNdeor : List RegRow := [
  { name := "CFG", off := 0x100, rw := 0x3 },
  { name := "PORT_CTRL[p]", off := 0x104, n := 4, st := 0x4, rst := 0x8, rw := 0xD, wo := 0x2 },
  { name := "PORT_STAT[p]", off := 0x114, n := 4, st := 0x4 },
  { name := "ROUTE[k]", off := 0x130, n := 4, st := 0x4, rst := 0xFFFFFFFF, rw := 0xFFFFFFFF },
  { name := "MBOX_DST", off := 0x140, rw := 0x1F },
  { name := "MBOX_TX_LO", off := 0x144, wo := 0xFFFFFFFF, pair := 1 },
  { name := "MBOX_TX_HI", off := 0x148, wo := 0xFFFFFFFF, pair := 2 },
  { name := "MBOX_RX_LO", off := 0x14C, pair := 1 },
  { name := "MBOX_RX_HI", off := 0x150, pair := 2 },
  { name := "MBOX_STAT", off := 0x154 } ]

/-- Block registers of the NLANE page (14_serial_links.md; tables 14.11). -/
def rowsNlane : List RegRow := [
  { name := "CTRL", off := 0x100, rw := 0x31910, wo := 0x3 },
  { name := "INJ", off := 0x104, rst := 0x100, rw := 0x7F00, wo := 0x1 },
  { name := "STAT", off := 0x108 },
  { name := "PRBS_ERR", off := 0x10C },
  { name := "DFE", off := 0x110 },
  { name := "CRC_ERR", off := 0x114 } ]

/-- Block registers of the DEBUG page (18_tufts_and_security.md; tables 18.14). -/
def rowsDebug : List RegRow := [
  { name := "CHALLENGE[k]", off := 0x100, n := 4, st := 0x4 },
  { name := "TOKEN_LO", off := 0x110, rw := 0xFFFFFFFF, pair := 1 },
  { name := "TOKEN_HI", off := 0x114, rw := 0xFFFFFFFF, pair := 2 },
  { name := "CMD", off := 0x118, wo := 0xFFFF0003 },
  { name := "UID_LO", off := 0x11C, pair := 1 },
  { name := "UID_HI", off := 0x120, pair := 2 },
  { name := "SCOPE", off := 0x124 } ]

/-- Block registers of the MEMCTL page (14_serial_links.md; tables 14.12). -/
def rowsMemctl : List RegRow := [
  { name := "TRAIN_STAT", off := 0x100 },
  { name := "CAPACITY", off := 0x104 } ]

/-- Block registers of the GRANULE page (18_tufts_and_security.md; tables 18.13). -/
def rowsGranule : List RegRow := [
  { name := "OWN[k]", off := 0x100, n := 32, st := 0x4, rst := 0x1F1F1F1F, rwc := 0x1F1F1F1F },
  { name := "SCRUB_CNT", off := 0x180 } ]

/-- Block registers of the CAL page (15_calibration.md; tables 15.6). -/
def rowsCal : List RegRow := [
  { name := "CTRL", off := 0x100, rst := 0x7, rw := 0x7 },
  { name := "DTEMP", off := 0x104, rst := 0xC0, rw := 0xFFFF },
  { name := "WAIT63", off := 0x108, rst := 0x2710, rw := 0xFFFFFF },
  { name := "DUE_TMO", off := 0x10C, rst := 0x3E8, rw := 0xFFFF },
  { name := "STAT", off := 0x110 },
  { name := "DUE", off := 0x114 } ]

/-- Block registers of the FUSEBANK page (15_calibration.md; tables 15.7). -/
def rowsFusebank : List RegRow := [
  { name := "CMD", off := 0x100, wo := 0xFFFF0703 },
  { name := "STAT", off := 0x104 } ]

/-- Block registers of the CALF page (15_calibration.md; tables 15.8). -/
def rowsCalf : List RegRow := [
  { name := "CMD", off := 0x100, wo := 0xFFFF0003 },
  { name := "CTRL", off := 0x104, rst := 0x19000001, rw := 0xFFF33C17 },
  { name := "STAT", off := 0x108 },
  { name := "TRIM_PEND", off := 0x10C },
  { name := "FULL_TEMP", off := 0x110 },
  { name := "OFS[s]", off := 0x140, n := 16, st := 0x4, rwc := 0xFFFF },
  { name := "GAIN[s]", off := 0x180, n := 16, st := 0x4, rwc := 0x3FFFF },
  { name := "RGAIN[r]", off := 0x1C0, n := 3, st := 0x4, rwc := 0x3FFFF },
  { name := "SKEW[s]", off := 0x1D0, n := 16, st := 0x4, rwc := 0x1FF },
  { name := "DTRIM[d]", off := 0x210, n := 3, st := 0x4, rwc := 0xFFF0FFF },
  { name := "CELL[d][j]", off := 0x220, n := 3, st := 0x4, n2 := 3, st2 := 0x10, rwc := 0xFFFFFFFF },
  { name := "CELL[d][3]", off := 0x22C, n := 3, st := 0x10, rwc := 0xFFFFFF },
  { name := "RESP[d][j]", off := 0x260, n := 6, st := 0x4, n2 := 3, st2 := 0x20 },
  { name := "FTRIM[n]", off := 0x2C0, n := 8, st := 0x4, rwc := 0xFF03FF },
  { name := "LGAIN[i]", off := 0x2E0, n := 3, st := 0x4 },
  { name := "REC[u].COUNT", off := 0x300, n := 13, st := 0x10 },
  { name := "REC[u].TIME_LO", off := 0x304, n := 13, st := 0x10, pair := 1 },
  { name := "REC[u].TIME_HI", off := 0x308, n := 13, st := 0x10, pair := 2 },
  { name := "REC[u].INFO", off := 0x30C, n := 13, st := 0x10 } ]

/-- Block registers of the CALHK page (16_housekeeping_analog.md; tables 15.8 (R424), 16.9). -/
def rowsCalhk : List RegRow := [
  { name := "ADC_OFS", off := 0x100, rwc := 0xFFFF },
  { name := "ADC_GAIN", off := 0x104, rwc := 0x3FFFF },
  { name := "BIAS_TRIM[j]", off := 0x140, n := 16, st := 0x4, rwc := 0xFFFFFFFF },
  { name := "IEXC[r]", off := 0x180, n := 4, st := 0x4, rwc := 0x3FFFF },
  { name := "VSNS[c]", off := 0x1C0, n := 16, st := 0x4, rwc := 0xFFFFFFFF },
  { name := "REC[u].COUNT", off := 0x300, n := 3, st := 0x10 },
  { name := "REC[u].TIME_LO", off := 0x304, n := 3, st := 0x10, pair := 1 },
  { name := "REC[u].TIME_HI", off := 0x308, n := 3, st := 0x10, pair := 2 },
  { name := "REC[u].INFO", off := 0x30C, n := 3, st := 0x10 } ]

/-- Block registers of the THERM page (17_thermal_and_counters.md; tables 17.4). -/
def rowsTherm : List RegRow := [
  { name := "TG", off := 0x100 },
  { name := "TMAX", off := 0x104, rst := 0x8000 },
  { name := "THROT", off := 0x108, rst := 0x1000040, rw := 0xFF },
  { name := "BAND", off := 0x10C },
  { name := "SLICE_T[s]", off := 0x110, n := 4, st := 0x4 },
  { name := "THALLUS_T", off := 0x120 },
  { name := "HK_T", off := 0x124 },
  { name := "REFRESH", off := 0x128, rst := 0x1 },
  { name := "POWER[d]", off := 0x140, n := 26, st := 0x4 },
  { name := "PTOTAL", off := 0x1A8 },
  { name := "NODE[n]", off := 0x200, n := 64, st := 0x4 } ]

/-- Block registers of the DIODE page (17_thermal_and_counters.md; tables 17.5). -/
def rowsDiode : List RegRow := [
  { name := "DIODE[i]", off := 0x100, n := 40, st := 0x4 },
  { name := "CMD", off := 0x1A0, wo := 0xFFFF3F01 } ]

/-- Block registers of the CNT page (17_thermal_and_counters.md; tables 17.6). -/
def rowsCnt : List RegRow := [
  { name := "CMD", off := 0x100, wo := 0xFFFF0001 },
  { name := "SNAP_BEAT_LO", off := 0x104, pair := 1 },
  { name := "SNAP_BEAT_HI", off := 0x108, pair := 2 },
  { name := "CTR.CFG", off := 0x200, n2 := 16, st2 := 0x20, rwc := 0x83FF03FF },
  { name := "CTR.VALUE_LO", off := 0x204, n2 := 16, st2 := 0x20, pair := 1 },
  { name := "CTR.VALUE_HI", off := 0x208, n2 := 16, st2 := 0x20, pair := 2 },
  { name := "CTR.SNAP_LO", off := 0x20C, n2 := 16, st2 := 0x20, pair := 1 },
  { name := "CTR.SNAP_HI", off := 0x210, n2 := 16, st2 := 0x20, pair := 2 } ]

/-- Block registers of the HK page (07_drive_outputs.md; tables 16.3, 7.15). -/
def rowsHk : List RegRow := [
  { name := "STB_SRC[n]", off := 0x100, n := 8, st := 0x4, rw := 0x303FF },
  { name := "STB_SW", off := 0x120, wo := 0xFF },
  { name := "CAL_CMD", off := 0x124, wo := 0xFFFF0007 },
  { name := "CAL_STAT", off := 0x128 } ]

/-- Block registers of the BIAS page (16_housekeeping_analog.md; tables 16.4). -/
def rowsBias : List RegRow := [
  { name := "CH.CODE", off := 0x100, n2 := 4, st2 := 0x10, rwc := 0xFFFFF },
  { name := "CH.CFG", off := 0x104, n2 := 4, st2 := 0x10, rst := 0x8, rwc := 0xF },
  { name := "CH.CLEAR_CODE", off := 0x108, n2 := 4, st2 := 0x10, rwc := 0xFFFFF },
  { name := "CH.STAT", off := 0x10C, n2 := 4, st2 := 0x10, rst := 0x80000000 } ]

/-- Block registers of the THERMO page (16_housekeeping_analog.md; tables 16.7). -/
def rowsThermo : List RegRow := [
  { name := "FE_TEMP", off := 0x100 },
  { name := "AMON_CFG[a]", off := 0x104, n := 4, st := 0x4, rw := 0x8000000F },
  { name := "AMON_LO[a]", off := 0x114, n := 4, st := 0x8, rw := 0xFFFFFFFF },
  { name := "AMON_HI[a]", off := 0x118, n := 4, st := 0x8, rw := 0xFFFFFFFF },
  { name := "CH.EXC", off := 0x180, n2 := 16, st2 := 0x60, rw := 0xF70003FF },
  { name := "CH.TIMING", off := 0x184, n2 := 16, st2 := 0x60, rst := 0xA0003, rw := 0xFFFF000F },
  { name := "CH.FAULT_CFG", off := 0x188, n2 := 16, st2 := 0x60, rst := 0xA, rw := 0xFFFF },
  { name := "CH.RES_T", off := 0x18C, n2 := 16, st2 := 0x60 },
  { name := "CH.RES_STAT", off := 0x190, n2 := 16, st2 := 0x60 },
  { name := "CH.RES_R", off := 0x194, n2 := 16, st2 := 0x60 },
  { name := "CH.RCTR", off := 0x198, n2 := 16, st2 := 0x60, rw := 0xFFFFFFFF },
  { name := "CH.RSCL", off := 0x19C, n2 := 16, st2 := 0x60, rw := 0xFFFFFFFF },
  { name := "CH.C[i]", off := 0x1A0, n := 8, st := 0x4, n2 := 16, st2 := 0x60, rw := 0xFFFFFFFF },
  { name := "CH.D1", off := 0x1C0, n2 := 16, st2 := 0x60, rw := 0xFFFFFFFF },
  { name := "CH.D2", off := 0x1C4, n2 := 16, st2 := 0x60, rw := 0xFFFFFFFF } ]

/-- Block registers of the WINMON page (16_housekeeping_analog.md; tables 16.5, 16.6). -/
def rowsWinmon : List RegRow := [
  { name := "LATCH", off := 0x100, w1c := 0xFFFF },
  { name := "WIN.CFG", off := 0x200, n2 := 16, st2 := 0x10, rw := 0xFF30FF1F },
  { name := "WIN.THR", off := 0x204, n2 := 16, st2 := 0x10, rst := 0xFFF0000, rw := 0xFFF0FFF },
  { name := "WIN.HYST", off := 0x208, n2 := 16, st2 := 0x10, rst := 0x2, rw := 0xF },
  { name := "WIN.STAT", off := 0x20C, n2 := 16, st2 := 0x10, w1c := 0x20000000 } ]

/-- Block registers of the HKADC page (16_housekeeping_analog.md; tables 16.8). -/
def rowsHkadc : List RegRow := [
  { name := "CTRL", off := 0x100, rw := 0xC01F0000 },
  { name := "CMD", off := 0x104, wo := 0xFFFF0001 },
  { name := "INJ_CFG", off := 0x108, rw := 0xF83F070F },
  { name := "INJ_RESULT", off := 0x10C },
  { name := "TDAC", off := 0x110, rw := 0x801F03FF },
  { name := "RB_SEL", off := 0x114, rw := 0x7F },
  { name := "STAT", off := 0x118 },
  { name := "SEQ[e]", off := 0x180, n := 32, st := 0x4, rw := 0x3F070F },
  { name := "RESULT[e]", off := 0x200, n := 32, st := 0x4 } ]

/-- Block registers of the TIMER page (16_housekeeping_analog.md; tables 16.9). -/
def rowsTimer : List RegRow := [
  { name := "TMR.CTRL", off := 0x100, n2 := 4, st2 := 0x20, rw := 0x8000FF00 },
  { name := "TMR.PERIOD", off := 0x104, n2 := 4, st2 := 0x20, rst := 0xFFFFFFFF, rw := 0xFFFFFFFF },
  { name := "TMR.COUNT", off := 0x108, n2 := 4, st2 := 0x20 },
  { name := "TMR.CAPSRC", off := 0x10C, n2 := 4, st2 := 0x20, rw := 0x1F001F },
  { name := "TMR.CAP[i]", off := 0x110, n := 2, st := 0x4, n2 := 4, st2 := 0x20 } ]

/-- Block registers of the CROZIER page (05_crozier_sequencer.md; tables 5.17, 5.20, 5.21, 5.22, 5.23, 5.24, 5.25, 5.26, 5.27, 5.28, 5.29, 5.30, 5.31, 5.32, 5.33, 5.34, 5.35, 5.36). -/
def rowsCrozier : List RegRow := [
  { name := "RUN_CTRL", off := 0x100, rwc := 0x1FFF0001 },
  { name := "CMD", off := 0x104, wo := 0xFFFF0001 },
  { name := "PC", off := 0x108 },
  { name := "TC_LO", off := 0x10C, pair := 1 },
  { name := "TC_HI", off := 0x110, pair := 2 },
  { name := "QSTAT", off := 0x114 },
  { name := "SHOT_NUM", off := 0x118 },
  { name := "SHOT_START_LO", off := 0x11C, pair := 1 },
  { name := "SHOT_START_HI", off := 0x120, pair := 2 },
  { name := "SHOT_REP", off := 0x124, rwc := 0xFFFFFF },
  { name := "LOOKAHEAD", off := 0x128, rst := 0x10000, rwc := 0x7FFFFF },
  { name := "FAULT_INFO", off := 0x12C },
  { name := "STACK_STAT", off := 0x130 },
  { name := "IRQ_CTRL", off := 0x134, rw := 0xF },
  { name := "IVEC[i]", off := 0x138, n := 4, st := 0x4, rwc := 0x1FFF },
  { name := "CS_CTRL", off := 0x148, rwc := 0x11FFF },
  { name := "CS_IMG_LO", off := 0x14C, rwc := 0xFFFFFFFF, pair := 1 },
  { name := "CS_IMG_HI", off := 0x150, rwc := 0xFFFFFFFF, pair := 2 },
  { name := "CS_LOADED", off := 0x154 },
  { name := "ENTRY_BASE[k]", off := 0x158, n := 3, st := 0x4, rwc := 0x3FFF },
  { name := "SWI_CODE", off := 0x164 },
  { name := "SHOT_Q", off := 0x168, rwc := 0x13F },
  { name := "SLOT_STAT", off := 0x16C },
  { name := "LC[k]", off := 0x170, n := 8, st := 0x4 },
  { name := "P[p]", off := 0x200, n := 64, st := 0x4, rwc := 0xFFFFFFFF } ]

/-- Block registers of the WAVEFORM page (06_waveform_store.md; tables 6.12, 6.13, 6.14, 6.15, 6.16). -/
def rowsWaveform : List RegRow := [
  { name := "TBL_CTRL", off := 0x100, rwc := 0x10001 },
  { name := "LIB_IMG_LO", off := 0x104, rwc := 0xFFFFFFFF, pair := 1 },
  { name := "LIB_IMG_HI", off := 0x108, rwc := 0xFFFFFFFF, pair := 2 },
  { name := "LIB_LOADED", off := 0x10C },
  { name := "SEG_ERR_INFO", off := 0x110 },
  { name := "TONE_ACTIVE", off := 0x114 },
  { name := "FLUX_ACTIVE", off := 0x118 },
  { name := "RING.BASE_LO", off := 0x200, n2 := 8, st2 := 0x20, rwc := 0xFFFFFFFF, pair := 1 },
  { name := "RING.BASE_HI", off := 0x204, n2 := 8, st2 := 0x20, rwc := 0xFFFFFFFF, pair := 2 },
  { name := "RING.CFG", off := 0x208, n2 := 8, st2 := 0x20, rwc := 0x8F1F0000 },
  { name := "RING.STAGE", off := 0x20C, n2 := 8, st2 := 0x20, rwc := 0xFFF01FF },
  { name := "RING.WM", off := 0x210, n2 := 8, st2 := 0x20, rw := 0xFFFFFFFF },
  { name := "RING.WR", off := 0x214, n2 := 8, st2 := 0x20, rw := 0xFFFFFFFF },
  { name := "RING.RD", off := 0x218, n2 := 8, st2 := 0x20 },
  { name := "RING.STAT", off := 0x21C, n2 := 8, st2 := 0x20 } ]

/-- Block registers of the XY page (07_drive_outputs.md; tables 7.10, 7.11). -/
def rowsXy : List RegRow := [
  { name := "OUT_CFG", off := 0x100, rst := 0x460100, rwc := 0x7F0100 },
  { name := "GAIN", off := 0x104, rst := 0x800, rwc := 0xFFFF },
  { name := "CLEAR_CODE", off := 0x108, rwc := 0x3FFF },
  { name := "CLIP_BEAT_LO", off := 0x10C, pair := 1 },
  { name := "CLIP_BEAT_HI", off := 0x110, pair := 2 } ]

/-- Block registers of the PROBE page (07_drive_outputs.md; tables 7.10, 7.11). -/
def rowsProbe : List RegRow := [
  { name := "OUT_CFG", off := 0x100, rst := 0x460100, rwc := 0x7F0100 },
  { name := "GAIN", off := 0x104, rst := 0x400, rwc := 0xFFFF },
  { name := "CLEAR_CODE", off := 0x108, rwc := 0x3FFF },
  { name := "CLIP_BEAT_LO", off := 0x10C, pair := 1 },
  { name := "CLIP_BEAT_HI", off := 0x110, pair := 2 } ]

/-- Block registers of the READOUT page (08_readout_front_end.md; tables 8.13, 8.14, 8.15, 8.16, 8.17, 8.18). -/
def rowsReadout : List RegRow := [
  { name := "FE_CTRL", off := 0x100, rwc := 0x173 },
  { name := "FE_STAT", off := 0x104 },
  { name := "SWITCH_BEAT_LO", off := 0x108, pair := 1 },
  { name := "SWITCH_BEAT_HI", off := 0x10C, pair := 2 },
  { name := "OVR_BEAT_LO", off := 0x110, pair := 1 },
  { name := "OVR_BEAT_HI", off := 0x114, pair := 2 },
  { name := "ADC_CMD", off := 0x118, wo := 0xFFFF0001 },
  { name := "ADC_STAT", off := 0x11C },
  { name := "TAP_FTW_LO", off := 0x120, rwc := 0xFFFFFFFF, pair := 1 },
  { name := "TAP_FTW_HI", off := 0x124, rwc := 0xFFFF, pair := 2 },
  { name := "TAP_PHASE", off := 0x128, rwc := 0xFFFFFFFF },
  { name := "DFIR_IDX", off := 0x12C, rw := 0x1FF },
  { name := "DFIR_COEF", off := 0x130 },
  { name := "TONE.FTW_LO", off := 0x200, n2 := 16, st2 := 0x10, rwc := 0xFFFFFFFF, pair := 1 },
  { name := "TONE.FTW_HI", off := 0x204, n2 := 16, st2 := 0x10, rwc := 0xFFFF, pair := 2 },
  { name := "TONE.PHASE", off := 0x208, n2 := 16, st2 := 0x10, rwc := 0xFFFFFFFF },
  { name := "TONE.WIN", off := 0x20C, n2 := 16, st2 := 0x10, rwc := 0x1FFF } ]

/-- Block registers of the KERNEL page (09_readout_kernels.md; tables 9.10, 9.11, 9.12, 9.13). -/
def rowsKernel : List RegRow := [
  { name := "KIMG_LO", off := 0x100, rwc := 0xFFFFFFFF, pair := 1 },
  { name := "KIMG_HI", off := 0x104, rwc := 0xFFFFFFFF, pair := 2 },
  { name := "KIMG_LOADED", off := 0x108 },
  { name := "OVF_INFO", off := 0x10C },
  { name := "ECC_INFO", off := 0x110 },
  { name := "WMEM_IDX", off := 0x114, rw := 0xF7FFF },
  { name := "WMEM_DATA_LO", off := 0x118, pair := 1 },
  { name := "WMEM_DATA_HI", off := 0x11C, pair := 2 },
  { name := "TONE.CFG", off := 0x200, n2 := 16, st2 := 0x20, rst := 0x10000, rwc := 0x80037FFF },
  { name := "TONE.HBASE", off := 0x204, n2 := 16, st2 := 0x20, rst := 0x4000, rwc := 0x7FFF },
  { name := "TONE.SHIFT", off := 0x208, n2 := 16, st2 := 0x20, rst := 0xC0818, rwc := 0x1F1F1F },
  { name := "TONE.CENT[k]", off := 0x20C, n := 4, st := 0x4, n2 := 16, st2 := 0x20, rwc := 0xFFFFFFFF },
  { name := "TONE.OUT", off := 0x21C, n2 := 16, st2 := 0x20, rwc := 0x1FF } ]

/-- Block registers of the FLUX page (07_drive_outputs.md; tables 7.13, 7.14). -/
def rowsFlux : List RegRow := [
  { name := "FCFG", off := 0x100, rst := 0x1F, rwc := 0x1F },
  { name := "FGAIN", off := 0x104, rst := 0x10000, rwc := 0x3FFFF },
  { name := "REST_CODE", off := 0x108, rwc := 0xFFFF },
  { name := "CLEAR_CODE", off := 0x10C, rwc := 0xFFFF },
  { name := "CLIP_BEAT_LO", off := 0x110, pair := 1 },
  { name := "CLIP_BEAT_HI", off := 0x114, pair := 2 },
  { name := "IIR[s].B0", off := 0x120, n := 4, st := 0x10, rst := 0x40000000, rwc := 0xFFFFFFFF },
  { name := "IIR[s].B1", off := 0x124, n := 4, st := 0x10, rwc := 0xFFFFFFFF },
  { name := "IIR[s].A1", off := 0x128, n := 4, st := 0x10, rwc := 0xFFFFFFFF },
  { name := "FIR[t]", off := 0x180, rst := 0x10000, rwc := 0x3FFFF },
  { name := "FIR[t]", off := 0x184, n := 31, st := 0x4, rwc := 0x3FFFF } ]

/-- The block registers of a page kind, offsets 0x100 to 0x7FF; ETH, FLASH, SMBUS and MEMCH have none in the spec. -/
def PageKind.rows : PageKind → List RegRow
  | .mode => rowsMode
  | .boot => rowsBoot
  | .power => rowsPower
  | .regbus => rowsRegbus
  | .timeline => rowsTimeline
  | .sec => rowsSec
  | .violog => rowsViolog
  | .tuft => rowsTuft
  | .commit => rowsCommit
  | .cgrp => rowsCgrp
  | .clock => rowsClock
  | .ptp => rowsPtp
  | .servo => rowsServo
  | .csync => rowsCsync
  | .hypha => rowsHypha
  | .hcell => rowsHcell
  | .hchan => rowsHchan
  | .qmgr => rowsQmgr
  | .queue => rowsQueue
  | .trig => rowsTrig
  | .acq => rowsAcq
  | .resv => rowsResv
  | .sorus => rowsSorus
  | .slot => rowsSlot
  | .pcie => rowsPcie
  | .eth => []
  | .ndeor => rowsNdeor
  | .nlane => rowsNlane
  | .flash => []
  | .smbus => []
  | .debug => rowsDebug
  | .memctl => rowsMemctl
  | .memch => []
  | .granule => rowsGranule
  | .cal => rowsCal
  | .fusebank => rowsFusebank
  | .calf => rowsCalf
  | .calhk => rowsCalhk
  | .therm => rowsTherm
  | .diode => rowsDiode
  | .cnt => rowsCnt
  | .hk => rowsHk
  | .bias => rowsBias
  | .thermo => rowsThermo
  | .winmon => rowsWinmon
  | .hkadc => rowsHkadc
  | .timer => rowsTimer
  | .crozier => rowsCrozier
  | .waveform => rowsWaveform
  | .xy => rowsXy
  | .probe => rowsProbe
  | .readout => rowsReadout
  | .kernel => rowsKernel
  | .flux => rowsFlux

/-- The FLAGS bits a page kind defines (Table 3.11 and the chapters); the others are reserved. -/
def PageKind.flagMask : PageKind → Nat
  | .mode => 0x3
  | .timeline => 0x7
  | .sec => 0x7
  | .violog => 0x3
  | .commit => 0x3
  | .cgrp => 0x7
  | .clock => 0x1F
  | .ptp => 0xF
  | .servo => 0x7
  | .csync => 0x1F
  | .hypha => 0x3
  | .hcell => 0x1
  | .hchan => 0x7
  | .queue => 0xF
  | .acq => 0x3F
  | .sorus => 0xF
  | .slot => 0xFF
  | .cal => 0x3
  | .calf => 0x3F
  | .therm => 0x1F
  | .cnt => 0x1FFFF
  | .thermo => 0xFFFF
  | .winmon => 0xFFFF
  | .hkadc => 0x1F
  | .timer => 0xFFFF
  | .crozier => 0x7FF
  | .waveform => 0x7F
  | .xy => 0x3
  | .probe => 0x3
  | .readout => 0x1F
  | .kernel => 0x3F
  | .flux => 0x7
  | _ => 0

/-- The position of an offset in a row, or none. -/
def RegRow.covers (r : RegRow) (off : Nat) : Bool :=
  if off < r.off then false
  else
    let d := off - r.off
    if r.n2 = 1 then d % r.st = 0 && d / r.st < r.n
    else
      let i := d / r.st2
      let e := d % r.st2
      i < r.n2 && e % r.st = 0 && e / r.st < r.n

/-- The row of a block register. -/
def findRow : List RegRow → Nat → Option RegRow
  | [], _ => none
  | r :: t, off => if r.covers off then some r else findRow t off

/-- The row of a header register (Tables 3.5 to 3.16): OWNER is RW-C, CTRL and FLAGS_EN are RW, FLAGS is W1C,
FLAGS_SET is W1S; CROZIER.CTRL also holds FAULT_POLICY (05_crozier_sequencer.md Table 5.17). -/
def headRow (p : Pg) (off : Nat) : RegRow :=
  match off with
  | 0x08 => { name := "OWNER", off := 0x08, rwc := 0x8000001F,
              rst := if p.kind = .calf then 0x8000001F else 0x1F }
  | 0x0C => { name := "CTRL", off := 0x0C, rw := if p.kind = .crozier then 0x1FF02 else 0xFF02, wo := 1 }
  | 0x14 => { name := "FLAGS", off := 0x14, w1c := p.kind.flagMask }
  | 0x18 => { name := "FLAGS_EN", off := 0x18, rw := p.kind.flagMask }
  | 0x1C => { name := "FLAGS_SET", off := 0x1C, w1s := p.kind.flagMask }
  | 0x04 => { name := "PAGE_VER", off := 0x04, rst := 0x00010000 }
  | 0x00 =>
    let fr := if p.kind.inFrond || p.kind == .calf || p.kind == .bias then p.i else 0xFF
    let inst := if p.kind.inFrond then p.n else if p.kind == .calf || p.kind == .bias then 0 else p.i
    { name := "PAGE_ID", off := 0, rst := p.kind.place.2.2 * 2 ^ 24 + fr * 2 ^ 16 + inst }
  | o => { name := "", off := o }

/-- The row of the register at an offset below 0x800 of a page. -/
def regRow (p : Pg) (off : Nat) : RegRow :=
  if off < 0x100 then headRow p off
  else (findRow p.kind.rows off).getD { name := "", off := off }

/-- The reset value of the register at a BAR0 address; PTP[n].CFG0 holds domainNumber n at reset
(13_time_and_cluster.md Table 13.6). -/
def regReset (a : Nat) : Word :=
  match pageOf a with
  | none => 0
  | some p =>
    let r := regRow p (a % 0x1000)
    BitVec.ofNat 32 (r.rst + (if p.kind = .ptp && r.off = 0x100 then p.i else 0))

/-- The MODE page. -/
def pMode : Pg := { kind := .mode }
/-- The BOOT page. -/
def pBoot : Pg := { kind := .boot }
/-- The POWER page. -/
def pPower : Pg := { kind := .power }
/-- The REGBUS page. -/
def pRegbus : Pg := { kind := .regbus }
/-- The TIMELINE page. -/
def pTimeline : Pg := { kind := .timeline }
/-- The SEC page. -/
def pSec : Pg := { kind := .sec }
/-- The VIOLOG page. -/
def pViolog : Pg := { kind := .violog }
/-- The COMMIT page. -/
def pCommit : Pg := { kind := .commit }
/-- The CLOCK page. -/
def pClock : Pg := { kind := .clock }
/-- The SERVO page. -/
def pServo : Pg := { kind := .servo }
/-- The CSYNC page. -/
def pCsync : Pg := { kind := .csync }
/-- The HYPHA page. -/
def pHypha : Pg := { kind := .hypha }
/-- The QMGR page. -/
def pQmgr : Pg := { kind := .qmgr }
/-- The TRIG page. -/
def pTrig : Pg := { kind := .trig }
/-- The RESV page. -/
def pResv : Pg := { kind := .resv }
/-- The SORUS page. -/
def pSorus : Pg := { kind := .sorus }
/-- The PCIE page. -/
def pPcie : Pg := { kind := .pcie }
/-- The NDEOR page. -/
def pNdeor : Pg := { kind := .ndeor }
/-- The FLASH page. -/
def pFlash : Pg := { kind := .flash }
/-- The SMBUS page. -/
def pSmbus : Pg := { kind := .smbus }
/-- The DEBUG page. -/
def pDebug : Pg := { kind := .debug }
/-- The MEMCTL page. -/
def pMemctl : Pg := { kind := .memctl }
/-- The GRANULE page. -/
def pGranule : Pg := { kind := .granule }
/-- The CAL page. -/
def pCal : Pg := { kind := .cal }
/-- The FUSEBANK page. -/
def pFusebank : Pg := { kind := .fusebank }
/-- The CALHK page. -/
def pCalhk : Pg := { kind := .calhk }
/-- The THERM page. -/
def pTherm : Pg := { kind := .therm }
/-- The DIODE page. -/
def pDiode : Pg := { kind := .diode }
/-- The HK page. -/
def pHk : Pg := { kind := .hk }
/-- The THERMO page. -/
def pThermo : Pg := { kind := .thermo }
/-- The WINMON page. -/
def pWinmon : Pg := { kind := .winmon }
/-- The HKADC page. -/
def pHkadc : Pg := { kind := .hkadc }
/-- The TIMER page. -/
def pTimer : Pg := { kind := .timer }
/-- Page TUFT[i]. -/
def pTuft (i : Nat) : Pg := { kind := .tuft, i := i }
/-- Page CGRP[i]. -/
def pCgrp (i : Nat) : Pg := { kind := .cgrp, i := i }
/-- Page PTP[i]. -/
def pPtp (i : Nat) : Pg := { kind := .ptp, i := i }
/-- Page HCELL[i]. -/
def pHcell (i : Nat) : Pg := { kind := .hcell, i := i }
/-- Page HCHAN[i]. -/
def pHchan (i : Nat) : Pg := { kind := .hchan, i := i }
/-- Page QUEUE[i]. -/
def pQueue (i : Nat) : Pg := { kind := .queue, i := i }
/-- Page ACQ[i]. -/
def pAcq (i : Nat) : Pg := { kind := .acq, i := i }
/-- Page SLOT[i]. -/
def pSlot (i : Nat) : Pg := { kind := .slot, i := i }
/-- Page ETH[i]. -/
def pEth (i : Nat) : Pg := { kind := .eth, i := i }
/-- Page NLANE[i]. -/
def pNlane (i : Nat) : Pg := { kind := .nlane, i := i }
/-- Page MEMCH[i]. -/
def pMemch (i : Nat) : Pg := { kind := .memch, i := i }
/-- Page CALF[i]. -/
def pCalf (i : Nat) : Pg := { kind := .calf, i := i }
/-- Page CNT[i]. -/
def pCnt (i : Nat) : Pg := { kind := .cnt, i := i }
/-- Page BIAS[i]. -/
def pBias (i : Nat) : Pg := { kind := .bias, i := i }
/-- The CROZIER page of FROND[f]. -/
def pCrozier (f : Nat) : Pg := { kind := .crozier, i := f }
/-- The WAVEFORM page of FROND[f]. -/
def pWaveform (f : Nat) : Pg := { kind := .waveform, i := f }
/-- The PROBE page of FROND[f]. -/
def pProbe (f : Nat) : Pg := { kind := .probe, i := f }
/-- The READOUT page of FROND[f]. -/
def pReadout (f : Nat) : Pg := { kind := .readout, i := f }
/-- The KERNEL page of FROND[f]. -/
def pKernel (f : Nat) : Pg := { kind := .kernel, i := f }
/-- Page XY[c] of FROND[f]. -/
def pXy (f c : Nat) : Pg := { kind := .xy, i := f, n := c }
/-- Page FLUX[n] of FROND[f]. -/
def pFlux (f n : Nat) : Pg := { kind := .flux, i := f, n := n }

end Sys2Proof.Machine
end

