-- ==== Sys2Proof/Machine/Tab.lean ====
section
/-! DEFINITION. Tab: the one sparse table of the model: a list of (key, value) pairs in canonical form, with the
keys strictly rising and no entry equal to what an unlisted key reads as. Registers, GDDR7, the memories of a
frond and every array of like units are kept in it, so that equal contents are equal data. -/
namespace Sys2Proof.Machine

/-- A sparse table from natural keys. What an unlisted key reads as is the accessor's argument d. -/
abbrev Tab (α : Type) := List (Nat × α)

/-- The listed value of a key. -/
def Tab.find? {α : Type} : Tab α → Nat → Option α
  | [], _ => none
  | (k, v) :: t, a => if k = a then some v else Tab.find? t a

/-- The value a key reads as: its entry, or d where it has none. -/
def Tab.get {α : Type} (d : α) (t : Tab α) (a : Nat) : α := (Tab.find? t a).getD d

/-- Put an entry at its place. -/
def Tab.put {α : Type} : Tab α → Nat → α → Tab α
  | [], a, v => [(a, v)]
  | (k, w) :: t, a, v =>
    if a < k then (a, v) :: (k, w) :: t
    else if a = k then (a, v) :: t
    else (k, w) :: Tab.put t a v

/-- Remove a key's entry. -/
def Tab.del {α : Type} : Tab α → Nat → Tab α
  | [], _ => []
  | (k, w) :: t, a => if k = a then Tab.del t a else (k, w) :: Tab.del t a

/-- Write a key; writing what an unlisted key reads as removes the entry. -/
def Tab.set {α : Type} [DecidableEq α] (d : α) (t : Tab α) (a : Nat) (v : α) : Tab α :=
  if v = d then Tab.del t a else Tab.put t a v

/-- The keys are strictly rising. -/
def Tab.sorted {α : Type} : Tab α → Bool
  | [] => true
  | [_] => true
  | (k, _) :: (k', v') :: t => decide (k < k') && Tab.sorted ((k', v') :: t)

/-- The canonical form: keys strictly rising, and no entry equal to what its key reads as when unlisted. -/
def Tab.wf {α : Type} [DecidableEq α] (d : Nat → α) (t : Tab α) : Bool :=
  Tab.sorted t && t.all (fun e => decide (e.2 ≠ d e.1))

end Sys2Proof.Machine
end

