-- ==== Sys2Proof/Machine/State.lean ====
section
/-! DEFINITION. State: everything the spec gives the block, as plain data: the beat counter, the register file, the
shadow copies and per-requester latches, the state of every engine that no register shows, the queue of waiting
commands, and the messages that left the device. -/
namespace Sys2Proof.Machine

/-- Why a command stops the block. -/
inductive Fault where
  /-- A command whose operands are not well-formed (WellFormed.lean): no event of the device. Nothing raises it in
  the meanings; safe. -/
  | illFormed
deriving DecidableEq, Repr

/-- Why a command has no meaning. -/
inductive Refusal where
  /-- The command has no meaning in this model yet; raised by Dispatch's arms only; safe. -/
  | notModelled (mnemonic : String)
deriving DecidableEq, Repr

/-- A measurement block: index and values (18_tufts_and_security.md Table 18.6); a digest is its 48 bytes. -/
structure MeasBlock where
  index : Nat
  values : List Nat
deriving DecidableEq, Repr

/-- SPDM responses (18_tufts_and_security.md R486), with what the spec says each carries; sig is the device key's signature. -/
inductive SpdmRsp where
  | error (code : Nat)
  | version (versions : List Nat)
  | capabilities (flags : Nat)
  | algorithms (asym hash dhe aead : Nat)
  | digests (slots : Nat) (digest : List Byte)
  | certificate (slot : Nat) (portion : List Byte) (rest : Nat)
  | challengeAuth (slot : Nat) (sig : List Byte)
  | measurements (blocks : List MeasBlock) (sig : Option (List Byte))
  | keyExchange (session : Nat) (sig : List Byte)
  | finish (session : Nat)
  | heartbeat (session : Nat)
  | keyUpdate (session op : Nat)
  | endSession (session : Nat)
deriving DecidableEq, Repr

/-- What leaves the device (log entry 2): each message is a record, newest first. -/
inductive Output where
  /-- An MSI-X message: function and vector (03_register_pages.md R99). -/
  | msix (fn vec : Nat)
  /-- The words a read returned to a requester (R90, R96). -/
  | readData (path : Path) (words : List Word)
  /-- A flit that leaves on an Ndeor port (4: delivered to the device itself): MODE, DST, CLASS, payload
  (14_serial_links.md Table 14.4). -/
  | flit (port mode dst cls : Nat) (payload : BitVec 64)
  /-- A PTP message sent: port, transport, the multicast address or UDP port it goes to, message type as IEEE 1588 numbers it, domain,
  sequence, timestamp carried and correction, both in 2^−16 ns, and the dataset of an Announce (13_time_and_cluster.md R352 to R355). -/
  | ptp (port tr dst kind domain seq : Nat) (ts corr : Int) (ds : List Nat)
  /-- A PTP message of a type that a transparent clock passes on to a port: as received, but for its correction and UDP checksum
  (13_time_and_cluster.md R354, R355). -/
  | ptpPass (port kind : Nat) (x : PtpMsg)
  /-- What a lane transmits from now on: 0 to 3 PRBS7, PRBS15, PRBS23, PRBS31; 4 frames; 5 the burst of a fast exit, 1,024 UI of alternating
  bits and 1,024 UI of PRBS7, then frames (14_serial_links.md R385, R389, R390). -/
  | lane (n what : Nat)
  /-- Bytes written to host memory of a function: bus address, relaxed ordering, and the bytes (11_acquisition_queues.md
  R314, R318). -/
  | hostWrite (fn : Nat) (addr : Nat) (relaxed : Bool) (bytes : List Byte)
  /-- The bytes a BAR2 read returned; poisoned where its data could not be read (14_serial_links.md R392). -/
  | completion (path : Path) (poisoned : Bool) (bytes : List Byte)
  /-- An SPDM response (18_tufts_and_security.md R486). -/
  | spdm (r : SpdmRsp)
  /-- The bytes the SMBus port answers with; none: the command is NACKed (14_serial_links.md R394). -/
  | smbus (bytes : Option (List Byte))
  /-- A JTAG debug instruction that acts as BYPASS (R395). -/
  | bypass
  /-- A lane inverts bits of its next pattern or frame (R390). -/
  | corrupt (lane bits : Nat)
  /-- A frame sent on an Ethernet port (R378). -/
  | frame (port : Nat) (bytes : List Byte)
  /-- A frame received on an Ethernet port and handed to the warden's ring (R378). -/
  | received (port : Nat) (bytes : List Byte)
deriving DecidableEq, Repr

/-- An earlier view of a condition slot, holding from beat since. -/
structure OldSlot where
  since : Nat
  st : Nat
  value : Nat
  word : Nat
  qual : Nat
deriving DecidableEq, Repr

/-- What a pass takes from the Pauli frame of its qubit (07_drive_outputs.md R202; 10_sorus_feedback.md R297):
nothing; the sign and phase of the pass before (LINK); the frame at the end of the current beat; or a frame sampled
before. -/
inductive FrameUse where
  | plain | keep | sample | bits (xz : Nat)
deriving DecidableEq, Repr

/-- A jump request (05_crozier_sequencer.md R154): its effective entry, issue beat, posting beat and posting order,
gate, and shot; late once it missed the boundary it named. -/
structure Jump where
  chan : Nat
  entry : Nat
  issue : Nat
  posted : Nat
  seq : Nat
  cond : Nat := 0
  slot : Nat := 0
  shot : Nat := 0
  late : Bool := false
  /-- The boundary it names has passed (06_waveform_store.md R182). -/
  passed : Bool := false
  frame : FrameUse := .plain
deriving DecidableEq, Repr

/-- A condition slot of a frond's Sorus port (10_sorus_feedback.md R285, R286): 0 EMPTY, 1 PENDING, 2 RESOLVED. -/
structure Slot where
  /-- The issue-time view. -/
  st : Nat := 0
  value : Nat := 0
  word : Nat := 0
  /-- 0 TRUSTED, 1 LATE, 2 MISMATCH, 3 INVALID. -/
  qual : Nat := 0
  /-- The read value of RDSLOT (R288). -/
  readVal : Nat := 0
  /-- The posting-time view of a slot fed by a rule of the same frond, and the armings posted that have not resolved
  (R286). -/
  post : Nat := 0
  due : Nat := 0
  /-- A decision posted since the Crozier's last SHOT_BEGIN has resolved: the view is RESOLVED where nothing posted is left (R286). -/
  pdone : Bool := false
  /-- What that view shows once RESOLVED: value, quality and read value; a SHOT_END leaves it as it is (R286). -/
  pval : Nat := 0
  pqual : Nat := 0
  pread : Nat := 0
  /-- A record of the central Sorus was discarded: RESOLVED, INVALID until the next arm notice, past a SHOT_END too (R518; DEDUCED, log
  entry 46). -/
  lock : Bool := false
  /-- The beat from which the issue-time view holds, and the views before it, newest first, as far as a gate can
  still sample them (R146, R154). -/
  since : Nat := 0
  old : List OldSlot := []
deriving DecidableEq, Repr

/-- One pass of one segment (06_waveform_store.md R178, R179). -/
structure Pass where
  /-- The list entry and the segment descriptor of the pass. -/
  ent : BitVec 128 := 0
  desc : BitVec 64 := 0
  /-- First DAC sample of the pass in issue time, and its length in DAC-sample periods. -/
  k0 : Nat := 0
  len : Nat := 0
  /-- The phase accumulator: its value at sample kphi, and the frequency word since (R177). -/
  phi : Nat := 0
  kphi : Nat := 0
  ftw : Nat := 0
  /-- The frequency word of the ABS rule the accumulator follows from; 0 where none does (R177; 13_time_and_cluster.md R366). -/
  absFtw : Nat := 0
  /-- σ is −1, and the phase ψ (07_drive_outputs.md R202). -/
  neg : Bool := false
  psi : Nat := 0
  /-- The frame is still to be sampled at the end of the beat: the phase ψ that its X bit brings (R202; 10_sorus_feedback.md R297). -/
  sampling : Option Nat := none
  /-- The pass takes its samples from ring byte counter ringPos on; an underrun has happened in it, from DAC sample
  underK on (R189, R194). -/
  ring : Option Nat := none
  ringPos : Nat := 0
  under : Bool := false
  underK : Nat := 0
  /-- The streamed sample that plays on into the current beat, and its bytes: it has left the ring (R189). -/
  hold : Option (Nat × Nat) := none
deriving DecidableEq, Repr

/-- A segment player of an XY tone, probe tone or flux channel (06_waveform_store.md R178 to R183). -/
structure Player extends Pass where
  playing : Bool := false
  /-- The list entry in effect and the segment number. -/
  entry : Nat := 0
  seg : Nat := 0
  /-- The shot that started it. -/
  shot : Nat := 0
  /-- The pass ends without LINK (R196). -/
  stop : Bool := false
  /-- The choice latched for the boundary at sample latchK: a jump request, or none (R180). -/
  latchK : Nat := 0
  latched : Option Jump := none
  /-- Jump requests held, in posting order (R154). -/
  jumps : List Jump := []
  /-- Earlier passes that still have samples in the current beat, and the last DAC sample of any earlier pass, plus one. -/
  last : List Pass := []
  past : Nat := 0
deriving DecidableEq, Repr

/-- The predistortion chain of a flux channel: section s's xp and yp, and the FIR delay line, newest first
(07_drive_outputs.md R210). -/
structure FluxChain where
  xp : List Int := [0, 0, 0, 0]
  yp : List Int := [0, 0, 0, 0]
  line : List Int := []
deriving DecidableEq, Repr

/-- The forcing of the drive outputs beyond the mode (07_drive_outputs.md R208, R219, R220). -/
structure Pins where
  /-- ABORT_N is low (02_modes_power_boot.md R54). -/
  abortLow : Bool := false
  /-- CLR_N forces every output; the ball beat it began. -/
  clr : Bool := false
  clrFrom : Nat := 0
  /-- Earlier spans of ball beats that CLR_N forced (R221). -/
  spans : List (Nat × Nat) := []
  /-- What the mode forces from a ball beat on, newest first, while RUN is entered or left for READY (R219). -/
  forces : List (Nat × Bool) := []
  /-- Codes on their way to the balls, newest first: issue beat, 16 f + DAC unit, and the codes of that beat (R203); a drive or flux
  unit without an entry plays nothing in a beat. -/
  pipe : List (Nat × Nat × List Int) := []
  /-- Registers whose new value acts from a later ball beat on, newest first: that beat, address, and the value before (R214;
  08_readout_front_end.md R248; 15_calibration.md R415). -/
  hist : List (Nat × Nat × Word) := []
deriving DecidableEq, Repr

/-- A streaming ring beyond its registers (R188 to R197). -/
structure Ring where
  /-- The tone or flux channel it feeds. -/
  consumer : Option Nat := none
  /-- Byte counter of the first sample not yet taken by a pass; it counts on without bound (RD is its position modulo 2^32). -/
  next : Nat := 0
  /-- The latest reads into staging, newest first: beat and bytes (R191). -/
  reads : List (Nat × Nat) := []
  /-- Spans of ring bytes, as byte counter and length, that a GDDR7 error replaced by zeros (14_serial_links.md R392). -/
  bad : List (Nat × Nat) := []
deriving DecidableEq, Repr

/-- A result on the decision bus (10_sorus_feedback.md Table 10.1): tone, H, O, C, S, the M mark of its shot, and the
issue beat of its window, which tells the windows of one tone apart (R281). -/
structure Res where
  tone : Nat
  h : Bool
  o : Bool
  c : Bool
  st : Nat
  m : Bool
  issue : Nat
deriving DecidableEq, Repr

/-- One frond's record of one beat on the decision bus (10_sorus_feedback.md Table 10.1), kept until it has been
delivered everywhere. -/
structure BusRec where
  frond : Nat
  beat : Nat
  opens : Nat := 0
  results : List Res := []
  shotEnd : Bool := false
  /-- The groups SYNC bundles of the beat name. -/
  syncs : List Nat := []
  /-- The number of the shot that ended, 0 for a frond that left outside a shot, STARTS at its SHOT_BEGIN, and the owner it belonged to
  (05_crozier_sequencer.md R158, R159). -/
  shotNum : Nat := 0
  gen : Nat := 0
  tuft : Nat := 0
  /-- Receivers that have it: fronds 0 to 31, 32 the central Sorus. -/
  sent : List Nat := []
deriving DecidableEq, Repr

/-- A decision of a rule in flight (R280, R281). -/
structure Flight where
  issue : Nat
  round : Nat
  dl : Nat
  /-- The destination frond's shot at the arming issue beat. -/
  shot : Option Nat := none
  /-- Inputs that arrived: 8 u + m for member m of parity unit u, 0 for a DIRECT rule; the input's bit or STATE; and
  whether it is valid. -/
  got : List (Nat × Nat × Bool) := []
  /-- Parity units that bring their input by no record, invalid (R282). -/
  bad : List Nat := []
  /-- It may take the result of another window (R518). -/
  taint : Bool := false
  /-- The export record has left (R292). -/
  sentOut : Bool := false
  /-- Every input is in: the beat the decision resolves in, past rule evaluation and the lockstep comparison (Tables 10.8 and
  10.9); and, where the input itself gives the outcome, quality, value and word. -/
  ready : Option Nat := none
  out : Option (Nat × Nat × Nat) := none
  /-- The two copies disagree in the resolving beat (R298). -/
  mm : Bool := false
deriving DecidableEq, Repr

/-- A resolution on its way from the central Sorus to a frond's port (R285): due beat, rule, quality, value, word,
and the shot it was armed in. -/
structure Resol where
  due : Nat
  frond : Nat
  rule : Nat
  qual : Nat
  value : Nat
  word : Nat
  shot : Option Nat
  round : Nat
deriving DecidableEq, Repr

/-- An arm notice on its way from the central Sorus to a frond's port (R285): due beat, rule, and the ROUND and shot of the
decision. -/
structure Notice where
  due : Nat
  frond : Nat
  rule : Nat
  round : Nat
  shot : Option Nat
deriving DecidableEq, Repr

/-- The Sorus beyond its registers. -/
structure Sorus where
  /-- Decisions in flight and ROUND counters, by rule 16 n + r. -/
  flights : Tab Flight := []
  rounds : Tab Nat := []
  /-- Per rule, the beat of the latest discarded record that might have armed it (R518). -/
  taints : Tab Nat := []
  notices : List Notice := []
  resols : List Resol := []
  /-- The syndrome lookup (R290). -/
  lut : Tab Word := []
  /-- Per unit, the latest disagreement's beat and the run of consecutive ones (R298). -/
  mm : Tab (Nat × Nat) := []
  /-- Per rule, its resolved decisions, newest first: arming issue beat, and inputs still to come, numbered as in `Flight.got` (R281). -/
  late : Tab (List (Nat × List Nat)) := []
  /-- Ndeor decision records in rule intake and the lockstep comparison: the beat they arm and resolve a rule in, the record, and whether
  the copies disagree in that beat (R280, R298). -/
  intake : List (Nat × BitVec 64 × Bool) := []
deriving DecidableEq, Repr

/-- A shot of a frond whose status item is not yet written (05_crozier_sequencer.md R155, R157 to R159). -/
structure Shot where
  /-- Distinguishes the shots of one frond for ever (R159). -/
  uid : Nat
  num : Nat
  starts : Nat
  /-- The shot start beat S. -/
  start : Nat
  /-- Marks: bit 7 OVR, 6 OVF, 5 UNDERRUN, 4 LATE, 3 MISMATCH, 2 RANGE_CHG, 1 STALE, 0 INVALID. -/
  tags : Nat := 0
  /-- The end beat E, once known. -/
  ended : Option Nat := none
  /-- Tags of its result words, which are no marks (09_readout_kernels.md R266). -/
  res : Nat := 0
deriving DecidableEq, Repr

/-- An XY or probe field of a bundle (Table 5.10): entry resolved (R141). -/
structure Chan where
  en : Bool := false
  jmp : Bool := false
  tone : Nat := 0
  entry : Nat := 0
  ofs : Nat := 0
  cond : Nat := 0
  frame : Bool := false
deriving DecidableEq, Repr

/-- One entry of the timed queue (R148, Table 5.10; its 192 bits: Bundle.entry). issue is the beat in which the queue's comparison of
ISSUE with the beat's low 24 bits meets (State.queueBeat). -/
structure Bundle where
  issue : Nat
  /-- The shot that posted it (the entry's SHOT field names it), and the posting order. -/
  shot : Nat := 0
  seq : Nat := 0
  shotEnd : Bool := false
  sync : Bool := false
  grp : Nat := 0
  cslot : Nat := 0
  xy0 : Chan := {}
  xy1 : Chan := {}
  probe : Chan := {}
  /-- FLUX EN, which a field of MASK 0 may set too. -/
  fluxEn : Bool := false
  fluxMask : Nat := 0
  fluxSeg : Nat := 0
  fluxOfs : Nat := 0
  /-- RO EN, which a field of MASK 0 may set too. -/
  roEn : Bool := false
  roMask : Nat := 0
  roOfs : Nat := 0
  frOp : Nat := 0
  frQubit : Nat := 0
  /-- Qubits of a frame operation 5 or 6 that later operations of its beat take from it (R152). -/
  frLost : Nat := 0
  ev : Nat := 0
deriving DecidableEq, Repr

/-- A Crozier and its timed queue: what no register of the page holds. -/
structure Croz where
  /-- The call stack, top first (Table 5.28). -/
  stack : List Nat := []
  /-- Stack depth at handler entry (R164). -/
  hdepth : Nat := 0
  /-- Latched EVIN[0..7] (R163, Table 5.3). -/
  evin : Nat := 0
  /-- Inside a shot in program order (R155). -/
  inShot : Bool := false
  /-- S of the previous shot since the start, and its length (R157). -/
  sPrev : Option Nat := none
  lPrev : Nat := 0
  /-- The earliest beat in which the next word executes (R145). -/
  ready : Nat := 0
  /-- The local counter that counts the beats of the stall or hold in progress: 6 or 7; 0 while there is none (R170). -/
  paused : Nat := 0
  /-- The word at PC has waited or held before it executes (R139); the word a handler interrupted had. -/
  waited : Bool := false
  hwaited : Bool := false
  /-- The timed queue, oldest first. -/
  queue : List Bundle := []
  shots : List Shot := []
  nextUid : Nat := 0
  /-- The next bundle's place in posting order, and jump requests posted but not yet handed to their players. -/
  nextSeq : Nat := 0
  handed : List Jump := []
  /-- Outputs forced by a fault under CLEAR, a tuft abort or a forced stop, until the next start or the next RUN; then from ball beat
  `forcedTo` on they carry the timeline (R165, R39; 02_modes_power_boot.md R56). -/
  forced : Bool := false
  forcedTo : Nat := 0
  /-- The latest beat in which ABORT_AT_SHOT_END acted (06_waveform_store.md R196). -/
  endAt : Option Nat := none
  /-- A halt command reaches the Crozier at this beat, and halts it at its next microword boundary (R162). -/
  haltAt : Option Nat := none
  /-- Beat of the latest commit to parameter registers, and the registers it replaced (R166). -/
  parBeat : Nat := 0
  parMask : Nat := 0
  /-- The latest ALU write of a parameter register: its beat and the register (R166). -/
  aluAt : Option (Nat × Nat) := none
  /-- The latest beat in which frames were cleared, and the qubits (10_sorus_feedback.md R296). -/
  frClr : Nat × Nat := (0, 0)
  /-- SHOT_NUM of the latest shot whose end the commit engine has seen, and STARTS at its SHOT_BEGIN (R158). -/
  lastEnd : Nat := 0
  lastGen : Nat := 0
deriving DecidableEq, Repr

/-- A front-end switch: the ball beat from which the setting holds, the setting, and whether it was forced
(08_readout_front_end.md R237, R238). -/
structure FeSwitch where
  beat : Nat
  range : Nat
  input : Nat
  forced : Bool
  /-- The calibration engine routes the input; the owner's setting is untouched (R250; 15_calibration.md R410). -/
  cal : Bool := false
deriving DecidableEq, Repr

/-- A window of a read-out tone, from its opening to its result (08_readout_front_end.md R244; 09_readout_kernels.md
R257 to R261). -/
structure Win where
  tone : Nat
  /-- Issue beat, first ADC sample, length in decimated samples, and the shot within which its bundle issued. -/
  issue : Nat
  ks : Nat
  len : Nat
  shot : Nat
  num : Nat
  /-- The kernel configuration at the issue beat: CFG, HBASE, SHIFT, CENT[0..3], OUT (R257). -/
  cfg : List Word := []
  /-- Next MACMIN step, the accumulators, and the step at which each first saturated (R259, R260). -/
  n : Nat := 0
  accI : Int := 0
  accQ : Int := 0
  ovfI : Option Nat := none
  ovfQ : Option Nat := none
  /-- An uncorrectable weight read; samples touched an OVR beat, or beats blanked by a forced switch. -/
  bad : Bool := false
  ovr : Bool := false
  rchg : Bool := false
  /-- The marks of its shot, once that shot's item has been written at an owner change (R266, R159). -/
  kept : Nat := 0
deriving DecidableEq, Repr

/-- Demodulation registers in use by a tone: FTW, PHASE and LEN (R246). -/
structure Demod where
  ftw : Nat := 0
  phase : Nat := 0
  len : Nat := 0
deriving DecidableEq, Repr

/-- The read-out front end and kernels of a frond beyond their registers. -/
structure Fe where
  /-- Switches, newest first, as far back as a filter span or a data record reaches. -/
  sws : List FeSwitch := []
  /-- Requested settings, newest first: the ball beat from which each is requested, range and input (R237). -/
  reqs : List (Nat × Nat × Nat) := []
  /-- Ball beats that held overrange samples, newest first, as far back as a data record reaches. -/
  ovr : List Nat := []
  wins : List Win := []
  /-- Windows that have given their results, newest first, as far back as a data record reaches. -/
  past : List Win := []
  /-- Committed changes of the demodulation registers, newest first: tone, apply beat, and the registers from then on; and those before
  the oldest of them, by tone (R246). -/
  toneChg : List (Nat × Nat × Demod) := []
  tones : Tab Demod := []
  /-- End beat of a self-calibration in progress (R250). -/
  calEnd : Nat := 0
  /-- Overrange samples, as far back as a data record reaches: ADC sample, and whether the voltage was above the range (R233). -/
  rails : List (Nat × Bool) := []
  /-- The latest windows of each tone, which set its grid, newest first: tone and first ADC sample (R244). -/
  grids : List (Nat × Nat) := []
  /-- Ball beats of forced switches that have not come yet (R238). -/
  swDue : List Nat := []
deriving DecidableEq, Repr

/-- A beat in which sources of a context were met (11_acquisition_queues.md R305): T, the sources, LATE_MATCH, the first beat after the
capture of a trigger at T, and whether the trigger was taken. -/
structure Met where
  t : Nat
  srcs : Nat
  late : Bool := false
  upto : Nat := 0
  taken : Bool := false
deriving DecidableEq, Repr

/-- A capture context beyond its registers (11_acquisition_queues.md R302 to R315). -/
structure Acq where
  /-- The first ball beat captured since it was enabled. -/
  first : Nat := 0
  /-- Whether the TIME source has nothing to fire for: TMATCH was never written, or it fired for the value written last, which the engine
compares from timeFrom on; the AUTO count began at autoFrom (R303, Table 11.1). -/
  timeDone : Bool := true
  timeFrom : Nat := 0
  autoFrom : Nat := 0
  /-- The beats in which sources were met lately, in order, and the last trigger taken before them: T and the first beat after its
capture (R305, R308). -/
  met : List Met := []
  base : Option (Nat × Nat) := none
  /-- The triggers whose marks are not yet written, in order: T, the sources met, LATE_MATCH (R305, R313). -/
  marks : List (Nat × Nat × Bool) := []
  /-- The gated captures not yet recorded whole, in order: T, the first beat not recorded, and the first beat after the capture (R308). -/
  caps : List (Nat × Nat × Nat) := []
  /-- What the context captures, latest first: the first ball beat, and CTL, FRONDS and TONES as committed for it (R307, R313). -/
  sels : List (Nat × Word × Word × Word) := []
  /-- The fronds that left the context's owner, each with its beat (R307). -/
  gone : List (Nat × Nat) := []
  /-- What the elastic buffer held, in bytes, and in which beat (R311). -/
  buf : Nat × Nat := (0, 0)
  /-- The last beat held, once EN is 0 and the STOP mark is not yet written (R307). -/
  stopAt : Option Nat := none
  /-- T of the last accepted trigger since enabling; first beat after the latest capture (R308). -/
  trigT : Option Nat := none
  capTo : Nat := 0
  /-- First beat after the latest data record, and the record sequence number (R313). -/
  next : Nat := 0
  seq : Nat := 0
  /-- INTEG and RESULT items not yet in a record: beat and words. -/
  items : List (Nat × List (BitVec 64)) := []
  /-- Units lost to GAP: first lost beat and number (R311). -/
  lost : Option (Nat × Nat) := none
  /-- Records not yet copied to the host: first beat, capture-ring byte counter, bytes (R314). -/
  stage : List (Nat × Nat × Nat) := []
  /-- FIRST_LOST of an OVERFLOW mark that waits for the link (R315). -/
  linkMark : Option Nat := none
deriving DecidableEq, Repr

/-- A cell of the event matrix (12_hypha_events.md R331, R333): v in earlier beats, the latest lowest; s, r and the output
in the latest beat; and the beat of its latest reset. -/
structure Cell where
  hist : Nat := 0
  s : Bool := false
  r : Bool := false
  out : Bool := false
  init : Option Nat := none
deriving DecidableEq, Repr

/-- The event matrix beyond its registers (12_hypha_events.md). -/
structure Hypha where
  cells : Tab Cell := []
  /-- Events of sources and channels still to be carried: beat, and source number, 1024 + channel for a software pulse, or
  2048 + channel for a rule (R328, R329). -/
  events : List (Nat × Nat) := []
  /-- Events channels carried in earlier beats that no CHANNEL_EVENT has delivered yet: beat and channel. -/
  carried : List (Nat × Nat) := []
  /-- Channels delivered in the current beat. -/
  delivered : List Nat := []
  /-- Every binding, and those that have a tap: channel and task number (R336). -/
  binds : List (Nat × Nat) := []
  taps : List (Nat × Nat) := []
deriving DecidableEq, Repr

/-- A window monitor (16_housekeeping_analog.md R428 to R431): its comparators, each known once its input has left its
band; the samples, newest lowest; the filtered output; not yet evaluated since it was enabled; and cycles since the latest
sample. -/
structure WinSt where
  hi : Bool := false
  lo : Bool := false
  hiKnown : Bool := false
  loKnown : Bool := false
  hist : Nat := 0
  out : Bool := false
  first : Bool := false
  div : Nat := 0
  /-- The cycles, plus one, in which the latch was last set, and in which it was last cleared (R430). -/
  setAt : Nat := 0
  clrAt : Nat := 0
deriving DecidableEq, Repr

/-- A general timer: prescaler cycles, and period events that no PERIOD command has delivered (R445). -/
structure Tmr where
  presc : Nat := 0
  due : Nat := 0
deriving DecidableEq, Repr

/-- The housekeeping ADC (R439 to R442): conversions still to be discarded in the entry, the post-OVR one among them;
conversions kept and their sum; OVR among them; a post-OVR discard owed to the next entry; an injected request pending; one
held during a calibration; a calibration deferred; and passes of the sequence. -/
structure AdcSt where
  left : Nat := 0
  extra : Bool := false
  n : Nat := 0
  sum : Nat := 0
  ovr : Bool := false
  post : Bool := false
  inj : Bool := false
  held : Bool := false
  calWait : Bool := false
  pass : Nat := 0
deriving DecidableEq, Repr

/-- A thermometry channel (R434, R435): the housekeeping cycle its filter last restarted, and the negative phase. -/
structure Thermo where
  restart : Nat := 0
  neg : Bool := false
deriving DecidableEq, Repr

/-- The housekeeping die beyond its registers (16_housekeeping_analog.md). -/
structure Hk where
  /-- Housekeeping cycles. -/
  now : Nat := 0
  /-- Per strobe wire, the beat after its latest load strobe; strobes on their way: wire (07_drive_outputs.md R217). -/
  fired : Tab Nat := []
  strobes : List Nat := []
  wins : Tab WinSt := []
  tmrs : Tab Tmr := []
  adc : AdcSt := {}
  thermo : Tab Thermo := []
  /-- The level each AMON output drives, as a fraction of REF_BIAS: numerator and denominator (R438). -/
  amon : Tab (Nat × Nat) := []
  /-- Levels that windows saw at HK_AIN inputs: cycle, input and level, newest first (R428). -/
  ain : List (Nat × Nat × Nat) := []
  /-- Parts of a calibration in progress, and the banks of its BIAS part that no staged code has ended; the banks it took at its start;
  the cycles in which it started and in which its ADC part began (R442, R444). -/
  parts : Nat := 0
  banks : Nat := 0
  plan : Nat := 0
  calFrom : Nat := 0
  adcFrom : Nat := 0
deriving DecidableEq, Repr

/-- A PTP time: seconds, nanoseconds and 2^−32 ns (13_time_and_cluster.md R346). -/
structure PtpTime where
  s : Nat := 0
  ns : Nat := 0
  frac : Nat := 0
deriving DecidableEq, Repr

/-- The latest complete Sync of a PTP instance: its t1 with corrections and its t2, both in 2^−16 ns, the step count then, and
whether it has given an offset (13_time_and_cluster.md R347, R357). -/
structure PtpPair where
  t1 : Int
  t2 : Int
  steps : Nat
  used : Bool := false
deriving DecidableEq, Repr

/-- A peer-delay exchange on a port: the request's sequence and t1, the step count then; and, once a two-step Pdelay_Resp has come,
t2 and t4 less its correction. -/
structure PeerReq where
  seq : Nat
  t1 : Int
  steps : Nat
  resp : Option (Int × Int) := none
deriving DecidableEq, Repr

/-- A sender of Announce messages heard on a port: its dataset, the sender last, and the MAC cycles of its latest Announce and of the one
before (13_time_and_cluster.md R356). -/
structure Foreign where
  port : Nat
  ds : List Nat
  last : Nat
  prev : Option Nat := none
deriving DecidableEq, Repr

/-- A PTP instance beyond its registers (13_time_and_cluster.md R352 to R359). Times are in 2^−16 ns. -/
structure PtpInst where
  /-- The senders of Announce messages heard. -/
  foreign : List Foreign := []
  /-- By port: the MAC cycle in which the wait for an Announce began anew; the MAC cycle of the latest offset, or in which the wait for one
  began; and those in which messages were last sent, by 16 × port + message type (R352, R356, R358). -/
  heard : Tab Nat := []
  lastOff : Nat := 0
  sentAt : Tab Nat := []
  /-- The selected master: its dataset in comparison order, the sender last, and the port it is heard on. -/
  master : Option (List Nat × Nat) := none
  /-- Consecutive offsets below the lock threshold. -/
  good : Nat := 0
  /-- A two-step Sync that waits for its Follow_Up: sequence, ingress time, correction, step count. -/
  sync : Option (Nat × Int × Int × Nat) := none
  pair : Option PtpPair := none
  /-- A Delay_Req sent: sequence, t3, step count; Pdelay_Req sent, by port. -/
  dreq : Option (Nat × Int × Nat) := none
  preq : Tab PeerReq := []
  /-- The delay measured, by port. -/
  delays : Tab Int := []
  /-- Sequence numbers, by 16 × port + message type. -/
  seqs : Tab Nat := []
deriving DecidableEq, Repr

/-- Pages of a commit that have not swapped yet: group, A, the beat of their domain's first edge, or none where they wait for that
domain's beat count, the pages, and the committed values by address (01_architecture.md R34; 04_commit_groups.md R121). -/
structure HeldPages where
  g : Nat
  a : Nat
  due : Option Nat := none
  pages : List Pg
  entries : Tab Word
deriving DecidableEq, Repr

/-- PTP time, its mapping and the cluster's timing beyond their registers (13_time_and_cluster.md). -/
structure TimeSt where
  /-- The other domains lack the beat count since this beat, the first after a relock; and the pages that wait for it (01_architecture.md
  R34). -/
  resync : Option Nat := none
  held : List HeldPages := []
  /-- The MAC cycle the clock stands at, and the clock. -/
  mac : Nat := 0
  ptp : PtpTime := {}
  /-- Commanded or servo steps so far, and the MAC cycle of the latest commanded one. -/
  steps : Nat := 0
  cmdStep : Option Nat := none
  /-- The latest servo step: its MAC cycle, the clock and ACC before it, and SERVO.LCNT[1], CLOCK.LCNT[0] and FLAGS.STEPPED as they were: a
  commanded step of the same cycle discards it (R347). -/
  svStep : Option (Nat × PtpTime × Nat × Word × Word × Bool) := none
  /-- Mapping pairs, newest first: beat, and PTP time in 2^−32 ns (R350); the rate before the latest clear, per 4,096
  beats; and the beat of that clear. -/
  pairs : List (Nat × Nat) := []
  rate : Option Int := none
  clearedAt : Option Nat := none
  /-- An alarm that was already past when it was enabled or stepped over (R349). -/
  late0 : Bool := false
  late1 : Bool := false
  insts : Tab PtpInst := []
  /-- Updates left before the servo may step again (R359), and the instance that steers. -/
  hold : Nat := 0
  active : Nat := 0
  /-- SERVO.CTRL.SEL as it stood: values and the beats they hold from, newest first (R351); the MAC cycle of the latest write. -/
  sels : List (Nat × Nat) := []
  selMac : Option Nat := none
  /-- Cluster: exchange in progress (SEQ, τ1 in fine units); the first θ measured, the sums of d and of θ less the first, and
  their number; d as averaged; the latest θ values, newest first; updates beyond 102 units in a row; START_HI received
  (B[63:32], DEPTH); a load due at a beat with its number, none for the root's PTP time; and the beats of JOIN and HOLDOVER. -/
  req : Option (Nat × Nat) := none
  seq : Nat := 0
  /-- The beats of the latest SYNC_REQ (R362, R365) and of the rotator's latest step (R361). -/
  sent : Option Nat := none
  rotAt : Option Nat := none
  /-- The reference of θ; the sums of d and θ over the n exchanges of a measurement, and the average d of the last; the latest values of θ, and
  the exchanges in a row out of tolerance (R360 to R362, R365). -/
  ref : Int := 0
  sumD : Int := 0
  sumT : Int := 0
  n : Nat := 0
  dAvg : Int := 0
  recent : List Int := []
  bad : Nat := 0
  /-- A START half received; a load of the beat counter that waits for its beat; the DEPTH it brings; and the beats in which the device joined, and
  entered HOLDOVER (R362, R365). -/
  startHi : Option (Nat × Nat) := none
  load : Option (Nat × Option Nat) := none
  newDepth : Nat := 0
  joinAt : Nat := 0
  holdAt : Nat := 0
  /-- Ports on which a child has sent SYNC_REQ; the SEQ of the latest PINGs. -/
  kids : Nat := 0
  pingSeq : Nat := 0
  /-- Sequence number of PING, ABORT and broadcasts seen: source, type, sequence, beat (14_serial_links.md R383). -/
  bcSeq : Nat := 0
  seen : List (Nat × Nat × Nat × Nat) := []
  /-- Members whose PONG is awaited (R367). -/
  wait : Nat := 0
deriving DecidableEq, Repr

/-- An item of a result queue (11_acquisition_queues.md R317, R321): its first word, length, words arrived, and whether
a flush has discarded it. -/
structure QItem where
  start : Nat
  len : Nat
  got : Nat
  /-- A flush discarded it; the first that did so belonged to an owner change, which leaves no flag (R321). -/
  disc : Bool := false
  quiet : Bool := false
deriving DecidableEq, Repr

/-- A result queue beyond its registers. The word pointers count on without bound; only differences are visible. -/
structure Queue where
  rel : Nat := 0
  rd : Nat := 0
  vis : Nat := 0
  alloc : Nat := 0
  /-- Items not released, oldest first. -/
  items : List QItem := []
  mark : Option Nat := none
  /-- Per-requester data latches (R318). -/
  latch : Tab (BitVec 64) := []
  /-- The HEAD read that waits, with the beat it began; and the accesses of the page that wait behind it, in order: requester, address,
  and the value of a write (R78, R318). -/
  waits : List (Path × Nat) := []
  behind : List (Path × Nat × Option Word) := []
  /-- The timer: the beat it last restarted, while RD differs from VIS and it has not fired (R320). -/
  timer : Option Nat := none
  /-- Sequence number of drained items. -/
  seq : Nat := 0
deriving DecidableEq, Repr

/-- An item on its way to its queue (R317, R517): the words still to arrive; none before the first word has arrived,
else where the item landed, if anywhere. -/
structure Transit where
  q : Nat
  words : List (BitVec 64)
  len : Nat
  placed : Option (Option Nat) := none
deriving DecidableEq, Repr

/-- A commit group beyond its CGRP registers (04_commit_groups.md). -/
structure Group where
  /-- The pages bound to the group (R106). -/
  bound : List Pg := []
  /-- The ready beat R (R111). -/
  ready : Option Nat := none
  /-- The decision beat D and the apply beat A, once fixed (R116). -/
  dec : Option Nat := none
  app : Option Nat := none
  /-- An acting SYNC has fixed S (R118). -/
  synced : Bool := false
  /-- The group has reached the apply stage (R111). -/
  isReady : Bool := false
  /-- Fronds whose CROZIER.OWNER the armed group writes (R109). -/
  protects : Nat := 0
  /-- Images referenced: address and length (R114). -/
  images : List (Nat × Nat) := []
  /-- OK votes held, with matching T, as the coordinator; the coordinator has decided (R129). -/
  votes : Nat := 0
  sentOut : Bool := false
  /-- DECIDE copies received: none, COMMIT or ABORT (R129). -/
  decided : Option Bool := none
  /-- As the coordinator: copies of DECIDE sent, and whether it decided COMMIT (R129). -/
  copies : Nat := 0
  decOk : Bool := false
  /-- The beat in which an ABORT command reaches the apply stage (R120). -/
  abortAt : Option Nat := none
  /-- It has voted (R129). -/
  voteSent : Bool := false
  /-- The main clock was lost after it had voted (01_architecture.md R34). -/
  lost : Bool := false
  /-- T of an armed CLUSTER group that has aborted; it still owes the protocol its vote and decision (R129). -/
  gone : Option Nat := none
  /-- The first of its images whose reading met a GDDR7 error that persisted (14_serial_links.md R392). -/
  badRead : Option Nat := none
  /-- A SHOT group between shots that waits with the Croziers while the stretch factor is 8 or more (17_thermal_and_counters.md R463). -/
  stretch : Bool := false
deriving DecidableEq, Repr

/-- A distributed commit the device took part in: TXID, owner of its group, and the beat T
(04_commit_groups.md R129 to R131). -/
structure Tx where
  txid : Nat
  owner : Nat
  t : Nat
deriving DecidableEq, Repr

/-- Modes, start-up and the boot log beyond the MODE, BOOT and POWER registers (02_modes_power_boot.md). -/
structure Boot where
  /-- The transition in progress: its target mode; 6 stands for a warm reset (R50). -/
  target : Option Nat := none
  /-- STOP_TIMEOUT expires at this beat (R56). -/
  stopAt : Option Nat := none
  /-- HOLD was entered from BOOT (R54); the beat HOLD was entered in, where the beat counter ran (R55); the beat of entry has not
  passed (R53). -/
  fromBoot : Bool := false
  holdAt : Option Nat := none
  holdNow : Bool := false
  /-- A supply or pin reset has happened whose power-on reset has not come yet (R47). -/
  por : Bool := true
  /-- Always-on cycles since entry to BOOT at which the step in progress started; it runs its alternative by force (R66, R72). -/
  started : Nat := 0
  forced : Bool := false
  /-- Units the image expects: Ndeor ports, and Ethernet ports from bit 4 on (R67, Table 18.5); the always-on cycle of the latest
  step's end (R71). -/
  expect : Nat := 0
  now : Nat := 0
  /-- The beat in which that always-on cycle was named. -/
  nowBeat : Nat := 0
  /-- Fenced units (R67). -/
  fencedSlices : Nat := 0
  fencedPcie : Bool := false
  fencedNdeor : Nat := 0
  fencedEth : Nat := 0
  /-- The step in progress runs its alternative; the primary's failure cause (R67, R71). -/
  alt : Bool := false
  primary : Nat := 0
  primaryDetail : Nat := 0
  /-- Fronds that the stop from RUN forced to CLEAR_CODE, until the next RUN (R56). -/
  stopped : Nat := 0
  /-- A unit was fenced in this boot (R67). -/
  degraded : Bool := false
  /-- Domain switches the power sequencer has still to make, in order: domain, on or off, and the beat; and the beat of the latest (R61). -/
  sw : List (Nat × Bool × Nat) := []
  swAt : Option Nat := none
  /-- Boot sequence number of the log (Table 2.6). -/
  seq : Nat := 0
  /-- The 64 log records, word k of record r at 4r + k (R71). -/
  log : Tab Word := []
  /-- The SRAM copy's CRC holds (R73). -/
  logValid : Bool := true
  /-- The flash mirror: records, HEAD, SEQ and failure counters (R73). -/
  mirror : Tab Word := []
  mirrorHead : Nat := 0
  mirrorSeq : Nat := 0
  mirrorCnt : Word := 0
  /-- WAKE_COUNT of the boot log (R55). -/
  wakeCount : Nat := 0
deriving DecidableEq, Repr

/-- The security island beyond the SEC, TUFT and DEBUG registers (18_tufts_and_security.md). -/
structure Sec where
  /-- The warden key as burnt, X then Y big-endian; empty before PROVISION and after RETURN (R487). -/
  wardenKey : List Byte := []
  /-- Times OP 4 has raised ROLLBACK.FLOOR (R487). -/
  raises : Nat := 0
  /-- Debug unlocks since boot (Table 18.6). -/
  unlocks : Nat := 0
  /-- RETURN has destroyed the device key (R487). -/
  devGone : Bool := false
  /-- The lifecycle operation whose fuses are being burnt, and the key it burns (R487). -/
  lc : Option (Nat × List Byte) := none
  /-- Digest of the boot image in use (Table 18.6). -/
  imgDigest : List Byte := []
  /-- SPDM: 0 nothing negotiated, 1 version, 2 capabilities, 3 algorithms; the session opened, and whether it is established
  (R486). -/
  stage : Nat := 0
  session : Option Nat := none
  secure : Bool := false
deriving DecidableEq, Repr

/-- A value of the calibration engine: the value, its source as REC.INFO.SRC codes it, and the temperature when its estimate
ended (15_calibration.md R407, R419). -/
structure CalVal where
  value : Nat
  src : Nat
  temp : Nat
  /-- The beat its estimate ended, and the temperature band of a trim (R416, R419). -/
  at_ : Nat := 0
  band : Nat := 0
deriving DecidableEq, Repr

/-- A claimed quiet slot: its first and last ball beat and the DAC unit it measures (15_calibration.md R410, R411). -/
structure CalSlot where
  b : Nat
  e : Nat
  unit : Nat
  /-- It is over, and its measured beats are gathered (R409, R412). -/
  done : Bool := false
deriving DecidableEq, Repr

/-- A calibration run of a frond: its ADC part and DAC part still to do, the beat it started, and a rejection in it
(15_calibration.md R404 to R407). -/
structure CalRun where
  adc : Bool
  dac : Bool
  start : Nat
  rejected : Bool := false
  /-- It is a full calibration. -/
  full : Bool := false
deriving DecidableEq, Repr

/-- The calibration engine beyond its registers (15_calibration.md). A quantity's key is 32 times the address of its register
plus its lowest bit. -/
structure Cal where
  /-- Values in effect of CALF registers whose committed values wait, by address (R415). -/
  eff : Tab Word := []
  /-- Accepted values not yet committed, and those group 63 carries (R414). -/
  pend : Tab CalVal := []
  carry : Tab CalVal := []
  /-- Trim sets: band × 2^32 + key of a quantity (R416); the band whose ADC timing margin is in effect for a frond (R460). -/
  sets : Tab CalVal := []
  margin : Tab Nat := []
  /-- The field bank: generation × 2^26 + address, and the generations that verified (R401, R402). -/
  burnt : Tab Word := []
  good : Nat := 0
  /-- The owner group 63 served last; 16 for the warden's fronds (R414). -/
  last : Nat := 16
  runs : Tab CalRun := []
  /-- The burn or revocation under way: generation, and whether it is a revocation (R402, R403). -/
  burn : Option (Nat × Bool) := none
  /-- Per DUE frond, the beat it became so plus one, and the B quantities resolved since (R413). -/
  due : Tab Nat := []
  done : Tab (List Nat) := []
  /-- Per frond, the claimed slots, newest first; the beat whose bundle declared a slot; and, per frond and DAC unit (16 f + u), the
  measured beats gathered (R409 to R411). -/
  slots : Tab (List CalSlot) := []
  decl : Tab Nat := []
  meas : Tab Nat := []
  /-- The first estimate of a pair that waits for its second: the estimate and the beat it began (R407, R413). -/
  est : Tab (Int × Nat) := []
  /-- Fronds that passed a full calibration in the present stay in SERVICE without a rejection (R420). -/
  svc : Nat := 0
deriving DecidableEq, Repr

/-- The thermal logic beyond its registers (17_thermal_and_counters.md): the model runs; diodes marked BROKEN whose next reading
has not come (R456); and consecutive evaluations at or above the shutdown threshold (Table 17.2). -/
structure Therm where
  running : Bool := false
  late : Nat := 0
  hot : Nat := 0
  /-- The stretch factor the beat domain held before beat fAt; from then on it holds THROT.F (R462). -/
  fAt : Nat := 0
  fOld : Nat := 0
deriving DecidableEq, Repr

/-- The Ndeor link beyond its registers (14_serial_links.md R381 to R390): bulk words that wait to be sent, with their destinations,
oldest first; words received and unread, with the port each came on; credits of each port; per lane, frames passed in a row, and
failed in a row. -/
structure Link where
  /-- Bulk words that wait to leave: destination, word; words received and unread: port, word; and credits by port (R382). -/
  out : List (Nat × BitVec 64) := []
  inbox : List (Nat × BitVec 64) := []
  credits : Tab Nat := []
  /-- Bulk words for other devices that wait for a credit of their port: the port they came on, destination, word (R382, R383). -/
  fwd : List (Nat × Nat × BitVec 64) := []
  /-- By port, in EXCHANGE: whether a TRAIN flit of the peer was seen, and the frames with ACK received (R385). -/
  seen : Tab Nat := []
  acks : Tab Nat := []
  /-- By lane: consecutive frames that passed their CRC, and that failed it (R381, R386, R387). -/
  good : Tab Nat := []
  fails : Tab Nat := []
deriving DecidableEq, Repr

/-- What the host has set in the PCIe endpoint beyond the registers of its page: Enable Relaxed Ordering; the MSI-X vectors that are masked, and
those of them whose pending bit is set: function, vector (14_serial_links.md R374, R375). -/
structure Pcie where
  relaxed : Bool := true
  masked : List (Nat × Nat) := []
  pend : List (Nat × Nat) := []
deriving DecidableEq, Repr

/-- The state of the block. -/
structure State where
  /-- Device time in beats (01_architecture.md R28). -/
  beat : Nat := 0
  /-- Every register, by BAR0 address; an unlisted one holds its reset value. -/
  regs : Tab Word := []
  /-- Pending values of RW-C fields, by BAR0 address (03_register_pages.md R93, 04_commit_groups.md R106). -/
  shadow : Tab Word := []
  /-- Per-requester HI latches, keyed by path × 2^26 + address; the shadow view's lie 2^25 higher (R94, R96). -/
  hiLatch : Tab Word := []
  /-- Per-requester LO staging latches, keyed alike (R97). -/
  loStage : Tab (Option Word) := []
  /-- The violation log's ring, word k of entry h at 4h + k (18_tufts_and_security.md R482). -/
  violog : Tab Word := []
  /-- Commit groups. -/
  groups : Tab Group := []
  /-- Shot boundaries by tuft: the number of the latest boundary's shot and its beat (R124). -/
  bounds : Tab (Nat × Nat) := []
  /-- The latest distributed commits, newest first, and owner and T of those that split while COMMIT.FLAGS.CLUSTER_SPLIT
  stands (R131). -/
  txs : List Tx := []
  splits : List (Nat × Nat) := []
  boot : Boot := {}
  /-- Croziers by frond. -/
  croz : Tab Croz := []
  /-- Control stores: bank × 8192 + address of frond f at f × 16384 + that (05_crozier_sequencer.md R167). -/
  cs : Tab (BitVec 192) := []
  /-- Segment players: channel c of frond f at 64 f + c; c is 8 x + t for XY[x] tone t, 16 + t for probe tone t and
  32 + n for FLUX[n]. -/
  players : Tab Player := []
  /-- Flux chains, channel n of frond f at 8 f + n. -/
  chains : Tab FluxChain := []
  pins : Pins := {}
  /-- Rings, ring r of frond f at 8 f + r. -/
  rings : Tab Ring := []
  /-- Descriptor tables, list tables and sample SRAMs: bank × size + index of frond f, f × twice the size higher
  (06_waveform_store.md R171). -/
  descs : Tab (BitVec 64) := []
  lists : Tab (BitVec 128) := []
  sram : Tab Word := []
  sec : Sec := {}
  /-- GDDR7 by byte address (14_serial_links.md R392); unwritten bytes read 0 (log entry 9). -/
  gddr : Tab Byte := []
  /-- Front ends by frond, and the weight memories: word w of tone t of frond f at (16 f + t) × 32768 + w
  (09_readout_kernels.md R255). -/
  fes : Tab Fe := []
  wmem : Tab (BitVec 40) := []
  /-- Records on the decision bus (R275). -/
  bus : List BusRec := []
  sorus : Sorus := {}
  /-- Condition slots, slot k of frond f at 16 f + k (10_sorus_feedback.md R285). -/
  slots : Tab Slot := []
  /-- Capture contexts. -/
  acqs : Tab Acq := []
  /-- Result queues, their memories (word w of queue q at 65536 q + w) and the items on their way. -/
  queues : Tab Queue := []
  qmem : Tab (BitVec 64) := []
  transit : List Transit := []
  /-- The event matrix. -/
  hypha : Hypha := {}
  /-- The housekeeping die. -/
  hk : Hk := {}
  time : TimeSt := {}
  cal : Cal := {}
  therm : Therm := {}
  link : Link := {}
  /-- The PCIe endpoint beyond its registers (14_serial_links.md R374, R375; log entry 47). -/
  pcie : Pcie := {}
  /-- Flits that wait for a port to leave electrical idle: port, MODE, DST, CLASS, payload (14_serial_links.md R389). -/
  tx : List (Nat × Nat × Nat × Nat × BitVec 64) := []
  /-- The beat's own events are under way; and the FLAGS bits they have set in the current beat: address and bits (00_scope.md R11). -/
  ticking : Bool := false
  flagNow : List (Nat × Nat) := []
  /-- Triggers on their way to the beat in which they are met: T, source 6 or 8, and 4 × frond + EV bit or the context
  (11_acquisition_queues.md Table 11.1). -/
  trigs : List (Nat × Nat × Nat) := []
  /-- The model's own counter of free values (log entry 5). -/
  fresh : Nat := 0
  /-- What has left the device, newest first (log entry 2). -/
  outbox : List Output := []
  /-- Commands waiting, first in first out. -/
  pending : List Instr := []
deriving DecidableEq, Repr

/-- The machine right after a supply reset: DORMANT, every register at its reset value, every memory and queue
empty (02_modes_power_boot.md Table 2.4). -/
def State.reset : State := {}

end Sys2Proof.Machine
end

