-- ==== Sys2Proof/Machine/Ops.lean ====
section
/-! DEFINITION. Ops: the named operations over the registers, the beat counter and the messages that leave the
device. Every chapter's meanings are written over these. -/
namespace Sys2Proof.Machine

/-- The register at a BAR0 address (03_register_pages.md R78). -/
def State.rdA (s : State) (a : Nat) : Word := Tab.get (regReset a) s.regs a

/-- Write the register at a BAR0 address. -/
def State.wrA (s : State) (a : Nat) (v : Word) : State := { s with regs := Tab.set (regReset a) s.regs a v }

/-- The register at an offset of a page. -/
def State.rd (s : State) (p : Pg) (off : Nat) : Word := s.rdA (p.reg off)

/-- Write the register at an offset of a page. -/
def State.wr (s : State) (p : Pg) (off : Nat) (v : Word) : State := s.wrA (p.reg off) v

/-- The unsigned value of a field of a register. -/
def State.rdF (s : State) (p : Pg) (off hi lo : Nat) : Nat := fld (s.rd p off) hi lo

/-- Write a field of a register. -/
def State.wrF (s : State) (p : Pg) (off hi lo v : Nat) : State := s.wr p off (setFld (s.rd p off) hi lo v)

/-- A bit of a register. -/
def State.rdB (s : State) (p : Pg) (off i : Nat) : Bool := bit (s.rd p off) i

/-- Write a bit of a register. -/
def State.wrB (s : State) (p : Pg) (off i : Nat) (b : Bool) : State := s.wrF p off i i (if b then 1 else 0)

/-- A 64-bit LO/HI pair (R95). -/
def State.rd64 (s : State) (p : Pg) (off : Nat) : Nat :=
  (s.rd p off).toNat + 2 ^ 32 * (s.rd p (off + 4)).toNat

/-- The beat a 64-bit beat count names, seen from the current beat: the one less than 2^63 beats away, by signed difference; one before
beat 0 is past in any case (13_time_and_cluster.md R348). -/
def State.absBeat (s : State) (t : Nat) : Nat :=
  let d := (t + 2 ^ 64 - s.beat % 2 ^ 64) % 2 ^ 64
  if d < 2 ^ 63 then s.beat + d else s.beat + d - 2 ^ 64

/-- Write a 64-bit pair (R95). -/
def State.wr64 (s : State) (p : Pg) (off v : Nat) : State :=
  (s.wr p off (BitVec.ofNat 32 v)).wr p (off + 4) (BitVec.ofNat 32 (v / 2 ^ 32))

/-- Return every register of a page at offsets in [lo, hi) to its reset value. -/
def State.resetRange (s : State) (p : Pg) (lo hi : Nat) : State :=
  { s with regs := s.regs.filter (fun e => decide (e.1 < p.reg lo ∨ p.reg hi ≤ e.1)) }

/-- Whether the beat counter runs: the main PLL chain is locked (01_architecture.md R28, R34). -/
def State.clockOn (s : State) : Bool := s.rdB pTimeline 0x108 1

/-- A message leaves the device (log entry 2). -/
def State.emit (s : State) (o : Output) : State := { s with outbox := o :: s.outbox }

/-- Draw the next free value (log entry 5). -/
def State.draw (s : State) : BitVec 64 × State := (Config.freeWord s.fresh, { s with fresh := s.fresh + 1 })

/-- Change the calibration engine. -/
def State.mapCal (s : State) (g : Cal → Cal) : State := { s with cal := g s.cal }

/-- A quotient that is exact, or one of the two whole numbers beside it: which, the spec leaves open (log entry 25). -/
def quot (site : Nat) (v : Int) (n : Nat) : Int :=
  v / n + (if v % n ≠ 0 ∧ Config.roundUp site v = true then 1 else 0)

/-- The value a register had in ball beat b, where a later one has taken its place since or waits for its ball beat (07_drive_outputs.md
R214). -/
def State.wasAt (s : State) (a b : Nat) : Option Word :=
  ((s.pins.hist.filter (fun (e : Nat × Nat × Word) => e.2.1 == a && decide (b < e.1))).getLast?).map (fun e => e.2.2)

/-- A register as it acts in ball beat b. -/
def State.rdBall (s : State) (p : Pg) (off b : Nat) : Word := (s.wasAt (p.reg off) b).getD (s.rd p off)

/-- A register at an address acts with a new value from ball beat b on; v is the value before. -/
def State.keepBall (s : State) (b a : Nat) (v : Word) : State :=
  { s with pins := { s.pins with hist := (b, a, v) :: s.pins.hist.filter (fun (e : Nat × Nat × Word) => decide (s.beat < e.1 + 4200)) } }

/-- The value in effect of a trim register: the old one while a committed value waits (15_calibration.md R415). -/
def State.trim (s : State) (p : Pg) (off : Nat) : Word := (Tab.find? s.cal.eff (p.reg off)).getD (s.rd p off)

/-- The current mode (02_modes_power_boot.md Table 2.1). -/
def State.mode (s : State) : Nat := s.rdF pMode 0x100 2 0

/-- Whether a power domain is on (Tables 2.3, 2.20); the always-on domain is never switched. -/
def State.domOn (s : State) (d : Nat) : Bool := d == 0 || s.rdB pPower 0x100 d

/-- Domains of slice k, in the order they switch on (R61, Table 2.3). -/
def sliceDoms (k : Nat) : List Nat := [10 + 4 * k, 11 + 4 * k, 12 + 4 * k, 13 + 4 * k]

/-- Slice k is gated: a gate bit of any of its four domains has taken effect (R62; DESIGN CHOICE, log entry 44: the spec does not say
that one domain alone gates the slice). -/
def State.sliceGated (s : State) (k : Nat) : Bool := (sliceDoms k).any (fun d => s.rdB pPower 0x104 d && !s.domOn d)

/-- Whether debug is unlocked (18_tufts_and_security.md R488). -/
def State.unlocked (s : State) : Bool := s.rdF pSec 0x100 1 0 != 2 || s.rdB pDebug 0x10 16

/-- The owner of a page: a tuft, or 0x1F for the warden (03_register_pages.md Table 3.8). -/
def State.owner (s : State) (p : Pg) : Nat := s.rdF p 0x08 4 0

/-- The virtual function of a tuft, or 0 where it has none (18_tufts_and_security.md Table 18.11). -/
def State.tuftVf (s : State) (t : Nat) : Nat :=
  if s.rdB (pTuft t) 0x100 31 then s.rdF (pTuft t) 0x100 4 0 else 0

/-- Whether a tuft exists (R470). -/
def State.tuftOn (s : State) (t : Nat) : Bool := decide (t < 16) && s.rdB (pTuft t) 0x100 31

/-- Add k to a local counter, unless the page's counters are frozen (03_register_pages.md R88, CTRL.CNT_FREEZE). -/
def State.bump (s : State) (p : Pg) (n k : Nat) : State :=
  if s.rdB p 0x0C 1 then s else s.wr p (0x40 + 4 * n) (satInc (s.rd p (0x40 + 4 * n)) k)

/-- Record a refused or failed access or request in a page (R85, Tables 3.12, 3.13). -/
def State.recErr (s : State) (p : Pg) (code off : Nat) : State :=
  let s1 := s.wr p 0x20 (BitVec.ofNat 32 (off / 4 % 1024 * 2 ^ 16 + code))
  if s.rdB p 0x0C 1 then s1 else s1.wr p 0x24 (satInc (s.rd p 0x24) 1)

end Sys2Proof.Machine
end

