-- ==== Sys2Proof/Machine/Flags.lean ====
section
/-! DEFINITION. Flags: setting FLAGS bits and the page interrupt (03_register_pages.md R98, R99;
14_serial_links.md R374). -/
namespace Sys2Proof.Machine

/-- The pending value of a page: FLAGS AND FLAGS_EN (R99). -/
def State.pendingIrq (s : State) (p : Pg) : Word := s.rd p 0x14 &&& s.rd p 0x18

/-- The function a page's interrupt goes to: 0 for warden-owned pages, else the tuft's virtual function; none where
the tuft has no virtual function (R99; DEDUCED, log entry 7). -/
def State.irqFunc (s : State) (p : Pg) : Option Nat :=
  if s.owner p = 0x1F then some 0
  else if s.tuftVf (s.owner p) = 0 then none else some (s.tuftVf (s.owner p))

/-- Number of MSI-X vectors of a function (R374). -/
def msixVectors (fn : Nat) : Nat := if fn = 0 then 256 else 64

/-- A function's MSI-X vector fires: a message, or the vector's pending bit while it is masked (R374). -/
def State.msix (s : State) (fn v : Nat) : State :=
  if s.pcie.masked.contains (fn, v) then { s with pcie := { s.pcie with pend := (fn, v) :: s.pcie.pend.filter (fun x => x != (fn, v)) } }
  else s.emit (.msix fn v)

/-- Send the page interrupt: one MSI-X message to CTRL.IRQ_VEC of the owner's function, or a count in
PCIE.LCNT[0] where the vector lies past the table (R99, R374). -/
def State.sendIrq (s : State) (p : Pg) : State :=
  match s.irqFunc p with
  | none => s
  | some fn =>
    let v := s.rdF p 0x0C 15 8
    if v < msixVectors fn then s.msix fn v else s.bump pPcie 0 1

/-- What a beat itself sets is remembered for that beat (00_scope.md R11). -/
def State.noteSet (s : State) (p : Pg) (m : Nat) : State :=
  if s.ticking then { s with flagNow := (p.reg 0x14, m) :: s.flagNow } else s

/-- Hardware sets FLAGS bits; the interrupt is sent when the pending value changes from zero to non-zero (R99). -/
def State.raise (s0 : State) (p : Pg) (m : Nat) : State :=
  let s := s0.noteSet p m
  let s1 := s.wr p 0x14 (s.rd p 0x14 ||| (BitVec.ofNat 32 m &&& BitVec.ofNat 32 p.kind.flagMask))
  if s.pendingIrq p = 0 && s1.pendingIrq p != 0 then s1.sendIrq p else s1

/-- Hardware sets one FLAGS bit. -/
def State.flag (s : State) (p : Pg) (i : Nat) : State := s.raise p (2 ^ i)

/-- The owner a source of Table 17.3 belongs to (17_thermal_and_counters.md R466): none where any owner may count it. -/
def State.srcOwner (s : State) (src chan : Nat) : Option Nat :=
  if src < 0x201 then some (s.owner (pCrozier ((src - 1) / 16)))
  else if src < 0x241 then some (s.owner (pQueue (src - 0x201)))
  else if src < 0x251 then some (s.owner (pAcq (src - 0x241)))
  else if src = 0x251 then some (s.owner (pHchan (chan / 64)))
  else if src = 0x252 then none
  else some 0x1F

/-- Offset of register w of counter i of a CNT page (Table 17.6). -/
def cntReg (i w : Nat) : Nat := 0x200 + 0x20 * i + 4 * w

/-- Counter i of CNT[p] adds k occurrences of a source; it saturates at 2^48 − 1, and counts nothing that does not belong
to its page's owner (R464, R466). -/
def State.cntAdd (s : State) (p i src chan k : Nat) : State :=
  if (match s.srcOwner src chan with | some o => o != s.owner (pCnt p) | none => false) then s.flag (pCnt p) 16
  else
    let v := s.rd64 (pCnt p) (cntReg i 1) + k
    let s1 := s.wr64 (pCnt p) (cntReg i 1) (min v (2 ^ 48 - 1))
    if 2 ^ 48 - 1 ≤ v then s1.flag (pCnt p) i else s1

/-- The enabled event counters: page, counter, SRC and CHAN (Table 17.6). -/
def State.cntList (s : State) : List (Nat × Nat × Nat × Nat) :=
  s.regs.filterMap (fun (e : Nat × Word) =>
    if 0xB02000 ≤ e.1 ∧ e.1 < 0xB12000 ∧ 0x200 ≤ e.1 % 0x1000 ∧ e.1 % 0x20 = 0 ∧ bit e.2 31 then
      some (e.1 / 0x1000 - 0xB02, (e.1 % 0x1000 - 0x200) / 0x20, fld e.2 9 0, fld e.2 25 16) else none)

/-- k occurrences of a source of Table 17.3 reach the event counters (R464). -/
def State.occur (s : State) (src k : Nat) : State :=
  if k = 0 then s
  else s.cntList.foldl (fun a (x : Nat × Nat × Nat × Nat) => if x.2.2.1 = src then a.cntAdd x.1 x.2.1 src x.2.2.2 k else a) s

/-- Event e of a frond as a counter source (Table 17.3). -/
def frondSrc (f e : Nat) : Nat := 1 + 16 * f + e

/-- The counter source whose occurrences a local counter also counts (Table 17.3). -/
def srcOf (p : Pg) (n : Nat) : Option Nat :=
  match p.kind, n with
  | .crozier, 1 => some (frondSrc p.i 2)
  | .crozier, 2 => some (frondSrc p.i 3)
  | .crozier, 3 => some (frondSrc p.i 11)
  | .crozier, 4 => some (frondSrc p.i 10)
  | .crozier, 5 => some (frondSrc p.i 4)
  | .crozier, 6 => some (frondSrc p.i 14)
  | .crozier, 7 => some (frondSrc p.i 15)
  | .crozier, 8 => some (frondSrc p.i 1)
  | .readout, 3 => some (frondSrc p.i 7)
  | .kernel, 12 => some (frondSrc p.i 6)
  | .waveform, 3 => some (frondSrc p.i 8)
  | .queue, 0 => some (0x201 + p.i)
  | .acq, 0 => some (0x241 + p.i)
  | _, _ => none

/-- Count k events in a local counter (03_register_pages.md R88), and in the event counters that count the same events. -/
def State.count (s : State) (p : Pg) (n k : Nat) : State :=
  match srcOf p n with
  | some src => (s.bump p n k).occur src k
  | none => s.bump p n k

/-- The interrupt rule after any write to FLAGS, FLAGS_EN or FLAGS_SET: sent where the pending value is left
non-zero (R99). -/
def State.irqAfterWrite (s : State) (p : Pg) : State := if s.pendingIrq p != 0 then s.sendIrq p else s

/-- The FLAGS bits of a page that the current beat itself has set. -/
def State.setNow (s : State) (p : Pg) : Nat :=
  s.flagNow.foldl (fun m (e : Nat × Nat) => if e.1 = p.reg 0x14 then m ||| e.2 else m) 0

/-- A W1C write to FLAGS: a bit that the beat of the write sets stays 1 (Table 0.4, R99; 00_scope.md R11). -/
def State.flagsClear (s : State) (p : Pg) (v : Word) : State :=
  (s.wr p 0x14 (s.rd p 0x14 &&& ~~~(v &&& ~~~(BitVec.ofNat 32 (s.setNow p))))).irqAfterWrite p

/-- A write to FLAGS_SET: bits are set as though hardware had set them (R99). -/
def State.flagsSet (s : State) (p : Pg) (v : Word) : State :=
  (s.wr p 0x14 (s.rd p 0x14 ||| (v &&& BitVec.ofNat 32 p.kind.flagMask))).irqAfterWrite p

/-- A write to FLAGS_EN; bits of reserved flags read 0 (Table 3.11, R99). -/
def State.flagsEn (s : State) (p : Pg) (v : Word) : State :=
  (s.wr p 0x18 (v &&& BitVec.ofNat 32 p.kind.flagMask)).irqAfterWrite p

/-- Clear LCNT[0..47] and ERR_COUNT of a page in one cycle (Table 3.9). -/
def State.cntClr (s : State) (p : Pg) : State := (s.resetRange p 0x40 0x100).wr p 0x24 0

end Sys2Proof.Machine
end

