-- ==== Sys2Proof/Machine/Operands.lean ====
section
/-! DEFINITION. Operands: what a requester's address reaches: the identity of the requester (03_register_pages.md
R89), the decision of the register interconnect (R90, Table 3.18), unmapped addresses (R79), the violation log
(18_tufts_and_security.md R482), and the admission of a write to a page (R84, R87, R58). -/
namespace Sys2Proof.Machine

/-- The identity a requester carries (Table 3.17). -/
inductive Ident where
  | warden | keeper (t : Nat) | none
deriving DecidableEq, Repr

/-- The tuft a virtual function is assigned to. -/
def State.tuftOf (s : State) (fn : Nat) : Option Nat :=
  (List.range 16).find? (fun t => s.rdB (pTuft t) 0x100 31 && s.rdF (pTuft t) 0x100 4 0 == fn)

/-- The identity of a path (R89, Table 3.17). JTAG reaches the registers only while debug is unlocked, which
JTAG_DEBUG checks. -/
def State.ident (s : State) : Path → Ident
  | .func n => if n.val = 0 then .warden else match s.tuftOf n.val with
    | some t => .keeper t
    | Option.none => .none
  | .smbus => .warden
  | .jtag => .warden
  | .cal => .warden

/-- Write one entry of the violation log (R482, Table 18.3). -/
def State.violate (s : State) (path : Path) (cause bar addr : Nat) (write : Bool) : State :=
  let id := s.ident path
  let t := match id with | .warden => 0x1F | .keeper t => t | .none => 0x1E
  let h := s.rdF pViolog 0x100 7 0
  let w0 := cause * 2 ^ 24 + path.fn * 2 ^ 19 + path.bus * 2 ^ 17 + (if write then 2 ^ 16 else 0) + t
  let w2 := bar * 16 + addr / 2 ^ 32 % 16
  let log := Tab.set 0 (Tab.set 0 (Tab.set 0 (Tab.set 0 s.violog (4 * h) (BitVec.ofNat 32 w0))
    (4 * h + 1) (BitVec.ofNat 32 addr)) (4 * h + 2) (BitVec.ofNat 32 w2)) (4 * h + 3) (BitVec.ofNat 32 s.beat)
  let s1 := { s with violog := log }
  let s2 := (s1.wrF pViolog 0x100 7 0 ((h + 1) % 256)).wr pViolog 0x118 (satInc (s.rd pViolog 0x118) 1)
  let s3 := match id with
    | .keeper t => s2.wr pViolog (0x140 + 4 * t) (satInc (s.rd pViolog (0x140 + 4 * t)) 1)
    | .none => s2.wr pViolog 0x11C (satInc (s.rd pViolog 0x11C) 1)
    | .warden => s2
  (s3.occur 0x257 1).raise pViolog (if h = 255 then 3 else 1)

/-- Count and record an access to an unmapped address (R79, R100). -/
def State.unmapped (s : State) (path : Path) (a : Nat) (write : Bool) : State :=
  (s.wr pRegbus 0x100 (satInc (s.rd pRegbus 0x100) 1)).wr pRegbus 0x104
    (BitVec.ofNat 32 ((if path.isFunc then 0 else 2 ^ 31) + path.fn * 2 ^ 26 + (if write then 2 ^ 25 else 0) + a % 2 ^ 25))

/-- What the interconnect decides about an access to a page (Table 3.18). -/
inductive Grant where
  | ok | locked | foreign | noTuft
deriving DecidableEq, Repr

/-- Table 3.18. Reads pass where a write is only LOCKED. -/
def State.grant (s : State) (path : Path) (p : Pg) (write : Bool) : Grant :=
  match s.ident path with
  | .warden => .ok
  | .none => .noTuft
  | .keeper t =>
    if s.owner p = t then (if write && s.rdB p 0x08 31 then .locked else .ok) else .foreign

/-- The power domains of a page's unit (Table 2.3; DEDUCED, log entry 6): the four of its slice for the pages of a frond window, both
housekeeping domains for the analog units, and the Thallus core with its SRAM for a result queue. -/
def Pg.domains (p : Pg) : List Nat :=
  if p.kind.inFrond then sliceDoms (p.i / 8)
  else if p.kind = .bias ∨ p.kind = .thermo ∨ p.kind = .winmon ∨ p.kind = .hkadc then [7, 8]
  else if p.kind = .queue then [1, 2]
  else match devPages.find? (fun r => r.kind == p.kind) with
    | some r => [r.domain]
    | Option.none => [0]

/-- Whether the unit of a page is powered: its power domains are on (R80, R84). -/
def State.powered (s : State) (p : Pg) : Bool := p.domains.all s.domOn

/-- Whether the unit of a page is fenced or gated (Table 3.10). -/
def State.pageFenced (s : State) (p : Pg) : Bool :=
  if p.kind.inFrond then tst s.boot.fencedSlices (p.i / 8) || s.sliceGated (p.i / 8)
  else match p.kind with
    | .pcie => s.boot.fencedPcie
    | .eth => tst s.boot.fencedEth p.i
    | .nlane => tst s.boot.fencedNdeor (p.i / 4)
    | _ => false

/-- STATUS of a page: the block's bits, FENCED and POWERED (Table 3.10). -/
def State.status (s : State) (p : Pg) : Word :=
  setBit (setBit (s.rd p 0x10) 1 (s.pageFenced p)) 0 (s.powered p)

/-- The cause code of the violation log for a refused page access (Table 18.3). -/
def Grant.cause : Grant → Nat
  | .noTuft => 2
  | _ => 1

/-- What stops a write to a page before it reaches a register: the refusal of the interconnect, LOCK, an unpowered
unit, or SERVICE (R90, R84, R87, R58); none where the write is admitted. A write that breaks R77 or R94 as well is recorded with the
cause found here, for the spec gives no order (DESIGN CHOICE, log entry 44). -/
def State.writeStop (s : State) (path : Path) (p : Pg) (off : Nat) : Option State :=
  match s.grant path p true with
  | .ok =>
    if !s.powered p then some (s.recErr p 0x86 off)
    else if s.mode = 4 && p.kind.inFrond && path.isVf then some (s.recErr p 0x87 off)
    else Option.none
  | .locked => some (s.recErr p 0x81 off)
  | g => some (s.violate path g.cause 0 (p.reg off) true)

/-- A path that can carry an access: JTAG reaches the registers only while debug is unlocked with register access in its scope
(14_serial_links.md R395; 18_tufts_and_security.md R488, Table 18.8), and the calibration engine's path is no requester of BAR0
(R89). -/
def State.pathLive (s : State) : Path → Bool
  | .jtag => s.unlocked && (s.rdF pSec 0x100 1 0 != 2 || s.rdB pDebug 0x124 0)
  | .cal => false
  | _ => true

/-- Run k where a write of a path to a register is admitted; otherwise the write is dropped and recorded as its
refusal says. -/
def State.withWrite (s : State) (path : Path) (p : Pg) (off : Nat) (k : State → State) : State :=
  if !s.pathLive path then s
  else match s.writeStop path p off with
    | some s' => s'
    | Option.none => k s

/-- The QUEUE page, other than skip, where a write of a path still waits: its later accesses wait behind that write (R78). -/
def State.heldBy (s : State) (skip : Option Nat) (path : Path) : Option Nat :=
  match List.find? (fun (e : Nat × Queue) => some e.1 != skip && e.2.behind.any (fun w => w.1 == path && w.2.2.isSome)) s.queues with
  | some e => some e.1
  | Option.none => Option.none

/-- Put an access behind the waiting HEAD read of queue q. -/
def State.putBehind (s : State) (q : Nat) (x : Path × Nat × Option Word) : State :=
  let y : Queue := Tab.get {} s.queues q
  { s with queues := Tab.set {} s.queues q { y with behind := y.behind ++ [x] } }

/-- An access of a path to a register that the interconnect admits waits behind an earlier write of the path that still waits; else it
acts as k (R78). -/
def State.rowTurn (s : State) (path : Path) (p : Pg) (off : Nat) (v : Option Word) (k : State → State) : State :=
  match (if s.pathLive path ∧ s.grant path p v.isSome = .ok then s.heldBy Option.none path else Option.none) with
  | some q => s.putBehind q (path, p.reg off, v)
  | Option.none => k s

/-- A write of word v to a register as a command names it: in its turn, and admitted, it acts as k. -/
def State.rowWrite (s : State) (path : Path) (p : Pg) (off : Nat) (v : Word) (k : Word → State → State) : State :=
  s.rowTurn path p off (some v) (fun u => u.withWrite path p off (k v))

/-- What returns to the requester of a read: to SMBus a status byte, 0, and the words, low byte first (14_serial_links.md Table 14.9). -/
def readOut (path : Path) (ws : List Word) : Output :=
  match path with
  | .smbus => .smbus (some (0 :: ws.flatMap (fun w => leBytes 4 w.toNat)))
  | p => .readData p ws

/-- A read returns words to its requester. -/
def State.answer (s : State) (path : Path) (ws : List Word) : State := s.emit (readOut path ws)

/-- Key of a requester's latch for the LO word of a pair at a BAR0 address (R96, R97). -/
def latchKey (path : Path) (a : Nat) : Nat := path.code * 2 ^ 26 + a

/-- A read of the LO word at address a returns it and latches the upper word for the requester (R96). -/
def State.answerPair (s : State) (path : Path) (a : Nat) (lo hi : Word) : State :=
  { s with hiLatch := Tab.set 0 s.hiLatch (latchKey path a) hi }.answer path [lo]

/-- Run k where a read of a path may reach a block register of a page; a refused read returns 0 and is recorded, and an
unpowered unit's registers read 0 (R84, R90). -/
def State.withRead (s : State) (path : Path) (p : Pg) (off : Nat) (k : State → State) : State :=
  if !s.pathLive path then s
  else match s.grant path p false with
  | .ok => if s.powered p then k s else s.answer path [0]
  | .locked => if s.powered p then k s else s.answer path [0]
  | g => (s.violate path g.cause 0 (p.reg off) false).answer path [0]

/-- A read of a register as a command names it: in its turn, and admitted, it acts as k. -/
def State.rowRead (s : State) (path : Path) (p : Pg) (off : Nat) (k : State → State) : State :=
  s.rowTurn path p off Option.none (fun u => u.withRead path p off k)

/-- A BAR4 doorbell acts as a write of the named register by the function, under the same checks; one for a resource
that the function's tuft does not own is dropped, logged and counted (14_serial_links.md R376, R398; Table 18.3
cause 4). -/
def State.withBell (s : State) (path : Path) (p : Pg) (off bell : Nat) (k : State → State) : State :=
  match s.grant path p true with
  | .ok => s.withWrite path p off k
  | .locked => s.withWrite path p off k
  | _ => (s.violate path 4 4 bell true).count pPcie 1 1

/-- A write of word v to a register, directly or through its doorbell at a BAR4 offset, in its turn. -/
def State.viaBell (s : State) (path : Path) (p : Pg) (off : Nat) (v : Word) (bell : Option Nat) (k : State → State) : State :=
  s.rowTurn path p off (some v) (fun u => match bell with
    | some o => u.withBell path p off o k
    | Option.none => u.withWrite path p off k)

/-- State of an Ndeor port (14_serial_links.md Table 14.10): 5 ACTIVE, 6 EIDLE. -/
def State.portState (s : State) (p : Nat) : Nat := s.rdF pNdeor (0x114 + 4 * p) 10 8

/-- The device's own number (13_time_and_cluster.md CSYNC.CFG.DEVNUM). -/
def State.devnum (s : State) : Nat := s.rdF pCsync 0x100 28 24

/-- A flit on a port: it leaves while the port is ACTIVE, waits while it is in electrical idle, and is lost on a port
that is down (14_serial_links.md R382, R389). -/
def State.sendOn (s : State) (p mode dst cls : Nat) (w : BitVec 64) : State :=
  if s.portState p = 5 then s.emit (.flit p mode dst cls w)
  else if s.portState p = 6 then { s with tx := s.tx ++ [(p, mode, dst, cls, w)] }
  else s

/-- The port that leads to a device, by NDEOR.ROUTE (R383). -/
def State.route (s : State) (d : Nat) : Option Nat :=
  let p := s.rdF pNdeor (0x130 + 4 * (d / 8)) (4 * (d % 8) + 3) (4 * (d % 8))
  if p < 4 then some p else Option.none

/-- Send a UNICAST flit: to the device itself, on the routed port, or discarded without a route (R383). -/
def State.unicast (s : State) (dst cls : Nat) (w : BitVec 64) : State :=
  if dst = s.devnum then s.emit (.flit 4 1 dst cls w)
  else match s.route dst with
    | some p => s.sendOn p 1 dst cls w
    | Option.none => s.count pNdeor 0 1

/-- Send a BROADCAST flit on every ACTIVE port except one (R383). -/
def State.broadcast (s : State) (except_ cls : Nat) (w : BitVec 64) : State :=
  (List.range 4).foldl (fun a p => if p = except_ ∨ a.portState p ≠ 5 then a else a.sendOn p 2 0 cls w) s

end Sys2Proof.Machine
end

