-- ==== Sys2Proof/Machine/Queues.lean ====
section
/-! DEFINITION. Queues: the 64 result queues: allocation, visibility, reading, release, mark, flush and drain
(11_acquisition_queues.md R317 to R321, R325, R326), and the events of Hypha sources (12_hypha_events.md R328). -/
namespace Sys2Proof.Machine

/-- A Hypha source's event, carried by its channels in a beat (Table 12.2). -/
def State.srcEvent (s : State) (beat src : Nat) : State := { s with hypha := { s.hypha with events := s.hypha.events ++ [(beat, src)] } }

/-- Queue q. -/
def State.queue (s : State) (q : Nat) : Queue := Tab.get {} s.queues q

/-- Words of the queue's region in use: 2^SIZE, SIZE being 8 to 16 (Table 11.10). -/
def State.qcap (s : State) (q : Nat) : Nat :=
  let z := s.rdF (pQueue q) 0x110 20 16
  if 8 ≤ z ∧ z ≤ 16 then 2 ^ z else 65536

/-- Visible words: VIS moves past complete items, oldest first (R317). -/
def visEnd : Nat → List QItem → Nat
  | v, [] => v
  | v, i :: t => if i.disc || i.got < i.len then v else visEnd (i.start + i.len) t

/-- Reclaim the discarded items at the head that have all their words (R321). -/
def dropDone : List QItem → List QItem
  | [] => []
  | i :: t => if i.disc && decide (i.len ≤ i.got) then dropDone t else i :: t

/-- Settle a queue after words or flushes: reclaim, then VIS. RD never lags REL. -/
def Queue.settle (x : Queue) : Queue :=
  let items := dropDone x.items
  let rel := if items.length = x.items.length then x.rel else (items.head?.map (·.start)).getD x.alloc
  { x with items := items, rel := rel, rd := max x.rd rel, vis := max rel (visEnd rel items) }

/-- Store a queue: FILL, UNREAD, MARK_STAT and QMGR.NONEMPTY show it, and the timer, which runs while TMO is not 0 and RD differs from VIS,
starts, goes on or stops (R320, R325,
Table 11.10). -/
def State.setQ (s : State) (q : Nat) (x0 : Queue) : State :=
  let p := pQueue q
  let x := { x0 with timer := if x0.rd = x0.vis ∨ s.rdF p 0x114 15 0 = 0 then none
                              else if (s.queue q).rd = (s.queue q).vis then some s.beat else x0.timer }
  let s1 := { s with queues := Tab.set {} s.queues q x }
  let s2 := ((s1.wr p 0x118 (BitVec.ofNat 32 (x.alloc - x.rel))).wr p 0x11C (BitVec.ofNat 32 (x.vis - x.rd))).wr p 0x120
    (match x.mark with | some m => BitVec.ofNat 32 (2 ^ 31 + (m - x.rel)) | none => 0)
  s2.wrB pQmgr (0x100 + 4 * (q / 32)) (q % 32) (decide (x.rd ≠ x.vis))

/-- The mark is lost once REL moves past it (R319); quietly where REL passes it over slots that an owner change discarded (R321). -/
def State.loseMark (s : State) (q : Nat) (quiet : Bool) : State :=
  let x := s.queue q
  match x.mark with
  | some m =>
    if m < x.rel then
      let s1 := s.setQ q { x with mark := none }
      if quiet then s1 else s1.flag (pQueue q) 3
    else s
  | none => s

/-- The item that holds a word position. -/
def Queue.itemAt (x : Queue) (w : Nat) : Option QItem :=
  x.items.find? (fun i => decide (i.start ≤ w) && decide (w < i.start + i.len))

/-- HEAD's reading of the word at RD (Table 11.10). -/
def Queue.headWord (x : Queue) : Word :=
  match x.itemAt x.rd with
  | some i =>
    let idx := x.rd - i.start
    BitVec.ofNat 32 (2 ^ 31 + (if idx = 0 then 2 ^ 30 else 0) + (if idx + 1 = i.len then 2 ^ 29 else 0)
      + i.len * 2 ^ 20 + idx * 2 ^ 16)
  | none => 0

/-- Take the word at RD for a requester (R318). -/
def State.takeHead (s : State) (q : Nat) (path : Path) : State :=
  let x := s.queue q
  let w := Tab.get 0 s.qmem (65536 * q + x.rd % s.qcap q)
  (s.setQ q { x with rd := x.rd + 1, latch := Tab.set 0 x.latch path.code w, timer := some s.beat }).answer path [x.headWord]

/-- A HEAD read that finds nothing: VALID 0, the latch reads 0 (R318). -/
def State.emptyHead (s : State) (q : Nat) (path : Path) : State :=
  let x := s.queue q
  (s.setQ q { x with latch := Tab.set 0 x.latch path.code 0 }).answer path [0]

/-- Waiting HEAD reads take the words that became visible, in order, unless the drain engine has become the consumer (R318). -/
def State.serve (s : State) (q : Nat) : Nat → State
  | 0 => s
  | n + 1 =>
    let x := s.queue q
    match x.waits with
    | [] => s
    | (path, _) :: t => if x.rd = x.vis ∨ s.rdB (pQueue q) 0x110 8 = true then s else ((s.setQ q { x with waits := t }).takeHead q path).serve q n

/-- A HEAD read by a requester (R318). -/
def State.headRead (s : State) (q : Nat) (path : Path) : State :=
  let x := s.queue q
  if s.rdB (pQueue q) 0x110 8 then s.answer path [0]
  else if x.rd ≠ x.vis then s.takeHead q path
  else s.setQ q { x with waits := x.waits ++ [(path, s.beat)] }

/-- A waiting HEAD read ends after 2 µs (R318). -/
def State.headTimeout (s : State) (q : Nat) : State :=
  let x := s.queue q
  match x.waits with
  | (path, b) :: t =>
    if b + 2000 ≤ s.beat then ((s.setQ q { x with waits := t }).count (pQueue q) 5 1).emptyHead q path else s
  | [] => s

/-- Word n of an item lands in its slot. -/
def State.landWord (s : State) (q start n : Nat) (w : BitVec 64) : State :=
  let x := s.queue q
  let s1 := { s with qmem := Tab.set 0 s.qmem (65536 * q + (start + n) % s.qcap q) w }
  let y := { x with items := x.items.map (fun (i : QItem) => if i.start = start then { i with got := i.got + 1 } else i) }
  let quiet := match y.mark with | some m => (y.itemAt m).any (·.quiet) | none => false
  let s2 := (s1.setQ q y.settle).loseMark q quiet
  s2.serve q (s2.queue q).waits.length

/-- The first word of an item arrives: the whole item is allocated or dropped (R317). -/
def State.firstWord (s : State) (k : Nat) : State :=
  match s.transit[k]? with
  | some ⟨q, w :: ws, len, none⟩ =>
    let x := s.queue q
    if x.alloc + len ≤ x.rel + s.qcap q then
      let s1 := (s.setQ q { x with alloc := x.alloc + len, items := x.items ++ [{ start := x.alloc, len := len, got := 0 }] }).count (pQueue q) 0 1
      let s2 := { s1 with transit := if ws = [] then s1.transit.eraseIdx k else s1.transit.set k ⟨q, ws, len, some (some x.alloc)⟩ }
      s2.landWord q x.alloc 0 w
    else
      let s1 := { s with transit := if ws = [] then s.transit.eraseIdx k else s.transit.set k ⟨q, ws, len, some none⟩ }
      (s1.flag (pQueue q) 1).count (pQueue q) 1 1
  | _ => s

/-- A later word of an item arrives (R317). -/
def State.nextWord (s : State) (k : Nat) : State :=
  match s.transit[k]? with
  | some ⟨q, w :: ws, len, some dest⟩ =>
    let s1 := { s with transit := if ws = [] then s.transit.eraseIdx k else s.transit.set k ⟨q, ws, len, some dest⟩ }
    match dest with
    | some start => s1.landWord q start (len - (ws.length + 1)) w
    | none => s1
  | _ => s

/-- A producer sends an item to a queue (R317, R517). -/
def State.sendItem (s : State) (q : Nat) (words : List (BitVec 64)) : State :=
  { s with transit := s.transit ++ [⟨q, words, words.length, none⟩] }

/-- Release items up to a word position. -/
def State.releaseTo (s : State) (q rel : Nat) : State :=
  let x := s.queue q
  (s.setQ q { x with rel := rel, items := x.items.filter (fun i => decide (rel ≤ i.start)) }).loseMark q false

/-- The end of the n oldest whole items that have been read (R319). -/
def relEnd (rd : Nat) : Nat → Nat → List QItem → Nat
  | 0, v, _ => v
  | _, v, [] => v
  | n + 1, v, i :: t => if i.disc || decide (rd < i.start + i.len) then v else relEnd rd n (i.start + i.len) t

/-- CMD.RELEASE of count items (R319). -/
def State.qRelease (s : State) (q count : Nat) : State :=
  let x := s.queue q
  s.releaseTo q (relEnd x.rd count x.rel x.items)

/-- CMD.ALL (R319). -/
def State.qAll (s : State) (q : Nat) : State :=
  let x := s.queue q
  s.releaseTo q (relEnd x.rd x.items.length x.rel x.items)

/-- CMD.MARK (R319). -/
def State.qMark (s : State) (q : Nat) : State :=
  let x := s.queue q
  s.setQ q { x with mark := some ((x.itemAt x.rd).map (·.start) |>.getD x.rd) }

/-- CMD.REWIND (R319); refused without a valid mark, with cause NO_MARK. -/
def State.qRewind (s : State) (q : Nat) : State :=
  let x := s.queue q
  match x.mark with
  | some m => let s1 := (s.setQ q { x with rd := m }).count (pQueue q) 6 1; s1.serve q (s1.queue q).waits.length
  | none => s.recErr (pQueue q) 1 0x10C

/-- The flush itself (R321): items not yet complete, and those after them, are discarded where they stand; quiet for an
owner change. -/
def State.flushQ (s : State) (q : Nat) (quiet : Bool) : State :=
  let x := s.queue q
  let keep := x.items.dropWhile (fun i => decide (i.len ≤ i.got))
  let trunc := keep.any (fun i => decide (i.got < i.len))
  let rel := if trunc then (keep.head?.map (·.start)).getD x.alloc else x.alloc
  let y := { x with
    rel := rel, rd := rel, vis := rel, mark := none,
    items := if trunc then keep.map (fun i => { i with disc := true, quiet := if i.disc then i.quiet else quiet }) else [] }
  let s1 := s.setQ q y
  if quiet then s1
  else
    let s2 := s1.count (pQueue q) 2 1
    if trunc then (s2.flag (pQueue q) 2).count (pQueue q) 3 1 else s2

/-- CMD: the bits of one write act in the order FLUSH, RELEASE, REWIND, MARK (R319). -/
def State.qCmd (s : State) (q : Nat) (v : Word) : State :=
  let s1 := if bit v 0 then s.flushQ q false else s
  let s2 := if bit v 4 then s1.qAll q else if bit v 3 then s1.qRelease q (fld v 31 16) else s1
  let s3 := if bit v 2 then s2.qRewind q else s2
  if bit v 1 then s3.qMark q else s3

/-- A drain or capture ring's size field in bytes: 64 KiB × 2^SIZE; 15 acts as 14. -/
def ringBytes (z : Nat) : Nat := 65536 * 2 ^ min 14 z

/-- The function a page's host rings belong to: its owner's. -/
def State.hostFn (s : State) (p : Pg) : Nat := if s.owner p = 0x1F then 0 else s.tuftVf (s.owner p)

/-- The bytes of a ring write that start at free-running counter w: one run, or two where it wraps. -/
def State.ringOut (s : State) (fn base size w : Nat) (bytes : List Byte) : State :=
  let o := w % size
  let a := bytes.take (size - o)
  let b := bytes.drop (size - o)
  let s1 := s.emit (.hostWrite fn (base + o) s.pcie.relaxed a)
  if b = [] then s1 else s1.emit (.hostWrite fn base s.pcie.relaxed b)

/-- Write a ring's pointer back to the host (R314). -/
def State.writeBack (s : State) (fn addr w : Nat) : State := s.emit (.hostWrite fn addr false (leBytes 8 w))

/-- Free bytes of a host ring. -/
def hostRoom (size : Nat) (wr rd : Word) : Nat := size - (wr - rd).toNat

/-- The drain engine copies the visible item at RD with its header, and releases it (R318), while the link is up (R64). -/
def State.drainCopy (s : State) (q : Nat) : State :=
  let x := s.queue q
  let p := pQueue q
  let size := ringBytes (s.rdF p 0x12C 27 24)
  match x.itemAt x.rd with
  | some i =>
    let n := 8 * (i.len + 1)
    if s.rdB pPcie 0x100 0 ∧ s.rdB p 0x110 8 ∧ x.rd ≠ x.vis ∧ n ≤ hostRoom size (s.rd p 0x138) (s.rd p 0x13C) then
      let w := (s.rd p 0x138).toNat
      let words := (List.range i.len).flatMap (fun k => leBytes 8 (Tab.get 0 s.qmem (65536 * q + (i.start + k) % s.qcap q)).toNat)
      let hdr := leBytes 8 (0xC1 * 2 ^ 56 + i.len * 2 ^ 48 + x.seq % 2 ^ 32)
      let s1 := (s.ringOut (s.hostFn p) (s.rd64 p 0x124) size w (hdr ++ words)).wr p 0x138 (BitVec.ofNat 32 (w + n))
      let s2 := s1.setQ q { x with rd := i.start + i.len, seq := x.seq + 1, timer := some s.beat }
      (s2.releaseTo q (i.start + i.len)).writeBack (s.hostFn p) (s.rd64 p 0x130) ((w + n) % 2 ^ 32)
    else s
  | none => s

/-- A write of a host ring's read pointer: refused where it is no multiple of 64 or passes the write pointer (R314). -/
def State.hostRdWrite (s : State) (p : Pg) (wrOff rdOff : Nat) (v : Word) : State :=
  let room := (s.rd p wrOff - s.rd p rdOff).toNat
  if v.toNat % 64 ≠ 0 ∨ room < (v - s.rd p rdOff).toNat then s.recErr p 1 rdOff
  else s.wr p rdOff v

/-- A write of TMO (R320): the timer starts where TMO was 0, goes on otherwise, and stops at 0. -/
def State.tmoWrite (s : State) (q : Nat) (v : Word) : State :=
  let x := s.queue q
  let s1 := s.wr (pQueue q) 0x114 (v &&& 0xFFFF)
  s1.setQ q { x with timer := if s.rdF (pQueue q) 0x114 15 0 = 0 then some s.beat else x.timer }

/-- The queue timer expires (R320): flagged, counted, and its Hypha source pulses. -/
def State.queueTimeout (s : State) (q : Nat) : State :=
  let x := s.queue q
  match x.timer with
  | some b =>
    let tmo := s.rdF (pQueue q) 0x114 15 0
    if tmo ≠ 0 ∧ b + 1000 * tmo ≤ s.beat then
      let s1 := { s with queues := Tab.set {} s.queues q { x with timer := none } }
      ((s1.flag (pQueue q) 0).count (pQueue q) 4 1).srcEvent (s.beat + 6) (0x0B4 + q)
    else s
  | none => s

end Sys2Proof.Machine
end

