-- ==== Sys2Proof/Machine/Clock.lean ====
section
/-! DEFINITION. Clock: the PTP clock, its alarms, the mapping of beats to PTP time, and the servo
(13_time_and_cluster.md R346 to R351, R357, R359). -/
namespace Sys2Proof.Machine

/-- Change the time state. -/
def State.mapTime (s : State) (g : TimeSt → TimeSt) : State := { s with time := g s.time }

/-- A PTP time in units of 2^−32 ns. -/
def PtpTime.total (t : PtpTime) : Nat := (t.s * 10 ^ 9 + t.ns) * 2 ^ 32 + t.frac

/-- The PTP time of a number of 2^−32 ns; seconds wrap at 2^48. -/
def PtpTime.ofTotal (n : Nat) : PtpTime :=
  { s := n / 2 ^ 32 / 10 ^ 9 % 2 ^ 48, ns := n / 2 ^ 32 % 10 ^ 9, frac := n % 2 ^ 32 }

/-- One MAC cycle of the clock (R346). -/
def PtpTime.tick (incr : Nat) (t : PtpTime) : PtpTime :=
  let f := (t.ns * 2 ^ 32 + t.frac + incr) % 2 ^ 64
  if 10 ^ 9 ≤ f / 2 ^ 32 then { s := (t.s + 1) % 2 ^ 48, ns := f / 2 ^ 32 - 10 ^ 9, frac := f % 2 ^ 32 }
  else { s := t.s, ns := f / 2 ^ 32, frac := f % 2 ^ 32 }

/-- n MAC cycles, one by one. -/
def PtpTime.ticks (incr : Nat) : Nat → PtpTime → PtpTime
  | 0, t => t
  | n + 1, t => PtpTime.ticks incr n (t.tick incr)

/-- n MAC cycles of the clock: in one sum where every cycle carries at most once, else one by one (R346). -/
def PtpTime.run (incr n : Nat) (t : PtpTime) : PtpTime :=
  if incr < 10 ^ 9 * 2 ^ 32 ∧ t.ns < 10 ^ 9 then PtpTime.ofTotal (t.total + n * incr) else PtpTime.ticks incr n t

/-- INCR in use. -/
def State.incr (s : State) : Nat := s.rd64 pClock 0x12C

/-- The clock moves on to MAC cycle m; it runs while the Ethernet clock is locked (R346). -/
def State.macTo (s : State) (m : Nat) : State :=
  if s.time.mac < m then
    s.mapTime (fun t => { t with mac := m, ptp := if s.rdB pTimeline 0x108 4 then t.ptp.run s.incr (m - t.mac) else t.ptp })
  else s

/-- A time is at or after another (R348). -/
def PtpTime.atOrAfter (a b : PtpTime) : Bool :=
  let d := sgn (a.s + 2 ^ 48 - b.s % 2 ^ 48) 48
  if d = 0 then decide (b.ns ≤ a.ns) else decide (0 < d)

/-- The time of alarm n (Table 13.5). -/
def State.alarmTime (s : State) (n : Nat) : PtpTime :=
  { s := (s.rd pClock (0x150 + 0x10 * n)).toNat + 2 ^ 32 * s.rdF pClock (0x154 + 0x10 * n) 15 0,
    ns := (s.rd pClock (0x158 + 0x10 * n)).toNat }

/-- Whether alarm n is enabled. -/
def State.alarmOn (s : State) (n : Nat) : Bool := s.rdB pClock (0x154 + 0x10 * n) 31

/-- Remember which enabled alarms the clock stands past, after EN was set or a step was made (R349). -/
def State.alarmLate (s : State) : State :=
  let past := fun (n : Nat) => s.alarmOn n && s.time.ptp.atOrAfter (s.alarmTime n)
  s.mapTime (fun t => { t with late0 := past 0, late1 := past 1 })

/-- ALARM (R349): alarm n fires once the clock is at or after its time. -/
def State.alarmFire (s : State) (n : Nat) : State :=
  if s.alarmOn n && s.time.ptp.atOrAfter (s.alarmTime n) then
    let late := if n = 0 then s.time.late0 else s.time.late1
    let s1 := ((s.wrB pClock (0x154 + 0x10 * n) 31 false).flag pClock (1 + n)).count pClock 1 1
    if late then s1.flag pClock 3 else s1
  else s

/-- The rate of the latest two mapping pairs, per 4,096 beats. -/
def pairRate : List (Nat × Nat) → Option Int
  | a :: b :: _ => some ((a.2 : Int) - b.2)
  | _ => none

/-- Clear the mapping history (R351). -/
def State.clearMap (s : State) : State :=
  s.mapTime (fun t => { t with
    pairs := [], rate := (match pairRate t.pairs with | some r => some r | none => t.rate), clearedAt := some s.beat })

/-- The clock steps to a time: FLAGS.STEP, LCNT[0], and the history is cleared (R347). -/
def State.stepTo (s : State) (p : PtpTime) : State :=
  ((((s.mapTime (fun t => { t with ptp := p, steps := t.steps + 1 })).flag pClock 0).count pClock 0 1).clearMap).alarmLate

/-- CLOCK.CMD SET (R347). -/
def State.clkSet (s : State) : State :=
  s.stepTo { s := (s.rd pClock 0x114).toNat + 2 ^ 32 * s.rdF pClock 0x118 15 0, ns := min 999999999 (s.rd pClock 0x11C).toNat, frac := 0 }

/-- A signed number of 2^−32 ns added to the clock, seconds modulo 2^48. -/
def PtpTime.add (t : PtpTime) (d : Int) : PtpTime :=
  PtpTime.ofTotal (((t.total : Int) + d) % (2 ^ 48 * 10 ^ 9 * 2 ^ 32 : Int)).toNat

/-- CLOCK.CMD ADJ (R347); magnitudes of 10^9 and above act as 999,999,999. -/
def State.clkAdj (s : State) : State :=
  s.stepTo (s.time.ptp.add (clampI (-999999999) 999999999 (sgn (s.rd pClock 0x120).toNat 32) * 2 ^ 32))

/-- CLOCK.CMD SNAP (R347). -/
def State.clkSnap (s : State) : State :=
  let p := s.time.ptp
  let s1 := ((s.wr64 pClock 0x104 p.s).wr pClock 0x10C (BitVec.ofNat 32 p.ns)).wr pClock 0x110 (BitVec.ofNat 32 p.frac)
  match s.time.pairs with
  | (b, q) :: _ =>
    let m := PtpTime.ofTotal q
    (((s1.wr64 pClock 0x170 b).wr64 pClock 0x178 m.s).wr pClock 0x180 (BitVec.ofNat 32 m.ns)).wr pClock 0x184 (BitVec.ofNat 32 m.frac)
  | [] => s1

/-- A commanded step comes in the MAC cycle of a servo step: the servo step is discarded and counted (R347). -/
def State.dropStep (s : State) : State :=
  match s.time.svStep with
  | some (m, p, acc, l1, l0, flagged) =>
    if m = s.time.mac then
      let s1 := (((s.mapTime (fun t => { t with ptp := p, svStep := none })).wr64 pServo 0x11C acc).wr pServo 0x44 l1).wr pClock 0x40 l0
      ((if flagged then s1 else s1.wrB pServo 0x14 0 false).count pServo 3 1)
    else s
  | none => s

/-- A write of CLOCK.CMD: SET, ADJ, SNAP in that order, with KEY 0x544D; otherwise cause KEY (R347, R368). -/
def State.clockCmd (s : State) (v : Word) : State :=
  if fld v 31 16 ≠ 0x544D then s.recErr pClock 1 0x100
  else
    let s0 := if bit v 1 || bit v 2 then s.dropStep else s
    let s1 := if bit v 1 then s0.clkSet else s0
    let s2 := if bit v 2 then s1.clkAdj else s1
    let s3 := if bit v 1 || bit v 2 then s2.mapTime (fun t => { t with cmdStep := some t.mac }) else s2
    if bit v 0 then s3.clkSnap else s3

/-- MAPPING_PAIR (R350): the beat B whose low 12 bits are 0 starts ph/64 of a MAC cycle before the clock's present cycle. -/
def State.mapPair (s : State) (ph : Nat) : State :=
  if s.beat % 4096 = 0 then
    let p := (s.time.ptp.add (-(quot 7 (s.incr * ph : Nat) 64))).total
    s.mapTime (fun t => { t with pairs := ((s.beat, p) :: t.pairs).take 64 })
  else s

/-- The PTP time of beat T from two pairs (R350), rounded half up to 2^−32 ns. -/
def mapBetween (b : Nat) (p : Nat) (rate : Int) (T : Nat) : PtpTime :=
  PtpTime.ofTotal (((p : Int) + roundShift (((T : Int) - b) * rate) 12) % (2 ^ 48 * 10 ^ 9 * 2 ^ 32 : Int)).toNat

/-- The bracketing pair of a beat, newest first: the first pair at or before T with its successor, else the oldest two. -/
def bracket (T : Nat) : List (Nat × Nat) → Option (Nat × Nat × Int)
  | a :: b :: t =>
    if b.1 ≤ T then some (b.1, b.2, (a.2 : Int) - b.2)
    else match t with
      | [] => some (b.1, b.2, (a.2 : Int) - b.2)
      | _ => bracket T (b :: t)
  | _ => none

/-- The PTP time of a beat (R350); none where no pair and rate exist. -/
def State.ptpOf (s : State) (T : Nat) : Option PtpTime :=
  match s.time.pairs with
  | [] => none
  | [a] => s.time.rate.map (fun r => mapBetween a.1 a.2 r T)
  | l => (bracket T l).map (fun x => mapBetween x.1 x.2.1 x.2.2 T)

/-- SERVO.CTRL.SEL as it stood at beat T (R351). -/
def State.selAt (s : State) (T : Nat) : Nat :=
  match s.time.sels.find? (fun (e : Nat × Nat) => decide (e.1 ≤ T)) with
  | some e => e.2
  | none => match s.time.sels.getLast? with
    | some e => 1 - e.2
    | none => s.rdF pServo 0x100 4 4

/-- SERVO.CTRL.SEL takes a value (R359). -/
def State.setSel (s : State) (v : Nat) : State :=
  if s.rdF pServo 0x100 4 4 = v % 2 then s
  else (s.wrF pServo 0x100 4 4 v).mapTime (fun t => { t with sels := ((s.beat, v % 2) :: t.sels).take 16 })

/-- A write of SERVO.CTRL in the present MAC cycle: the written SEL holds against an automatic switch of the cycle; EN = 0 sets INCR to
INCR_NOM (R359, Table 13.7). -/
def State.servoCtrl (s : State) (v : Word) : State :=
  let s1 := ((s.setSel (fld v 4 4)).mapTime (fun t => { t with selMac := some t.mac })).wr pServo 0x100 (v &&& 0x111#32)
  if bit v 0 then s1 else s1.wr64 pClock 0x12C (s1.rd64 pClock 0x124)

/-- The words 2 and 3 of a mark at T (11_acquisition_queues.md Table 11.4): all ones before the latest clear (R351); a
free value where the history holds nothing to map with (log entry 5). -/
def State.markTime (s : State) (T : Nat) : (Nat × Nat) × State :=
  if (match s.time.clearedAt with | some c => decide (T < c) | none => false) then ((2 ^ 48 - 1, 2 ^ 64 - 1), s)
  else match s.ptpOf T with
    | some p => ((p.s, p.ns * 2 ^ 32 + p.frac), s)
    | none =>
      let a := s.draw
      let b := a.2.draw
      ((a.1.toNat % 2 ^ 48, b.1.toNat), b.2)

/-- One servo update by an offset o in 2^−16 ns (R357), with the switch pending since the last (R359). -/
def State.servoUpdate (s : State) (o : Int) : State :=
  if !s.rdB pServo 0x100 0 then s
  else
    let s1 := s.count pServo 0 1
    let thr := (s.rd pServo 0x10C).toNat * 2 ^ 16
    let acc0 := sgn (s.rd64 pServo 0x11C) 40
    if thr < o.natAbs ∧ s.time.hold = 0 then
      (if s.time.cmdStep = some s.time.mac then s1.count pServo 3 1
      else
        let s2 := s1.mapTime (fun t => { t with
          svStep := some (t.mac, t.ptp, s1.rd64 pServo 0x11C, s1.rd pServo 0x44, s1.rd pClock 0x40, s1.rdB pServo 0x14 0) })
        (((s2.stepTo (s.time.ptp.add (-o * 2 ^ 16))).wr64 pServo 0x11C 0).flag pServo 0).count pServo 1 1)
    else
      let kp := (s.rd pServo 0x104).toNat
      let ki := (s.rd pServo 0x108).toNat
      let acc := satI 40 (acc0 + roundShift (ki * o) 32)
      let a0 := roundShift (kp * o) 32 + acc
      let m : Int := (s.rd pServo 0x110).toNat
      let adj := clampI (-m) m a0
      let incr := enc ((s.rd64 pClock 0x124 : Int) - adj) 64
      let s2 := (((s1.wr64 pServo 0x11C (enc acc 40)).wr pServo 0x118 (BitVec.ofNat 32 (enc adj 32))).wr64 pClock 0x12C incr).mapTime
        (fun t => { t with hold := t.hold - 1 })
      if adj ≠ a0 then s2.flag pServo 2 else s2

end Sys2Proof.Machine
end

