-- ==== Sys2Proof/Machine/Slots.lean ====
section
/-! DEFINITION. Slots: the rules of the Sorus as their SLOT pages configure them, the condition slots of a frond's
Sorus port with their two views, and the marks of a frond's shots (10_sorus_feedback.md R277 to R279, R285, R286,
R288; 05_crozier_sequencer.md R155 to R159). -/
namespace Sys2Proof.Machine

/-- The Crozier of a frond. -/
def State.crz (s : State) (f : Nat) : Croz := Tab.get {} s.croz f

/-- Set the Crozier of a frond. -/
def State.setCrz (s : State) (f : Nat) (c : Croz) : State := { s with croz := Tab.set {} s.croz f c }

/-- Condition slot k of a frond. -/
def State.slot (s : State) (f k : Nat) : Slot := Tab.get {} s.slots (16 * f + k)

/-- SLOT_STAT's code for a slot (Table 5.34). -/
def Slot.code (x : Slot) : Nat := if x.st = 0 then 0 else if x.st = 1 then 1 else if x.qual = 0 then 2 else 3

/-- The views a gate can still sample, 16 beats back: everything newer, and the one that held then. -/
def trimOld (b : Nat) : List OldSlot → List OldSlot
  | [] => []
  | o :: t => if b < o.since + 16 then o :: trimOld b t else [o]

/-- The issue-time view of a slot at the start of beat x (R146): the latest view that holds from x or earlier. -/
def Slot.view (y : Slot) (x : Nat) : OldSlot :=
  if y.since ≤ x then { since := y.since, st := y.st, value := y.value, word := y.word, qual := y.qual }
  else (y.old.find? (fun o => decide (o.since ≤ x))).getD { since := 0, st := 0, value := 0, word := 0, qual := 0 }

/-- The slot with a new issue-time view from beat b on. -/
def Slot.to (y : Slot) (b st value word qual : Nat) : Slot :=
  { y with st := st, value := value, word := word, qual := qual, since := b,
           old := trimOld b ({ since := y.since, st := y.st, value := y.value, word := y.word, qual := y.qual } :: y.old) }

/-- Set condition slot k of a frond; SLOT_STAT shows its state. -/
def State.setSlot (s : State) (f k : Nat) (x : Slot) : State :=
  ({ s with slots := Tab.set {} s.slots (16 * f + k) x }).wrF (pCrozier f) 0x16C (2 * k + 1) (2 * k) x.code

/-- The owner of a frond: of its CROZIER page. -/
def State.frondOwner (s : State) (f : Nat) : Nat := s.owner (pCrozier f)

/-- Offset of register w of RULE[r] of a SLOT page (Table 10.17). -/
def ruleReg (r w : Nat) : Nat := 0x200 + 0x20 * r + 4 * w

/-- Rule r of SLOT[n] is enabled with a kind that is not reserved (R277). -/
def State.ruleOn (s : State) (n r : Nat) : Bool :=
  s.rdB (pSlot n) (ruleReg r 0) 31 && decide (s.rdF (pSlot n) (ruleReg r 0) 30 28 ≤ 4)

/-- KIND of a rule (Table 10.2). -/
def State.ruleKind (s : State) (n r : Nat) : Nat := s.rdF (pSlot n) (ruleReg r 0) 30 28

/-- FWD.EN of a rule. -/
def State.ruleFwd (s : State) (n r : Nat) : Bool := s.rdB (pSlot n) (ruleReg r 4) 31

/-- Destination frond of a rule. -/
def State.ruleDF (s : State) (n r : Nat) : Nat := s.rdF (pSlot n) (ruleReg r 0) 25 21

/-- Destination slot of a rule. -/
def State.ruleDS (s : State) (n r : Nat) : Nat := s.rdF (pSlot n) (ruleReg r 0) 20 17

/-- Source frond of a rule. -/
def State.ruleSF (s : State) (n r : Nat) : Nat := s.rdF (pSlot n) (ruleReg r 1) 31 27

/-- Source tone of a rule. -/
def State.ruleST (s : State) (n r : Nat) : Nat := s.rdF (pSlot n) (ruleReg r 1) 26 23

/-- Whether the configuration of a rule lets it write a local slot: it does not forward, unless it is EXTERNAL
(R278). -/
def State.ruleLocal (s : State) (n r : Nat) : Bool := !s.ruleFwd n r || s.ruleKind n r == 3

/-- The 1,024 rules, SLOT page by SLOT page. -/
def allRules : List (Nat × Nat) := (List.range 64).flatMap (fun n => (List.range 16).map (fun r => (n, r)))

/-- The rule that writes slot k of frond f: among the enabled rules that name it, the first (R278). -/
def State.writerOf (s : State) (f k : Nat) : Option (Nat × Nat) :=
  allRules.find? (fun x => s.ruleOn x.1 x.2 && s.ruleLocal x.1 x.2 && s.ruleDF x.1 x.2 == f && s.ruleDS x.1 x.2 == k)

/-- Whether a rule is evaluated at its destination frond's port: DIRECT and not forwarding (Table 10.2). -/
def State.ruleAtPort (s : State) (n r : Nat) : Bool := s.ruleKind n r == 0 && !s.ruleFwd n r

/-- Whether a slot is fed by a rule whose source is the same frond (R286). -/
def State.slotOwnSource (s : State) (f k : Nat) : Bool :=
  match s.writerOf f k with
  | some (n, r) => s.ruleAtPort n r && s.ruleSF n r == f
  | none => false

/-- The shot the frond is inside at the current beat: the latest begun that has not ended (R155). -/
def State.issueShot (s : State) (f : Nat) : Option Shot :=
  ((s.crz f).shots.filter (fun h => decide (h.start ≤ s.beat) && h.ended.isNone)).getLast?

/-- The shot whose interval of issue beats contains a beat (06_waveform_store.md R195). -/
def State.shotAt (s : State) (f b : Nat) : Option Shot :=
  (s.crz f).shots.find? (fun h => decide (h.start ≤ b) && (match h.ended with | none => true | some e => decide (b ≤ e)))

/-- The shot the Crozier is in, in program order: the one begun last. -/
def State.progShot (s : State) (f : Nat) : Option Shot :=
  if (s.crz f).inShot then (s.crz f).shots.getLast? else none

/-- Whether the frond's issue-time shot is the Crozier's current shot (R286). -/
def State.caughtUp (s : State) (f : Nat) : Bool :=
  match s.issueShot f, s.progShot f with
  | some a, some b => a.uid == b.uid
  | _, _ => false

/-- The posting-time view of a slot: its state, 0 EMPTY, 1 PENDING, 2 RESOLVED (R286). -/
def State.postView (s : State) (f k : Nat) : Nat :=
  let x := s.slot f k
  if s.slotOwnSource f k then x.post
  else if s.caughtUp f then (x.view s.beat).st else 0

/-- What the posting-time view of a RESOLVED slot shows: quality, value and read value (R286, R288). -/
def State.postRead (s : State) (f k : Nat) : Nat × Nat × Nat :=
  let x := s.slot f k
  if s.slotOwnSource f k then (x.pqual, x.pval, x.pread) else (x.qual, x.value, x.readVal)

/-- Change the shot of a frond with a given uid. -/
def State.mapShot (s : State) (f uid : Nat) (g : Shot → Shot) : State :=
  let c := s.crz f
  s.setCrz f { c with shots := c.shots.map (fun h => if h.uid = uid then g h else h) }

/-- The OR of two tag sets, with INVALID beside OVF or UNDERRUN (00_scope.md R15). -/
def tagOr (a b : Nat) : Nat :=
  let t := a ||| b
  if tst t 6 || tst t 5 then t ||| 1 else t

/-- Mark a shot with tags (R159). -/
def State.markShot (s : State) (f uid tags : Nat) : State :=
  s.mapShot f uid (fun h => { h with tags := tagOr h.tags tags })

/-- The tag of a slot quality: 1 LATE, 2 MISMATCH, 3 INVALID (R146, R288). -/
def qualTag (q : Nat) : Nat := if q = 1 then 0x10 else if q = 2 then 0x08 else if q = 3 then 0x01 else 0

/-- The mark a consumer leaves when a slot is not trusted at its sample: LATE for EMPTY or PENDING, else the quality
(R146, R147). -/
def Slot.sampleTag (st qual : Nat) : Nat := if st = 2 then qualTag qual else 0x10

end Sys2Proof.Machine
end

