-- ==== Sys2Proof/Machine/HyphaCore.lean ====
section
/-! DEFINITION. HyphaCore: which event channels carry an event in a beat, and the cells of the event matrix
(12_hypha_events.md R327 to R333). -/
namespace Sys2Proof.Machine

/-- Whether an owner may use a channel (R330). -/
def State.ownsChan (s : State) (own c : Nat) : Bool := own == 0x1F || s.owner (pHchan (c / 64)) == own

/-- Whether an owner may use a source of Table 12.2 (R330). -/
def State.ownsSrc (s : State) (own src : Nat) : Bool :=
  own == 0x1F ||
  (if src < 0x080 then s.owner (pCrozier (src / 4)) == own
  else if src < 0x0A0 then s.owner (pCrozier (src - 0x080)) == own
  else if src < 0x0A4 then own < 16 && s.rdB pTrig (0x100 + 4 * (src - 0x0A0)) (16 + own)
  else if src < 0x0B4 then own < 16 && s.rdB pTrig (0x110 + 4 * (src - 0x0A4)) own
  else if src < 0x0F4 then s.owner (pQueue (src - 0x0B4)) == own
  else s.owner (pCgrp (src - 0x0F4)) == own)

/-- The channels with a driver: channel, KIND and SEL (Table 12.1). -/
def State.chanList (s : State) : List (Nat × Nat × Nat) :=
  s.regs.filterMap (fun (e : Nat × Word) =>
    if 0x411000 ≤ e.1 ∧ e.1 < 0x421000 ∧ 0x200 ≤ e.1 % 0x1000 ∧ e.1 % 0x1000 < 0x300 then
      some ((e.1 / 0x1000 - 0x411) * 64 + (e.1 % 0x1000 - 0x200) / 4, fld e.2 17 16, fld e.2 9 0) else none)

/-- KIND of a channel (Table 12.8). -/
def State.chanKind (s : State) (c : Nat) : Nat := s.rdF (pHchan (c / 64)) (0x200 + 4 * (c % 64)) 17 16

/-- The cells enabled. -/
def State.cellList (s : State) : List Nat :=
  s.regs.filterMap (fun (e : Nat × Word) =>
    if 0x401000 ≤ e.1 ∧ e.1 < 0x411000 ∧ 0x200 ≤ e.1 % 0x1000 ∧ e.1 % 0x1000 < 0x300 ∧ e.1 % 0x10 = 8 ∧ bit e.2 0 then
      some ((e.1 / 0x1000 - 0x401) * 16 + (e.1 % 0x1000 - 0x200) / 0x10) else none)

/-- CFG of a cell (Table 12.10). -/
def State.cellCfg (s : State) (k : Nat) : Word := s.rd (pHcell (k / 16)) (0x208 + 0x10 * (k % 16))

/-- FILT of a cell; 3 acts as 0. -/
def cellFilt (cfg : Word) : Nat := if fld cfg 13 12 = 3 then 0 else fld cfg 13 12

/-- A registered stage: REG is 1 or FILT is not 0 (R332). -/
def cellReg (cfg : Word) : Bool := bit cfg 15 || cellFilt cfg != 0

/-- The inputs of a cell: enabled, and channel (Table 12.10). -/
def State.cellIn (s : State) (k i : Nat) : Bool × Nat :=
  let w := s.rd (pHcell (k / 16)) (0x200 + 0x10 * (k % 16) + 4 * (i / 2))
  (bit w (10 + 16 * (i % 2)), fld w (9 + 16 * (i % 2)) (16 * (i % 2)))

/-- v of a cell, from the channels that carry an event; a disabled or foreign input reads 0 (R331). -/
def State.cellV (s : State) (k : Nat) (on : Nat → Bool) : Bool :=
  let own := s.owner (pHcell (k / 16))
  let inp := fun (i : Nat) => let x := s.cellIn k i; if x.1 && s.ownsChan own x.2 && on x.2 then 1 else 0
  bit (s.cellCfg k) (16 + inp 3 * 8 + inp 2 * 4 + inp 1 * 2 + inp 0)

/-- The minimum width W of a cell; 0 and 1 act as 2. -/
def cellW (cfg : Word) : Nat := max 2 (fld cfg 11 8)

/-- s of a cell in a beat, from v of the beat and the beats before it (R331). -/
def cellS (cfg : Word) (hist : Nat) (v : Bool) : Bool :=
  match cellFilt cfg with
  | 1 => decide (3 ≤ popCount 5 hist)
  | 2 => popCount (cellW cfg) hist == cellW cfg
  | _ => v

/-- r of a cell in a beat b (R331, R333). -/
def cellR (cfg : Word) (x : Cell) (b : Nat) (v : Bool) : Bool :=
  if x.init = some b then bit cfg 14 else if bit cfg 15 then x.s else cellS cfg x.hist v

/-- The output of a cell in a beat b (R331, R333). -/
def cellOut (cfg : Word) (x : Cell) (b : Nat) (v : Bool) : Bool :=
  if x.init = some b then false
  else let r := cellR cfg x b v; if bit cfg 4 then r && !x.r else r

/-- Channels pulsed in the current beat by sources, software and rules, foreign references apart (R327 to R330). -/
def State.pulsed (s : State) : List Nat :=
  let now := s.hypha.events.filter (fun e => decide (e.1 ≤ s.beat))
  now.flatMap (fun e =>
    if e.2 < 1024 then
      (s.chanList.filter (fun c => c.2.1 == 1 && c.2.2 == e.2 && s.ownsSrc (s.owner (pHchan (c.1 / 64))) e.2)).map (fun c => c.1)
    else if e.2 < 2048 then [e.2 - 1024]
    else if s.chanKind (e.2 - 2048) = 3 then [e.2 - 2048] else [])

/-- The channels cells drive: channel and cell, owned (R330). -/
def State.cellChans (s : State) : List (Nat × Nat) :=
  (s.chanList.filter (fun c => c.2.1 == 2 && decide (c.2.2 < 256)
    && (s.owner (pHchan (c.1 / 64)) == 0x1F || s.owner (pHcell (c.2.2 / 16)) == s.owner (pHchan (c.1 / 64))))).map (fun c => (c.1, c.2.2))

/-- Cell k of the state. -/
def State.cell (s : State) (k : Nat) : Cell := Tab.get {} s.hypha.cells k

/-- The channels that carry an event, given the pulsed ones and the cells whose output is 1. -/
def chansOn (pulsed : List Nat) (chans : List (Nat × Nat)) (outs : List Nat) : List Nat :=
  (pulsed ++ (chans.filter (fun c => outs.contains c.2)).map (fun c => c.1)).eraseDups

/-- The cells whose output is 1: combinational cells settle within the beat, in at most as many rounds as there are cells
(R332). -/
def State.settle (s : State) (pulsed : List Nat) (chans : List (Nat × Nat)) (cells : List Nat) : Nat → List Nat → List Nat
  | 0, outs => outs
  | n + 1, outs =>
    let on := chansOn pulsed chans outs
    State.settle s pulsed chans cells n
      (cells.filter (fun k => cellOut (s.cellCfg k) (s.cell k) s.beat (s.cellV k (fun c => on.contains c))))

/-- The channels that carry an event in the current beat, and the cells whose output is 1 (R327, R331). -/
def State.hyphaNow (s : State) : List Nat × List Nat :=
  let pulsed := s.pulsed
  let chans := s.cellChans
  let cells := s.cellList
  let outs := s.settle pulsed chans cells (cells.length + 1) []
  (chansOn pulsed chans outs, outs)

/-- Whether anything moves in the event matrix. -/
def State.hyphaOn (s : State) : Bool := !s.hypha.events.isEmpty || !s.cellList.isEmpty

/-- The enabled fork entries: page, entry, and register value (Table 12.9). -/
def State.forkList (s : State) : List (Nat × Nat × Word) :=
  s.regs.filterMap (fun (e : Nat × Word) =>
    if 0x411000 ≤ e.1 ∧ e.1 < 0x421000 ∧ 0x400 ≤ e.1 % 0x1000 ∧ e.1 % 0x1000 < 0x800 ∧ bit e.2 31 then
      some (e.1 / 0x1000 - 0x411, (e.1 % 0x1000 - 0x400) / 4, e.2) else none)

/-- Channel and task of a fork entry (R335). -/
def forkBind (p : Nat) (v : Word) : Nat × Nat := (64 * p + fld v 21 16, 8 * fld v 12 8 + fld v 2 0)

/-- Whether a fork entry's frond belongs to the owner of the page that names it (R330, R335). -/
def State.forkOwned (s : State) (p : Nat) (v : Word) : Bool :=
  s.owner (pHchan p) == 0x1F || s.frondOwner (fld v 12 8) == s.owner (pHchan p)

/-- Events withheld by foreign references in the current beat are flagged and counted by the naming page (R330). -/
def State.hyphaForeign (s : State) (on outs : List Nat) : State :=
  let now := s.hypha.events.filter (fun e => decide (e.1 ≤ s.beat) && decide (e.2 < 1024))
  let badChan := s.chanList.filter (fun c =>
    (c.2.1 == 1 && now.any (fun e => e.2 == c.2.2) && !s.ownsSrc (s.owner (pHchan (c.1 / 64))) c.2.2)
    || (c.2.1 == 2 && outs.contains c.2.2 && !s.cellChans.contains (c.1, c.2.2)))
  let badFork := s.forkList.filter (fun e => on.contains (forkBind e.1 e.2.2).1 && !s.forkOwned e.1 e.2.2)
  let s0 := badChan.foldl (fun a c => (a.flag (pHchan (c.1 / 64)) 1).count (pHchan (c.1 / 64)) 2 1) s
  let s1 := badFork.foldl (fun a e => (a.flag (pHchan e.1) 1).count (pHchan e.1) 2 1) s0
  s.cellList.foldl (fun a k =>
    let n := ((List.range 4).filter (fun i => let x := s.cellIn k i
      x.1 && on.contains x.2 && !s.ownsChan (s.owner (pHcell (k / 16))) x.2)).length
    if n = 0 then a else (a.flag (pHcell (k / 16)) 0).count (pHcell (k / 16)) 16 n) s1

/-- The event matrix at the end of the current beat: events are counted and wait for their delivery, and the cells take
their next state (R331, R344, R345). -/
def State.hyphaTick (s : State) : State :=
  let x := s.hyphaNow
  let on := x.1
  let s1 := s.hyphaForeign on x.2
  let s2 := on.foldl (fun a c => a.count (pHchan (c / 64)) 0 1) s1
  let s3 := s.cellList.foldl (fun a k =>
    let cfg := s.cellCfg k
    let c := s.cell k
    let v := s.cellV k (fun n => on.contains n)
    let r := cellR cfg c s.beat v
    let o := cellOut cfg c s.beat v
    let sv := cellS cfg c.hist v
    let y : Cell := { hist := (2 * c.hist + (if v then 1 else 0)) % 2 ^ 15, s := sv, r := r, out := o }
    let b := { a with hypha := { a.hypha with cells := Tab.set {} a.hypha.cells k y } }
    let b1 := b.wr (pHcell (k / 16)) (0x20C + 0x10 * (k % 16)) (BitVec.ofNat 32 ((if o then 2 else 0) + (if r then 1 else 0)))
    if o then b1.count (pHcell (k / 16)) (k % 16) 1 else b1) s2
  { s3 with hypha := { s3.hypha with
      events := s3.hypha.events.filter (fun e => decide (s.beat < e.1)),
      carried := s3.hypha.carried ++ (on.filter (fun c => !s.hypha.delivered.contains c)).map (fun c => (s.beat, c)),
      delivered := [] } }

end Sys2Proof.Machine
end

