-- ==== Sys2Proof/Machine/Crozier.lean ====
section
/-! DEFINITION. Crozier: the microword, its faults, waits and stalls, posting, the ALU, the next address and the
wait (05_crozier_sequencer.md R134 to R147, R155 to R168). A command that names an operation of a word executes the
whole word at PC, because a word is one indivisible step (R144): where the word at PC does not hold that operation,
or the Crozier is not running, no such event happens (log entry 4). -/
namespace Sys2Proof.Machine

/-- A decoded microword (Table 5.1). -/
structure Uw where
  op : Nat
  cond : Nat
  target : Nat
  wmode : Nat
  wval : Nat
  cslot : Nat
  /-- EN, JMP, IX, TONE, ENTRY, OFS, COND, FRAME of XY[0], XY[1] and PROBE. -/
  xy0 : Chan
  ix0 : Bool
  xy1 : Chan
  ix1 : Bool
  probe : Chan
  ixp : Bool
  fluxEn : Bool
  fluxIx : Bool
  fluxMask : Nat
  fluxSeg : Nat
  fluxOfs : Nat
  roEn : Bool
  roMask : Nat
  roOfs : Nat
  frOp : Nat
  frQubit : Nat
  ev : Nat
  alu : Nat
  dst : Nat
  src : Nat
deriving DecidableEq, Repr

/-- An XY field whose EN bit is bit hi (Table 5.1). -/
def uwXy (w hi : Nat) : Chan :=
  { en := tst w hi, jmp := tst w (hi - 1), tone := nfld w (hi - 3) (hi - 5), entry := nfld w (hi - 6) (hi - 17),
    ofs := nfld w (hi - 18) (hi - 22), cond := nfld w (hi - 23) (hi - 24), frame := tst w (hi - 25) }

/-- Decode a microword (Table 5.1). -/
def Uw.decode (x : BitVec 192) : Uw :=
  let w := x.toNat
  { op := nfld w 191 188, cond := nfld w 187 183, target := nfld w 182 170, wmode := nfld w 169 168,
    wval := nfld w 167 154, cslot := nfld w 153 150,
    xy0 := uwXy w 149, ix0 := tst w 147, xy1 := uwXy w 123, ix1 := tst w 121,
    probe := { en := tst w 97, jmp := tst w 96, tone := nfld w 94 91, entry := nfld w 90 79, ofs := nfld w 78 74,
               cond := nfld w 73 72 },
    ixp := tst w 95,
    fluxEn := tst w 71, fluxIx := tst w 70, fluxMask := nfld w 69 62, fluxSeg := nfld w 61 50, fluxOfs := nfld w 49 49,
    roEn := tst w 48, roMask := nfld w 47 32, roOfs := nfld w 31 27,
    frOp := nfld w 26 24, frQubit := nfld w 23 20, ev := nfld w 19 16,
    alu := nfld w 15 12, dst := nfld w 11 6, src := nfld w 5 0 }

/-- The timed fields of a word other than its sequence operation (R135). -/
def Uw.timed (u : Uw) : Bool :=
  u.xy0.en || u.xy1.en || u.probe.en || u.fluxEn || u.roEn || u.frOp != 0 || u.ev != 0

/-- Whether the word posts a bundle: a timed field or a timed sequence operation (R135). -/
def Uw.posts (u : Uw) : Bool := u.timed || u.op == 9 || u.op == 10

/-- ILLEGAL_OP: the reserved encodings R140 decodes. -/
def Uw.illegal (u : Uw) : Bool :=
  u.op ≥ 14 || u.wmode == 3 || u.frOp == 7 || u.alu ≥ 13
  || ((u.op == 2 || u.op == 3 || u.op == 12) && u.cond ≥ 0x1B)
  || (u.op == 6 && u.cond ≥ 8) || (u.op == 7 && u.cond ≥ 16) || (u.op == 10 && u.target ≥ 64)
  || (u.wmode == 1 && u.wval ≥ 64)
  || ((u.alu == 8 || u.alu == 9) && u.dst ≥ 8) || (u.alu == 11 && u.src ≥ 8)
  || (u.xy0.en && u.xy0.cond == 3) || (u.xy1.en && u.xy1.cond == 3) || (u.probe.en && u.probe.cond == 3)
  || (u.roEn && u.roOfs ≥ 24)

/-- State codes of STATUS.STATE (Table 5.18). -/
def State.crzState (s : State) (f : Nat) : Nat := s.rdF (pCrozier f) 0x10 20 16

/-- Set STATUS.STATE. -/
def State.setCrzState (s : State) (f st : Nat) : State := s.wrF (pCrozier f) 0x10 20 16 st

/-- Whether a Crozier takes part in its tuft's shots: RUNNING, HELD, STALLED or WAITING (R158). -/
def State.active (s : State) (f : Nat) : Bool := decide (1 ≤ s.crzState f) && decide (s.crzState f ≤ 4)

/-- The time cursor. -/
def State.tc (s : State) (f : Nat) : Nat := s.rd64 (pCrozier f) 0x10C

/-- Set the time cursor. -/
def State.setTc (s : State) (f v : Nat) : State := s.wr64 (pCrozier f) 0x10C v

/-- Parameter register p (R166). -/
def State.par (s : State) (f p : Nat) : Nat := (s.rd (pCrozier f) (0x200 + 4 * p)).toNat

/-- Loop counter k. -/
def State.lc (s : State) (f k : Nat) : Nat := s.rdF (pCrozier f) (0x170 + 4 * k) 23 0

/-- Set a loop counter. -/
def State.setLc (s : State) (f k v : Nat) : State := s.wrF (pCrozier f) (0x170 + 4 * k) 23 0 v

/-- The program counter. -/
def State.pc (s : State) (f : Nat) : Nat := s.rdF (pCrozier f) 0x108 12 0

/-- Set the program counter. -/
def State.setPc (s : State) (f v : Nat) : State := s.wrF (pCrozier f) 0x108 12 0 v

/-- Set the call stack; STACK_STAT shows its depth and top (Table 5.28). -/
def State.setStack (s : State) (f : Nat) (st : List Nat) : State :=
  let c := s.crz f
  (s.setCrz f { c with stack := st }).wr (pCrozier f) 0x130
    (BitVec.ofNat 32 (st.length * 2 ^ 16 + st.headD 0))

/-- The word at PC of the bank in use (R167). -/
def State.fetch (s : State) (f : Nat) : Uw :=
  Uw.decode (Tab.get 0 s.cs (f * 16384 + (if s.rdB (pCrozier f) 0x10 22 then 8192 else 0) + s.pc f))

/-- Record DEPTH and the high-water mark of the timed queue (Table 5.23). -/
def State.setQueue (s : State) (f : Nat) (q : List Bundle) : State :=
  let c := s.crz f
  let s1 := s.setCrz f { c with queue := q }
  let h := max (s1.rdF (pCrozier f) 0x114 25 16) q.length
  s1.wr (pCrozier f) 0x114 (BitVec.ofNat 32 (h * 2 ^ 16 + q.length))

/-- A frond's record of the current beat on the decision bus, changed by g; made where there is none (R275). -/
def State.busPut (s : State) (f : Nat) (g : BusRec → BusRec) : State :=
  if s.bus.any (fun r => r.frond == f && r.beat == s.beat) then
    { s with bus := s.bus.map (fun r => if r.frond = f ∧ r.beat = s.beat then g r else r) }
  else { s with bus := s.bus ++ [g { frond := f, beat := s.beat }] }

/-- A shot of a frond that starts or runs at beat b is marked INVALID: a distributed commit of its owner or of the warden with T at
or before b split, and the flag stands (04_commit_groups.md R131). -/
def State.splitMark (s : State) (f b : Nat) : Bool :=
  s.rdB pCommit 0x14 0 && s.splits.any (fun x => (x.1 == 0x1F || x.1 == s.frondOwner f) && decide (x.2 ≤ b))

/-- A stall, hold or wait ends, and the Crozier is RUNNING again; its beats have been counted as they passed (State.pauseCount). -/
def State.unpause (s : State) (f : Nat) : State :=
  match s.crzState f with
  | 2 | 3 | 4 => (s.setCrz f { s.crz f with paused := 0 }).setCrzState f 1
  | _ => s

/-- A shot-end record goes on the decision bus: the number of the latest of the shots that end and its STARTS, 0 where the frond leaves
outside a shot (R155, R158). -/
def State.busShotEnd (s : State) (f : Nat) (l : List Shot) : State :=
  s.busPut f (fun r =>
    let r1 := { r with shotEnd := true, tuft := s.frondOwner f }
    match l.getLast? with
    | some h => { r1 with shotNum := if r.gen = h.starts then max r.shotNum h.num else h.num, gen := h.starts }
    | none => r1)

/-- A shot that a frond's leaving ends: not ended, and no SHOT_END of it is in the queue any more: the shot the Crozier is inside, and
those whose SHOT_END was discarded. A shot whose SHOT_END is still queued ends there (R158, R162; DEDUCED, log entry 8). -/
def Croz.leaves (c : Croz) (h : Shot) : Bool := h.ended.isNone && !c.queue.any (fun b => b.shotEnd && b.shot == h.uid)

/-- A frond leaves those of its shots that p names: each is marked INVALID and ends now, and a shot-end record goes on the decision bus
(R158). -/
def State.leaveBy (s : State) (f : Nat) (p : Shot → Bool) : State :=
  let c := s.crz f
  let s1 := s.setCrz f { c with
    inShot := false, waited := false, hwaited := false,
    shots := c.shots.map (fun h => if p h then { h with tags := tagOr h.tags 1, ended := some s.beat } else h) }
  s1.busShotEnd f (c.shots.filter p)

/-- A frond leaves the shots of its tuft in program order: its open shot is marked INVALID and ends now (R158). -/
def State.leaveShots (s : State) (f : Nat) : State := s.leaveBy f (s.crz f).leaves

/-- A frond leaves every shot it is inside, those whose SHOT_END is still queued too (R56, R158). -/
def State.leaveOpen (s : State) (f : Nat) : State :=
  if (s.crz f).shots.any (fun h => h.ended.isNone) then s.leaveBy f (fun h => h.ended.isNone) else s

/-- The Crozier faults (R165). -/
def State.crzFault (s : State) (f code : Nat) : State :=
  let s1 := (((s.unpause f).setCrzState f 6).wr (pCrozier f) 0x12C (BitVec.ofNat 32 (code * 2 ^ 24 + s.pc f))).flag (pCrozier f) 0
  if s1.rdB (pCrozier f) 0x0C 16 then
    let s2 := (s1.setQueue f []).leaveShots f
    s2.setCrz f { s2.crz f with forced := true }
  else s1.leaveShots f

/-- A running Crozier halts at its boundary (R162): STATE HALTED, FLAGS.HALTED, and the open shot INVALID. A Crozier
that is IDLE, HALTED or in FAULT keeps its state. -/
def State.crzHalt (s : State) (f : Nat) : State :=
  if s.active f then ((((s.unpause f).setCrzState f 5).flag (pCrozier f) 7).leaveShots f) else s

/-- Every shot of a frond that is still open ends: a running Crozier halts; one that does not run keeps its state, and a shot whose
SHOT_END was discarded ends INVALID all the same (R39, R52, R56, R158, R159, R162). -/
def State.crzStop (s : State) (f : Nat) : State :=
  if s.active f then s.crzHalt f else if (s.crz f).shots.any (s.crz f).leaves then s.leaveShots f else s

/-- A frond's queued bundles are discarded, its Crozier halts, and its open shots end INVALID (R39, R52, R474). -/
def State.crzDrop (s : State) (f : Nat) : State := (s.setQueue f []).crzStop f

/-- A halt command that has reached the Crozier halts it at its next microword boundary: between two words, or where a word waits
(R162, R163). -/
def State.haltStep (s : State) (f : Nat) : State :=
  let c := s.crz f
  match c.haltAt with
  | some b => if decide (s.beat < b) || (s.active f && decide (s.beat < c.ready)) then s else (s.setCrz f { c with haltAt := none }).crzHalt f
  | none => s

/-- Every halt command that has reached its Crozier. -/
def State.haltDue (s : State) : State :=
  (s.croz.filter (fun (e : Nat × Croz) => e.2.haltAt.isSome)).foldl (fun a e => a.haltStep e.1) s

/-- A SHOT commit group of a tuft is in VALIDATING, ARMED or DECIDED (R123). POINT.TUFT = 0x1F names the fronds the warden owns, which
then hold and have boundaries together as one tuft has (DESIGN CHOICE, log entry 44: the spec does not say what a SHOT point of 0x1F does). -/
def State.shotGroup (s : State) (t : Nat) : Bool :=
  (List.range 64).any (fun g => s.rdF (pCgrp g) 0x108 1 0 == 0 && decide (2 ≤ s.rdF (pCgrp g) 0x104 2 0)
    && decide (s.rdF (pCgrp g) 0x104 2 0 ≤ 4) && s.rdF (pCgrp g) 0x108 12 8 == t)

/-- The thermal stretch factor F, U8.8, as the beat domain holds it: a new value from the beat in which it arrives on
(17_thermal_and_counters.md R462, Table 17.4). -/
def State.stretch (s : State) : Nat := if s.beat < s.therm.fAt then s.therm.fOld else s.rdF pTherm 0x108 31 16

/-- The hold conditions at SHOT_BEGIN other than ENABLE = 0 (R156). -/
def State.shotHold (s : State) (f : Nat) : Bool :=
  s.mode != 3 || s.boot.target == some 2 || s.shotGroup (s.frondOwner f) || decide (8 * 256 ≤ s.stretch)

/-- What a condition of Table 5.3 says at the posting-time view: the wait is over or not, and the value. -/
inductive CondVal where
  | wait
  | val (b : Bool)
  /-- A slot without a trusted value: the default branch, and the mark it leaves (R147). -/
  | default (tag : Nat)
deriving DecidableEq, Repr

/-- The posting-time reading of a slot (R147). -/
def State.slotCond (s : State) (f k : Nat) : CondVal :=
  match s.postView f k with
  | 0 => .default 0x10
  | 1 => .wait
  | _ => if (s.postRead f k).1 = 0 then .val ((s.postRead f k).2.1 != 0) else .default (qualTag (s.postRead f k).1)

/-- Evaluate SEQ.COND (Table 5.3); p0 is P[0] before the word. -/
def State.cond (s : State) (f code p0 : Nat) : CondVal :=
  if code < 16 then s.slotCond f code
  else if code = 16 then .val true
  else if code < 0x19 then .val (tst (s.crz f).evin (code - 0x11))
  else if code = 0x19 then .val (p0 != 0)
  else .val (tst p0 31)

/-- Clear a latched EVIN; IRQ_CTRL.PEND shows EVIN[0..3] (Table 5.29). -/
def State.setEvin (s : State) (f m : Nat) : State :=
  let c := s.crz f
  (s.setCrz f { c with evin := m }).wrF (pCrozier f) 0x134 11 8 (m % 16)

/-- Reading an EVIN condition true consumes the latch (Table 5.3). -/
def State.consume (s : State) (f code : Nat) : State :=
  if 0x11 ≤ code ∧ code ≤ 0x18 then s.setEvin f (mclr (s.crz f).evin (code - 0x11)) else s

/-- The latch an enabled interrupt input holds at a boundary: the lowest-numbered (R164). -/
def State.irqInput (s : State) (f : Nat) : Option Nat :=
  if s.rdB (pCrozier f) 0x10 23 then none
  else (List.range 4).find? (fun i => tst (s.crz f).evin i && s.rdB (pCrozier f) 0x134 i)

/-- Whether the word must still wait for a slot or an event (R144 step 2, R147). -/
def State.wordWaits (s : State) (f : Nat) (u : Uw) : Bool :=
  let p0 := s.par f 0
  (match u.op with
    | 2 | 3 => u.cond < 16 && s.slotCond f u.cond == .wait
    | 7 => s.slotCond f (u.cond % 16) == .wait
    | 12 => if u.cond < 16 then s.slotCond f u.cond == .wait else s.cond f u.cond p0 != .val true
    | _ => false)
  || (u.alu == 10 && s.slotCond f (u.src % 16) == .wait)

/-- Whether the word stalls before posting (R137). -/
def State.wordStalls (s : State) (f : Nat) (u : Uw) : Bool :=
  u.posts && (decide (512 ≤ (s.crz f).queue.length)
    || decide (s.tc f > s.beat + max 3 (s.rdF (pCrozier f) 0x128 22 0)))

/-- The effective list entry of channel k (R141). -/
def State.effEntry (s : State) (f k entry : Nat) (ix : Bool) : Nat :=
  (s.rdF (pCrozier f) (0x158 + 4 * k) 13 0 + entry + (if ix then s.par f 63 % 16384 else 0)) % 16384

/-- The bundle of a word, resolved with the parameter values held before it and stamped with an issue beat
(R135, R141, R144 step 3). -/
def State.bundleOf (s : State) (f : Nat) (u : Uw) (issue shot : Nat) : Bundle :=
  { issue := issue, shot := shot, shotEnd := u.op == 9, sync := u.op == 10, grp := u.target % 64, cslot := u.cslot,
    xy0 := if u.xy0.en then { u.xy0 with entry := s.effEntry f 0 u.xy0.entry u.ix0 } else {},
    xy1 := if u.xy1.en then { u.xy1 with entry := s.effEntry f 1 u.xy1.entry u.ix1 } else {},
    probe := if u.probe.en then { u.probe with entry := s.effEntry f 2 u.probe.entry u.ixp } else {},
    fluxEn := u.fluxEn, fluxMask := if u.fluxEn then u.fluxMask else 0,
    fluxSeg := if u.fluxEn then (u.fluxSeg + (if u.fluxIx then s.par f 62 % 4096 else 0)) % 4096 else 0,
    fluxOfs := if u.fluxEn then u.fluxOfs else 0,
    roEn := u.roEn, roMask := if u.roEn then u.roMask else 0, roOfs := if u.roEn then u.roOfs else 0,
    frOp := u.frOp, frQubit := if u.frOp = 0 then 0 else u.frQubit, ev := u.ev }

/-- The 27 bits of an XY or probe field of a queue entry; a probe field has one TONE bit more and no FRAME (Table 5.10). -/
def Chan.bits (c : Chan) (probe : Bool) : Nat :=
  let en := (if c.en then 1 else 0) * 2 ^ 26 + (if c.jmp then 1 else 0) * 2 ^ 25
  if probe then en + c.tone % 16 * 2 ^ 21 + c.entry % 16384 * 2 ^ 7 + c.ofs % 32 * 2 ^ 2 + c.cond % 4
  else en + c.tone % 8 * 2 ^ 22 + c.entry % 16384 * 2 ^ 8 + c.ofs % 32 * 2 ^ 3 + c.cond % 4 * 2 + (if c.frame then 1 else 0)

/-- The 192 bits of a queue entry; num is SHOT_NUM of the shot that posted it (R148, Table 5.10). -/
def Bundle.entry (b : Bundle) (num : Nat) : BitVec 192 :=
  BitVec.ofNat 192 (b.issue % 2 ^ 24 * 2 ^ 168 + num % 256 * 2 ^ 160 + (if b.shotEnd then 1 else if b.sync then 2 else 0) * 2 ^ 158
    + b.grp % 64 * 2 ^ 152 + b.cslot % 16 * 2 ^ 148 + b.xy0.bits false * 2 ^ 121 + b.xy1.bits false * 2 ^ 94 + b.probe.bits true * 2 ^ 67
    + (if b.fluxEn then 2 ^ 66 else 0) + b.fluxMask % 256 * 2 ^ 58 + b.fluxSeg % 4096 * 2 ^ 46 + b.fluxOfs % 2 * 2 ^ 45
    + (if b.roEn then 2 ^ 44 else 0) + b.roMask % 65536 * 2 ^ 28 + b.roOfs % 32 * 2 ^ 23
    + b.frOp % 8 * 2 ^ 20 + b.frQubit % 16 * 2 ^ 16 + b.ev % 16 * 2 ^ 12)

/-- The queue's comparison of an issue beat with the beat: a signed 24-bit difference (R148). -/
def issueAhead (issue beat : Nat) : Int := sgn ((issue + 2 ^ 24 - beat % 2 ^ 24) % 2 ^ 24) 24

/-- The beat in which a bundle posted now with issue beat st leaves the queue: from the third beat on, the first at which the comparison
gives 0 (R136, R148). It is st itself as long as st lies less than 2^24 beats ahead; further ahead, where only a SHOT_BEGIN word can post, R148
decides and not R149 (DESIGN CHOICE, log entry 44: the two rules part there). -/
def State.queueBeat (s : State) (st : Nat) : Nat :=
  s.beat + 3 + ((issueAhead st (s.beat + 3)) % 2 ^ 24).toNat

/-- A bundle has nothing left to do at its issue beat. -/
def Bundle.done (b : Bundle) : Bool :=
  !b.shotEnd && !b.sync && (!b.xy0.en || b.xy0.jmp) && (!b.xy1.en || b.xy1.jmp) && (!b.probe.en || b.probe.jmp)
    && b.fluxMask == 0 && b.roMask == 0 && b.frOp == 0 && b.ev == 0

/-- Bundles that have left a queue by beat b: the issue beat has passed, or it is b and nothing is left to do (R149). -/
def Bundle.left (x : Bundle) (b : Nat) : Bool := decide (x.issue < b) || (x.issue == b && x.done)

/-- Every queue as the current beat finds it (R149). -/
def State.queuesLeave (s : State) : State :=
  (s.croz.filter (fun (e : Nat × Croz) => e.2.queue.any (fun b => b.left s.beat))).foldl (fun a e =>
    a.setQueue e.1 ((a.crz e.1).queue.filter (fun b => !b.left a.beat))) s

/-- The slots a posted bundle will arm, for the posting-time view: those written by a DIRECT rule of the frond's owner whose source is
this frond and one of the tones whose windows the bundle opens (R279, R286). -/
def State.slotsArmed (s : State) (f roMask : Nat) : List Nat :=
  (List.range 16).filter (fun k => match s.writerOf f k with
    | some (n, r) => s.ruleAtPort n r && s.ruleSF n r == f && s.owner (pSlot n) == s.frondOwner f && tst roMask (s.ruleST n r)
    | none => false)

end Sys2Proof.Machine
end

