-- ==== Sys2Proof/Machine/Waveform.lean ====
section
/-! DEFINITION. Waveform: the waveform store: descriptors, list entries, segment players, starts, jumps, boundaries,
and the streaming rings (06_waveform_store.md R171 to R197). Times are DAC-sample indices in issue time: 32 per
beat. -/
namespace Sys2Proof.Machine

/-- Segment player c of a frond. -/
def State.player (s : State) (f c : Nat) : Player := Tab.get {} s.players (64 * f + c)

/-- The active table bank (R185). -/
def State.tblBank (s : State) (f : Nat) : Nat := s.rdF (pWaveform f) 0x100 0 0

/-- Descriptor of a segment in the active bank (R173). -/
def State.descOf (s : State) (f seg : Nat) : BitVec 64 := Tab.get 0 s.descs (f * 8192 + s.tblBank f * 4096 + seg)

/-- List entry in the active bank (R176). -/
def State.listOf (s : State) (f e : Nat) : BitVec 128 := Tab.get 0 s.lists (f * 32768 + s.tblBank f * 16384 + e)

/-- Fields of a descriptor (Table 6.2). -/
def descKind (d : BitVec 64) : Nat := nfld d.toNat 63 62
def descRate (d : BitVec 64) : Nat := nfld d.toNat 61 60
def descStream (d : BitVec 64) : Bool := tst d.toNat 59
def descRing (d : BitVec 64) : Nat := nfld d.toNat 58 56
def descStart (d : BitVec 64) : Nat := nfld d.toNat 51 32
def descNsamp (d : BitVec 64) : Nat := nfld d.toNat 21 0

/-- Fields of a list entry (Table 6.3). -/
def entFtw (e : BitVec 128) : Nat := nfld e.toNat 127 80
def entPhase (e : BitVec 128) : Nat := nfld e.toNat 79 48
def entAmp (e : BitVec 128) : Int := sgn (nfld e.toNat 47 30) 18
def entPmode (e : BitVec 128) : Nat := nfld e.toNat 29 28
def entLinkEn (e : BitVec 128) : Bool := tst e.toNat 27
def entSeg (e : BitVec 128) : Nat := nfld e.toNat 25 14
def entLink (e : BitVec 128) : Nat := nfld e.toNat 13 0

/-- DAC-sample periods one envelope sample spans (R175). -/
def descSpan (d : BitVec 64) : Nat := if descRate d = 0 then 64 else if descRate d = 1 then 32 else 16

/-- Bytes of one sample of the segment in a ring (R174). -/
def descBytes (d : BitVec 64) : Nat := if descKind d = 2 then 2 else 4

/-- Ring r of a frond. -/
def State.ring (s : State) (f r : Nat) : Ring := Tab.get {} s.rings (8 * f + r)

/-- Offset of register w of RING[r] (Table 6.16). -/
def ringReg (r w : Nat) : Nat := 0x200 + 0x20 * r + 4 * w

/-- A ring in effect enabled: EN and 4 to 256 staging blocks (R187, Table 6.6). -/
def State.ringOn (s : State) (f r : Nat) : Bool :=
  s.rdB (pWaveform f) (ringReg r 2) 31 && decide (4 ≤ s.rdF (pWaveform f) (ringReg r 3) 8 0)
    && decide (s.rdF (pWaveform f) (ringReg r 3) 8 0 ≤ 256)

/-- Set a ring's consumer; STATUS.RING_BUSY and STAT.IN_USE show it (R189). -/
def State.setRing (s : State) (f r : Nat) (x : Ring) : State :=
  (({ s with rings := Tab.set {} s.rings (8 * f + r) x }).wrB (pWaveform f) 0x10 (16 + r) x.consumer.isSome).wrB
    (pWaveform f) (ringReg r 7) 31 x.consumer.isSome

/-- Set player c of a frond; TONE_ACTIVE and FLUX_ACTIVE show whether it plays (Table 6.15). -/
def State.setPlayer (s : State) (f c : Nat) (p : Player) : State :=
  let s1 := { s with players := Tab.set {} s.players (64 * f + c) p }
  if c < 32 then s1.wrB (pWaveform f) 0x114 c p.playing else s1.wrB (pWaveform f) 0x118 (c - 32) p.playing

/-- The phase accumulator of a tone at DAC sample k (R177). -/
def Pass.phiAt (p : Pass) (k : Nat) : Nat := (p.phi + p.ftw * (k - p.kphi)) % 2 ^ 48

/-- Why a segment is unusable for a channel (Table 6.6), or none. -/
def State.segError (s : State) (f c : Nat) (d : BitVec 64) : Option Nat :=
  let flux := decide (32 ≤ c)
  if descKind d = 0 then some 1
  else if descKind d = 3 || (flux && descKind d == 1) || (!flux && descKind d == 2) then some 2
  else if descRate d = 3 || (flux && descRate d != 2) then some 3
  else if descNsamp d = 0 then some 4
  else if !descStream d && decide (0x100000 < descStart d + (if flux then (descNsamp d + 1) / 2 else descNsamp d))
    then some 4
  else if descStream d && !s.ringOn f (descRing d) then some 5
  else if descStream d && (match (s.ring f (descRing d)).consumer with | some x => x != c | none => false) then some 6
  else none

/-- Release the ring a player consumes. -/
def State.freeRing (s : State) (f c : Nat) : State :=
  match (s.player f c).ring with
  | some r => if (s.ring f r).consumer = some c then s.setRing f r { s.ring f r with consumer := none } else s
  | none => s

/-- The passes of a player with samples in the current beat b, its own cut at sample k. -/
def Player.retire (p : Player) (b k : Nat) : List Pass :=
  (if p.playing then [{ p.toPass with len := min p.len (k - p.k0) }] else [])
    ++ p.last.filter (fun q => decide (32 * b < q.k0 + q.len))

/-- A segment error idles the channel from sample k, is counted and recorded, and marks the shot INVALID (R183). The list entry's FTW and
PMODE do not take effect: Φ runs on at the old frequency (DESIGN CHOICE, log entry 44: R183 says only that the tone is idle as though the segment
had ended there). -/
def State.segFail (s : State) (f c k seg code shot : Nat) : State :=
  let p := s.player f c
  let s1 := (s.freeRing f c).setPlayer f c { p with
    playing := false, phi := p.phiAt k, kphi := k, sampling := none, ring := none, latched := none, stop := false, last := p.retire s.beat k }
  let chan := if c < 8 then 0 else if c < 16 then 1 else if c < 32 then 2 else 3
  let tone := if c < 16 then c % 8 else if c < 32 then c - 16 else c - 32
  ((((s1.count (pWaveform f) 4 1).flag (pWaveform f) 4).wr (pWaveform f) 0x110
    (BitVec.ofNat 32 (code * 2 ^ 28 + chan * 2 ^ 24 + tone * 2 ^ 20 + seg))).markShot f shot 1)

/-- The phase ψ of a frame (bit 1 X, bit 0 Z): −2 × PHASE where X is set (10_sorus_feedback.md R297). -/
def framePsi (xz : Nat) (ent : BitVec 128) : Nat := if tst xz 1 then (2 ^ 33 - 2 * entPhase ent) % 2 ^ 32 else 0

/-- The frame bits of local qubit q of frond f: bit 1 X, bit 0 Z (10_sorus_feedback.md Table 10.13). -/
def State.frameXz (s : State) (f q : Nat) : Nat := s.rdF pSorus (0x200 + 4 * f) (2 * q + 1) (2 * q)

/-- A pass that waits for its qubit's frame takes it (R202, R297). -/
def Pass.sample (p : Pass) (xz : Nat) : Pass :=
  match p.sampling with
  | some psi => { p with sampling := none, neg := tst xz 0, psi := if tst xz 1 then psi else 0 }
  | none => p

/-- At the end of a beat, the passes and jump requests of that beat sample their qubit's frame (R297): a pass that has ended within the
beat too, and the passes that follow by LINK. -/
def State.sampleFrame (s : State) (f c : Nat) (p : Player) : Player :=
  let xz := s.frameXz f c
  let p1 := { p with toPass := p.toPass.sample xz, last := p.last.map (fun (q : Pass) => q.sample xz) }
  let fix := fun (b : Bool) (fu : FrameUse) => if b && fu == .sample then FrameUse.bits xz else fu
  let fixJump := fun (j : Jump) => { j with frame := fix (decide (j.issue ≤ s.beat)) j.frame }
  { p1 with jumps := p1.jumps.map fixJump, latched := p1.latched.map fixJump }

/-- A pass of segment seg begins on channel c at DAC sample k; ent is the list entry of a tone (R177 to R179, R189). -/
def State.beginPass (s : State) (f c k entry : Nat) (ent : BitVec 128) (seg shot : Nat) (fu : FrameUse) : State :=
  let d := s.descOf f seg
  match s.segError f c d with
  | some code => s.segFail f c k seg code shot
  | none =>
    let p := s.player f c
    let ring := if descStream d then some (descRing d) else none
    let s1 := if p.ring = ring then s else s.freeRing f c
    let pos := match ring with | some r => (s1.ring f r).next | none => 0
    let s2 := match ring with
      | some r => s1.setRing f r { s1.ring f r with consumer := some c, next := pos + descNsamp d * descBytes d }
      | none => s1
    let phi := match entPmode ent with
      | 0 => p.phiAt k
      | 1 => entPhase ent * 2 ^ 16
      | 2 => (entFtw ent * k + entPhase ent * 2 ^ 16) % 2 ^ 48
      | _ => (p.phiAt k + entPhase ent * 2 ^ 16) % 2 ^ 48
    s2.setPlayer f c { p with
      playing := true, entry := entry, ent := ent, seg := seg, desc := d, k0 := k, len := descNsamp d * descSpan d,
      phi := if c < 32 then phi else 0, kphi := k, ftw := if c < 32 then entFtw ent else 0,
      absFtw := match entPmode ent with | 1 => 0 | 2 => entFtw ent | _ => p.absFtw,
      neg := match fu with | .keep => p.neg | .bits xz => tst xz 0 | _ => false,
      psi := match fu with | .keep => p.psi | .bits xz => framePsi xz ent | _ => 0,
      sampling := match fu with | .keep => p.sampling | .sample => some (framePsi 2 ent) | _ => none,
      shot := shot, ring := ring, ringPos := pos, hold := none, under := false, last := p.retire s.beat k, latched := none, latchK := 0,
      stop := (s.crz f).endAt == some s.beat }

/-- What a gate decides for a field (R146): admitted, or suppressed with the mark it leaves. -/
def State.gate (s : State) (f cond slot x : Nat) : Option Nat :=
  if cond = 0 then none
  else
    let v := (s.slot f slot).view x
    if v.st = 2 && v.qual == 0 then
      (if cond = 1 then (if v.value = 0 then some 0 else none) else (if v.value = 0 then none else some 0))
    else some (Slot.sampleTag v.st v.qual)

/-- Count and mark a suppressed field (R146). -/
def State.suppress (s : State) (f shot tag : Nat) : State :=
  (((s.count (pCrozier f) 5 1).flag (pCrozier f) 5).markShot f shot tag)

/-- The beat of the boundary that ends a player's pass (R179). -/
def Player.bj (p : Player) : Nat := (p.k0 + p.len) / 32

/-- The starts of a bundle on tone c: first samples (R142, R150). -/
def Bundle.starts (b : Bundle) (c : Nat) : List Nat :=
  [(b.xy0, 0), (b.xy1, 8), (b.probe, 16)].filterMap (fun x =>
    if x.1.en && !x.1.jmp && x.2 + x.1.tone == c then some (32 * b.issue + x.1.ofs) else none)

/-- A start already posted when request j was, and not yet issued, cuts the pass of tone c at or before sample kb: j names no
boundary of that pass (R182). -/
def State.cutBefore (s : State) (f c kb : Nat) (j : Jump) : Bool :=
  (s.crz f).queue.any (fun b => decide (b.seq < j.seq) && (b.starts c).any (fun k => decide (k ≤ kb)))

/-- Whether a request acts at the boundary that ends the pass of tone c, if it was in time for it (R154, R182). -/
def State.names (s : State) (f c : Nat) (j : Jump) : Bool :=
  let p := s.player f c
  decide (j.issue ≤ p.bj) && !s.cutBefore f c (p.k0 + p.len) j

/-- Count a late jump (R154). -/
def State.jumpLate (s : State) (f : Nat) : State := (s.count (pCrozier f) 3 1).flag (pCrozier f) 3

/-- Hand a posted jump request to its player: one that names the boundary of the current pass and was posted after
Bj − 6 is late (R154, R180). A later request that names the same boundary replaces an earlier one; a gated one does so once its gate
has admitted it, since a suppressed one leaves the boundary as though it had not been posted. -/
def State.handJump (s : State) (f : Nat) (j : Jump) : State :=
  let p := s.player f j.chan
  let late := p.playing && s.names f j.chan j && decide (p.bj < j.posted + 6)
  let s1 := if late then s.jumpLate f else s
  let keep := if p.playing && s.names f j.chan j && !late && j.cond == 0
    then p.jumps.filter (fun x => !(s.names f j.chan x && !x.passed && decide (x.posted + 6 ≤ p.bj))) else p.jumps
  s1.setPlayer f j.chan { p with jumps := keep ++ [{ j with late := late }] }

/-- The requests of idle tones that act as starts in beat b (R181): at the issue beat, or, having missed a boundary
at which the tone became idle, at max(issue beat, Bj + 1). -/
def State.idleJumps (s : State) (f b : Nat) : List Jump :=
  (List.range 32).flatMap (fun c =>
    let p := s.player f c
    if p.playing then []
    else p.jumps.filter (fun j => decide (j.issue = b) || (j.late && decide (b = max j.issue (p.kphi / 32 + 1)))))

/-- Choose among the requests for the boundary of channel c, the newest first (R180): a gated one samples its slot at Bj − 6, and a
suppressed one is withdrawn (R154); the chosen one takes the place of the older ones. -/
def State.latchFrom (f c : Nat) : List Jump → State → State
  | [], s => let p := s.player f c; s.setPlayer f c { p with latchK := p.k0 + p.len, latched := none }
  | j :: t, s =>
    let p := s.player f c
    match s.gate f j.cond j.slot (p.bj - 6) with
    | some tag => State.latchFrom f c t ((s.setPlayer f c { p with jumps := p.jumps.filter (fun x => x.seq != j.seq) }).suppress f j.shot tag)
    | none => s.setPlayer f c { p with
        latchK := p.k0 + p.len, latched := some j, jumps := p.jumps.filter (fun x => x.seq != j.seq && !t.any (fun y => y.seq == x.seq)) }

/-- Latch the next entry for the boundary of channel c (R180): a request that names it, posted by Bj − 6. -/
def State.latchJump (s : State) (f c : Nat) : State :=
  let p := s.player f c
  if p.latchK = p.k0 + p.len then s
  else State.latchFrom f c (p.jumps.filter (fun j => s.names f c j && decide (j.posted + 6 ≤ p.bj))).reverse s

/-- The first sample of the start on channel c that acts among the bundles that issue now: of those its gate admits (R146), the
later-posted one (R152). -/
def State.startNow (s : State) (f c : Nat) : Option Nat :=
  let now := (s.crz f).queue.filter (fun b => b.issue == s.beat)
  if c < 32 then
    (now.flatMap (fun b => [(b.xy0, 0), (b.xy1, 8), (b.probe, 16)].filterMap (fun x =>
      if x.1.en && !x.1.jmp && x.2 + x.1.tone == c && (s.gate f x.1.cond b.cslot (b.issue - 2)).isNone
      then some (32 * b.issue + x.1.ofs) else none))).getLast?
  else
    (now.filterMap (fun b => if tst b.fluxMask (c - 32) then some (32 * b.issue + 16 * b.fluxOfs) else none)).getLast?

/-- A start still to be issued in the current beat takes the place of the boundary at sample kb of channel c (R182). -/
def State.cutNow (s : State) (f c kb : Nat) : Bool :=
  match s.startNow f c with
  | some k => decide (k ≤ kb)
  | none => false

/-- A pass ends: the player continues by the latched jump, by LINK, or becomes idle (R178, R179). Requests that
missed the boundary are late (R154). -/
def State.passBoundary (s : State) (f c : Nat) : State :=
  let s0 := s.latchJump f c
  let p := s0.player f c
  let kb := p.k0 + p.len
  let missed := p.jumps.filter (fun j => s0.names f c j && !j.late)
  let p1 := { p with jumps := p.jumps.map (fun j => if s0.names f c j then { j with late := true, passed := true } else j) }
  let s1 := (missed.foldl (fun a _ => a.jumpLate f) (s0.setPlayer f c p1)).count (pWaveform f) 1 1
  match p.latched with
  | some j =>
    let ent := s1.listOf f j.entry
    (s1.count (pWaveform f) 2 1).beginPass f c kb j.entry ent (entSeg ent) j.shot j.frame
  | none =>
    if c < 32 && entLinkEn p.ent && !p.stop then
      let e := entLink p.ent
      let ent := s1.listOf f e
      s1.beginPass f c kb e ent (entSeg ent) p.shot .keep
    else
      let p2 := s1.player f c
      (s1.freeRing f c).setPlayer f c { p2 with
        playing := false, phi := p2.phiAt kb, kphi := kb, sampling := none, ring := none, stop := false, last := p2.retire s.beat kb }

/-- The boundaries of the playing pass that lie before sample k, in the current beat at most two, take place (R179): a start at sample k
ends the pass that plays then (R182). -/
def State.passEnds (f c k : Nat) : Nat → State → State
  | 0, s => s
  | n + 1, s =>
    let p := s.player f c
    if p.playing && decide (p.k0 + p.len < k) then State.passEnds f c k n (s.passBoundary f c) else s

/-- A start on a tone: the effective list entry from the bank active at the issue beat (R178). The boundaries of the pass it cuts lie at
or after its first sample: jump requests posted before the start's bundle that name one of them are cancelled (R182). -/
def State.startTone (s : State) (f c k entry shot : Nat) (fu : FrameUse) (seq : Nat) : State :=
  let s0 := State.passEnds f c k 2 s
  let p := s0.player f c
  let all := p.latched.toList ++ p.jumps
  let cut := fun (j : Jump) => p.playing && decide (j.seq < seq) && !j.passed
  let s1 := (s0.setPlayer f c { p with jumps := all.filter (fun j => !cut j), latched := none }).count (pWaveform f) 7 (all.filter cut).length
  let e := s1.listOf f entry
  (s1.count (pWaveform f) 0 1).beginPass f c k entry e (entSeg e) shot fu

/-- A start on a flux channel (R178). -/
def State.startFlux (s : State) (f n k seg shot : Nat) : State :=
  ((State.passEnds f (32 + n) k 2 s).count (pWaveform f) 0 1).beginPass f (32 + n) k 0 0 seg shot .plain

/-- Start a request on an idle tone at beat b (R181), gated at ISSUE − 2 (R154). -/
def State.jumpAsStart (s : State) (f b : Nat) (j : Jump) : State :=
  let p := s.player f j.chan
  let s1 := s.setPlayer f j.chan { p with jumps := p.jumps.filter (fun x => x.seq != j.seq) }
  match s1.gate f j.cond j.slot (j.issue - 2) with
  | some tag => s1.suppress f j.shot tag
  | none => s1.startTone f j.chan (32 * b) j.entry j.shot j.frame 0

/-- The fill of a ring: WR − RD modulo 2^32 (R188). -/
def State.ringFill (s : State) (f r : Nat) : Nat :=
  ((s.rd (pWaveform f) (ringReg r 5)) - (s.rd (pWaveform f) (ringReg r 6))).toNat

/-- The size of a ring in bytes; SIZE 15 acts as 14 (Table 6.16). -/
def State.ringSize (s : State) (f r : Nat) : Nat := 65536 * 2 ^ min 14 (s.rdF (pWaveform f) (ringReg r 2) 27 24)

/-- Set LOW_WM or HIGH_WM where the fill of RING[r] crossed its mark from the given old fill (R193). -/
def State.ringLevels (s : State) (f r old : Nat) : State :=
  let fill := s.ringFill f r
  let low := s.rdF (pWaveform f) (ringReg r 4) 15 0 * 16384
  let high := s.rdF (pWaveform f) (ringReg r 4) 31 16 * 16384
  let s1 := if low < old ∧ fill ≤ low then s.flag (pWaveform f) 1 else s
  if old < high ∧ high ≤ fill then s1.flag (pWaveform f) 2 else s1

/-- A write of a ring's WR (R190): refused where it is not a multiple of 64, or the fill would exceed the size or be
negative. -/
def State.ringWrite (s : State) (f r : Nat) (v : Word) : State :=
  let fill := (v - s.rd (pWaveform f) (ringReg r 6)).toNat
  let refuse := fun (code : Nat) => ((s.flag (pWaveform f) 5).count (pWaveform f) 6 1).recErr (pWaveform f) code (ringReg r 5)
  if v.toNat % 64 ≠ 0 then refuse 2
  else if s.ringSize f r < fill ∨ 2 ^ 31 ≤ fill then refuse 1
  else (s.wr (pWaveform f) (ringReg r 5) v).ringLevels f r (s.ringFill f r)

/-- Samples of a player's pass whose first DAC sample lies before beat b. -/
def Player.taken (p : Player) (b : Nat) : Nat :=
  min (descNsamp p.desc) ((32 * b - p.k0 + descSpan p.desc - 1) / descSpan p.desc)

/-- The byte counter up to which a ring's samples have been taken at beat b (R189). -/
def State.ringTaken (s : State) (f r b : Nat) : Nat :=
  match (s.ring f r).consumer with
  | some c =>
    let p := s.player f c
    if p.playing && p.ring == some r && !p.under then p.ringPos + p.taken b * descBytes p.desc else (s.ring f r).next
  | none => (s.ring f r).next

/-- Difference of two free-running byte counters, where the first is ahead; 0 otherwise (R188). -/
def ahead (a b : Nat) : Nat := let d := (a + 2 ^ 32 - b % 2 ^ 32) % 2 ^ 32; if d < 2 ^ 31 then d else 0

/-- Bytes a ring holds in staging at beat b. -/
def State.stageFill (s : State) (f r b : Nat) : Nat := ahead (s.rd (pWaveform f) (ringReg r 6)).toNat (s.ringTaken f r b)

/-- The byte counter RD of a ring, counted on without bound as `next` is. -/
def State.ringRd (s : State) (f r : Nat) : Nat :=
  let n := (s.ring f r).next
  let rd := (s.rd (pWaveform f) (ringReg r 6)).toNat
  if ahead rd n = 0 then n - ahead n rd else n + ahead rd n

/-- The reads of a ring that share an averaging interval with a read in the current beat, and whether n more bytes keep to RESV GB/s, that
is, bytes per beat (R191). The interval is 64 beats, and where RESV is below 4, too small for a unit of 256 bytes in 64 beats, as
many as a unit takes at that rate (DEDUCED, log entry 46). -/
def State.ringPaced (s : State) (f r n : Nat) : Bool × List (Nat × Nat) :=
  let resv := s.rdF (pWaveform f) (ringReg r 2) 20 16
  let span := max 64 ((255 + resv) / max resv 1)
  let near := (s.ring f r).reads.filter (fun (e : Nat × Nat) => decide (s.beat < e.1 + span))
  (decide (near.foldl (fun a (e : Nat × Nat) => a + e.2) n ≤ resv * span), near)

/-- The spans of a ring that a GDDR7 error replaced by zeros and that lie at most 2^30 bytes behind byte counter x. -/
def nearSpans (x : Nat) (l : List (Nat × Nat)) : List (Nat × Nat) :=
  l.filter (fun (e : Nat × Nat) => decide ((x + 2 ^ 32 - e.1 % 2 ^ 32) % 2 ^ 32 < 2 ^ 30))

/-- One read of ring data into staging (R191): 256 bytes, or the remainder of a shorter fill, where the fill, the free staging and the
reservation allow it; the bytes land in the ring's staging blocks, and RD advances. A staging area that runs past block 4,095 runs on into the words behind
the frond's SRAM, which hold the next frond's (DESIGN CHOICE, log entry 44: the spec does not say what such an area is). -/
def State.ringRefill (s : State) (f r : Nat) : State :=
  let fill := s.ringFill f r
  let n := min 256 fill
  let blocks := s.rdF (pWaveform f) (ringReg r 3) 8 0
  let held := s.stageFill f r s.beat
  let pace := s.ringPaced f r n
  if !s.ringOn f r || n = 0 || decide (blocks * 1024 < held + n) || !pace.1 then s
  else
    let rd := (s.rd (pWaveform f) (ringReg r 6)).toNat
    let at_ := s.ringRd f r
    let base := s.rd64 (pWaveform f) (ringReg r 0)
    let size := s.ringSize f r
    let stage := s.rdF (pWaveform f) (ringReg r 3) 27 16 * 256
    let word := fun (i : Nat) => leNat ((List.range 4).map (fun k => Tab.get 0 s.gddr (base + (rd + 4 * i + k) % size)))
    let sram := (List.range (n / 4)).foldl (fun t i =>
      Tab.set 0 t (f * 0x100000 + stage + (at_ + 4 * i) % (blocks * 1024) / 4) (BitVec.ofNat 32 (word i))) s.sram
    let s0 := { s with sram := sram, rings := Tab.set {} s.rings (8 * f + r) { s.ring f r with
      reads := (s.beat, n) :: pace.2, bad := nearSpans (rd + n) (s.ring f r).bad } }
    let s2 := (s0.wr (pWaveform f) (ringReg r 6) (BitVec.ofNat 32 (rd + n))).ringLevels f r fill
    let behind := ahead (s2.ring f r).next (rd + n)
    let skip := match (s2.ring f r).consumer with
      | some c => if (s2.player f c).under then decide (0 < behind) else false
      | none => decide (0 < behind)
    s2.wrB (pWaveform f) (ringReg r 7) 28 skip

/-- A byte of a ring was replaced by a zero (14_serial_links.md R392). -/
def State.badByte (s : State) (f r x : Nat) : Bool :=
  (s.ring f r).bad.any (fun (e : Nat × Nat) => decide ((x + 2 ^ 32 - e.1 % 2 ^ 32) % 2 ^ 32 < e.2))

/-- A read of ring data that meets a persistent GDDR7 error: zeros take the place of the data, and the affected samples count as
missing (14_serial_links.md R392). -/
def State.ringRefillBad (s : State) (f r : Nat) : State :=
  let rd := (s.rd (pWaveform f) (ringReg r 6)).toNat
  let s1 := { ({ s with gddr := [] }).ringRefill f r with gddr := s.gddr }
  let n := ahead (s1.rd (pWaveform f) (ringReg r 6)).toNat rd
  if n = 0 then s1
  else
    let x := s1.ring f r
    { s1 with rings := Tab.set {} s1.rings (8 * f + r) { x with bad := (rd, n) :: nearSpans (rd + n) x.bad } }

/-- The first DAC sample of the first sample of a streamed pass that starts in the current beat and that staging does not hold, or that a
zero replaced (R194; 14_serial_links.md R392). -/
def State.missing (s : State) (f : Nat) (q : Pass) : Option Nat :=
  match q.ring with
  | none => none
  | some r =>
    let sp := descSpan q.desc
    let i := (32 * s.beat + sp - 1 - q.k0) / sp
    let held := fun (j : Nat) =>
      let e := q.ringPos + (j + 1) * descBytes q.desc
      decide (ahead e (s.rd (pWaveform f) (ringReg r 6)).toNat = 0) && !s.badByte f r (e + 2 ^ 32 - 1)
    ([i, i + 1].find? (fun j => decide (q.k0 + j * sp < 32 * s.beat + 32) && decide (j * sp < q.len) && !held j)).map
      (fun j => q.k0 + j * sp)

/-- A streamed pass in which a sample of the current beat is missing plays zero from that sample to its end (R194). -/
def State.underPass (s : State) (f : Nat) (q : Pass) : Option Pass :=
  if q.under then none else (s.missing f q).map (fun k => { q with under := true, underK := k })

/-- What follows an underrun at the end of a marked shot under ABORT_AT_SHOT_END (R196): later bundles are discarded, with their jump
requests and the shots whose SHOT_END they held; the Crozier halts; and what plays or starts in this beat ends without LINK. -/
def State.abortAtEnd (s : State) (f : Nat) : State :=
  let s2 := (s.setQueue f ((s.crz f).queue.filter (fun b => decide (b.issue ≤ s.beat)))).crzStop f
  let c := s2.crz f
  let now := fun (j : Jump) => j.issue == s2.beat && !(s2.player f j.chan).playing
  let s3 := (s2.players.filter (fun (e : Nat × Player) => e.1 / 64 == f)).foldl (fun a e =>
    let p := a.player f (e.1 % 64)
    a.setPlayer f (e.1 % 64) { p with stop := p.playing, jumps := p.jumps.filter now, latched := none })
    (s2.setCrz f { c with handed := c.handed.filter now, endAt := some s2.beat })
  s3.flag (pWaveform f) 6

/-- An underrun on ring r in the current beat is flagged and counted, the ring skips the rest of the pass, and the shot that holds the beat
is marked UNDERRUN and INVALID (R194, R195); one that ends in this very beat is aborted where the policy says so (R196). -/
def State.underrun (s : State) (f r : Nat) : State :=
  let s1 := (((s.flag (pWaveform f) 0).count (pWaveform f) 3 1).count (pWaveform f) (8 + r) 1).wrB (pWaveform f) (ringReg r 7) 28
    (decide (0 < ahead (s.ring f r).next (s.rd (pWaveform f) (ringReg r 6)).toNat))
  match s1.shotAt f s.beat with
  | some h =>
    let s2 := s1.markShot f h.uid 0x21
    if h.ended = some s.beat ∧ s.rdB (pWaveform f) 0x100 16 ∧ (s.crz f).endAt ≠ some s.beat then s2.abortAtEnd f else s2
  | none => s1

/-- The streamed passes of player c underrun where a sample that starts in the current beat is missing from staging (R194). -/
def State.ringUnderrun (s : State) (f c : Nat) : State :=
  let p := s.player f c
  let cur := if p.playing then s.underPass f p.toPass else none
  let rs := (p.last.filterMap (fun q => s.underPass f q) ++ cur.toList).filterMap (fun (q : Pass) => q.ring)
  if rs.isEmpty then s
  else rs.foldl (fun a r => a.underrun f r)
    (s.setPlayer f c { p with toPass := cur.getD p.toPass, last := p.last.map (fun q => (s.underPass f q).getD q) })

end Sys2Proof.Machine
end

