-- ==== Sys2Proof/Machine/Drive.lean ====
section
/-! DEFINITION. Drive: the tone path and the flux path, sample by sample (07_drive_outputs.md R199 to R213), the
forcing of the outputs (R218 to R223), and the passing of a beat (01_architecture.md R28). -/
namespace Sys2Proof.Machine

/-- Entry i of the quarter-wave table: the nearest integer to 131,071 × sin(π i / 8,192), summed as a series in units
of 2^−64; entry 4,096 is fixed (R201). -/
def qw (i : Nat) : Nat :=
  if i = 4096 then 131071
  else
    let x := 3797952473636338580787993 * i / 2 ^ 29
    let terms := (List.range 13).foldl (fun (acc : Int × Nat) n =>
      let t : Nat := acc.2 * x / 2 ^ 64 * x / 2 ^ 64 / ((2 * n + 2) * (2 * n + 3))
      (if n % 2 = 0 then acc.1 - (t : Int) else acc.1 + (t : Int), t)) ((x : Int), x)
    ((131071 * terms.1 + 2 ^ 63) / 2 ^ 64).toNat

/-- qsin of R200. -/
def qsin (t0 : Nat) : Int :=
  let t : Nat := t0 % 2 ^ 32
  let x0 : Nat := t % 2 ^ 30
  let x : Nat := if tst t 30 then 2 ^ 30 - x0 else x0
  let i : Nat := x / 2 ^ 18
  let u : Nat := x / 2 ^ 6 % 2 ^ 12
  let w0 : Int := qw i
  let w := if u = 0 then w0 else w0 + roundShift (((qw (i + 1) : Int) - w0) * (u : Int)) 12
  if tst t 31 then -w else w

/-- The 16 bits at envelope byte offset o of a pass, o even: resident from START, or in the ring's staging blocks in ring order
(R174, 06_waveform_store.md R188). -/
def State.envHalf (s : State) (f : Nat) (p : Pass) (o : Nat) : Nat :=
  let pos := match p.ring with
    | none => 4 * descStart p.desc + o
    | some r => s.rdF (pWaveform f) (ringReg r 3) 27 16 * 1024 + (p.ringPos + o) % (s.rdF (pWaveform f) (ringReg r 3) 8 0 * 1024)
  (Tab.get 0 s.sram (f * 0x100000 + pos / 4)).toNat / (if pos % 4 = 2 then 65536 else 1) % 65536

/-- Sample j of a pass: the 16 bits of a FLUX sample, or I below Q (R174). One that has left its ring is the one taken (R189). -/
def State.envSample (s : State) (f : Nat) (p : Pass) (j : Nat) : Nat :=
  let read := if descBytes p.desc = 2 then s.envHalf f p (2 * j) else s.envHalf f p (4 * j) + 65536 * s.envHalf f p (4 * j + 2)
  match p.hold with
  | some (k, w) => if k = j then w else read
  | none => read

/-- The end of a beat: a streamed sample that plays on has left its ring (R189). -/
def State.holdSample (s : State) (f : Nat) (p : Pass) : Pass :=
  let j := (32 * s.beat + 31 - p.k0) / descSpan p.desc
  { p with hold := if p.ring.isSome && decide (p.k0 ≤ 32 * s.beat + 31) && decide (j < descNsamp p.desc) then some (j, s.envSample f p j) else none }

/-- The scaled envelope sample j of a tone's pass: ei, eq (R200). -/
def State.envIQ (s : State) (f : Nat) (p : Pass) (j : Nat) : Int × Int :=
  let w := s.envSample f p j
  let a := entAmp p.ent * (if p.neg then -1 else 1)
  (satI 16 (roundShift (sgn w 16 * a) 17), satI 16 (roundShift (sgn (w / 65536) 16 * a) 17))

/-- The contribution y of a tone's pass to absolute DAC sample k (R200); interp selects LINEAR. -/
def State.toneY (s : State) (f : Nat) (p : Pass) (interp : Bool) (k : Nat) : Int :=
  let m := k - p.k0
  let r := descSpan p.desc
  let lg := if r = 64 then 6 else if r = 32 then 5 else 4
  let j := m / r
  let e := s.envIQ f p j
  let v := if interp then
      let e' := s.envIQ f p (min (j + 1) (descNsamp p.desc - 1))
      (e.1 + roundShift ((e'.1 - e.1) * ((m % r : Nat) : Int)) lg, e.2 + roundShift ((e'.2 - e.2) * ((m % r : Nat) : Int)) lg)
    else e
  let th := p.phiAt k / 2 ^ 16 + p.psi
  roundShift (v.1 * qsin (th + 0x40000000) - v.2 * qsin th) 14

/-- The pass of a player that sample k belongs to, if any: its own, or one that ended in this beat (R204). -/
def Player.passAt (p : Player) (k : Nat) : Option Pass :=
  (p.last ++ (if p.playing then [p.toPass] else [])).find?
    (fun q => decide (q.k0 ≤ k) && decide (k < q.k0 + q.len) && !(q.under && decide (q.underK ≤ k)))

/-- The page of drive channel d of a frond: 0 and 1 for XY, 2 for the probe. -/
def drivePage (f d : Nat) : Pg := if d < 2 then pXy f d else pProbe f

/-- The players of a drive channel. -/
def drivePlayers (d : Nat) : List Nat :=
  if d < 2 then (List.range 8).map (fun t => 8 * d + t) else (List.range 16).map (fun t => 16 + t)

/-- The unclamped channel value v at absolute DAC sample k (R200, R205). -/
def State.driveV (s : State) (f d k : Nat) : Int :=
  let interp := s.rdB (drivePage f d) 0x100 8
  let acc := (drivePlayers d).foldl (fun (a : Int) c =>
    match (s.player f c).passAt k with | some q => a + s.toneY f q interp k | none => a) 0
  roundShift (acc * s.rdF (drivePage f d) 0x104 15 0) 19

/-- The 14-bit DAC code of a drive channel at absolute DAC sample k, before forcing and muting (R200, R206). -/
def State.driveCode (s : State) (f d k : Nat) : Int := satI 14 (s.driveV f d k)

/-- Codes of a DAC unit of a frond (1 and 2 XY, 3 probe, 4 + n flux; 15_calibration.md Table 15.3) start their way to the balls (R203). -/
def State.pipePut (s : State) (f u : Nat) (codes : List Int) : State :=
  { s with pins := { s.pins with pipe := (s.beat, 16 * f + u, codes) :: s.pins.pipe } }

/-- The 32 samples of a drive channel in the current beat are on their way; clamped ones are counted, flagged and dated (R203, R206). -/
def State.driveClip (s : State) (f d : Nat) : State :=
  let vs := (List.range 32).map (fun i => s.driveV f d (32 * s.beat + i))
  let n := (vs.filter (fun v => v != satI 14 v)).length
  let s1 := s.pipePut f (d + 1) (vs.map (satI 14))
  if n = 0 then s1
  else (((s1.count (drivePage f d) 0 n).flag (drivePage f d) 0)).wr64 (drivePage f d) 0x10C (s.beat + 24)

/-- The flux chain of channel n of a frond. -/
def State.chain (s : State) (f n : Nat) : FluxChain := Tab.get {} s.chains (8 * f + n)

/-- The segment sample x of flux channel n at absolute flux sample k; 0 while the channel is idle (R210). -/
def State.fluxX (s : State) (f n k : Nat) : Int :=
  match (s.player f (32 + n)).passAt (16 * k) with
  | some q =>
    sgn (s.envSample f q ((16 * k - q.k0) / 16)) 16
  | none => 0

/-- A saturation, and whether it happened. -/
def satHit (n : Nat) (v : Int) : Int × Bool := (satI n v, satI n v != v)

/-- One section of the flux chain (R210, R211): the new xp, yp, the output, and whether it saturated. -/
def State.iirStep (s : State) (f n sec : Nat) (xp yp w : Int) : Int × Int × Int × Bool :=
  if s.rdB (pFlux f n) 0x100 sec then (0, 0, w, false)
  else
    let co := fun (k : Nat) => sgn (s.rd (pFlux f n) (0x120 + 0x10 * sec + 4 * k)).toNat 32
    let y := satHit 32 (roundShift (co 0 * w + co 1 * xp + co 2 * yp) 30)
    (w, y.1, y.1, y.2)

/-- One flux sample through the chain (R210): the new chain, the unclamped code, and whether a stage saturated. -/
def State.fluxStep (s : State) (f n : Nat) (ch : FluxChain) (x : Int) : FluxChain × Int × Bool :=
  let w0 := satHit 32 (roundShift (x * sgn (s.rdF (pFlux f n) 0x104 17 0) 18) 7)
  let r := (List.range 4).foldl (fun (a : List Int × List Int × Int × Bool) i =>
    let o := s.iirStep f n i (ch.xp.getD i 0) (ch.yp.getD i 0) a.2.2.1
    (a.1 ++ [o.1], a.2.1 ++ [o.2.1], o.2.2.1, a.2.2.2 || o.2.2.2)) ([], [], w0.1, w0.2)
  let fir := !s.rdB (pFlux f n) 0x100 4
  let line := if fir then (r.2.2.1 :: ch.line).take 32 else []
  let o := if fir then
      satHit 32 (roundShift ((List.range 32).foldl (fun (a : Int) t =>
        a + sgn (s.rdF (pFlux f n) (0x180 + 4 * t) 17 0) 18 * line.getD t 0) 0) 16)
    else (r.2.2.1, false)
  ({ xp := r.1, yp := r.2.1, line := if line.all (· == 0) then [] else line },
    roundShift o.1 9 + sgn (s.rdF (pFlux f n) 0x108 15 0) 16, r.2.2.2 || o.2)

/-- The two flux samples of the current beat of one channel: the chain moves, the codes are on their way, saturations and clips are
counted (R203, R210). -/
def State.fluxBeat (s : State) (f n : Nat) : State :=
  let p := pFlux f n
  let a := s.fluxStep f n (s.chain f n) (s.fluxX f n (2 * s.beat))
  let b := s.fluxStep f n a.1 (s.fluxX f n (2 * s.beat + 1))
  let sats := (if a.2.2 then 1 else 0) + (if b.2.2 then 1 else 0)
  let clips := (if satI 16 a.2.1 = a.2.1 then 0 else 1) + (if satI 16 b.2.1 = b.2.1 then 0 else 1)
  let s1 := { s with chains := Tab.set {} s.chains (8 * f + n) b.1 }.pipePut f (4 + n) [satI 16 a.2.1, satI 16 b.2.1]
  let s2 := if sats = 0 then s1 else (s1.count p 1 sats).flag p 2
  if clips = 0 then s2 else ((s2.count p 0 clips).flag p 0).wr64 p 0x110 (s.beat + 24)

/-- Whether a player has anything to do in a beat. -/
def Player.busy (p : Player) : Bool := p.playing || p.sampling.isSome || !p.last.isEmpty || !p.jumps.isEmpty

/-- The drive channels of a frond that play: by the players that are busy. -/
def State.driveBeat (s : State) (f c : Nat) : State :=
  if c < 8 then s.driveClip f 0 else if c < 16 then s.driveClip f 1 else if c < 32 then s.driveClip f 2 else s

/-- The players listed as busy, by key. -/
def State.busyKeys (s : State) : List Nat := (s.players.filter (fun e => e.2.busy)).map (fun e => e.1)

/-- The channels with busy players, each once: 4 f + d for the drive channels. -/
def State.busyDrives (s : State) : List Nat :=
  ((s.busyKeys.filter (fun k => decide (k % 64 < 32))).map (fun k =>
    4 * (k / 64) + (if k % 64 < 8 then 0 else if k % 64 < 16 then 1 else 2))).eraseDups

/-- The flux channels that play or whose chain still moves: 8 f + n. -/
def State.busyFlux (s : State) : List Nat :=
  ((s.busyKeys.filter (fun k => decide (32 ≤ k % 64))).map (fun k => 8 * (k / 64) + (k % 64 - 32))
    ++ s.chains.map (fun (e : Nat × FluxChain) => e.1)).eraseDups

/-- Fronds with a clipped sample in the current beat, on any channel: the pages of the channels that move date their latest
clip with this ball beat (R206, R210). -/
def State.clipFronds (s : State) : List Nat :=
  ((s.busyDrives.filter (fun k => s.rd64 (drivePage (k / 4) (k % 4)) 0x10C == s.beat + 24)).map (fun k => k / 4)
    ++ (s.busyFlux.filter (fun k => s.rd64 (pFlux (k / 8) (k % 8)) 0x110 == s.beat + 24)).map (fun k => k / 8)).eraseDups

/-- What happens in the drive paths in the current beat, and the end of the beat: streamed samples that are missing underrun, frames are
sampled, samples clamp, the flux chains move, and passes that ended are forgotten, as are codes that have left the balls. -/
def State.driveTick (s : State) : State :=
  let s0 := s.busyKeys.foldl (fun a k => a.ringUnderrun (k / 64) (k % 64)) s
  let s1 := s0.busyKeys.foldl (fun a k => a.setPlayer (k / 64) (k % 64) (a.sampleFrame (k / 64) (k % 64) (a.player (k / 64) (k % 64)))) s0
  let s2 := s1.busyDrives.foldl (fun a k => a.driveClip (k / 4) (k % 4)) s1
  let s3a := s2.busyFlux.foldl (fun a k => a.fluxBeat (k / 8) (k % 8)) s2
  let s3b := s3a.clipFronds.foldl (fun a f => a.occur (frondSrc f 9) 1) s3a
  let s3 := { s3b with pins := { s3b.pins with pipe := s3b.pins.pipe.filter (fun (e : Nat × Nat × List Int) => decide (s.beat < e.1 + 24)) } }
  s3.busyKeys.foldl (fun a k =>
    let p := a.player (k / 64) (k % 64)
    a.setPlayer (k / 64) (k % 64) { p with
      toPass := a.holdSample (k / 64) p.toPass,
      last := (p.last.filter (fun q => decide (32 * (s.beat + 1) < q.k0 + q.len))).map (fun q => a.holdSample (k / 64) q),
      past := p.last.foldl (fun n q => max n (q.k0 + q.len)) p.past }) s3

/-- Whether CLR_N forces the outputs in the span of ball beats [x, y] (R221). -/
def State.clrIn (s : State) (x y : Nat) : Bool :=
  s.pins.spans.any (fun p => decide (p.1 ≤ y) && decide (x ≤ p.2)) || (s.pins.clr && decide (s.pins.clrFrom ≤ y))

/-- SERVICE holds the outputs, from the request to enter it to the request to leave it (R208; log entry 22). -/
def State.inService (s : State) : Bool :=
  match s.boot.target with
  | some t => t == 4
  | none => s.mode == 4

/-- Ball beats from x on, before ball beat y, that CLR_N forces (R220). -/
def State.clrBeats (s : State) (x y : Nat) : Nat :=
  s.pins.spans.foldl (fun a p => a + (min y (p.2 + 1) - max x p.1)) (if s.pins.clr then y - max x s.pins.clrFrom else 0)

/-- The mode forces the outputs in the current ball beat: in every mode but RUN and SERVICE, around RUN in issue time, and behind the path of
ABORT_N in HOLD (R219; 01_architecture.md R40). -/
def State.modeForced (s : State) : Bool :=
  !s.inService && (match (if s.mode = 3 ∨ s.mode = 2 ∨ s.mode = 5 then s.pins.forces.find? (fun (e : Nat × Bool) => decide (e.1 ≤ s.beat)) else none) with
    | some e => e.2
    | none => true)

/-- Whether the outputs of a frond are forced to CLEAR_CODE in the current ball beat (R218 to R220,
05_crozier_sequencer.md R165). -/
def State.forced (s : State) (f : Nat) : Bool :=
  s.clrIn s.beat s.beat || (s.crz f).forced || decide (s.beat < (s.crz f).forcedTo) || s.modeForced

/-- Whether the outputs are muted at the ball (R208). -/
def State.muted (s : State) : Bool := s.inService

/-- Forcing by the mode becomes v at ball beat m; until then it stays as it is (R219). -/
def State.forceFrom (s : State) (m : Nat) (v : Bool) : State :=
  { s with pins := { s.pins with forces := (m, v) :: s.pins.forces.filter (fun (e : Nat × Bool) =>
      decide (s.beat < e.1) || decide (s.pins.forces.find? (fun (y : Nat × Bool) => decide (y.1 ≤ s.beat)) = some e)) } }

/-- Forcing follows the mode alone from now on (R219). -/
def State.forceNow (s : State) : State := { s with pins := { s.pins with forces := [] } }

/-- Every tone and flux player of a frond becomes idle; accumulators keep running (R223, R177). -/
def State.idlePlayers (s : State) (f : Nat) : State :=
  (s.players.filter (fun e => e.1 / 64 == f)).foldl (fun a e =>
    let p := a.player f (e.1 % 64)
    (a.freeRing f (e.1 % 64)).setPlayer f (e.1 % 64)
      { p with playing := false, sampling := none, ring := none, latched := none, jumps := [], stop := false, last := [] }) s

/-- The pages of the drive outputs of every frond. -/
def outPages : List Pg :=
  (List.range 32).flatMap (fun f => [pXy f 0, pXy f 1, pProbe f] ++ (List.range 8).map (fun n => pFlux f n))

end Sys2Proof.Machine
end

