-- ==== Sys2Proof/Machine/FrontEnd.lean ====
section
/-! DEFINITION. FrontEnd: the read-out channel: ranges and inputs, overrange, switches, demodulation, and the windows
a bundle opens (08_readout_front_end.md R227 to R254). Beats are ball beats; ADC sample ka lies in ball beat ka / 24. -/
namespace Sys2Proof.Machine

/-- The front end of a frond. -/
def State.fe (s : State) (f : Nat) : Fe := Tab.get {} s.fes f

/-- Set the front end of a frond. -/
def State.setFe (s : State) (f : Nat) (x : Fe) : State := { s with fes := Tab.set {} s.fes f x }

/-- The range an FE_CTRL value requests; 3 acts as 0 (Table 8.13). -/
def feRange (v : Word) : Nat := if fld v 1 0 = 3 then 0 else fld v 1 0

/-- The input an FE_CTRL value requests; 5 to 7 act as 4 (Table 8.3). -/
def feInput (v : Word) : Nat := min 4 (fld v 6 4)

/-- The range in effect in a ball beat. -/
def Fe.rangeAt (x : Fe) (b : Nat) : Nat := ((x.sws.find? (fun w => decide (w.beat ≤ b))).map (·.range)).getD 0

/-- The input in effect in a ball beat. -/
def Fe.inputAt (x : Fe) (b : Nat) : Nat := ((x.sws.find? (fun w => decide (w.beat ≤ b))).map (·.input)).getD 0

/-- Whether a ball beat is blanked: one of the 4 from a switch on (R237, R238). -/
def Fe.blankAt (x : Fe) (b : Nat) : Bool := x.sws.any (fun w => decide (w.beat ≤ b) && decide (b < w.beat + 4))

/-- Whether a ball beat is blanked by a forced switch. -/
def Fe.forcedBlank (x : Fe) (b : Nat) : Bool :=
  x.sws.any (fun w => w.forced && decide (w.beat ≤ b) && decide (b < w.beat + 4))

/-- Whether a ball beat is an OVR beat (R234). -/
def Fe.ovrAt (x : Fe) (b : Nat) : Bool :=
  !x.blankAt b && x.ovr.any (fun o => decide (o ≤ b) && decide (b ≤ o + 2))

/-- The setting in effect in a ball beat, whatever input the calibration engine routes meanwhile: range and input. -/
def Fe.setting (x : Fe) (b : Nat) : Nat × Nat :=
  ((x.sws.find? (fun w => !w.cal && decide (w.beat ≤ b))).map (fun w => (w.range, w.input))).getD (0, 0)

/-- The setting requested for a ball beat (R237). -/
def Fe.reqAt (x : Fe) (b : Nat) : Nat × Nat := ((x.reqs.find? (fun q => decide (q.1 ≤ b))).map (·.2)).getD (0, 0)

/-- A change is pending in a ball beat: the requested setting differs from the one in effect (R237). -/
def Fe.pendingAt (x : Fe) (b : Nat) : Bool := decide (x.reqAt b ≠ x.setting b)

/-- Put a switch at its place, newest first. -/
def insSwitch (w : FeSwitch) : List FeSwitch → List FeSwitch
  | [] => [w]
  | y :: t => if y.beat ≤ w.beat then w :: y :: t else y :: insSwitch w t

/-- The switches that a filter span or a data record can still reach from ball beat b on, and the latest older ones. -/
def trimSwitches (b : Nat) (l : List FeSwitch) : List FeSwitch :=
  let old := fun (w : FeSwitch) => decide (w.beat + 4096 ≤ b)
  l.filter (fun w => !old w || l.find? old == some w || l.find? (fun y => old y && !y.cal) == some w)

/-- A switch at ball beat b is dated, flagged and counted (R237, R238). -/
def State.feMark (s : State) (f b : Nat) (forced : Bool) : State :=
  let s1 := s.wr64 (pReadout f) 0x108 b
  if forced then (s1.flag (pReadout f) 1).count (pReadout f) 2 1 else (s1.flag (pReadout f) 2).count (pReadout f) 1 1

/-- The forced switches of a frond whose ball beat has come are dated, flagged and counted (R238). -/
def State.switchDue (s : State) (f : Nat) : State :=
  let l := (s.fe f).swDue.filter (fun b => decide (b ≤ s.beat))
  if l.isEmpty then s
  else l.foldl (fun a b => a.feMark f b true) (s.setFe f { s.fe f with swDue := (s.fe f).swDue.filter (fun b => decide (s.beat < b)) })

/-- The forced switches whose ball beat has come (R238). -/
def State.switchesDue (s : State) : State := s.fes.foldl (fun a (e : Nat × Fe) => a.switchDue e.1) s

/-- Put a switch into effect at ball beat b (R237, R238): what the calibration engine had still to route goes. A switch of a later ball
beat is flagged in that beat. -/
def State.feSwitch (s : State) (f b range input : Nat) (forced : Bool) : State :=
  let x := s.fe f
  let sws := insSwitch { beat := b, range := range, input := input, forced := forced }
    (x.sws.filter (fun w => !(w.cal && decide (b < w.beat))))
  let y := { x with sws := trimSwitches s.beat sws }
  if s.beat < b then s.setFe f { y with swDue := x.swDue ++ [b] } else (s.setFe f y).feMark f b forced

/-- The first and last ball beats of a window. -/
def Win.firstBeat (w : Win) : Nat := w.ks / 24
def Win.lastBeat (w : Win) : Nat := (w.ks + 48 * w.len - 1) / 24

/-- The centre of decimated sample n of a window, and the beat it is presented to the kernel (R244, R245). -/
def Win.centre (w : Win) (n : Nat) : Nat := w.ks + 48 * n + 24
def Win.present (w : Win) (n : Nat) : Nat := (w.ks + 48 * n + 47) / 24 + 26

/-- Whether an unforced change may take effect at ball beat b (R237). -/
def Fe.clear (x : Fe) (b : Nat) : Bool :=
  x.wins.all (fun w => decide (w.lastBeat + 5 ≤ b) || decide (b + 7 ≤ w.firstBeat))

/-- A claimed quiet slot counts as an open window for a front-end change (15_calibration.md R411). -/
def State.inSlot (s : State) (f b : Nat) : Bool :=
  (Tab.get [] s.cal.slots f).any (fun z => decide (z.b < b + 7) && decide (b < z.e + 5))

/-- A self-calibration of the frond runs, or the DAC part that follows it or stands alone: a change made meanwhile waits for its end (R251;
for the DAC part DEDUCED, log entry 12). -/
def State.feBusy (s : State) (f : Nat) : Bool := s.rdB (pReadout f) 0x10 24 || (Tab.find? s.cal.runs f).isSome

/-- FE_SWITCH: a pending change takes effect at the first ball beat clear of every window, with the setting requested for that
beat (R237). -/
def State.feStep (s : State) (f b : Nat) : State :=
  let x := s.fe f
  if x.pendingAt b ∧ x.clear b ∧ !s.feBusy f ∧ !s.inSlot f b then
    s.feSwitch f b (x.reqAt b).1 (x.reqAt b).2 false
  else s

/-- A commit at beat A that changes RANGE or INPUT requests its setting from ball beat A + 24; with FORCE it switches there
whatever windows are open (R237 to R239). -/
def State.feCommit (s : State) (f a : Nat) (old : Word) : State :=
  let v := s.rd (pReadout f) 0x100
  let x := s.fe f
  if feRange old = feRange v ∧ feInput old = feInput v then s
  else
    let keep := x.reqs.filter (fun q => decide (a < q.1) || decide (x.reqs.find? (fun y => decide (y.1 ≤ a)) = some q))
    let s1 := s.setFe f { x with reqs := (a + 24, feRange v, feInput v) :: keep }
    if bit v 8 && !s.feBusy f then s1.feSwitch f (a + 24) (feRange v) (feInput v) true else s1

/-- OVR: ball beat b holds overrange samples, each given by its place in the beat and whether the voltage lies above the range (R233,
R236); a blanked beat holds none. -/
def State.ovrBeat (s : State) (f b : Nat) (rails : List (Nat × Bool)) : State :=
  let x := s.fe f
  if x.blankAt b ∨ x.ovr.head? = some b then s
  else
    let s1 := s.setFe f { x with ovr := b :: x.ovr.filter (fun o => decide (b < o + 4096)),
                                 rails := rails.map (fun e => (24 * b + e.1, e.2)) ++ x.rails.filter (fun e => decide (b < e.1 / 24 + 4096)) }
    let p := pReadout f
    ((((s1.flag p 0).count p 0 1).wr64 p 0x110 b)).srcEvent (b + 17) (0x080 + f)

/-- Registers of TONE[t] (Table 8.18). -/
def State.demodReg (s : State) (f t : Nat) : Demod :=
  let p := pReadout f
  { ftw := (s.rd p (0x200 + 0x10 * t)).toNat + 2 ^ 32 * s.rdF p (0x204 + 0x10 * t) 15 0,
    phase := (s.rd p (0x208 + 0x10 * t)).toNat, len := s.rdF p (0x20C + 0x10 * t) 12 0 }

/-- ADC sample c is a centre of a tone's grid: that of its latest window with a centre at or before it, or, before any window, c = 48m + 24
(R244). -/
def Fe.onGrid (x : Fe) (t c : Nat) : Bool :=
  match x.grids.find? (fun g => g.1 == t && decide (g.2 + 24 ≤ c)) with
  | some g => (c - g.2 - 24) % 48 == 0
  | none => c % 48 == 24

/-- The centres of a tone's grid in ball beat b (R244). -/
def Fe.centres (x : Fe) (t b : Nat) : List Nat := ((List.range 24).map (fun i => 24 * b + i)).filter (fun c => x.onGrid t c)

/-- The first ADC sample at which a TONE change committed at beat A takes effect: at or after ball beat A + 24, outside the filter
span of every window of the tone (R246). -/
def Fe.toneFrom (x : Fe) (t a : Nat) : Nat :=
  (x.past.reverse ++ x.wins).foldl (fun k w =>
    if w.tone = t ∧ w.ks ≤ k + 71 ∧ k < w.ks + 48 * w.len + 73 then w.ks + 48 * w.len + 73 else k) (24 * (a + 24))

/-- The demodulation registers of a tone that hold at ADC sample ka: those of the latest change that has taken effect by it (R246). -/
def Fe.demodAt (x : Fe) (t ka : Nat) : Demod :=
  match x.toneChg.find? (fun e => e.1 == t && decide (x.toneFrom t e.2.1 ≤ ka)) with
  | some e => e.2.2
  | none => Tab.get {} x.tones t

/-- The LEN of a window of tone t whose first sample is ks: a change that has not taken effect before the window's filter span waits for
its end (R246, R247). -/
def Fe.lenAt (x : Fe) (t ks : Nat) : Nat := (x.demodAt t (ks - 72)).len

/-- A change of a tone waits for its first sample in ball beat b (R246). -/
def Fe.toneWaits (x : Fe) (t b : Nat) : Bool := x.toneChg.any (fun e => e.1 == t && decide (24 * b < x.toneFrom t e.2.1))

/-- The changes no longer needed one by one, the oldest of a tone first: the latest of those that took effect long ago (R246). -/
def Fe.toneTrim (x : Fe) (b : Nat) : Fe :=
  let old := fun (e : Nat × Nat × Demod) => decide (x.toneFrom e.1 e.2.1 + 201600 ≤ 24 * b)
  { x with toneChg := x.toneChg.filter (fun e => !old e),
           tones := (x.toneChg.filter old).reverse.foldl (fun (m : Tab Demod) e => Tab.set {} m e.1 e.2.2) x.tones }

/-- TONE_CHANGE: what a tone's registers hold in ball beat b is in use (R246); changes that took effect long ago are merged. -/
def State.toneStep (s : State) (f _t : Nat) : State := s.setFe f ((s.fe f).toneTrim s.beat)

/-- A commit at beat A that changed TONE[t]: from its own first sample on (R246). -/
def State.toneCommit (s : State) (f t a : Nat) : State :=
  let x := (s.fe f).toneTrim s.beat
  s.setFe f { x with toneChg := (t, a, s.demodReg f t) :: x.toneChg }

/-- Open a window on tone t from a bundle that issues now (R142, R244, R247, R257). -/
def State.openWindow (s : State) (f t ofs uid num : Nat) : State :=
  let ks := 24 * (s.beat + 24) + ofs
  let x := s.fe f
  let len := x.lenAt t ks
  if len = 0 ∨ 4096 < len then s.count (pReadout f) 4 1
  else if x.wins.any (fun w => decide (w.tone = t) && decide (ks < w.ks + 48 * w.len)) then
    (s.count (pCrozier f) 4 1).flag (pCrozier f) 4
  else
    let cfg := (List.range 8).map (fun k => s.rd (pKernel f) (0x200 + 0x20 * t + 4 * k))
    let old := fun (g : Nat × Nat) => decide (g.2 + 100800 ≤ 24 * s.beat)
    let grids := (t, ks) :: x.grids.filter (fun g => !old g || x.grids.find? (fun y => old y && y.1 == g.1) == some g)
    let s1 := s.setFe f { x with grids := grids, wins := x.wins ++ [{ tone := t, issue := s.beat, ks := ks, len := len, shot := uid, num := num, cfg := cfg }] }
    (s1.busPut f (fun r => { r with opens := mset r.opens t })).occur (frondSrc f 5) 1

/-- The code of ADC sample ka: an overrange one is at its rail (R233). -/
def Fe.codeAt (x : Fe) (ka : Nat) (code : Int) : Int :=
  match x.rails.find? (fun (e : Nat × Bool) => e.1 == ka) with
  | some e => if e.2 then 2047 else -2048
  | none => code

/-- A trim register of a frond's converter as it acts in ball beat b (R230; 15_calibration.md R415). -/
def State.trimAt (s : State) (f off b : Nat) : Word := (s.wasAt ((pCalf f).reg off) b).getD (s.trim (pCalf f) off)

/-- The corrected sample of code `code` at ADC sample ka (R230, R233). -/
def State.corrected (s : State) (f ka : Nat) (code : Int) : Int :=
  let x := s.fe f
  let b := ka / 24
  if x.blankAt b then 0
  else
    let sc := ka % 16
    let r := x.rangeAt b
    let k := roundShift ((fld (s.trimAt f (0x180 + 4 * sc) b) 17 0 * fld (s.trimAt f (0x1C0 + 4 * r) b) 17 0 : Nat) : Int) 16
    satI 18 (roundShift ((x.codeAt ka code * 256 - sgn (fld (s.trimAt f (0x140 + 4 * sc) b) 15 0) 16) * k) (19 + r))

/-- Mixed samples mi, mq of a corrected sample under a frequency and phase word (R241, R242). -/
def mixed (ftw phase ka : Nat) (xc : Int) : Int × Int :=
  let th := (ftw * ka + phase * 2 ^ 16) % 2 ^ 48 / 2 ^ 16
  (roundShift (xc * qsin (th + 0x40000000)) 14, roundShift (-xc * qsin th) 14)

/-- The 192 coefficients of filter bank `bank` (0 hd, 1 hr; R242, R248): 18-bit values, symmetric, of sum 2^17, and otherwise open (log
entry 5): the first 95 are free, the two in the middle make up the sum; where those would not fit 18 bits, the two stand alone. -/
def decimTaps (bank : Nat) : List Int :=
  let h := (List.range 95).map (fun i => (Config.decimRom bank i).toInt)
  let c := 65536 - h.foldl (fun a x => a + x) 0
  let half := if -131072 ≤ c ∧ c < 131072 then h ++ [c] else List.replicate 95 0 ++ [65536]
  half ++ half.reverse

/-- A decimated sample with centre c from the 192 codes of samples c − 95 to c + 96, through filter bank `bank`
(0 hd, 1 hr), rounded by sh and saturated to n bits (R242, R248); word gives the frequency and phase words of an ADC sample. -/
def State.decimate (s : State) (f c bank : Nat) (word : Nat → Nat × Nat) (sh n : Nat) (codes : List (BitVec 12)) : Int × Int :=
  let sums := ((decimTaps bank).zipIdx).foldl (fun (a : Int × Int) x =>
    let j := 191 - x.2
    let ka := c + j - 95
    let m := mixed (word ka).1 (word ka).2 ka (s.corrected f ka ((codes.getD j 0).toInt))
    (a.1 + x.1 * m.1, a.2 + x.1 * m.2)) (0, 0)
  (satI n (roundShift sums.1 sh), satI n (roundShift sums.2 sh))

/-- A tone's decimated sample with centre c (R242, R246). -/
def State.demodSample (s : State) (f t c : Nat) (codes : List (BitVec 12)) : Int × Int :=
  s.decimate f c 0 (fun ka => (((s.fe f).demodAt t ka).ftw, ((s.fe f).demodAt t ka).phase)) 17 20 codes

/-- The ball beats a filter span with centre c touches (R235, R244). -/
def spanBeats (c : Nat) : List Nat :=
  (List.range ((c + 96) / 24 - (c - 95) / 24 + 1)).map (fun i => (c - 95) / 24 + i)

/-- The raw tap record of ball beat b, from the codes of the two spans (R248, Table 8.5). -/
def State.rawRecord (s : State) (f b : Nat) (codes0 codes1 : List (BitVec 12)) : BitVec 80 :=
  let x := s.fe f
  let p := pReadout f
  let word := fun (ka : Nat) =>
    ((s.rdBall p 0x120 (ka / 24)).toNat + 2 ^ 32 * fld (s.rdBall p 0x124 (ka / 24)) 15 0, (s.rdBall p 0x128 (ka / 24)).toNat)
  let a := s.decimate f (24 * b) 1 word 21 16 codes0
  let c := s.decimate f (24 * b + 12) 1 word 21 16 codes1
  let win := (x.wins ++ x.past).any (fun (w : Win) => decide (w.firstBeat ≤ b) && decide (b ≤ w.lastBeat))
  let o := fun (v : Bool) (i : Nat) => if v then 2 ^ i else 0
  BitVec.ofNat 80 (o (x.ovrAt b) 79 + o (x.blankAt b) 78 + x.rangeAt b * 2 ^ 76 + x.inputAt b * 2 ^ 73 + o win 72
    + b % 256 * 2 ^ 64 + enc c.2 16 * 2 ^ 48 + enc c.1 16 * 2 ^ 32 + enc a.2 16 * 2 ^ 16 + enc a.1 16)

/-- The demodulated tap word of a window's sample n (R249, Table 8.6). -/
def Fe.demodWord (x : Fe) (w : Win) (n : Nat) (d : Int × Int) : BitVec 48 :=
  let c := w.centre n
  let span := spanBeats c
  let o := fun (v : Bool) (i : Nat) => if v then 2 ^ i else 0
  BitVec.ofNat 48 (enc d.1 20 * 2 ^ 28 + enc d.2 20 * 2 ^ 8 + o (span.any x.ovrAt) 7 + o (span.any x.blankAt) 6
    + x.rangeAt (c / 24) * 2 ^ 4 + 8 + o (n == 0) 2 + o (x.inputAt (c / 24) != 0) 1)

/-- The coefficient DFIR_COEF returns (R242, Table 8.17). -/
def State.dfirCoef (s : State) (f : Nat) : Word :=
  let i := s.rdF (pReadout f) 0x12C 7 0
  if i < 192 then (BitVec.ofInt 18 ((decimTaps (s.rdF (pReadout f) 0x12C 8 8)).getD i 0)).setWidth 32 else 0

end Sys2Proof.Machine
end

