-- ==== Sys2Proof/Machine/Kernel.lean ====
section
/-! DEFINITION. Kernel: the MACMIN step, rounding, classification, the result word and its items
(09_readout_kernels.md R255 to R274; 11_acquisition_queues.md R306, R311). -/
namespace Sys2Proof.Machine

/-- Key of a weight-memory word. -/
def wkey (f t w : Nat) : Nat := (16 * f + t) * 32768 + w % 32768

/-- A saturating 48-bit add that stays on its rail once it saturated (R259): the sum, and the step of the first
saturation. -/
def sadd (a p : Int) (ovf : Option Nat) (n : Nat) : Int × Option Nat :=
  match ovf with
  | some k => (a, some k)
  | none => (satI 48 (a + p), if satI 48 (a + p) = a + p then none else some n)

/-- Replace the first window of tone t that still integrates. -/
def updWin (t : Nat) (g : Win → Win) : List Win → List Win
  | [] => []
  | w :: l => if w.tone = t ∧ w.n < w.len then g w :: l else w :: updWin t g l

/-- The window of tone t that integrates: the oldest with steps left. -/
def Fe.openWin (x : Fe) (t : Nat) : Option Win := x.wins.find? (fun w => decide (w.tone = t) && decide (w.n < w.len))

/-- One MACMIN step on a presented sample d; ecc says what the weight read found (R259 to R261). -/
def State.macmin (s : State) (f t : Nat) (w : Win) (d : Int × Int) (ecc : Ecc) : State :=
  let x := s.fe f
  let cfg := w.cfg.getD 0 0
  let addr := fld cfg 14 0 + w.n
  let word := if ecc = .bad then 0 else (Tab.get 0 s.wmem (wkey f t addr)).toNat
  let wi := sgn (nfld word 35 18) 18
  let wq := sgn (nfld word 17 0) 18
  let i := sadd w.accI (wi * d.1 - wq * d.2) w.ovfI w.n
  let q := sadd w.accQ (wi * d.2 + wq * d.1) w.ovfQ w.n
  let span := spanBeats (w.centre w.n)
  let w' := { w with
    n := w.n + 1, accI := i.1, accQ := q.1, ovfI := i.2, ovfQ := q.2, bad := w.bad || ecc == .bad,
    ovr := w.ovr || span.any x.ovrAt, rchg := w.rchg || span.any x.forcedBlank }
  let p := pKernel f
  let s1 := s.setFe f { x with wins := updWin t (fun _ => w') x.wins }
  let s2 := if bit cfg 31 then
      let k := wkey f t (fld (w.cfg.getD 1 0) 14 0 + w.n)
      { s1 with wmem := Tab.set 0 s1.wmem k (BitVec.ofNat 40 (enc d.1 20 * 2 ^ 20 + enc d.2 20)) }
    else s1
  let info := BitVec.ofNat 32 (t * 2 ^ 24 + addr % 32768)
  let s3 := match ecc with
    | .clean => s2
    | .corrected => (s2.count p 4 1).wr p 0x110 info
    | .bad => ((s2.flag p 3).count p 5 1).wr p 0x110 (setBit info 31 true)
  s3.wrB p 0x10 (16 + t) (decide (w'.n < w'.len))

/-- Round half to even of x / 2^b (R262). -/
def convEven (x : Int) (b : Nat) : Int :=
  if b = 0 then x
  else
    let q := x / 2 ^ b
    let r := x - q * 2 ^ b
    if 2 ^ (b - 1) < r ∨ (r = 2 ^ (b - 1) ∧ q % 2 = 1) then q + 1 else q

/-- The classification of a narrow point (R263): winner and margin. -/
def classify (ni nq : Int) (cent : List (Int × Int)) (mshift : Nat) : Nat × Nat :=
  let d := cent.map (fun c => (ni - c.1) * (ni - c.1) + (nq - c.2) * (nq - c.2))
  let m := d.foldl min (d.headD 0)
  let win := d.idxOf m
  let rest := d.eraseIdx win
  match rest with
  | [] => (win, 0xFFFF)
  | a :: t => (win, (min (roundShift (t.foldl min a - m) mshift) 0xFFFF).toNat)

/-- What a window's sums give (R260 to R263, R265 without the marks): narrow and wide values, STATE, MARGIN, the
kernel's tags, and whether a narrow or wide value was clamped. -/
structure WinOut where
  ni : Int
  nq : Int
  wi : Int
  wq : Int
  state : Nat
  margin : Nat
  tags : Nat
  nsat : Bool
  wsat : Bool
deriving DecidableEq, Repr

/-- The end stages of a window (R262, R263). -/
def Win.out (w : Win) : WinOut :=
  let sh := w.cfg.getD 2 0
  let ni := roundShift w.accI (fld sh 4 0)
  let nq := roundShift w.accQ (fld sh 4 0)
  let wi := convEven w.accI (fld sh 12 8)
  let wq := convEven w.accQ (fld sh 12 8)
  let nsat := satI 16 ni != ni || satI 16 nq != nq
  let ovf := w.ovfI.isSome || w.ovfQ.isSome
  let bad := ovf || w.bad || nsat
  let cent := (List.range (fld (w.cfg.getD 0 0) 17 16 + 1)).map (fun k =>
    (sgn (fld (w.cfg.getD (3 + k) 0) 15 0) 16, sgn (fld (w.cfg.getD (3 + k) 0) 31 16) 16))
  let c := classify (satI 16 ni) (satI 16 nq) cent (fld sh 20 16)
  { ni := satI 16 ni, nq := satI 16 nq, wi := satI 32 wi, wq := satI 32 wq,
    state := if bad then 15 else c.1, margin := if bad then 0 else c.2,
    tags := (if w.ovr then 0x80 else 0) + (if ovf then 0x40 else 0) + (if w.rchg then 0x04 else 0) + (if bad then 1 else 0),
    nsat := nsat, wsat := satI 32 wi != wi || satI 32 wq != wq }

/-- CTL, FRONDS and TONES of context c for ball beat b: those of the commit whose first beat it reached last (R307, R313). -/
def State.acqSel (s : State) (c b : Nat) : Word × Word × Word :=
  match (Tab.get {} s.acqs c).sels.find? (fun e => decide (e.1 ≤ b)) with
  | some e => e.2
  | none => (s.rd (pAcq c) 0x104, s.rd (pAcq c) 0x108, s.rd (pAcq c) 0x10C)

/-- CTL as the latest commit with EN = 1 gave it: one that clears EN leaves the capture that it ends as it was (R307). -/
def State.acqCtl (s : State) (c : Nat) : Word :=
  match (Tab.get {} s.acqs c).sels with
  | e :: _ => e.2.1
  | [] => s.rd (pAcq c) 0x104

/-- Bytes in a context's elastic buffer at beat b: it empties at CAP_RESV GB/s, one byte per GB/s in each beat (R311). -/
def Acq.level (x : Acq) (resv b : Nat) : Nat := x.buf.1 - resv * (b - x.buf.2)

/-- Give an INTEG or RESULT item, formed in this beat, to context c, which captures it from its first beat to its last (R306, R307). A GATED
context keeps items for PRE while it does not record (R308). An item of 16 bytes to record that finds the elastic buffer of 32 KiB full is
lost (R311). -/
def State.acqTake (s : State) (c f : Nat) (item : List (BitVec 64)) : State :=
  let p := pAcq c
  let x := Tab.get {} s.acqs c
  let st := s.rdF p 0x100 2 0
  let on := (decide (1 ≤ st) && decide (st ≤ 4)) || (match x.stopAt with | some l => decide (s.beat ≤ l) | none => false)
  if !on || decide (s.beat < x.first) || x.gone.any (fun (g : Nat × Nat) => g.1 == f && decide (g.2 ≤ s.beat)) then s
  else
    let gated := fld (s.acqCtl c) 2 1 == 1
    let now := !gated || x.caps.any (fun e => decide (e.2.1 ≤ s.beat) && decide (s.beat < e.2.2))
    let lvl := x.level (s.rdF p 0x138 22 16) s.beat
    if now && decide (32768 < lvl + 16) then
      let l := match x.lost with | some (b, n) => (b, n + 1) | none => (s.beat, 1)
      ({ s with acqs := Tab.set {} s.acqs c { x with lost := some l } }.count p 2 1).flag p 2
    else
      let keep := x.items.filter (fun i => !gated || decide (s.beat < i.1 + 600) || x.caps.any (fun e => decide (e.2.1 ≤ i.1)))
      { s with acqs := Tab.set {} s.acqs c { x with items := keep ++ [(s.beat, item)], buf := if now then (lvl + 16, s.beat) else x.buf } }

/-- Give an item to every context of its kind that selects its frond and tone (R306). -/
def State.acqItem (s : State) (f t : Nat) (result wide stamp : BitVec 64) : State :=
  (List.range 16).foldl (fun a c =>
    let sel := a.acqSel c a.beat
    let kind := fld sel.1 9 8
    if 2 ≤ kind ∧ bit sel.2.1 f ∧ bit sel.2.2 t then a.acqTake c f [if kind = 2 then wide else result, stamp] else a) s

/-- The counters, flags and records of a window's end (R260, R262, R274). -/
def State.winCount (s : State) (f : Nat) (w : Win) (o : WinOut) : State :=
  let p := pKernel f
  let s1 := s.count p 0 1
  let s2 := match w.ovfI, w.ovfQ with
    | none, none => s1
    | some i, none => ((s1.flag p 0).count p 1 1).wr p 0x10C (BitVec.ofNat 32 (w.tone * 2 ^ 24 + i))
    | none, some q => ((s1.flag p 0).count p 1 1).wr p 0x10C (BitVec.ofNat 32 (2 ^ 28 + w.tone * 2 ^ 24 + q))
    | some i, some q => ((s1.flag p 0).count p 1 1).wr p 0x10C (BitVec.ofNat 32
        ((if i = q then 2 ^ 29 else 0) + (if q < i then 2 ^ 28 else 0) + w.tone * 2 ^ 24 + min i q))
  let s3 := if o.nsat then (s2.flag p 1).count p 2 1 else s2
  let s4 := if o.wsat then (s3.flag p 2).count p 3 1 else s3
  let s5 := if o.state = 15 then s4.count p 12 1 else s4.count p (8 + o.state) 1
  let s6 := if w.ovr then s5.count (pReadout f) 3 1 else s5
  if w.rchg then s6.count (pReadout f) 5 1 else s6

/-- The result word: the kernel's tags and the marks its shot carries (R265, R266). -/
def resultWord (o : WinOut) (tone marks : Nat) : BitVec 64 :=
  BitVec.ofNat 64 (o.state * 2 ^ 60 + tone * 2 ^ 56 + (o.tags ||| marks) % 256 * 2 ^ 48 + o.margin * 2 ^ 32
    + enc o.ni 16 * 2 ^ 16 + enc o.nq 16)

/-- Remove the first window of tone t whose steps are done. -/
def dropWin (t : Nat) : List Win → List Win
  | [] => []
  | w :: l => if w.tone = t ∧ w.len ≤ w.n then l else w :: dropWin t l

/-- WINDOW_RESULT: the result word of a window whose last step is done (R264 to R269). -/
def State.windowResult (s : State) (f : Nat) (w : Win) : State :=
  let o := w.out
  let x := s.fe f
  let sh := (s.crz f).shots.find? (fun h => decide (h.uid = w.shot))
  let marks := match sh with
    | some h => tagOr h.tags (if s.clrIn (h.start + 24) (min (h.ended.getD s.beat + 24) s.beat) then 1 else 0)
    | none => w.kept
  let result := resultWord o w.tone marks
  let wide := BitVec.ofNat 64 (enc o.wi 32 * 2 ^ 32 + enc o.wq 32)
  let stamp := BitVec.ofNat 64 (f * 2 ^ 59 + w.tone * 2 ^ 55 + w.num % 2 ^ 15 * 2 ^ 40 + w.ks / 24 % 2 ^ 40)
  let s1 := (s.setFe f { x with wins := dropWin w.tone x.wins, past := w :: x.past.filter (fun o => decide (s.beat < o.lastBeat + 4096)) }).winCount f w o
  let s2 := s1.mapShot f w.shot (fun h => { h with res := h.res ||| o.tags })
  let h := decide (o.state = 15) || tst (o.tags ||| marks) 0
  let s3 := s2.busPut f (fun r => { r with
    results := r.results ++ [{ tone := w.tone, h := h, o := w.ovr, c := w.rchg, st := if h then 0 else o.state % 4,
                               m := tst marks 4 || tst marks 3, issue := w.issue }] })
  let s4 := s3.acqItem f w.tone result wide stamp
  let out := w.cfg.getD 7 0
  let q := fld out 5 0
  if bit out 8 then
    if s4.owner (pQueue q) = s4.frondOwner f then
      s4.sendItem q (match fld out 7 6 with | 0 => [result] | 1 => [result, wide] | _ => [result, wide, stamp])
    else (s4.count (pKernel f) 6 1).flag (pKernel f) 4
  else s4

/-- The live read-back of WMEM_DATA (R271). -/
def State.wmemRead (s : State) (f : Nat) : BitVec 40 :=
  Tab.get 0 s.wmem (wkey f (s.rdF (pKernel f) 0x114 19 16) (s.rdF (pKernel f) 0x114 14 0))

end Sys2Proof.Machine
end

