-- ==== Sys2Proof/Machine/Acq.lean ====
section
/-! DEFINITION. Acq: triggers, captures, records and host rings of the 16 capture contexts (11_acquisition_queues.md
R302 to R315). -/
namespace Sys2Proof.Machine

/-- Capture context c. -/
def State.acq (s : State) (c : Nat) : Acq := Tab.get {} s.acqs c

/-- Set a capture context. -/
def State.setAcq (s : State) (c : Nat) (x : Acq) : State := { s with acqs := Tab.set {} s.acqs c x }

/-- Write bytes to GDDR7 from an address on. -/
def State.gput (s : State) (addr : Nat) : List Byte → State
  | [] => s
  | b :: t => State.gput { s with gddr := Tab.set 0 s.gddr addr b } (addr + 1) t

/-- n bytes of GDDR7 from an address on. -/
def State.gget (s : State) (addr n : Nat) : List Byte := (List.range n).map (fun i => Tab.get 0 s.gddr (addr + i))

/-- STATE of a context (Table 11.7). -/
def State.acqState (s : State) (c : Nat) : Nat := s.rdF (pAcq c) 0x100 2 0

/-- Set STATE. -/
def State.setAcqState (s : State) (c st : Nat) : State := s.wrF (pAcq c) 0x100 2 0 st

/-- The context is GATED; 2 and 3 act as CONT (Table 11.8). -/
def State.acqGated (s : State) (c : Nat) : Bool := fld (s.acqCtl c) 2 1 == 1

/-- The context takes data: ARMED to RUNNING. -/
def State.acqLive (s : State) (c : Nat) : Bool := decide (1 ≤ s.acqState c) && decide (s.acqState c ≤ 4)

/-- Device number in the cluster; 0 outside a cluster (Table 11.3). -/
def State.devField (s : State) : Nat := if s.rdF pCsync 0x10C 2 0 = 0 then 0 else s.devnum

/-- A source belongs to the context's owner (R304). -/
def State.acqOwns (s : State) (c src : Nat) : Bool :=
  let own := s.owner (pAcq c)
  own == 0x1F ||
  (if src < 4 then own < 16 && s.rdB pTrig (0x100 + 4 * src) (16 + own)
  else if src = 4 then own < 16 && s.rdB pTrig (0x110 + 4 * s.rdF (pAcq c) 0x110 31 28) own
  else if src = 5 then s.owner (pHchan (s.rdF (pAcq c) 0x114 9 6)) == own
  else if src = 6 then s.frondOwner (s.rdF (pAcq c) 0x110 25 21) == own
  else true)

/-- Write bytes into a ring of GDDR7 from an offset on; they may wrap, more than once (R313). -/
def State.gputRing (s : State) (base size : Nat) : Nat → List Byte → State
  | _, [] => s
  | o, b :: t => State.gputRing { s with gddr := Tab.set 0 s.gddr (base + o % size) b } base size (o + 1) t

/-- A record of a whole number of 64-byte lines enters the capture ring; a HOST context stages it for its host ring
(R312 to R314). -/
def State.acqWrite (s : State) (c first : Nat) (bytes : List Byte) : State :=
  let p := pAcq c
  let w := (s.rd p 0x13C).toNat
  let s1 := s.gputRing (s.rd64 p 0x130) (ringBytes (s.rdF p 0x138 27 24)) w bytes
  let s2 := (s1.wr p 0x13C (BitVec.ofNat 32 (w + bytes.length))).count p 3 1
  let x := s2.acq c
  if bit (s2.acqCtl c) 4 then s2.setAcq c { x with stage := x.stage ++ [(first, w, bytes.length)] } else s2

/-- A mark record (Table 11.4), and the state after its PTP time was formed. -/
def State.markBytes (s : State) (c kind prim srcs cnt t firstLost lost : Nat) (late : Bool) : List Byte × State :=
  let m := s.markTime t
  let w0 := 2 * 2 ^ 60 + c * 2 ^ 56 + kind * 2 ^ 52 + prim * 2 ^ 48 + s.devField * 2 ^ 43 + (if late then 2 ^ 42 else 0)
    + srcs % 1024 * 2 ^ 32 + cnt
  let ws := [w0, t, m.1.1, m.1.2, firstLost, s.selAt t % 2 * 2 ^ 32 + lost % 2 ^ 32, 0, 0]
  (ws.flatMap (leBytes 8), m.2)

/-- The lowest source of a mask. -/
def lowest (srcs : Nat) : Nat := ((maskList 10 srcs).head?).getD 15

/-- Write a mark other than a trigger's. -/
def State.acqMark (s : State) (c kind t firstLost lost : Nat) : State :=
  let m := s.markBytes c kind 15 0 (s.rd (pAcq c) 0x15C).toNat t firstLost lost false
  m.2.acqWrite c t m.1

/-- Write the marks of the triggers before a beat, in order; COUNT is TRIG_COUNT as it stood after each (R305, R313). -/
def State.flushMarks (s : State) (c bound : Nat) : State :=
  let x := s.acq c
  let go := x.marks.filter (fun m => decide (m.1 < bound))
  let cnt := fun (i : Nat) => (s.rd (pAcq c) 0x15C - BitVec.ofNat 32 (x.marks.length - 1 - i)).toNat
  (go.zipIdx).foldl (fun a (m : (Nat × Nat × Bool) × Nat) =>
    let r := a.markBytes c 0 (lowest m.1.2.1) m.1.2.1 (cnt m.2) m.1.1 0 0 m.1.2.2
    r.2.acqWrite c m.1.1 r.1) (s.setAcq c { x with marks := x.marks.filter (fun m => decide (bound ≤ m.1)) })

/-- A gated context moves on by time: its capture ends, then its holdoff (R308). -/
def State.acqStep (s : State) (c : Nat) : State :=
  let x := s.acq c
  let hold := s.rdF (pAcq c) 0x11C 23 0
  let s1 := if s.acqState c = 2 ∧ x.capTo ≤ s.beat then s.setAcqState c 3 else s
  if s1.acqState c = 3 ∧ x.capTo + hold ≤ s1.beat then
    (s1.setAcqState c 1).setAcq c { x with autoFrom := x.capTo + hold }
  else s1

/-- Record the sources of the latest trigger (Table 11.8). -/
def State.acqLast (s : State) (c t srcs : Nat) : State :=
  (s.wr64 (pAcq c) 0x160 t).wr (pAcq c) 0x168 (BitVec.ofNat 32 (lowest srcs * 2 ^ 16 + srcs))

/-- The beats in which a context takes triggers: from the commit that enabled it to the last beat held (R307, R308). -/
def State.acqTakes (s : State) (c t : Nat) : Bool :=
  let x := s.acq c
  decide (x.first ≤ t + 24) && (s.acqLive c || (match x.stopAt with | some l => decide (t ≤ l) | none => false))

/-- The last trigger taken before T: its time, and the first beat after its capture. -/
def Acq.before (x : Acq) (t : Nat) : Option (Nat × Nat) :=
  x.met.foldl (fun p m => if m.taken && decide (m.t < t) then some (m.t, m.upto) else p) x.base

/-- Whether a trigger at T is accepted after an earlier one: CONT, unless it falls within HOLDOFF beats after it; GATED, from T + POST +
HOLDOFF of it on (R308). -/
def acceptAfter (gated : Bool) (hold : Nat) (p : Option (Nat × Nat)) (t : Nat) : Bool :=
  match p with
  | none => true
  | some q => if gated then decide (q.2 + hold ≤ t) else decide (q.1 + hold < t)

/-- Whether a context accepts a trigger at T (R308). -/
def State.acqAccepts (s : State) (c t : Nat) : Bool :=
  s.acqTakes c t && acceptAfter (s.acqGated c) (s.rdF (pAcq c) 0x11C 23 0) ((s.acq c).before t) t

/-- Judge beats in order, the first after an earlier trigger p (R305, R308). -/
def judge (gated : Bool) (hold : Nat) : Option (Nat × Nat) → List Met → List Met
  | _, [] => []
  | p, m :: l =>
    let ok := acceptAfter gated hold p m.t
    { m with taken := ok } :: judge gated hold (if ok then some (m.t, m.upto) else p) l

/-- A source is met in a beat: sources of one beat make one trigger, and AUTO is met only where no other source is (R305). -/
def meet (m : Met) : List Met → List Met
  | [] => [m]
  | y :: l =>
    if m.t < y.t then m :: y :: l
    else if m.t = y.t then
      (if m.srcs = 2 ^ 9 then y else { y with srcs := mclr (y.srcs ||| m.srcs) 9, late := y.late || m.late }) :: l
    else y :: meet m l

/-- The beats of a context once a source is met at m.t (R305, R308): whatever the order in which sources are detected, the beats are judged
in order of T. An AUTO beat within AUTO.TMO after the new trigger had not come. -/
def State.metAfter (s : State) (c : Nat) (m : Met) : List Met :=
  let x := s.acq c
  let p := pAcq c
  let prev := x.before m.t
  let gone := fun (y : Met) => m.srcs != 2 ^ 9 && y.srcs == 2 ^ 9 && decide (m.t < y.t) && decide (y.t < m.t + s.rdF p 0x120 23 0)
    && acceptAfter (s.acqGated c) (s.rdF p 0x11C 23 0) prev m.t
  x.met.filter (fun y => decide (y.t < m.t))
    ++ judge (s.acqGated c) (s.rdF p 0x11C 23 0) prev ((meet m (x.met.filter (fun y => decide (m.t ≤ y.t)))).filter (fun y => !gone y))

/-- The latest trigger taken among beats. -/
def lastTaken (l : List Met) : Option Met := (l.filter (·.taken)).getLast?

/-- The beats of a context become met, changed from beat t on (R305, R308): triggers taken and ignored are counted, their marks and captures
wait, and the latest trigger is recorded. Beats more than 64 before the present one are settled. -/
def State.acqMet (s : State) (c t : Nat) (met : List Met) : State :=
  let p := pAcq c
  let x := s.acq c
  let num := fun (l : List Met) (v : Bool) => (l.filter (fun m => m.taken == v)).length
  let n := num met true - num x.met true
  let k := num met false - num x.met false
  let s1 := if n = 0 then s else ((s.wr p 0x15C (s.rd p 0x15C + BitVec.ofNat 32 n)).count p 0 n).flag p 0
  let s2 := if k = 0 then s1 else (s1.count p 1 k).flag p 3
  let new := met.filter (fun m => decide (t ≤ m.t) && m.taken)
  let pre := s2.rdF p 0x118 8 0
  let caps := (new.map (fun m => (m.t, max (m.t - pre) x.first, m.upto))).filter (fun e => decide (e.2.1 < e.2.2))
  let cut := s.beat - 64
  let y := { x with
    met := met.filter (fun m => decide (cut ≤ m.t)), base := { x with met := met }.before cut,
    marks := x.marks.filter (fun m => decide (m.1 < t)) ++ new.map (fun m => (m.t, m.srcs, m.late)),
    caps := x.caps.filter (fun e => decide (e.1 < t)) ++ (if s2.acqGated c then caps else []) }
  match lastTaken met with
  | none => s2.setAcq c y
  | some m =>
    let s3 := s2.acqLast c m.t m.srcs
    if x.trigT = some m.t then s3.setAcq c y
    else
      let s4 := s3.setAcq c { y with trigT := some m.t, autoFrom := m.t, capTo := m.upto }
      if s4.acqGated c && s4.acqLive c then s4.setAcqState c 2 else s4

/-- A source is met at T (R302 to R305, R308). -/
def State.trigger (s0 : State) (c src t : Nat) (late : Bool) : State :=
  let s := s0.acqStep c
  let p := pAcq c
  if !s.acqTakes c t || !s.rdB p 0x110 src then s
  else if !s.acqOwns c src then s.flag p 4
  else
    let s1 := if late then s.flag p 5 else s
    s1.acqMet c t (s1.metAfter c { t := t, srcs := 2 ^ src, late := late, upto := t + s1.rdF p 0x118 31 12 })

/-- The TIME source of a context (R303). -/
def State.timeMatch (s : State) (c : Nat) : State :=
  let x := s.acq c
  let m := s.rd64 (pAcq c) 0x124
  let past := fun (b : Nat) => decide (0 ≤ sgn (b + 2 ^ 64 - m % 2 ^ 64) 64)
  if (s.acqLive c || x.stopAt.isSome) && s.rdB (pAcq c) 0x110 7 && !x.timeDone && decide (x.timeFrom ≤ s.beat) && past s.beat then
    let late := past (x.timeFrom - 1) && decide (0 < x.timeFrom)
    (s.setAcq c { x with timeDone := true }).trigger c 7 (if late then x.timeFrom else m) late
  else s

/-- The AUTO source of a context (Table 11.1). -/
def State.autoTrigger (s0 : State) (c : Nat) : State :=
  let s := s0.acqStep c
  let t := (s.acq c).autoFrom + s.rdF (pAcq c) 0x120 23 0
  if (s.acqLive c || (s.acq c).stopAt.isSome) && s.rdB (pAcq c) 0x110 9 && decide (t ≤ s.beat) then s.trigger c 9 t false else s

/-- The EV pulse of a frond at ball beat t will meet source 6 in that beat (Table 11.1). -/
def State.acqEv (s : State) (f n t : Nat) : State := { s with trigs := s.trigs ++ [(t, 6, 4 * f + n)] }

/-- A write of SWTRIG.FIRE will meet source 8 in the beat in which it reaches the beat domain, 4 beats on (Table 11.1; 01_architecture.md
Table 1.4). -/
def State.swTrig (s : State) (c : Nat) : State := { s with trigs := s.trigs ++ [(s.beat + 4, 8, c)] }

/-- The triggers whose beat has come meet their contexts as they are in it, those that name the frond's EV bit among them (R302, R304,
R308). -/
def State.trigsDue (s : State) : State :=
  (s.trigs.filter (fun e => decide (e.1 ≤ s.beat))).foldl (fun a e =>
    if e.2.1 = 8 then a.trigger e.2.2 8 e.1 false
    else (List.range 16).foldl (fun d c =>
      if 4 * d.rdF (pAcq c) 0x110 25 21 + d.rdF (pAcq c) 0x110 27 26 = e.2.2 then d.trigger c 6 e.1 false else d) a)
    { s with trigs := s.trigs.filter (fun e => decide (s.beat < e.1)) }

/-- The window monitor w meets source 4 of the contexts that name it. -/
def State.acqWin (s : State) (w t : Nat) : State :=
  (List.range 16).foldl (fun a c => if a.rdF (pAcq c) 0x110 31 28 = w then a.trigger c 4 t false else a) s

/-- The first beat of the next data record: in GATED mode, that of the oldest capture not recorded whole (R313). -/
def State.recFrom (s : State) (c : Nat) : Nat :=
  let x := s.acq c
  if s.acqGated c then (match x.caps with | e :: _ => e.2.1 | [] => x.next) else x.next

/-- The end of the next data record, exclusive: a multiple of 1,024 in CONT mode, at most 1,024 beats in GATED mode, and no
later than the capture or the stop allows (R307, R313). -/
def State.recEnd (s : State) (c : Nat) : Nat :=
  let x := s.acq c
  let e := if s.acqGated c then (match x.caps with | e :: _ => min (e.2.1 + 1024) e.2.2 | [] => x.next) else (x.next / 1024 + 1) * 1024
  match x.stopAt with | some l => min e (l + 1) | none => e

/-- A demodulated sample of a trace tap: frond, tone, centre, and the ADC codes of its filter span (08_readout_front_end.md
R244, R249). -/
def State.demodUnit (s : State) (u : DemodUnit) : Bool × BitVec 64 :=
  let x := s.fe u.f
  let v := s.demodSample u.f u.tone u.centre u.codes
  let w := (x.wins ++ x.past).find? (fun (w : Win) => decide (w.tone = u.tone) && decide (w.ks + 24 ≤ u.centre)
    && decide (u.centre < w.ks + 48 * w.len) && decide ((u.centre - w.ks - 24) % 48 = 0))
  let word := match w with
    | some w => x.demodWord w ((u.centre - w.ks - 24) / 48) v
    | none => x.demodWord { tone := u.tone, issue := 0, ks := u.centre - 24, len := 1, shot := 0, num := 0 } 0 v &&& ~~~(0xC#48)
  let pres := (u.centre + 23) / 24 + 26
  (w.isSome, BitVec.ofNat 64 (word.toNat * 2 ^ 16 + u.f % 32 * 2 ^ 11 + u.tone % 16 * 2 ^ 7 + pres % 128))

/-- A list of 80-bit units, bit-packed (Table 11.2). -/
def pack80 (l : List (BitVec 80)) : List Byte := l.flatMap (fun u => leBytes 10 u.toNat)

/-- Pad to 64 bytes with zeros (R313). -/
def pad64 (l : List Byte) : List Byte := l ++ List.replicate ((64 - l.length % 64) % 64) 0

/-- Whether a frond had left the context's owner by ball beat b (R307). -/
def Acq.left (x : Acq) (f b : Nat) : Bool := x.gone.any (fun (g : Nat × Nat) => g.1 == f && decide (g.2 ≤ b))

/-- The minimum CAP_RESV of an enabled context that captures what sel says (Table 11.2). -/
def capMin (sel : Word × Word × Word) : Nat :=
  let f := popCount 32 sel.2.1.toNat
  match fld sel.1 9 8 with
  | 0 => 10 * f + 1
  | 1 => 4 * f * popCount 16 (fld sel.2.2 15 0) + 1
  | _ => 1

/-- Whether a context may lose data of beat b (R311): all but a RAW or DEMOD one in CONT mode whose CAP_RESV meets Table 11.2. -/
def State.acqLoses (s : State) (c b : Nat) : Bool :=
  let sel := s.acqSel c b
  s.acqGated c || decide (2 ≤ fld sel.1 9 8) || decide (s.rdF (pAcq c) 0x138 22 16 < capMin sel)

/-- The words of frond f and beat b in the record of a DEMOD context that captures what sel says (R306, R307). -/
def State.demodWords (s : State) (c : Nat) (sel : Word × Word × Word) (demod : List DemodUnit) (f b : Nat) : List (BitVec 64) :=
  (maskList 16 (fld sel.2.2 15 0)).flatMap (fun t => ((s.fe f).centres t b).filterMap (fun k =>
    let codes := ((demod.find? (fun u => u.f == f && u.tone == t && u.centre == k)).map (·.codes)).getD []
    let v := s.demodUnit { f := f, tone := t, centre := k, codes := codes }
    if bit sel.1 12 && !v.1 then none else some (if (s.acq c).left f b then 0 else v.2)))

/-- Bytes that beat b brings to the elastic buffer of a RAW or DEMOD context (Table 11.2). -/
def State.beatBytes (s : State) (c : Nat) (sel : Word × Word × Word) (demod : List DemodUnit) (b : Nat) : Nat :=
  let fronds := maskList 32 sel.2.1.toNat
  if fld sel.1 9 8 = 0 then 10 * fronds.length else fronds.foldl (fun a f => a + 8 * (s.demodWords c sel demod f b).length) 0

/-- The beats of the next data record that find the elastic buffer of 32 KiB full, in order, and the buffer after it: it empties at
CAP_RESV GB/s, and the beats of a capture enter it one by one (R308, R311). -/
def State.capFull (s : State) (c first last : Nat) (demod : List DemodUnit) : List Nat × Nat × Nat :=
  let x := s.acq c
  let sel := s.acqSel c first
  if fld sel.1 9 8 < 2 ∧ s.acqLoses c first then
    (List.range (last - first)).foldl (fun (a : List Nat × Nat × Nat) i =>
      let b := first + i
      let lvl := a.2.1 - s.rdF (pAcq c) 0x138 22 16 * (b - a.2.2)
      let n := s.beatBytes c sel demod b
      if 32768 < lvl + n then (a.1 ++ [b], lvl, b) else (a.1, lvl + n, b)) ([], x.buf)
  else ([], x.buf)

/-- The payload of the next data record, and the units lost to a full elastic buffer (R306, R307, R311, R313): raw holds one
stream of ADC codes per frond, from ADC sample 24 × first − 95 on; demod the codes of the demodulated samples, of which the payload holds
every one of its interval (08_readout_front_end.md R244); lost names the beats that found the buffer full. The record captures what held at its
first beat throughout (DESIGN CHOICE, log entry 44: R313 gives a record one FRONDS and one TONES). -/
def State.payload (s : State) (c first last : Nat) (raw : List (List (BitVec 12))) (demod : List DemodUnit) (lost : List Nat) :
    List Byte × Nat :=
  let x := s.acq c
  let sel := s.acqSel c first
  let fronds := maskList 32 sel.2.1.toNat
  let all := (List.range (last - first)).map (fun i => first + i)
  let gap := fun (b : Nat) => lost.contains b
  let beats := all.filter (fun b => !gap b)
  match fld sel.1 9 8 with
  | 0 =>
    let one := fun (f i : Nat) => beats.map (fun b =>
      if x.left f b then 0#80
      else s.rawRecord f b (((raw.getD i []).drop (24 * (b - first))).take 192) (((raw.getD i []).drop (24 * (b - first) + 12)).take 192))
    ((fronds.zipIdx).flatMap (fun y => pack80 (one y.1 y.2)), (all.filter gap).length * fronds.length)
  | 1 =>
    let units := s.demodWords c sel demod
    ((fronds.flatMap (fun f => beats.flatMap (units f))).flatMap (fun w => leBytes 8 w.toNat),
      (fronds.flatMap (fun f => (all.filter gap).flatMap (units f))).length)
  | _ =>
    let items := x.items.filter (fun (i : Nat × List (BitVec 64)) => decide (first ≤ i.1) && decide (i.1 < last))
    (items.flatMap (fun i => i.2.flatMap (fun w => leBytes 8 w.toNat)), 0)

/-- Frond f leaves its owner in this beat: the contexts of that owner that capture it are flagged, and hold zeros or nothing of it from
this beat on (R307). -/
def State.acqForeign (s : State) (f : Nat) : State :=
  (List.range 16).foldl (fun a c =>
    let p := pAcq c
    let x := a.acq c
    if (a.acqLive c || x.stopAt.isSome) && bit (a.acqSel c a.beat).2.1 f && a.owner p == a.frondOwner f then
      (a.setAcq c { x with gone := (f, a.beat) :: x.gone }).flag p 4
    else a) s

/-- A GAP mark for units lost (R311). -/
def State.gapMark (s : State) (c first n : Nat) : State :=
  if n = 0 then s else ((s.acqMark c 4 s.beat first n).flag (pAcq c) 2)

/-- The marks that belong before the next data record: in CONT mode those of its interval, in GATED mode those up to its capture's
trigger (R313). -/
def State.markBound (s : State) (c : Nat) : Nat :=
  if s.acqGated c then (match (s.acq c).caps with | e :: _ => e.1 + 1 | [] => s.beat - 25) else s.recEnd c

/-- No data record is due: after EN went to 0 and the last beat held was recorded, the STOP mark is written (R307); in GATED mode, the marks
of triggers that capture nothing more. -/
def State.recIdle (s : State) (c : Nat) : State :=
  match (s.acq c).stopAt with
  | some l =>
    if s.recFrom c < s.recEnd c ∨ s.beat < l + 27 then s
    else
      let s1 := s.flushMarks c (l + 1)
      (s1.setAcq c { s1.acq c with stopAt := none, caps := [] }).acqMark c 2 l 0 0
  | none => if s.acqLive c && s.acqGated c && (s.acq c).caps.isEmpty then s.flushMarks c (s.markBound c) else s

/-- A record that ends at e is done: the captures and items it leaves (R308, R313). -/
def Acq.done (x : Acq) (gated : Bool) (e : Nat) : Acq :=
  let caps := match x.caps with | k :: l => if k.2.2 ≤ e then l else (k.1, e, k.2.2) :: l | [] => []
  let from_ := match caps with | k :: _ => k.2.1 | [] => e
  { x with next := e, caps := caps, lost := none,
           items := x.items.filter (fun (i : Nat × List (BitVec 64)) => decide (e ≤ i.1) || (gated && decide (min from_ (e - 600) ≤ i.1))) }

/-- DATA_RECORD (R313): a context whose record interval has passed writes the marks that belong before it, then the record;
after EN went to 0, its last record is followed by the STOP mark (R307). What finds the elastic buffer full follows from what it holds
(R311): the row's own list of lost beats adds nothing. -/
def State.dataRecord (s0 : State) (c : Nat) (raw : List (List (BitVec 12))) (demod : List DemodUnit) (_lost : List Nat) : State :=
  let s := s0.acqStep c
  let p := pAcq c
  let from_ := s.recFrom c
  let e := s.recEnd c
  if !(s.acqLive c || (s.acq c).stopAt.isSome) || decide (e ≤ from_) || decide (s.beat < e + 26) then s.recIdle c
  else
    let full := s.capFull c from_ e demod
    let sel := s.acqSel c from_
    let pay := s.payload c from_ e raw demod full.1
    let s1 := s.flushMarks c (s.markBound c)
    let s2 := match (s1.acq c).lost with | some (b, n) => s1.gapMark c b n | none => s1
    let s3 := if pay.2 = 0 then s2 else
      (s2.gapMark c (full.1.headD e) pay.2).count p 2 pay.2
    let y := s3.acq c
    let kind := fld sel.1 9 8
    let skip := decide (2 ≤ kind) && pay.1.isEmpty
    let s4 := s3.setAcq c { y.done (s3.acqGated c) e with seq := if skip then y.seq else y.seq + 1, buf := full.2 }
    let hdr := [1 * 2 ^ 60 + c * 2 ^ 56 + kind * 2 ^ 54 + s4.devField * 2 ^ 43 + pay.1.length % 2 ^ 32, from_,
      sel.2.1.toNat * 2 ^ 32 + fld sel.2.2 15 0, y.seq % 2 ^ 32, 0, 0, 0, 0]
    let s5 := if skip then s4 else s4.acqWrite c from_ (hdr.flatMap (leBytes 8) ++ pad64 pay.1)
    match (s5.acq c).stopAt with
    | some l => if e = l + 1 then (s5.setAcq c { s5.acq c with stopAt := none, caps := [] }).acqMark c 2 l 0 0 else s5
    | none => s5

/-- Stop a HOST context that cannot deliver: it captures nothing more, and its staged records are discarded (R315). -/
def State.acqStop (s : State) (c cause : Nat) : State :=
  let x := s.acq c
  ((s.setAcq c { x with stage := [], items := [], met := [], marks := [], caps := [], lost := none, stopAt := none }).wr (pAcq c) 0x100 (BitVec.ofNat 32 (cause * 256 + 5))).flag (pAcq c) 1

/-- The first beat a context has not delivered. -/
def Acq.firstLost (x : Acq) : Nat :=
  match x.stage, x.caps with
  | r :: _, _ => r.1
  | [], e :: _ => e.2.1
  | [], [] => x.next

/-- Put a record into the host ring, and write HOST_WR back (R314). -/
def State.hostPut (s : State) (c : Nat) (bytes : List Byte) : State :=
  let p := pAcq c
  let w := (s.rd p 0x154).toNat
  let s1 := s.ringOut (s.hostFn p) (s.rd64 p 0x140) (ringBytes (s.rdF p 0x148 27 24)) w bytes
  (s1.wr p 0x154 (BitVec.ofNat 32 (w + bytes.length))).writeBack (s.hostFn p) (s.rd64 p 0x14C) ((w + bytes.length) % 2 ^ 32)

/-- The OVERFLOW mark goes to the host ring, a record written like any other (R315, R323). -/
def State.overflowMark (s : State) (c first : Nat) : State :=
  let m := s.markBytes c 3 15 0 (s.rd (pAcq c) 0x15C).toNat s.beat first 0 false
  (m.2.hostPut c m.1).count (pAcq c) 3 1

/-- HOST_COPY (R314, R315): the next record, or the stop where it does not fit beside the 64 bytes in reserve; nothing is
copied while the link is down (R64). -/
def State.hostCopy (s : State) (c : Nat) : State :=
  let p := pAcq c
  let x := s.acq c
  match x.stage with
  | (_, w, n) :: t =>
    if !s.rdB pPcie 0x100 0 then s
    else if n + 64 ≤ hostRoom (ringBytes (s.rdF p 0x148 27 24)) (s.rd p 0x154) (s.rd p 0x158) then
      let size := ringBytes (s.rdF p 0x138 27 24)
      let bytes := (List.range n).map (fun i => Tab.get 0 s.gddr (s.rd64 p 0x130 + (w + i) % size))
      (s.setAcq c { x with stage := t }).hostPut c bytes
    else (s.acqStop c 1).overflowMark c x.firstLost
  | [] => s

/-- A PCIe fundamental reset stops every HOST context; its OVERFLOW mark waits for the link (R64, R315). -/
def State.acqLinkStop (s : State) (c : Nat) : State :=
  if s.acqLive c && s.rdB (pAcq c) 0x104 4 then
    let l := (s.acq c).firstLost
    let s1 := s.acqStop c 2
    s1.setAcq c { s1.acq c with linkMark := some l }
  else s

/-- The link is up: a stopped HOST context writes its OVERFLOW mark first (R315). -/
def State.acqLinkUp (s : State) (c : Nat) : State :=
  match (s.acq c).linkMark with
  | some l => (s.setAcq c { s.acq c with linkMark := none }).overflowMark c l
  | none => s

/-- The selections that beats from b on can still need: all that begin later, and the one that held then. -/
def trimSels (b : Nat) : List (Nat × Word × Word × Word) → List (Nat × Word × Word × Word)
  | [] => []
  | e :: t => if b < e.1 then e :: trimSels b t else [e]

/-- A commit at beat A that changed registers of a context (R303, R307): old is CTL before. -/
def State.acqCommit (s : State) (c a : Nat) (old : Word) (tmatch : Bool) : State :=
  let p := pAcq c
  let en := s.rdB p 0x104 0
  let sel := (a + 24, s.rd p 0x104, s.rd p 0x108, s.rd p 0x10C)
  let s1 := if tmatch then s.setAcq c { s.acq c with timeDone := false, timeFrom := a } else s
  if en && !bit old 0 then
    let s2 := match (s1.acq c).stopAt with | some l => (s1.flushMarks c (l + 1)).acqMark c 2 l 0 0 | none => s1
    let y := s2.acq c
    let s3 := s2.setAcq c { y with first := a + 24, next := a + 24, timeFrom := a, autoFrom := a + 24, trigT := none, met := [], base := none,
                                   marks := [], caps := [], gone := [], stopAt := none, items := [], lost := none, capTo := 0, buf := (0, a),
                                   sels := [sel] }
    (s3.wr p 0x100 (if s3.acqGated c then 1 else 4)).acqMark c 1 (a + 24) 0 0
  else if !en && bit old 0 && s1.acqLive c then
    (s1.setAcq c { s1.acq c with stopAt := some (a + 23) }).wr p 0x100 (BitVec.ofNat 32 (3 * 256 + 5))
  else if en then s1.setAcq c { s1.acq c with sels := sel :: trimSels (s1.recFrom c) (s1.acq c).sels }
  else s1

end Sys2Proof.Machine
end

