-- ==== Sys2Proof/Machine/CrozierExec.lean ====
section
/-! DEFINITION. CrozierExec: one microword from its fault checks to its next address (05_crozier_sequencer.md R134 to
R139, R144, R145, R147, R155 to R157, R162 to R168). -/
namespace Sys2Proof.Machine

/-- The fault a word raises on its own, before any wait (Table 5.12 but CS_ECC and ISSUE_CROWD). Of several, ILLEGAL_OP is reported
first, then STACK, SHOT_NEST, OUTSIDE_SHOT and DISPATCH_RANGE (DESIGN CHOICE, log entry 44: the spec gives no order). -/
def State.wordFault (s : State) (f : Nat) (u : Uw) : Option Nat :=
  let c := s.crz f
  if u.illegal then some 1
  else if u.op = 4 ∧ 16 ≤ c.stack.length then some 2
  else if u.op = 5 ∧ c.stack = [] then some 3
  else if (u.op = 8 ∧ c.inShot) ∨ (u.op = 9 ∧ !c.inShot) then some 7
  else if u.timed ∧ u.op ≠ 8 ∧ !c.inShot then some 5
  else if u.op = 7 ∧ 8191 < u.target + 4 then some 8
  else none

/-- The earliest start of the next shot under its interval: S_prev + ceil(max(SHOT_REP, L_prev) × F), F in U8.8; 0
for the first shot after a start (R157). -/
def State.nextShot (s : State) (f : Nat) : Nat :=
  match (s.crz f).sPrev with
  | none => 0
  | some sp => sp + (max (s.rdF (pCrozier f) 0x124 23 0) (s.crz f).lPrev * s.stretch + 255) / 256

/-- TC as the word stamps its bundle: clamped after a wait and by WAIT mode 2, and S at SHOT_BEGIN (R139, R157,
Table 5.4). -/
def State.stamp (s : State) (f : Nat) (u : Uw) : Nat :=
  let t0 := s.tc f
  let t1 := if (s.crz f).waited || u.wmode == 2 then max t0 (s.beat + 3) else t0
  if u.op = 8 then max (max t1 (s.beat + 4)) (s.nextShot f) else t1

/-- The start of a shot: S, SHOT_NUM, the new shot, and the posting-time views EMPTY (R157, R286). -/
def State.beginShot (s : State) (f st : Nat) : State :=
  let c := s.crz f
  let num := (s.rd (pCrozier f) 0x118 + 1).toNat
  let s1 := s.setCrz f { c with
    inShot := true, sPrev := some st, lPrev := 0, nextUid := c.nextUid + 1,
    shots := c.shots ++ [{ uid := c.nextUid, num := num, starts := s.rdF (pCrozier f) 0x10 31 24, start := st,
                           tags := if s.splitMark f st then 1 else 0 }] }
  let s2 := (s1.wr (pCrozier f) 0x118 (BitVec.ofNat 32 num)).wr64 (pCrozier f) 0x11C st
  (List.range 16).foldl (fun a k => a.setSlot f k { a.slot f k with post := 0, due := 0, pdone := false }) s2

/-- The uid of the shot a word belongs to: the shot begun last, while the frond is inside it; an unused one outside any shot, where
no shot takes a mark (R155; DEDUCED, log entry 23). -/
def State.curUid (s : State) (f : Nat) : Nat :=
  (((s.crz f).shots.filter (fun h => decide (s.beat ≤ h.ended.getD s.beat))).getLast?.map (·.uid)).getD (s.crz f).nextUid

/-- The jump requests of a bundle (R154), to be handed to their players. -/
def Bundle.jumps (b : Bundle) (posted : Nat) : List Jump :=
  let one := fun (ch : Chan) (base : Nat) =>
    if ch.en && ch.jmp then
      [({ chan := base + ch.tone, entry := ch.entry, issue := b.issue, posted := posted, seq := b.seq, cond := ch.cond,
          slot := b.cslot, shot := b.shot, frame := if ch.frame then .sample else .plain } : Jump)]
    else []
  one b.xy0 0 ++ one b.xy1 8 ++ one b.probe 16

/-- SHOT_END in program order: the shot's length for the next SHOT_BEGIN (R157). -/
def State.closeShot (s : State) (f st : Nat) : State :=
  let c := s.crz f
  s.setCrz f { c with inShot := false, lPrev := st - c.sPrev.getD st }

/-- Post a word's bundle with issue beat st, or discard the whole of it as late, its SHOT_END too (R136). -/
def State.post (s : State) (f : Nat) (u : Uw) (st : Nat) : State :=
  let uid := s.curUid f
  if st < s.beat + 3 then
    ((s.count (pCrozier f) 2 1).flag (pCrozier f) 2).markShot f uid 0x10
  else
    let c := s.crz f
    let b := { s.bundleOf f u (s.queueBeat st) uid with seq := c.nextSeq }
    let s1 := s.setCrz f { c with nextSeq := c.nextSeq + 1, handed := c.handed ++ b.jumps s.beat }
    let s2 := (s1.setQueue f (c.queue ++ [b])).count (pCrozier f) 1 1
    (s2.slotsArmed f b.roMask).foldl (fun a k => a.setSlot f k { a.slot f k with post := 1, due := (a.slot f k).due + 1 }) s2

/-- A parameter register takes an ALU result; a write in the apply beat of a commit to it is lost (R166). -/
def State.setPar (s : State) (f p v : Nat) : State :=
  let c := s.crz f
  if c.parBeat = s.beat ∧ tst c.parMask p then (s.count (pCrozier f) 9 1).flag (pCrozier f) 6
  else (s.setCrz f { c with aluAt := some (s.beat, p) }).wr (pCrozier f) (0x200 + 4 * p) (BitVec.ofNat 32 v)

/-- The posting-time reading an RDSLOT or DISPATCH takes: the trusted value, or none and the mark (R147, Table 5.7). -/
def State.slotValue (s : State) (f k : Nat) : Option Nat × Nat :=
  match s.postView f k with
  | 2 => if (s.postRead f k).1 = 0 then (some (s.postRead f k).2.1, 0) else (none, qualTag (s.postRead f k).1)
  | _ => (none, 0x10)

/-- The value RDSLOT writes: the slot's read value where trusted, all ones otherwise (Table 5.7, R288). -/
def State.rdSlot (s : State) (f k : Nat) : Nat :=
  match (s.slotValue f k).1 with
  | some _ => (s.postRead f k).2.2
  | none => 0xFFFFFFFF

/-- The ALU operation of a word (Table 5.7); r is the state in which the word read its slots, before it posted (R144 step 2, R147;
DEDUCED, log entry 23). -/
def State.alu (s : State) (f : Nat) (u : Uw) (r : State) : State :=
  let d := s.par f u.dst
  let x := s.par f u.src
  match u.alu with
  | 1 => s.setPar f u.dst u.src
  | 2 => s.setPar f u.dst (d + u.src)
  | 3 => s.setPar f u.dst (d + 2 ^ 32 - u.src)
  | 4 => s.setPar f u.dst x
  | 5 => s.setPar f u.dst (d + x)
  | 6 => s.setPar f u.dst (d + 2 ^ 32 - x)
  | 7 => s.setPar f u.dst (d * 64 % 2 ^ 32 + u.src)
  | 8 => s.setLc f u.dst x
  | 9 => s.setLc f u.dst (u.src + 1)
  | 10 => (s.markShot f (s.curUid f) (r.slotValue f (u.src % 16)).2).setPar f u.dst (r.rdSlot f (u.src % 16))
  | 11 => s.setPar f u.dst (s.lc f u.src)
  | 12 => s.setPar f u.dst (s.rd (pCrozier f) 0x118).toNat
  | _ => s

/-- The word ends: next address, cost in beats (Table 5.8). -/
def State.goto (s : State) (f pc cost : Nat) : State :=
  let s1 := s.setPc f (pc % 8192)
  s1.setCrz f { s1.crz f with ready := s1.beat + cost, waited := false }

/-- A branch on COND, as it read in state r: taken where it reads as want; the default branch is PC + 1 (R147). -/
def State.branch (s : State) (f : Nat) (u : Uw) (want : Bool) (p0 : Nat) (r : State) : State :=
  match r.cond f u.cond p0 with
  | .val b =>
    let s1 := if b then s.consume f u.cond else s
    if b = want then s1.goto f u.target 2 else s1.goto f (s.pc f + 1) 1
  | .default tag => (s.markShot f (s.curUid f) tag).goto f (s.pc f + 1) 1
  | .wait => s

/-- The sequence operation of a word: step 5 of R144 (Table 5.2); p0 is P[0] before the word, r the state in which it read its
condition. -/
def State.seqOp (s : State) (f : Nat) (u : Uw) (p0 : Nat) (r : State) : State :=
  let pc := s.pc f
  match u.op with
  | 1 => s.goto f u.target 2
  | 2 => s.branch f u true p0 r
  | 3 => s.branch f u false p0 r
  | 4 => (s.setStack f ((pc + 1) % 8192 :: (s.crz f).stack)).goto f u.target 2
  | 5 =>
    let st := (s.crz f).stack
    let s1 := s.setStack f st.tail
    if s.rdB (pCrozier f) 0x10 23 && st.length == (s.crz f).hdepth + 1 then
      let s2 := (s1.wrB (pCrozier f) 0x10 23 false).goto f (st.headD 0) 2
      s2.setCrz f { s2.crz f with waited := (s2.crz f).hwaited, hwaited := false }
    else s1.goto f (st.headD 0) 2
  | 6 =>
    let n := s.lc f u.cond
    (s.setLc f u.cond (n - 1)).goto f (if 1 < n then u.target else pc + 1) 1
  | 7 =>
    match r.slotValue f (u.cond % 16) with
    | (some v, _) => s.goto f (u.target + 1 + v) 3
    | (none, tag) => (s.markShot f (s.curUid f) tag).goto f u.target 3
  | 11 => (s.goto f pc 1).crzHalt f
  | 12 =>
    match r.cond f u.cond p0 with
    | .val b => (if b then s.consume f u.cond else s).goto f (pc + 1) 1
    | .default tag => (s.markShot f (s.curUid f) tag).goto f (pc + 1) 1
    | .wait => s
  | 13 =>
    ((s.flag (pCrozier f) 1).wr (pCrozier f) 0x164 (BitVec.ofNat 32 (u.target % 256))).goto f (pc + 1) 1
  | _ => s.goto f (pc + 1) 1

/-- A word that would post a seventeenth bundle with its issue beat (R138). This comes before R136 discards the bundle of a word that is
late (DESIGN CHOICE, log entry 44: the spec does not say which comes first). -/
def State.crowds (s : State) (f : Nat) (u : Uw) : Bool :=
  let st := s.stamp f u
  u.posts && decide (16 ≤ ((s.crz f).queue.filter (fun b => b.issue == if st < s.beat + 3 then st else s.queueBeat st)).length)

/-- Execute a word that neither faults, waits nor stalls (R144 steps 2 to 6). -/
def State.wordRun (s : State) (f : Nat) (u : Uw) : State :=
  let p0 := s.par f 0
  let wait := if u.wmode = 1 then s.par f (u.wval % 64) else u.wval
  let st := s.stamp f u
  let s1 := (s.setTc f st).setCrzState f 1
  let s2 := if u.op = 8 then s1.beginShot f st else s1
  let s3 := if u.posts then s2.post f u st else s2
  let s4 := if u.op = 9 then s3.closeShot f st else s3
  let s5 := (s4.alu f u s2).count (pCrozier f) 0 1
  (s5.seqOp f u p0 s2).setTc f (st + wait)

/-- A Crozier begins to stall, hold or wait: STATE, and the counter of its beats. -/
def State.pause (s : State) (f st : Nat) : State :=
  if s.crzState f = st then s
  else
    let s1 := s.setCrzState f st
    let c := s1.crz f
    s1.setCrz f { c with paused := if st = 2 then 7 else if st = 3 then 6 else 0, waited := c.waited || st != 3 }

/-- The bank switch in place of a SHOT_BEGIN (R168). -/
def State.bankSwitch (s : State) (f : Nat) : State :=
  let sel := s.rdB (pCrozier f) 0x148 16
  let s1 := (((s.wrB (pCrozier f) 0x10 22 sel).wrB (pCrozier f) 0x10 23 false).setStack f []).flag (pCrozier f) 8
  let s2 := (List.range 8).foldl (fun a k => a.setLc f k 0) s1
  let s3 := (s2.setCrzState f 1).goto f (s.rdF (pCrozier f) 0x148 12 0) 3
  s3.setCrz f { s3.crz f with hwaited := false }

/-- Whether the word at PC may not proceed: it holds, waits or stalls; the STATE it then shows. A stall or hold is
judged afresh at every opportunity (R137, R147, R156). -/
def State.blocked (s : State) (f : Nat) (u : Uw) : Option Nat :=
  if u.op = 8 ∧ s.shotHold f then some 2
  else if s.wordWaits f u then some 4
  else if s.wordStalls f u then some 3
  else none

/-- The fault of the word at PC at this boundary (R165, Table 5.12): its own, or, where nothing holds it back from posting, a crowded
issue beat (R138). -/
def State.faultNow (s : State) (f : Nat) (u : Uw) : Option Nat :=
  match s.wordFault f u with
  | some code => some code
  | none =>
    if u.op = 8 && (!s.rdB (pCrozier f) 0x100 0 || s.rdB (pCrozier f) 0x10 22 != s.rdB (pCrozier f) 0x148 16) then none
    else if (s.blocked f u).isNone && s.crowds f u then some 6
    else none

/-- One opportunity to execute the word at PC (R144, R163): faults before interrupts; an enabled interrupt is taken
by INTERRUPT_ENTRY instead; ENABLE = 0 and a bank switch act at SHOT_BEGIN; otherwise the word waits, stalls or runs. A hold, wait or stall of
the SHOT_BEGIN word comes before the bank switch that replaces it (DESIGN CHOICE, log entry 44: R168 does not say so). -/
def State.word (s : State) (f : Nat) (ecc : Ecc) : State :=
  let u := s.fetch f
  let s0 := if ecc = .corrected then s.count (pCrozier f) 11 1 else s
  if ecc = .bad then s0.crzFault f 4
  else match s0.faultNow f u with
    | some code => (s0.unpause f).crzFault f code
    | none =>
      if (s0.irqInput f).isSome then s0
      else if u.op = 8 ∧ !s0.rdB (pCrozier f) 0x100 0 then (s0.unpause f).setCrzState f 0
      else match s0.blocked f u with
        | some st => (if s0.crzState f = st then s0 else s0.unpause f).pause f st
        | none =>
          if u.op = 8 ∧ s0.rdB (pCrozier f) 0x10 22 ≠ s0.rdB (pCrozier f) 0x148 16 then (s0.unpause f).bankSwitch f
          else (s0.unpause f).wordRun f u

/-- Interrupt entry at a boundary (R163, R164): the latch is consumed, the address of the word that would have executed
is pushed, HANDLER is set, and IVEC is fetched; a full stack faults (Table 5.12). -/
def State.interrupt (s : State) (f i : Nat) : State :=
  let s1 := (s.unpause f).setEvin f (mclr (s.crz f).evin i)
  if 16 ≤ (s.crz f).stack.length then s1.crzFault f 2
  else
    let c := s1.crz f
    let s2 := (s1.setCrz f { c with hdepth := c.stack.length, hwaited := c.waited }).setStack f (s1.pc f :: c.stack)
    (s2.wrB (pCrozier f) 0x10 23 true).goto f (s.rdF (pCrozier f) (0x138 + 4 * i) 12 0) 2

/-- CMD_HALT (R162): a write of CROZIER.CMD with the key halts a running, held, stalled or waiting Crozier at its next microword
boundary from the beat on in which the write reaches it, 4 beats later (01_architecture.md Table 1.4). -/
def State.cmdHalt (s : State) (f : Nat) (v : Word) : State :=
  if fld v 31 16 = 0x435A ∧ bit v 0 then s.setCrz f { s.crz f with haltAt := some ((s.crz f).haltAt.getD (s.beat + 4)) } else s

end Sys2Proof.Machine
end

