-- ==== Sys2Proof/Machine/Hk.lean ====
section
/-! DEFINITION. Hk: DC bias channels and their strobes, window monitors, thermometry, the housekeeping ADC and the general
timers (16_housekeeping_analog.md; 07_drive_outputs.md R216, R217). -/
namespace Sys2Proof.Machine

/-- Change the housekeeping die. -/
def State.mapHk (s : State) (g : Hk → Hk) : State := { s with hk := g s.hk }

/-- STAT of DC bias channel k of BIAS[f] (Table 16.4). -/
def biasReg (k w : Nat) : Nat := 0x100 + 0x10 * k + 4 * w

/-- LOAD of a bias channel; 9 to 15 act as 8. -/
def State.biasLoad (s : State) (f k : Nat) : Nat := min 8 (s.rdF (pBias f) (biasReg k 1) 3 0)

/-- The device forces every DC bias output: CLR_N is low, or it is in HOLD (R427). -/
def State.biasForced (s : State) : Bool := s.pins.clr || s.mode == 5 || s.mode == 1

/-- Load the staged code of a bias channel (R426, R427). -/
def State.biasPut (s : State) (f k : Nat) : State :=
  (s.wr (pBias f) (biasReg k 3) (BitVec.ofNat 32 (s.rdF (pBias f) (biasReg k 0) 19 0))).count (pBias f) 0 1

/-- Every channel of bank j is CLEARED (R444). -/
def State.bankClear (s : State) (j : Nat) : Bool :=
  (List.range 8).all (fun c => s.rdB (pBias (2 * j + c / 4)) (biasReg (c % 4) 3) 31)

/-- The housekeeping cycle in which the calibration of bank j begins: 1 ms per bank, in rising order (R444; the order: log entry 44). -/
def State.bankFrom (s : State) (j : Nat) : Nat := s.hk.calFrom + 200000 * popCount j s.hk.plan

/-- Bank j's calibration ends without result, and its skip bit is set (R444). -/
def State.bankSkip (s : State) (j : Nat) : State :=
  (s.wrB pHk 0x128 j true).mapHk (fun h => { h with banks := mclr h.banks j })

/-- A code staged into a bank while it is being calibrated ends that bank's calibration without result (R444). -/
def State.bankStaged (s : State) (f : Nat) : State :=
  let j := f / 2
  if tst s.hk.banks j && decide (s.bankFrom j ≤ s.hk.now) && decide (s.hk.now < s.bankFrom j + 200000) then s.bankSkip j else s

/-- Up to housekeeping cycle h, banks whose turn comes are calibrated only where every channel is still CLEARED (R444). -/
def State.bankTurns (s : State) (h : Nat) : State :=
  (List.range 16).foldl (fun t j =>
    if tst t.hk.banks j && decide (t.hk.now < t.bankFrom j) && decide (t.bankFrom j ≤ h) && !t.bankClear j then t.bankSkip j else t) s

/-- A committed CODE is staged, and loaded at once where LOAD is 8 (R426). -/
def State.biasStage (s : State) (f k : Nat) : State :=
  let s1 := ((s.bankStaged f).wrB (pBias f) (biasReg k 3) 30 true).count (pBias f) 2 1
  if s1.biasLoad f k = 8 ∧ !s1.biasForced then s1.biasPut f k else s1

/-- Every bias channel of a page becomes CLEARED (R427). -/
def State.biasClear (s : State) (f : Nat) : State :=
  (List.range 4).foldl (fun a k =>
    a.wr (pBias f) (biasReg k 3) (BitVec.ofNat 32 (2 ^ 31 + a.rdF (pBias f) (biasReg k 2) 19 0))) s

/-- Every bias channel becomes CLEARED (R427). -/
def State.biasClearAll (s : State) : State := (List.range 32).foldl (fun a f => a.biasClear f) s

/-- Strobe n fires in beat b; one less than 20 beats after the last on its wire merges with it (R216, R217). -/
def State.strobe (s : State) (n b : Nat) : State :=
  let last := Tab.get 0 s.hk.fired n
  if last ≠ 0 ∧ b + 1 < last + 20 then s.count pHk n 1
  else s.mapHk (fun h => { h with fired := Tab.set 0 h.fired n (b + 1), strobes := h.strobes ++ [n] })

/-- The strobes whose source is of a given kind and selection (Table 7.8). -/
def State.strobesOf (s : State) (kind sel : Nat) : List Nat :=
  (List.range 8).filter (fun n => s.rdF pHk (0x100 + 4 * n) 17 16 == kind && s.rdF pHk (0x100 + 4 * n) 9 0 == sel)

/-- TMR[n]'s registers (Table 16.9). -/
def tmrReg (n w : Nat) : Nat := 0x100 + 0x20 * n + 4 * w

/-- The timers count on to housekeeping cycle h (R445). -/
def State.hkTo (s9 : State) (h : Nat) : State :=
  let s := if s9.hk.banks = 0 then s9 else s9.bankTurns h
  let d := h - s.hk.now
  let s1 := (List.range 4).foldl (fun a n =>
    if a.rdB pTimer (tmrReg n 0) 31 ∧ d ≠ 0 then
      let x := Tab.get {} a.hk.tmrs n
      let div := a.rdF pTimer (tmrReg n 0) 15 8 + 1
      let per := (a.rd pTimer (tmrReg n 1)).toNat + 1
      let c := (a.rd pTimer (tmrReg n 2)).toNat + (x.presc + d) / div
      (a.mapHk (fun k => { k with tmrs := Tab.set {} k.tmrs n { presc := (x.presc + d) % div, due := x.due + c / per } })).wr
        pTimer (tmrReg n 2) (BitVec.ofNat 32 (c % per))
    else a) s
  s1.mapHk (fun k => { k with now := max k.now h })

/-- A capture source: every timer channel that selects it copies COUNT (R445). -/
def State.tmrCapture (s : State) (src : Nat) : State :=
  (List.range 8).foldl (fun a j =>
    let n := j / 2
    let i := j % 2
    if a.rdB pTimer (tmrReg n 0) 31 ∧ a.rdF pTimer (tmrReg n 3) (16 * i + 4) (16 * i) = src then
      let ov := a.rdB pTimer 0x14 (4 * n + 1 + i)
      let b := (a.wr pTimer (tmrReg n (4 + i)) (a.rd pTimer (tmrReg n 2))).flag pTimer (4 * n + 1 + i)
      if ov then b.flag pTimer (4 * n + 3) else b
    else a) s

/-- STATE of the housekeeping ADC (Table 16.8): 0 idle, 1 sequence, 2 injected, 3 calibration. -/
def State.adcState (s : State) : Nat := s.rdF pHkadc 0x118 2 0

/-- Set STATE. -/
def State.setAdcState (s : State) (st : Nat) : State := s.wrF pHkadc 0x118 2 0 st

/-- Change the ADC's state. -/
def State.mapAdc (s : State) (g : AdcSt → AdcSt) : State := s.mapHk (fun h => { h with adc := g h.adc })

/-- What interrupts an entry leaves a post-OVR discard that it has not made to the entry that follows (R439). -/
def State.adcDrop (s : State) : State := s.mapAdc (fun x => { x with post := x.post || (x.extra && x.left != 0), extra := false })

/-- Begin entry e of the sequence (R440); after an OVR conversion it discards one more (R439). -/
def State.adcEntry (s : State) (e : Nat) : State :=
  ((s.wrF pHkadc 0x118 20 16 e).setAdcState 1).mapAdc (fun x => { x with
    left := s.rdF pHkadc (0x180 + 4 * e) 3 0 + (if x.post then 1 else 0), extra := x.post, post := false,
    n := 0, sum := 0, ovr := false })

/-- The injected conversion begins (R441). -/
def State.adcInject (s : State) : State :=
  (s.adcDrop.setAdcState 2).mapAdc (fun x => { x with
    left := s.rdF pHkadc 0x108 3 0, extra := false, n := 0, sum := 0, ovr := false, inj := false })

/-- A request for an injected conversion (R441, R442); with nothing being sampled it begins at once. -/
def State.injRequest (s : State) : State :=
  let drop := (s.flag pHkadc 2).count pHkadc 4 1
  if s.adcState = 3 then (if s.hk.adc.held then drop else s.mapAdc (fun x => { x with held := true }))
  else if s.adcState = 2 ∨ s.hk.adc.inj then drop
  else if s.adcState = 0 then s.adcInject
  else s.mapAdc (fun x => { x with inj := true })

/-- What runs next, where nothing keeps the converter: an injected request, a calibration that waited for it, the sequence's interrupted
entry, or, with RUN 0, nothing, and a later RUN starts at SEQ[0] (R440 to R442). -/
def State.adcNext (s9 : State) : State :=
  let s := s9.adcDrop
  if s.hk.adc.inj then s.adcInject
  else if s.hk.adc.calWait then
    ((s.setAdcState 3).mapAdc (fun x => { x with calWait := false })).mapHk (fun h => { h with adcFrom := h.now })
  else if s.rdB pHkadc 0x100 31 then s.adcEntry (s.rdF pHkadc 0x118 20 16)
  else (s.setAdcState 0).wrF pHkadc 0x118 20 16 0

/-- A write of CTRL: with RUN 1 an idle converter starts the sequence at SEQ[0] (R440, R451). -/
def State.adcStart (s : State) : State := if s.adcState = 0 then s.adcNext else s

/-- The test DAC's level, in units of 2.5 V / 2^24 (R443). -/
def State.testLevel (s : State) : Nat := s.rdF pHkadc 0x110 9 0 * 2 ^ 14

/-- The level of an open input HK_AIN[i]: the test level where PIN_EN drives it; else nothing drives it, a free value (R443; log
entry 5). -/
def State.openLevel (s : State) (i : Nat) : Nat × State :=
  if s.rdB pHkadc 0x110 31 && s.rdF pHkadc 0x110 20 16 == i then (s.testLevel, s) else (s.draw.1.toNat % 2 ^ 24, s.draw.2)

/-- The code of multiplexer input m before clamping (Table 16.1): x is the level of an outside source in codes, none for an open HK_AIN
input; of the test DAC, ground and a DC bias channel it is what the conversion departs by from the source's own code. -/
def State.adcInput (s : State) (m : Nat) (x : Option Int) : Int × State :=
  let v := x.getD 0
  if m < 32 ∧ x = none then (((s.openLevel m).1 / 256 : Nat), (s.openLevel m).2)
  else if m = 41 then ((s.testLevel / 256 : Nat) + v, s)
  else if m = 44 then
    let c := s.rdF pHkadc 0x114 6 0
    ((s.rdF (pBias (c / 4)) (biasReg (c % 4) 3) 19 0 / 16 : Nat) + v, s)
  else (v, s)

/-- The average of 2^a conversions, rounding half up (R440). -/
def adcAvg (sum a : Nat) : Nat := if a = 0 then sum else (sum + 2 ^ (a - 1)) / 2 ^ a

/-- An entry's conversions are all in (R440). -/
def State.adcResult (s : State) (e a : Nat) : State :=
  let x := s.hk.adc
  let s1 := (s.wr pHkadc (0x200 + 4 * e) (BitVec.ofNat 32 (2 ^ 31 + (if x.ovr then 2 ^ 30 else 0)
    + x.pass % 2 ^ 14 * 2 ^ 16 + adcAvg x.sum a))).mapAdc (fun y => { y with n := 0, sum := 0, ovr := false })
  if e = s1.rdF pHkadc 0x100 20 16 then
    let s2 := (((s1.flag pHkadc 4).count pHkadc 5 1).tmrCapture 25).mapAdc (fun y => { y with pass := y.pass + 1 })
    if s2.rdB pHkadc 0x100 30 then s2.adcEntry 0
    else ((s2.wrB pHkadc 0x100 31 false).setAdcState 0).wrF pHkadc 0x118 20 16 0
  else s1.adcEntry ((e + 1) % 32)

/-- The settings of the conversion in progress: INJ_CFG, or those of the sequence's entry (R440, R441). -/
def State.adcCfg (s : State) : Nat := if s.adcState = 2 then 0x108 else 0x180 + 4 * s.rdF pHkadc 0x118 20 16

/-- CONVERSION (R439 to R441): a conversion of the input its settings select, x as State.adcInput takes it, ends. -/
def State.conversion (s0 : State) (x9 : Option Int) : State :=
  let s8 := if s0.adcState = 0 then s0.adcNext else if s0.adcState = 1 ∧ !s0.rdB pHkadc 0x100 31 then s0.adcNext else s0
  if s8.adcState = 0 ∨ s8.adcState = 3 then s8
  else
    let z := s8.adcInput (s8.rdF pHkadc s8.adcCfg 21 16) x9
    let x := z.1
    let s := z.2
    let code := clampI 0 65535 x
    let ovr := decide (code ≠ x)
    let s1 := s.count pHkadc 0 1
    let s2 := if ovr then ((s1.flag pHkadc 0).count pHkadc 1 1).mapAdc (fun y => { y with post := true }) else s1
    let a := s2.hk.adc
    let inj := decide (s2.adcState = 2)
    let e := s2.rdF pHkadc 0x118 20 16
    let avg := s2.rdF pHkadc s2.adcCfg 10 8
    let s3 :=
      if a.left ≠ 0 then
        (if a.extra && a.left == 1 then s2.count pHkadc 2 1 else s2).mapAdc (fun y => { y with left := a.left - 1 })
      else
        let s4 := s2.mapAdc (fun y => { y with n := a.n + 1, sum := a.sum + code.toNat, ovr := a.ovr || ovr })
        if a.n + 1 = 2 ^ avg then
          (if inj then
            let z := s4.hk.adc
            (((((s4.wr pHkadc 0x10C (BitVec.ofNat 32 (2 ^ 31 + (if z.ovr then 2 ^ 30 else 0) + adcAvg z.sum avg))).flag pHkadc 1).count
              pHkadc 3 1).tmrCapture 26).mapAdc (fun y => { y with n := 0, sum := 0, ovr := false })).adcNext
          else s4.adcResult e avg)
        else s4
    if !inj ∧ s3.hk.adc.inj then s3.adcInject else s3

/-- WIN[w]'s registers (Table 16.6). -/
def winReg (w r : Nat) : Nat := 0x200 + 0x10 * w + 4 * r

/-- What a comparator decides about an input v, in units of 2.5 V / 2^24, against threshold code thr: above its band, below
it, or neither (R428). -/
def comparator (thr hyst v : Nat) : Option Bool :=
  if hyst * 2 ^ 24 < (v - thr * 4096) * 2500 then some true
  else if hyst * 2 ^ 24 < (thr * 4096 - v) * 2500 then some false
  else none

/-- The window's monitor state. -/
def State.winSt (s : State) (w : Nat) : WinSt := Tab.get {} s.hk.wins w

/-- Set a window's state; STAT shows its output and whether it is UNRESOLVED (Table 16.6). -/
def State.setWin (s : State) (w : Nat) (x : WinSt) : State :=
  let s1 := s.mapHk (fun h => { h with wins := Tab.set {} h.wins w x })
  (s1.wrB pWinmon (winReg w 3) 31 x.out).wrB pWinmon (winReg w 3) 30 (s.rdB pWinmon (winReg w 0) 31 && !(x.hiKnown && x.loKnown))

/-- The raw output of resolved comparators (R428). -/
def State.winRaw (s : State) (w : Nat) (x : WinSt) : Bool :=
  if s.rdB pWinmon (winReg w 0) 30 then !x.hi && !x.lo else x.hi || x.lo

/-- The filtered output of a sample history (R429). -/
def winFilter (filt hist : Nat) : Bool :=
  match filt with
  | 1 => decide (3 ≤ popCount 5 hist)
  | 2 => decide (5 ≤ popCount 9 hist)
  | _ => tst hist 0

/-- Change what a window keeps of its latch. -/
def State.mapWin (s : State) (w : Nat) (g : WinSt → WinSt) : State := s.mapHk (fun h => { h with wins := Tab.set {} h.wins w (g (s.winSt w)) })

/-- The latch of a window sets in cycle h (R430); the bit going from 0 to 1 is answered. A bit that a clear of the same cycle took down has
stayed set (R11). -/
def State.winLatch (s : State) (w h : Nat) : State × Bool :=
  ((s.mapWin w (fun x => { x with setAt := h + 1 })).wrB pWinmon 0x100 w true, !s.rdB pWinmon 0x100 w && (s.winSt w).clrAt != h + 1)

/-- The latch of a window is cleared in the present cycle; a set of the same cycle stands (R430, R11). -/
def State.winClear (s : State) (w : Nat) : State :=
  if s.rdB pWinmon 0x100 w && (s.winSt w).setAt != s.hk.now + 1 then
    (s.mapWin w (fun x => { x with clrAt := s.hk.now + 1 })).wrB pWinmon 0x100 w false
  else s

/-- One housekeeping cycle, number h, of an enabled window with input v (R428 to R431), and whether it becomes set. -/
def State.winCycle (s : State) (w h v : Nat) : State × Bool :=
  let hy := s.rdF pWinmon (winReg w 2) 3 0
  let c := winReg w 0
  let x := s.winSt w
  let up := comparator (s.rdF pWinmon (winReg w 1) 27 16) hy v
  let dn := comparator (s.rdF pWinmon (winReg w 1) 11 0) hy v
  let was := x.hiKnown && x.loKnown
  let y := { x with hi := up.getD x.hi, lo := (dn.map (fun b => !b)).getD x.lo, hiKnown := x.hiKnown || up.isSome,
                    loKnown := x.loKnown || dn.isSome, first := false }
  let now := y.hiKnown && y.loKnown
  let init := s.rdB pWinmon c 29
  let raw := if now then s.winRaw w y else init
  if now && !was then
    (if raw = init || x.first then
      let s1 := s.setWin w { y with hist := if raw then 511 else 0, out := raw }
      if s.rdB pWinmon c 28 && raw then s1.winLatch w h else (s1, false)
    else
      let s1 := ((s.setWin w { y with hist := if raw then 511 else 0, out := raw }).wrB pWinmon (winReg w 3) 29 true).count pWinmon w 1
      if raw then s1.winLatch w h else (s1, false))
  else
    let sample := decide (s.rdF pWinmon c 15 8 ≤ x.div)
    let hist := if sample then (2 * x.hist + (if raw then 1 else 0)) % 512 else x.hist
    let out := winFilter (s.rdF pWinmon c 21 20) hist
    let s1 := s.setWin w { y with hist := hist, out := out, div := if sample then 0 else x.div + 1 }
    let s2 := if out ≠ x.out then s1.count pWinmon w 1 else s1
    if (out && !x.out && !s.rdB pWinmon c 28) || (s.rdB pWinmon c 28 && out && now) then s2.winLatch w h else (s2, false)

/-- The level of input HK_AIN[i] in cycle h, the same for every window (R428): what a window saw of it already, else v, none where the
input is open. -/
def State.ainLevel (s : State) (i h : Nat) (v : Option Nat) : Nat × State :=
  match s.hk.ain.find? (fun e => e.1 == h && e.2.1 == i) with
  | some e => (e.2.2, s)
  | none =>
    let r := match v with | some x => (x, s) | none => s.openLevel i
    (r.1, r.2.mapHk (fun k => { k with ain := (h, i, r.1) :: k.ain.filter (fun e => decide (h < e.1 + 64)) }))

/-- Housekeeping cycles of a window from cycle h on with the given inputs, and whether it becomes set. -/
def State.winRun (s : State) (w h : Nat) : List (Option Nat) → State × Bool
  | [] => (s, false)
  | v :: t =>
    let a := s.ainLevel (s.rdF pWinmon (winReg w 0) 4 0) h v
    let r := a.2.winCycle w h a.1
    let r2 := r.1.winRun w (h + 1) t
    (r2.1, r.2 || r2.2)

/-- A window is enabled (R431): every comparator must be outside its band before its state is known, and the history
holds INIT_LEVEL. A comparator whose input lies outside its band in the first cycle resolves without an edge. -/
def State.winEnable (s : State) (w : Nat) : State :=
  let init := s.rdB pWinmon (winReg w 0) 29
  s.setWin w { hist := if init then 511 else 0, out := init, first := true }

/-- A write of WIN[w].CFG (R431, R449). -/
def State.winCfg (s : State) (w : Nat) (v : Word) : State :=
  let on := s.rdB pWinmon (winReg w 0) 31
  let s1 := s.wr pWinmon (winReg w 0) (v &&& 0xFF30FF1F)
  if bit v 31 && !on then s1.winEnable w else s1

/-- A window becomes set at beat b, in the synchroniser's last beat (R430): Hypha, trigger source 4, the page flag, timer
captures and injected conversions. -/
def State.winSet (s : State) (w b : Nat) : State :=
  let s1 := ((s.flag pWinmon w).srcEvent b (0x0A4 + w)).acqWin w b
  let s2 := s1.tmrCapture (1 + w)
  if s2.rdF pHkadc 0x108 31 27 = 5 + w then s2.injRequest else s2

/-- A period event of TMR[n] (R445, R430, R441). -/
def State.timerPeriod (s : State) (n : Nat) : State :=
  let x := Tab.get {} s.hk.tmrs n
  if x.due = 0 then s
  else
    let s1 := ((s.mapHk (fun h => { h with tmrs := Tab.set {} h.tmrs n { x with due := x.due - 1 } })).flag pTimer (4 * n)).count pTimer n 1
    let s2 := (List.range 16).foldl (fun a w =>
      if a.rdB pWinmon (winReg w 0) 26 ∧ a.rdF pWinmon (winReg w 0) 25 24 = n then a.winClear w else a) s1
    if s2.rdF pHkadc 0x108 31 27 = n + 1 then s2.injRequest else s2

/-- STROBE_LOAD (R426, R427, R445): a strobe arrives at the housekeeping die. -/
def State.strobeLoad (s : State) (n : Nat) : State :=
  if !s.hk.strobes.contains n then s
  else
    let s1 := (s.mapHk (fun h => { h with strobes := h.strobes.erase n })).tmrCapture (17 + n)
    (List.range 32).foldl (fun a f =>
      let ks := (List.range 4).filter (fun k => a.biasLoad f k == n)
      if ks = [] then a
      else if a.biasForced then a.count (pBias f) 1 1
      else ks.foldl (fun c k => if c.rdB (pBias f) (biasReg k 3) 30 then c.biasPut f k else c) a) s1

/-- A thermometry channel's register (Table 16.7). -/
def thReg (c w : Nat) : Nat := 0x180 + 0x60 * c + 4 * w

/-- FL of a channel in housekeeping cycles (R433). -/
def State.thFl (s : State) (c : Nat) : Nat := 2 ^ s.rdF pThermo (thReg c 1) 3 0 * 20000

/-- A phase of a channel in housekeeping cycles (R434). -/
def State.thPhase (s : State) (c : Nat) : Nat := s.rdF pThermo (thReg c 1) 31 16 * 20000 + 3 * s.thFl c

/-- The channel's excitation range, 1 to 4 (R433). -/
def State.thRange (s : State) (c : Nat) : Nat := max 1 (min 4 (s.rdF pThermo (thReg c 0) 26 24))

/-- The excitation a channel drives (R433, R434): MANT × 10^RANGE, MANT clamped to 100 to 1,000, in pA in current mode and in nV in voltage
mode; negative in a negative phase; 0 while off. -/
def State.thExcite (s : State) (c : Nat) : Int :=
  let m := s.rdF pThermo (thReg c 0) 31 30
  let x : Int := (max 100 (min 1000 (s.rdF pThermo (thReg c 0) 9 0)) * 10 ^ s.thRange c : Nat)
  if m = 1 ∨ m = 2 then (if s.rdB pThermo (thReg c 0) 29 && (Tab.get {} s.hk.thermo c).neg then -x else x) else 0

/-- Set a channel's phase. -/
def State.setThermo (s : State) (c : Nat) (x : Thermo) : State := s.mapHk (fun h => { h with thermo := Tab.set {} h.thermo c x })

/-- The excitation of channel c changes (R435). -/
def State.thRestart (s : State) (c : Nat) : State :=
  let p := thReg c 4
  let s1 := if s.rdB pThermo p 30 then s.count pThermo 32 1 else s
  (s1.wrB pThermo p 30 true).setThermo c { restart := s.hk.now, neg := false }

/-- A disabled AMON, one with HI ≤ LO, or one whose channel is in digital form, drives 0 V (R438). -/
def State.amonOff (s : State) : State :=
  (List.range 4).foldl (fun a k =>
    if a.rdB pThermo (0x104 + 4 * k) 31 && a.rdB pThermo (thReg (a.rdF pThermo (0x104 + 4 * k) 3 0) 0) 28
      && decide ((a.rd pThermo (0x114 + 8 * k)).toNat < (a.rd pThermo (0x118 + 8 * k)).toNat) then a
    else a.mapHk (fun h => { h with amon := Tab.set (0, 0) h.amon k (0, 0) })) s

/-- A write of EXC (R435). -/
def State.thExc (s : State) (c : Nat) (v : Word) : State :=
  let w := v &&& 0xF70003FF
  if w = s.rd pThermo (thReg c 0) then s else ((s.wr pThermo (thReg c 0) w).amonOff).thRestart c

/-- The polynomial of R437. -/
def State.thPoly (s : State) (c : Nat) (r : Nat) : Nat :=
  let sg := fun (w : Nat) => sgn (s.rd pThermo (thReg c w)).toNat 32
  let x := satI 32 (roundShift (((r : Int) - (s.rd pThermo (thReg c 6)).toNat) * sg 7) 32)
  let acc0 := sg 15
  let acc1 := (List.range 7).foldl (fun (a : Int) j => satI 48 (roundShift (a * x) 30 + sg (14 - j))) acc0
  let t := sgn (s.rdF pThermo 0x100 15 0) 16 - 6400
  let acc := satI 48 (acc1 + roundShift (sg 16 * t) 8 + roundShift (roundShift (sg 17 * t) 8 * t) 8)
  (clampI 0 (2 ^ 32 - 1) acc).toNat

/-- The AMON outputs that follow channel c update at a publication (R438). -/
def State.amonUpdate (s : State) (c t : Nat) (fault : Bool) : State :=
  (List.range 4).foldl (fun a k =>
    if a.rdB pThermo (0x104 + 4 * k) 31 ∧ a.rdF pThermo (0x104 + 4 * k) 3 0 = c then
      let lo := (a.rd pThermo (0x114 + 8 * k)).toNat
      let hi := (a.rd pThermo (0x118 + 8 * k)).toNat
      let v := if fault ∨ hi ≤ lo ∨ !a.rdB pThermo (thReg c 0) 28 then (0, 0) else (min (t - lo) (hi - lo), hi - lo)
      a.mapHk (fun h => { h with amon := Tab.set (0, 0) h.amon k v })
    else a) s

/-- The code of AMON[k]'s 16-bit DAC, of steps of REF_BIAS / 2^16 (R438; the step: DEDUCED, log entry 44). -/
def State.amonCode (s : State) (k : Nat) : Nat :=
  let v := Tab.get (0, 0) s.hk.amon k
  if v.1 = 0 then 0 else min 0xFFFF (quot 9 (v.1 * 65536 : Nat) v.2).toNat

/-- Twice the sense voltage of a phase, in pV (R434): with REV 1, what the two phases differ by. -/
def State.thSense (s : State) (c : Nat) (m : ThermoMeas) : Int := if s.rdB pThermo (thReg c 0) 29 then m.vp - m.vm else 2 * m.vp

/-- RES_R of twice a sense voltage of v pV at a current of i fA: their quotient, LSB 2^−8 Ω (R434). -/
def thRatio (v i : Nat) : Nat := min 0xFFFFFFFF (quot 10 (v * 128000 : Nat) i).toNat

/-- The fault a phase shows: 0 none, 1 OPEN, 2 SHORT (R436). -/
def State.thFault (s : State) (c : Nat) (m : ThermoMeas) : Nat :=
  if s.rdF pThermo (thReg c 0) 31 30 = 1 then
    (if m.limit then 1 else if (s.thSense c m).natAbs < s.rdF pThermo (thReg c 2) 15 0 * 200000 then 2 else 0)
  else (if m.current * 100 < 10 ^ s.thRange c * 1000 then 1 else if m.limit then 2 else 0)

/-- The resistance of a phase (R434); at a current of 0, to which the spec gives no quotient, a free value (log entry 5). -/
def State.thR (s : State) (c : Nat) (m : ThermoMeas) : Word :=
  if m.current = 0 then BitVec.ofNat 32 s.draw.1.toNat else BitVec.ofNat 32 (thRatio (s.thSense c m).natAbs m.current)

/-- What a thermometry phase measured is published (R434 to R438). -/
def State.thermoResult (s9 : State) (c : Nat) (m : ThermoMeas) : State :=
  let p := thReg c 4
  let fault := s9.thFault c m
  let r := s9.thR c m
  let s := if m.current = 0 then s9.draw.2 else s9
  let s1 := (s.wrF pThermo 0x100 15 0 m.tfe.toNat).count pThermo c 1
  let t := if fault ≠ 0 then 0 else s1.thPoly c r.toNat
  let outf := s1.rdB pThermo (thReg c 0) 28
  let s2 := (s1.wr pThermo (thReg c 3) (if outf then 0 else BitVec.ofNat 32 t)).wr pThermo (thReg c 5) (if fault ≠ 0 then 0 else r)
  let s3 := s2.wr pThermo p (BitVec.ofNat 32 (2 ^ 31 + (if fault ≠ 0 then 2 ^ 29 else 0) + fault * 2 ^ 27
    + (s2.rdF pThermo p 15 0 + 1) % 65536))
  let s4 := if fault ≠ 0 then (s3.flag pThermo c).count pThermo (16 + c) 1 else s3
  (s4.amonUpdate c t (fault != 0)).setThermo c { restart := if s.rdB pThermo (thReg c 0) 29 then s.hk.now else s.hk.now + s.thFl c - s.thPhase c }

/-- Whether a result may be published now (R434, R435). -/
def State.thReady (s : State) (c : Nat) : Bool :=
  let x := Tab.get {} s.hk.thermo c
  decide (s.rdF pThermo (thReg c 0) 31 30 = 1 ∨ s.rdF pThermo (thReg c 0) 31 30 = 2)
    && decide (x.restart + s.thPhase c ≤ s.hk.now) && (!s.rdB pThermo (thReg c 0) 29 || x.neg)

/-- A positive phase ends, and the excitation reverses (R434). -/
def State.thReverse (s : State) (c : Nat) : State :=
  let x := Tab.get {} s.hk.thermo c
  if s.rdB pThermo (thReg c 0) 29 && !x.neg && decide (x.restart + s.thPhase c ≤ s.hk.now)
    && (s.rdF pThermo (thReg c 0) 31 30 == 1 || s.rdF pThermo (thReg c 0) 31 30 == 2)
  then s.setThermo c { restart := s.hk.now, neg := true } else s

end Sys2Proof.Machine
end

