-- ==== Sys2Proof/Machine/Sorus.lean ====
section
/-! DEFINITION. Sorus: rules, arming, inputs, resolution and its outputs, the parity engine and the lookup, exchange
with peers, and lockstep (10_sorus_feedback.md R275 to R298, R518). -/
namespace Sys2Proof.Machine

/-- Change the Sorus. -/
def State.mapSorus (s : State) (g : Sorus → Sorus) : State := { s with sorus := g s.sorus }

/-- The decision of rule r of SLOT[n] in flight. -/
def State.flight (s : State) (n r : Nat) : Option Flight := Tab.find? s.sorus.flights (16 * n + r)

/-- Put or end a rule's decision in flight; STATUS.PEND shows it (Table 10.14). -/
def State.setFlight (s : State) (n r : Nat) (x : Option Flight) : State :=
  (s.mapSorus (fun o => { o with flights := match x with
    | some y => Tab.put o.flights (16 * n + r) y
    | none => Tab.del o.flights (16 * n + r) })).wrB (pSlot n) 0x10 (16 + r) x.isSome

/-- The owner of a rule: of its SLOT page. -/
def State.ruleOwner (s : State) (n : Nat) : Nat := s.owner (pSlot n)

/-- A foreign resource of a rule (R279). -/
def State.ruleForeign (s : State) (n : Nat) : State := (s.flag (pSlot n) 5).count (pSlot n) 6 1

/-- Whether a rule writes a local slot, by R278: it is local, and no other rule comes first. -/
def State.ruleWrites (s : State) (n r : Nat) : Bool :=
  s.ruleLocal n r && s.writerOf (s.ruleDF n r) (s.ruleDS n r) == some (n, r)

/-- Parity units of a rule: PBASE alone, or SLEN of them (Table 10.2). -/
def State.ruleUnits (s : State) (n r : Nat) : List Nat :=
  let base := s.rdF (pSlot n) (ruleReg r 1) 21 16
  let len := s.rdF (pSlot n) (ruleReg r 1) 15 12
  if s.ruleKind n r = 1 then [base]
  else (List.range (if len = 0 then 16 else len)).map (fun i => base + i)

/-- Whether a rule's inputs are parity units: kinds 1 and 2, and an exporting EXTERNAL rule (R292). -/
def State.ruleParity (s : State) (n r : Nat) : Bool :=
  s.ruleKind n r == 1 || s.ruleKind n r == 2
    || (s.ruleKind n r == 3 && !s.rdB (pSlot n) (ruleReg r 1) 22 && s.ruleFwd n r)

/-- Whether a parity unit brings its input invalid at arming: disabled, foreign, or above 63 (R282, R289). -/
def State.unitBad (s : State) (n u : Nat) : Bool :=
  decide (63 < u) || !s.rdB (pSlot u) 0x100 31 || s.owner (pSlot u) != s.ruleOwner n

/-- The enabled members of a parity unit: index, frond, tone (R289). -/
def State.unitMembers (s : State) (u : Nat) : List (Nat × Nat × Nat) :=
  (List.range 8).filterMap (fun m =>
    if s.rdB (pSlot u) (0x104 + 4 * m) 31 then
      some (m, s.rdF (pSlot u) (0x104 + 4 * m) 8 4, s.rdF (pSlot u) (0x104 + 4 * m) 3 0)
    else none)

/-- Every enabled member of a parity unit has brought its result. -/
def State.unitIn (s : State) (u : Nat) (x : Flight) : Bool := (s.unitMembers u).all (fun m => x.got.any (fun g => g.1 == 8 * u + m.1))

/-- Whether every input of a rule has arrived. -/
def State.allArrived (s : State) (n r : Nat) (x : Flight) : Bool :=
  if s.ruleKind n r = 0 then !x.got.isEmpty
  else if s.ruleParity n r then (s.ruleUnits n r).all (fun u => x.bad.contains u || s.unitIn u x)
  else false

/-- Every input that has arrived is valid (R282). -/
def Flight.valid (x : Flight) : Bool := x.bad.isEmpty && x.got.all (fun g => g.2.2)

/-- The inputs a result of frond f on a tone can be for a rule, numbered as in `Flight.got` (R281). -/
def State.inputKeys (s : State) (n r f tone : Nat) : List Nat :=
  if s.ruleKind n r = 0 then (if s.ruleSF n r = f ∧ s.ruleST n r = tone then [0] else [])
  else if s.ruleParity n r then
    (s.ruleUnits n r).flatMap (fun u => if 63 < u then [] else
      ((s.unitMembers u).filter (fun m => m.2.1 == f && m.2.2 == tone)).map (fun m => 8 * u + m.1))
  else []

/-- Whether a decision armed at issue beat i takes the result of a window of issue beat w (R281): a DIRECT rule that of its own window,
any other that of the first window at or after i. -/
def State.fitsWindow (s : State) (n r i w : Nat) : Bool := if s.ruleKind n r = 0 then i == w else decide (i ≤ w)

/-- The inputs of a decision that have not arrived; the pulses of an EVENT rule's channel (R281). -/
def State.missKeys (s : State) (n r : Nat) (x : Flight) : List Nat :=
  if s.ruleKind n r = 0 then (if x.got.isEmpty then [0] else [])
  else if s.ruleKind n r = 4 then [0]
  else if s.ruleParity n r then
    (s.ruleUnits n r).flatMap (fun u => if 63 < u || x.bad.contains u then [] else
      ((s.unitMembers u).map (fun m => 8 * u + m.1)).filter (fun k => !x.got.any (fun g => g.1 == k)))
  else []

/-- A decision has resolved: what it still lacks arrives late (R281). Earlier decisions are remembered while a result of a window before
the next arming can still come. -/
def State.noteLate (s : State) (n r : Nat) (x : Flight) : State :=
  let old := (Tab.get [] s.sorus.late (16 * n + r)).filter (fun (e : Nat × List Nat) => !e.2.isEmpty && decide (s.beat < e.1 + 16640))
  s.mapSorus (fun o => { o with late := Tab.set [] o.late (16 * n + r) ((x.issue, s.missKeys n r x) :: old) })

/-- Inputs that arrive after their decision has resolved are counted, but for those another decision takes (R281). -/
def State.lateInput (s : State) (n r w : Nat) (keys taken : List Nat) : State :=
  let l := Tab.get [] s.sorus.late (16 * n + r)
  let hit := keys.filter (fun k => !taken.contains k && l.any (fun e => s.fitsWindow n r e.1 w && e.2.contains k))
  let rest := l.map (fun e => if s.fitsWindow n r e.1 w then (e.1, e.2.filter (fun k => !keys.contains k)) else e)
  let s1 := s.mapSorus (fun o => { o with late := Tab.set [] o.late (16 * n + r) rest })
  if hit.isEmpty then s1 else s1.count (pSlot n) 8 hit.length

/-- The parity of unit u in a flight (R289). -/
def State.unitParity (s : State) (u : Nat) (x : Flight) : Bool :=
  (s.unitMembers u).foldl (fun a m =>
    a != ((x.got.find? (fun g => g.1 == 8 * u + m.1)).map (fun g => g.2.1 % 2 == 1)).getD false) (s.rdB (pSlot u) 0x100 30)

/-- The syndrome of a rule: bit i from unit PBASE + i. -/
def State.syndrome (s : State) (n r : Nat) (x : Flight) : Nat :=
  (s.ruleUnits n r).foldr (fun u a => (if s.unitParity u x then 1 else 0) + 2 * a) 0

/-- The lookup index of a rule (Table 10.2). -/
def State.lutIndex (s : State) (n r : Nat) (x : Flight) : Nat :=
  (s.rdF (pSlot n) (ruleReg r 2) 31 16 + s.syndrome n r x) % 65536

/-- PAR_LAST of the units a rule has evaluated (Table 10.15): those whose members have all brought their results; a unit that is disabled or
foreign is not evaluated. -/
def State.parLast (s : State) (n r : Nat) (x : Flight) : State :=
  if s.ruleParity n r then
    (s.ruleUnits n r).foldl (fun a u =>
      if decide (63 < u) || x.bad.contains u || !a.unitIn u x then a
      else a.wr (pSlot u) 0x124 (BitVec.ofNat 32
        ((if (x.got.filter (fun g => g.1 / 8 == u)).all (fun g => g.2.2) then 2 else 0)
          + (if a.unitParity u x then 1 else 0)))) s
  else s

/-- Row 3 or 4 of Table 10.3 for a rule whose inputs have all arrived: quality, value, word, and whether the lookup
entry is foreign. -/
def State.verdict (s : State) (n r : Nat) (x : Flight) : Nat × Nat × Nat × Bool :=
  let ok := x.valid
  let idx := s.lutIndex n r x
  let lutForeign := s.ruleKind n r == 2 && s.rdF pSorus (0x104 + 4 * (idx / 4096)) 4 0 != s.ruleOwner n
  if !ok || lutForeign || x.taint then (3, 0, 0, lutForeign)
  else match s.ruleKind n r with
    | 0 =>
      let st := (x.got.head?.map (fun g => g.2.1)).getD 0
      (0, s.rdF (pSlot n) (ruleReg r 1) (2 * st + 1) (2 * st), 0, false)
    | 1 => (0, if s.unitParity (s.rdF (pSlot n) (ruleReg r 1) 21 16) x then 1 else 0, 0, false)
    | 2 =>
      let w := (Tab.get 0 s.sorus.lut idx).toNat
      (0, if w = 0 then 0 else 1, w, false)
    | _ => (3, 0, 0, false)

/-- The frame bits of a set of local qubits: two for each (Table 10.13). -/
def frameBits (m : Nat) : Word := BitVec.ofNat 32 ((List.range 16).foldl (fun a q => if tst m q then a + 3 * 4 ^ q else a) 0)

/-- XOR a correction word into a frond's frames, but for the qubits of a set (R295, Table 5.6). -/
def State.xorFrames (s : State) (f word skip : Nat) : State :=
  s.wr pSorus (0x200 + 4 * f) (s.rd pSorus (0x200 + 4 * f) ^^^ (BitVec.ofNat 32 word &&& ~~~(frameBits skip)))

/-- Qubits whose frames were cleared in the current beat: a rule update of the beat applies before the clear (R296). -/
def State.clearedNow (s : State) (f : Nat) : Nat := if (s.crz f).frClr.1 = s.beat then (s.crz f).frClr.2 else 0

/-- Clear the frames of a set of local qubits (R296). -/
def State.clearFrames (s : State) (f m : Nat) : State :=
  (s.wr pSorus (0x200 + 4 * f) (s.rd pSorus (0x200 + 4 * f) &&& ~~~(frameBits m))).setCrz f
    { s.crz f with frClr := (s.beat, s.clearedNow f ||| m) }

/-- An own-source decision that was posted is over for the posting-time view, which is that of the shot begun last (R286): it resolved
with a quality, value and read value; or it never will, and the view is what it was without it. -/
def State.postDone (s : State) (f k : Nat) (shot : Option Nat) (out : Option (Nat × Nat × Nat)) : State :=
  let x := s.slot f k
  if s.slotOwnSource f k ∧ x.due ≠ 0 ∧ shot.any (fun u => u + 1 == (s.crz f).nextUid) then
    let y := match out with
      | some o => { x with pqual := o.1, pval := o.2.1, pread := o.2.2, pdone := true }
      | none => x
    s.setSlot f k { y with due := x.due - 1, post := if x.due = 1 then (if y.pdone then 2 else 0) else x.post }
  else s

/-- Whether the shot a decision was armed in still lasts at a frond's port (R285). -/
def State.shotLasts (s : State) (f : Nat) (shot : Option Nat) : Bool := decide (shot = (s.issueShot f).map (·.uid))

/-- A resolution takes effect at a frond's port at beat b: the slot, the frames, the shot's mark (R278, R285, R288,
R295). -/
def State.portResolve (s : State) (n r b qual value word : Nat) (shot : Option Nat) : State :=
  let f := s.ruleDF n r
  let k := s.ruleDS n r
  if !s.ruleLocal n r then s
  else if !s.ruleWrites n r then s
  else if s.frondOwner f ≠ s.ruleOwner n then (s.ruleForeign n).postDone f k shot none
  else
    let lasts := s.shotLasts f shot
    let rv := if s.ruleKind n r = 2 ∨ s.ruleKind n r = 3 then word else value
    let s1 := if lasts ∧ !(s.slot f k).lock then s.setSlot f k { (s.slot f k).to b 2 value word qual with readVal := rv } else s
    let s2 := s1.postDone f k shot (some (qual, value, rv))
    let s3 := if lasts ∧ qual = 0 ∧ s.rdB (pSlot n) (ruleReg r 3) 14 then s2.xorFrames f word (s2.clearedNow f) else s2
    let s4 := s3.occur (frondSrc f (if qual = 0 then 12 else 13)) 1
    match shot with
    | some u => s4.markShot f u (qualTag qual)
    | none => s4

/-- The decision record of Table 10.6 for a forward (R293). -/
def State.forwardRecord (s : State) (n r round qual value word : Nat) : BitVec 64 :=
  BitVec.ofNat 64 (2 * 2 ^ 60 + s.rdF pCsync 0x100 28 24 * 2 ^ 55 + s.rdF (pSlot n) (ruleReg r 4) 25 20 * 2 ^ 49
    + s.rdF (pSlot n) (ruleReg r 4) 19 16 * 2 ^ 45 + round * 2 ^ 37 + qual * 2 ^ 35 + value * 2 ^ 33 + word)

/-- The decision record of Table 10.7. -/
def State.queueRecord (s : State) (n r round qual value word : Nat) : BitVec 64 :=
  BitVec.ofNat 64 (qual * 2 ^ 62 + value * 2 ^ 60 + n * 2 ^ 54 + r * 2 ^ 50 + s.ruleDF n r * 2 ^ 45 + s.ruleDS n r * 2 ^ 41
    + round * 2 ^ 33 + word)

/-- The Hypha pulse of a resolution (R295). -/
def State.ruleEvent (s : State) (n r qual value : Nat) : State :=
  let mode := s.rdF (pSlot n) (ruleReg r 3) 31 30
  let c := s.rdF (pSlot n) (ruleReg r 3) 25 16
  let fire := (mode == 1 && qual == 0 && value != 0) || mode == 2 || (mode == 3 && qual != 0)
  if !fire then s
  else if s.owner (pHchan (c / 64)) ≠ s.ruleOwner n then s.ruleForeign n
  else { s with hypha := { s.hypha with events := s.hypha.events ++ [(s.beat + 1, 2048 + c)] } }

/-- The queue record of a resolution (R295). -/
def State.ruleQueue (s : State) (n r round qual value word : Nat) : State :=
  let q := s.rdF (pSlot n) (ruleReg r 3) 13 8
  if !s.rdB (pSlot n) (ruleReg r 3) 15 then s
  else if s.owner (pQueue q) ≠ s.ruleOwner n then
    ((s.ruleForeign n).flag (pSlot n) 7).count (pSlot n) 9 1
  else s.sendItem q [s.queueRecord n r round qual value word]

/-- A decision resolves (R283): the rule's registers, the destination it loses to another rule (R278), its forward, event and record, and
its slot: in the same beat at a port, and 13 beats later from the central Sorus (R285). -/
def State.resolve (s : State) (n r : Nat) (x : Flight) (qual value word : Nat) : State :=
  let p := pSlot n
  let s0 := ((s.parLast n r x).noteLate n r x).setFlight n r none
  let s1 := if s0.ruleLocal n r && !s0.ruleWrites n r then (s0.flag p 4).count p 5 1 else s0
  let s2 := ((s1.count p qual 1).wr p (ruleReg r 5) (BitVec.ofNat 32 (qual * 2 ^ 30 + value * 2 ^ 28 + x.round * 2 ^ 20))).wr p
    (ruleReg r 6) (BitVec.ofNat 32 word)
  let s3 := if qual = 0 then s2 else s2.flag p (qual - 1)
  let s4 := if s3.ruleFwd n r ∧ s3.ruleKind n r ≠ 3 then
      s3.unicast (s3.rdF p (ruleReg r 4) 30 26) 2 (s3.forwardRecord n r x.round qual value word) else s3
  let s5 := (s4.ruleEvent n r qual value).ruleQueue n r x.round qual value word
  if s5.ruleAtPort n r then s5.portResolve n r s5.beat qual value word x.shot
  else if s5.ruleLocal n r then
    s5.mapSorus (fun o => { o with resols := o.resols ++ [⟨s.beat + 13, s.ruleDF n r, 16 * n + r, qual, value, word, x.shot, x.round⟩] })
  else s5

/-- Export the syndrome of an EXTERNAL rule whose inputs are all in and valid (R292, Table 10.6). -/
def State.export (s : State) (n r : Nat) (x : Flight) : State :=
  let units := s.ruleUnits n r
  let rec_ := BitVec.ofNat 64 (1 * 2 ^ 60 + s.rdF pCsync 0x100 28 24 * 2 ^ 55 + n * 2 ^ 49 + r * 2 ^ 45 + x.round * 2 ^ 37
    + units.length * 2 ^ 32 + s.syndrome n r x)
  ((s.parLast n r x).setFlight n r (some { x with sentOut := true })).unicast (s.rdF (pSlot n) (ruleReg r 4) 30 26) 2 rec_

/-- Beats from the arrival of the last input to the resolution: 2 for a DIRECT rule, through rule evaluation and the lockstep
comparison; 5 for any other, through the parity engine and the lookup as well (Tables 10.8 and 10.9; DEDUCED, log entry 20). -/
def State.ruleLat (s : State) (n r : Nat) : Nat := if s.ruleKind n r = 0 then 2 else 5

/-- A decision whose inputs may all be in: from then on it only waits for its resolving beat (R283). A parity unit that is disabled or
foreign brings its input, invalid, by no record (R282). -/
def State.evaluate (s : State) (n r : Nat) : State :=
  match s.flight n r with
  | none => s
  | some x =>
    if x.sentOut || x.ready.isSome then s
    else
      let new := if s.ruleParity n r then (s.ruleUnits n r).filter (fun u => s.unitBad n u && !x.bad.contains u) else []
      let s1 := (new.filter (fun u => decide (u ≤ 63) && s.owner (pSlot u) != s.ruleOwner n)).foldl (fun a _ => a.ruleForeign n) s
      let y := { x with bad := x.bad ++ new }
      if s1.allArrived n r y then s1.setFlight n r (some { y with ready := some (s.beat + s.ruleLat n r) })
      else if new.isEmpty then s
      else s1.setFlight n r (some y)

/-- A decision whose last units have become invalid is judged (R282). -/
def State.evaluateAll (s : State) : State :=
  s.sorus.flights.foldl (fun a (e : Nat × Flight) => a.evaluate (e.1 / 16) (e.1 % 16)) s

/-- A decision resolves in its resolving beat: MISMATCH where the copies disagree; else as its inputs say (R283, R292). One that R518 keeps
from TRUSTED resolves INVALID in its place; its export is sent all the same, and it then awaits its record as any other (R292). -/
def State.conclude (s : State) (n r : Nat) (x : Flight) : State :=
  if x.mm then s.resolve n r x 2 0 0
  else match x.out with
    | some o => if o.1 = 0 ∧ x.taint then s.resolve n r x 3 0 0 else s.resolve n r x o.1 o.2.1 o.2.2
    | none =>
      let v := s.verdict n r x
      let s1 := if v.2.2.2 then s.ruleForeign n else s
      if s.ruleKind n r = 3 then
        (if !x.valid then s1.resolve n r x 3 0 0
        else if x.dl < s.beat then s1.resolve n r x 1 0 0
        else s1.export n r { x with ready := none })
      else s1.resolve n r x v.1 v.2.1 v.2.2.1

/-- A record that names no enabled EXTERNAL rule is discarded (R294). -/
def State.extDiscard (s : State) : State := (s.flag pSorus 3).count pSorus 3 1

/-- A record that its EXTERNAL rule does not accept is discarded (R294). -/
def State.staleExt (s : State) (n : Nat) : State := (s.flag (pSlot n) 6).count (pSlot n) 7 1

/-- Quality, VALUE and word of a decision record (R284, Table 10.6). -/
def recordOut (w : BitVec 64) : Nat × Nat × Nat :=
  let qual := nfld w.toNat 36 35
  (qual, if qual = 0 then nfld w.toNat 34 33 else 0, if qual = 0 then nfld w.toNat 31 0 else 0)

/-- A record arms an EXTERNAL rule with XARM = 1 and resolves it in the same beat (R280, R293); mm: the copies disagree in it (R298). -/
def State.externTake (s : State) (w : BitVec 64) (mm : Bool) : State :=
  let n := nfld w.toNat 54 49
  let r := nfld w.toNat 48 45
  let o := if mm then (2, 0, 0) else recordOut w
  if !s.ruleOn n r || s.ruleKind n r != 3 then s.extDiscard
  else if !s.rdB (pSlot n) (ruleReg r 1) 22 || nfld w.toNat 59 55 != s.ruleSF n r then s.staleExt n
  else
    let round := (Tab.get 0 s.sorus.rounds (16 * n + r) + 1) % 256
    (s.mapSorus (fun o => { o with rounds := Tab.set 0 o.rounds (16 * n + r) round })).resolve n r
      { issue := s.beat, round := round, dl := s.beat, shot := (s.issueShot (s.ruleDF n r)).map (·.uid) } o.1 o.2.1 o.2.2

/-- The decisions whose resolving beat has come, and the records that arm and resolve a rule in it. -/
def State.concludeDue (s : State) : State :=
  let s1 := (s.sorus.flights.filter (fun (e : Nat × Flight) => e.2.ready.any (fun b => decide (b ≤ s.beat)))).foldl
    (fun a (e : Nat × Flight) => match a.flight (e.1 / 16) (e.1 % 16) with
      | some x => a.conclude (e.1 / 16) (e.1 % 16) x
      | none => a) s
  (s1.sorus.intake.filter (fun e => decide (e.1 ≤ s.beat))).foldl (fun a e => a.externTake e.2.1 e.2.2)
    (s1.mapSorus (fun o => { o with intake := o.intake.filter (fun e => decide (s.beat < e.1)) }))

/-- End a decision that will never resolve (R280, R287). -/
def State.abandon (s : State) (n r : Nat) : State :=
  match s.flight n r with
  | none => s
  | some x =>
    let s1 := (s.setFlight n r none).count (pSlot n) 4 1
    if s.ruleWrites n r then s1.postDone (s.ruleDF n r) (s.ruleDS n r) x.shot none else s1

/-- A slot becomes PENDING for a decision while the shot it was armed in lasts (R285). -/
def State.slotPending (s : State) (n r : Nat) (shot : Option Nat) : State :=
  if s.shotLasts (s.ruleDF n r) shot then s.setSlot (s.ruleDF n r) (s.ruleDS n r) ((s.slot (s.ruleDF n r) (s.ruleDS n r)).to s.beat 1 0 0 0)
  else s

/-- Whether a rule writes its destination slot and owns the frond it is in (R278, R279). -/
def State.ruleFeeds (s : State) (n r : Nat) : Bool := s.ruleWrites n r && s.frondOwner (s.ruleDF n r) == s.ruleOwner n

/-- Arm a rule by a window with issue beat i, in that beat (R280; log entry 20). Its slot is PENDING at once where the rule is a
DIRECT one whose source is the same frond; else when the notice of it reaches the port, at i + 24 (R285). -/
def State.arm (s : State) (n r i : Nat) : State :=
  let key := 16 * n + r
  let s1 := match s.flight n r with | some _ => (s.abandon n r).flag (pSlot n) 3 | none => s
  let round := (Tab.get 0 s1.sorus.rounds key + 1) % 256
  let f := s1.ruleDF n r
  let taint := match Tab.find? s1.sorus.taints key with | some b => decide (i ≤ b + 8320) | none => false
  let x : Flight := {
    issue := i, round := round, dl := i + s1.rdF (pSlot n) (ruleReg r 2) 15 0
    shot := (s1.shotAt f i).map (·.uid), taint := taint }
  let s2 := s1.mapSorus (fun o => { o with
    rounds := Tab.set 0 o.rounds key round, late := if s1.ruleKind n r = 4 then Tab.del o.late key else o.late })
  let s3 := s2.setFlight n r (some x)
  let s4 := if !s3.ruleFeeds n r then s3
    else if s3.ruleAtPort n r then (if s3.ruleSF n r = f then s3.slotPending n r x.shot else s3)
    else s3.mapSorus (fun o => { o with notices := o.notices ++ [⟨i + 24, f, key, round, x.shot⟩] })
  s4.evaluate n r

/-- The enabled rules evaluated at a unit (0 to 31 the ports, 32 the central Sorus). -/
def State.rulesAt (s : State) (unit : Nat) : List (Nat × Nat) :=
  allRules.filter (fun x => s.ruleOn x.1 x.2
    && (if s.ruleAtPort x.1 x.2 then s.ruleDF x.1 x.2 == unit else unit == 32))

/-- Whether a rule is armed by a window of frond f, tone t (R280). -/
def State.armedBy (s : State) (n r f t : Nat) : Bool :=
  !(s.ruleKind n r == 3 && s.rdB (pSlot n) (ruleReg r 1) 22) && s.ruleSF n r == f && s.ruleST n r == t

/-- A window that opens now arms its rules (R280). -/
def State.armWindow (s : State) (f t : Nat) : State :=
  (allRules.filter (fun x => s.ruleOn x.1 x.2 && s.armedBy x.1 x.2 f t)).foldl (fun a x => a.arm x.1 x.2 a.beat) s

/-- The decision bus brings the news that a window opened to another frond's port: the slot of a rule it armed is PENDING
(R285). -/
def State.portPending (s : State) (n r i : Nat) : State :=
  match s.flight n r with
  | some x => if s.ruleAtPort n r && s.ruleSF n r != s.ruleDF n r && decide (i ≤ x.issue) && s.ruleFeeds n r then s.slotPending n r x.shot else s
  | none => s

/-- DEADLINE_PASSED (R283): from beat D + 1 on a decision that lacks an input is LATE, the record an EXTERNAL rule waits for among them
(R292); for EVENT no pulse came: TRUSTED where the channel is not foreign (R279) and could be heard. -/
def State.deadline (s : State) (n r : Nat) (heard : Bool) : State :=
  match s.flight n r with
  | some x =>
    if x.dl < s.beat ∧ (x.ready.isNone ∨ (s.ruleKind n r = 3 ∧ x.out.isNone ∧ x.valid)) then
      (if s.ruleKind n r = 4 then
        (if s.owner (pHchan (s.rdF (pSlot n) (ruleReg r 1) 21 12 / 64)) ≠ s.ruleOwner n then (s.ruleForeign n).resolve n r x 3 0 0
        else if heard && !x.taint then s.resolve n r x 0 0 0 else s.resolve n r x 3 0 0)
      else s.resolve n r x 1 0 0)
    else s
  | none => s

/-- A result of frond f reaches a rule (R281, R282): the inputs it brings, judged valid or not. One that comes after D comes after
the decision has resolved LATE (R283). -/
def State.input (s0 : State) (n r f : Nat) (res : Res) : State :=
  let s := if (s0.inputKeys n r f res.tone).isEmpty then s0 else s0.deadline n r false
  let keys := s.inputKeys n r f res.tone
  match s.flight n r with
  | none => if keys.isEmpty then s else s.lateInput n r res.issue keys []
  | some x =>
    let strict := s.rdF (pSlot n) (ruleReg r 0) 14 12
    let foreign := s.frondOwner f != s.ruleOwner n
    let ok := !res.h && !foreign && !(tst strict 2 && res.o) && !(tst strict 1 && res.c)
      && !(tst strict 0 && res.m)
    let new := keys.filter (fun k => s.fitsWindow n r x.issue res.issue && !x.got.any (fun g => g.1 == k)
      && !(s.ruleParity n r && (x.bad.contains (k / 8) || s.unitBad n (k / 8))))
    let s1 := if keys.isEmpty then s else s.lateInput n r res.issue keys new
    if new = [] then s1
    else
      let s2 := if foreign then new.foldl (fun a _ => a.ruleForeign n) s1 else s1
      (s2.setFlight n r (some { x with got := x.got ++ new.map (fun k => (k, res.st, ok)) })).evaluate n r

/-- A record reaches a unit's decision path: the windows it opened first, then results (R281, R285). Its M bit speaks of all its
results (Table 10.1). -/
def State.unitRecord (s : State) (unit : Nat) (rec_ : BusRec) : State :=
  let rules := s.rulesAt unit
  let s1 := rules.foldl (fun a x =>
    if (List.range 16).any (fun t => tst rec_.opens t && a.armedBy x.1 x.2 rec_.frond t) then a.portPending x.1 x.2 rec_.beat else a) s
  let m := rec_.results.any (fun res => res.m)
  rec_.results.foldl (fun a res => rules.foldl (fun c x => c.input x.1 x.2 rec_.frond { res with m := m }) a) s1

/-- A rule that the discarded record of beat i might have armed (R518): a decision armed in that beat or later may take the result
of another window. A rule that no window of that beat armed (`own` false) was armed in it all the same; a decision armed later has
superseded that one. -/
def State.taintRule (s : State) (n r i : Nat) (own : Bool) : State :=
  let s1 := s.mapSorus (fun o => { o with taints := Tab.put o.taints (16 * n + r) i })
  match s1.flight n r with
  | some x =>
    if i ≤ x.issue then
      let round := if own then x.round else (x.round + 1) % 256
      let s2 := if own then s1 else (s1.count (pSlot n) 4 1).flag (pSlot n) 3
      (s2.mapSorus (fun o => { o with rounds := Tab.set 0 o.rounds (16 * n + r) round })).setFlight n r
        (some { x with taint := true, round := round })
    else if own then s1
    else s1.arm n r i
  | none => if own then s1 else s1.arm n r i

/-- A record a unit discards for parity: every rule it might have armed is armed, tainted (R20, R518). -/
def State.unitDiscard (s : State) (unit : Nat) (rec_ : BusRec) : State :=
  let s1 := ((s.wr pTimeline 0x110 (satInc (s.rd pTimeline 0x110) 1)).occur 0x255 1).flag pTimeline 2
  (s1.rulesAt unit).foldl (fun a x =>
    if a.ruleSF x.1 x.2 = rec_.frond ∧ !(a.ruleKind x.1 x.2 = 3 ∧ a.rdB (pSlot x.1) (ruleReg x.2 1) 22) then
      (a.taintRule x.1 x.2 rec_.beat (tst rec_.opens (a.ruleST x.1 x.2))).portPending x.1 x.2 rec_.beat
    else a) s1

/-- A channel event reaches EVENT rule r of SLOT[n] (R277, 12_hypha_events.md Table 12.3). One that comes after its decision has resolved
is counted (R281). -/
def State.eventRule (s0 : State) (n r c : Nat) : State :=
  let s := s0.deadline n r true
  match s.flight n r with
  | some x =>
    let y := { x with ready := some (s.beat + s.ruleLat n r) }
    if x.ready.isSome then s
    else if s.owner (pHchan (c / 64)) ≠ s.ruleOwner n then (s.ruleForeign n).setFlight n r (some { y with out := some (3, 0, 0) })
    else s.setFlight n r (some { y with out := some (0, 1, 0) })
  | none => if (Tab.find? s.sorus.late (16 * n + r)).isSome then s.count (pSlot n) 8 1 else s

/-- An arm notice of a rule ends what a discarded record made of its slot (R518). -/
def State.unlockSlot (s : State) (n r : Nat) : State :=
  let x := s.slot (s.ruleDF n r) (s.ruleDS n r)
  if x.lock then s.setSlot (s.ruleDF n r) (s.ruleDS n r) { x with lock := false } else s

/-- Arm notices that reach a frond's port in this very beat make their slots PENDING (R19, R285). -/
def State.armNotice (s : State) (f : Nat) : State :=
  let due := s.sorus.notices.filter (fun x => x.due == s.beat && x.frond == f)
  let s1 := s.mapSorus (fun o => { o with notices := o.notices.filter (fun x => !(decide (x.due ≤ s.beat) && x.frond == f)) })
  due.foldl (fun a x => if a.ruleFeeds (x.rule / 16) (x.rule % 16) then
    (a.unlockSlot (x.rule / 16) (x.rule % 16)).slotPending (x.rule / 16) (x.rule % 16) x.shot else a) s1

/-- Resolutions that are due at a frond's port in this very beat take effect there (R19, R285); a notice of the same decision that comes
later is of none. -/
def State.slotResolution (s : State) (f : Nat) : State :=
  let due := s.sorus.resols.filter (fun x => x.due == s.beat && x.frond == f)
  let s1 := s.mapSorus (fun o => { o with
    resols := o.resols.filter (fun x => !(decide (x.due ≤ s.beat) && x.frond == f)),
    notices := o.notices.filter (fun x => !due.any (fun y => y.rule == x.rule && y.round == x.round)) })
  due.foldl (fun a x => a.portResolve (x.rule / 16) (x.rule % 16) x.due x.qual x.value x.word x.shot) s1

/-- A frond's port discards a record of the central Sorus (R518, R20): what it carried is lost, and every slot fed by a
rule evaluated there is RESOLVED, INVALID, until that rule's next arm notice. -/
def State.portDiscard (s : State) (f : Nat) : State :=
  let s1 := ((s.wr pTimeline 0x110 (satInc (s.rd pTimeline 0x110) 1)).occur 0x255 1).flag pTimeline 2
  let s2 := s1.mapSorus (fun o => { o with
    notices := o.notices.filter (fun x => !(decide (x.due ≤ s.beat) && x.frond == f)),
    resols := o.resols.filter (fun x => !(decide (x.due ≤ s.beat) && x.frond == f)) })
  (List.range 16).foldl (fun a k =>
    match a.writerOf f k with
    | some (n, r) => if a.ruleAtPort n r || !a.ruleFeeds n r then a else a.setSlot f k { (a.slot f k).to a.beat 2 0 0 3 with lock := true }
    | none => a) s2

/-- The decisions in flight at a unit resolve MISMATCH if their resolving beat is the current one or the next (R298). -/
def State.markMM (s : State) (unit : Nat) : State :=
  let s1 := (s.rulesAt unit).foldl (fun a x => match a.flight x.1 x.2 with
    | some y => a.setFlight x.1 x.2 (some { y with mm := true })
    | none => a) s
  if unit = 32 then s1.mapSorus (fun o => { o with intake := o.intake.map (fun e => if e.1 ≤ s.beat + 1 then (e.1, e.2.1, true) else e) }) else s1

/-- A decision record received over Ndeor: rule intake and the lockstep comparison take 3 beats (R284, R292 to R294, Table 10.9). A rule
that awaits one takes it while its decision is in flight, up to D (R283), and, where it exports, once its export has left (R292). -/
def State.ndeorDecision (s : State) (w : BitVec 64) : State :=
  let n := nfld w.toNat 54 49
  let r := nfld w.toNat 48 45
  let src := nfld w.toNat 59 55
  if s.mode = 5 then s
  else if !s.ruleOn n r || s.ruleKind n r != 3 then s.extDiscard
  else if s.rdB (pSlot n) (ruleReg r 1) 22 then
    (if src = s.ruleSF n r then s.mapSorus (fun o => { o with intake := o.intake ++ [(s.beat + 3, w, false)] }) else s.staleExt n)
  else
    let s1 := s.deadline n r false
    match s1.flight n r with
    | some x =>
      if src = s1.rdF (pSlot n) (ruleReg r 4) 30 26 ∧ nfld w.toNat 44 37 = x.round ∧ x.ready.isNone ∧ (x.sentOut ∨ s1.ruleFwd n r = false) then
        s1.setFlight n r (some { x with ready := some (s.beat + 3), out := some (recordOut w) })
      else s1.staleExt n
    | none => s1.staleExt n

/-- An export record received over Ndeor: it is for a decoder, names no EXTERNAL rule to decide, and is discarded as such (R287, R292,
R294; DEDUCED, log entry 36). -/
def State.ndeorExport (s : State) : State := if s.mode = 5 then s else s.extDiscard

/-- A lockstep disagreement at a unit (R298); qubits whose frame bits disagree. -/
def State.lockstep (s : State) (unit : Nat) (frames : List (Nat × Nat)) : State :=
  let rules := (s.rulesAt unit).filter (fun x => (s.flight x.1 x.2).isSome)
  let s1 := rules.foldl (fun a x => match a.flight x.1 x.2 with | some y => a.resolve x.1 x.2 y 2 0 0 | none => a) s
  let run := match Tab.find? s1.sorus.mm unit with
    | some (b, k) => if b + 1 = s.beat then k + 1 else if b = s.beat then k else 1
    | none => 1
  let s2 := s1.mapSorus (fun o => { o with mm := Tab.put o.mm unit (s.beat, run) })
  let s3 := ((s2.flag pSorus 0).wr pSorus 0x100 (BitVec.ofNat 32 (unit * 2 ^ 20 + s.beat % 2 ^ 20))).count pSorus (if unit = 32 then 1 else 0) 1
  let s4 := if 16 ≤ run then s3.flag pSorus 1 else s3
  let s5 := frames.foldl (fun a x =>
    let b := a.wrF pSorus (0x200 + 4 * x.1) (2 * x.2 + 1) (2 * x.2) 0
    match b.issueShot x.1 with
    | some h => b.markShot x.1 h.uid 0x09
    | none => b) s4
  if frames = [] then s5 else (s5.flag pSorus 2).count pSorus 2 1

/-- Frame operation op of local qubit q (Table 5.6); word is the correction word of operation 6, lost the qubits that operation 5 or 6
has lost to later ones (R152). -/
def State.frameOp (s : State) (f op q word lost : Nat) : State :=
  let a := 0x200 + 4 * f
  let x := s.rdF pSorus a (2 * q + 1) (2 * q)
  match op with
  | 1 => s.wrF pSorus a (2 * q + 1) (2 * q) (x ^^^ 2)
  | 2 => s.wrF pSorus a (2 * q + 1) (2 * q) (x ^^^ 1)
  | 3 => s.wrF pSorus a (2 * q + 1) (2 * q) (x ^^^ 3)
  | 4 => s.clearFrames f (2 ^ q)
  | 5 => s.clearFrames f (0xFFFF &&& (0xFFFF ^^^ lost))
  | 6 => s.xorFrames f word lost
  | _ => s

/-- Entry to HOLD: every decision in flight is abandoned, every slot is EMPTY, every frame bit is cleared (R287). -/
def State.sorusHold (s : State) : State :=
  let s1 := allRules.foldl (fun a x => if (a.flight x.1 x.2).isSome then a.abandon x.1 x.2 else a) s
  let s2 := s1.slots.foldl (fun a e => a.setSlot (e.1 / 16) (e.1 % 16)
    { (a.slot (e.1 / 16) (e.1 % 16)).to a.beat 0 0 0 0 with post := 0, due := 0, pdone := false, lock := false }) s1
  let s3 := s2.mapSorus (fun o => { o with notices := [], resols := [], intake := [] })
  (List.range 32).foldl (fun a f => a.wr pSorus (0x200 + 4 * f) 0) s3

end Sys2Proof.Machine
end

