-- ==== Sys2Proof/Machine/Hypha.lean ====
section
/-! DEFINITION. Hypha: bindings, taps, loops, commits and the delivery of channel events (12_hypha_events.md R329, R333
to R342). -/
namespace Sys2Proof.Machine

/-- Change the event matrix. -/
def State.mapHypha (s : State) (g : Hypha → Hypha) : State := { s with hypha := g s.hypha }

/-- The channel an EVENT rule listens to (10_sorus_feedback.md Table 10.17). -/
def State.ruleChan (s : State) (n r : Nat) : Nat := s.rdF (pSlot n) (ruleReg r 1) 21 12

/-- Every binding the registers make: channel and task number of Table 12.3, each once (R334, R335). -/
def State.bindList (s : State) : List (Nat × Nat) :=
  let forks := (s.forkList.filter (fun e => s.forkOwned e.1 e.2.2)).map (fun e => forkBind e.1 e.2.2)
  let acqs := ((List.range 16).filter (fun c => s.rdB (pAcq c) 0x110 5)).map (fun c => (s.rdF (pAcq c) 0x114 9 0, 0x100 + c))
  let stbs := ((List.range 8).filter (fun n => s.rdF pHk (0x100 + 4 * n) 17 16 == 2)).map (fun n => (s.rdF pHk (0x100 + 4 * n) 9 0, 0x110 + n))
  let rules := (allRules.filter (fun x => s.ruleOn x.1 x.2 && s.ruleKind x.1 x.2 == 4)).map (fun x =>
    (s.ruleChan x.1 x.2, 0x118 + 16 * x.1 + x.2))
  let cnts := (s.cntList.filter (fun (x : Nat × Nat × Nat × Nat) => x.2.2.1 == 0x251)).map (fun x => (x.2.2.2, 0x518 + 16 * x.1 + x.2.1))
  (forks ++ acqs ++ stbs ++ rules ++ cnts).eraseDups

/-- Insert by task number. -/
def insTask (x : Nat × Nat) : List (Nat × Nat) → List (Nat × Nat)
  | [] => [x]
  | y :: t => if x.2 ≤ y.2 then x :: y :: t else y :: insTask x t

/-- Give the free taps of every channel to the bindings without one, in ascending task number (R336). -/
def assignTaps : List (Nat × Nat) → List (Nat × Nat) → List (Nat × Nat)
  | taps, [] => taps
  | taps, x :: t =>
    if (taps.filter (fun y => y.1 == x.1)).length < 16 then assignTaps (taps ++ [x]) t else assignTaps taps t

/-- Bindings after an apply (R336). -/
def State.retap (s : State) : State :=
  let b := s.bindList
  let old := s.hypha.binds
  let keep := s.hypha.taps.filter (fun x => b.contains x)
  let wait := (b.filter (fun x => !keep.contains x)).foldl (fun l x => insTask x l) []
  let taps := assignTaps keep wait
  let un := b.filter (fun x => !taps.contains x)
  if b.all (fun x => old.contains x) && old.all (fun x => b.contains x) && taps == s.hypha.taps && s.rdB pHypha 0x10 17 == !un.isEmpty then s
  else
    let chans := (((b ++ old).map (fun x => x.1)).eraseDups)
    let s1 := s.mapHypha (fun h => { h with binds := b, taps := taps })
    let s2 := chans.foldl (fun a c =>
      let p := pHchan (c / 64)
      let u := (un.filter (fun x => x.1 == c)).length
      let st := 0x300 + 4 * (c % 64)
      let v := (((a.wrF p st 20 16 (taps.filter (fun x => x.1 == c)).length).wrF p st 15 8 (min u 255)).wrB p st 30 (decide (u ≠ 0)))
      if u = 0 then v else (v.flag p 2).count p 3 u) s1
    let s3 := s2.wrB pHypha 0x10 17 (!un.isEmpty)
    if un.isEmpty then s3 else s3.flag pHypha 1

/-- The edges of the event graph: from, to, registered (R339). -/
def State.edges (s : State) : List (Nat × Nat × Bool) :=
  let cells := s.cellChans.flatMap (fun y =>
    (List.range 4).filterMap (fun i =>
      let x := s.cellIn y.2 i
      if x.1 && s.ownsChan (s.owner (pHcell (y.2 / 16))) x.2 then some (x.2, y.1, cellReg (s.cellCfg y.2)) else none))
  let rules := (allRules.filter (fun x => s.ruleOn x.1 x.2 && s.ruleKind x.1 x.2 == 4)).filterMap (fun x =>
    let y := s.rdF (pSlot x.1) (ruleReg x.2 3) 25 16
    let own := s.owner (pSlot x.1)
    if s.rdF (pSlot x.1) (ruleReg x.2 3) 31 30 ≠ 0 ∧ s.chanKind y = 3 ∧ s.owner (pHchan (y / 64)) = own
        ∧ s.ownsChan own (s.ruleChan x.1 x.2)
    then some (s.ruleChan x.1 x.2, y, true) else none)
  let evs := (s.bindList.filter (fun b => decide (b.2 < 0x100))).flatMap (fun b =>
    (s.chanList.filter (fun c => c.2.1 == 1 && decide (c.2.2 < 0x80) && c.2.2 / 4 == b.2 / 8
      && s.ownsSrc (s.owner (pHchan (c.1 / 64))) c.2.2)).map (fun c => (b.1, c.1, true)))
  cells ++ rules ++ evs

/-- The nodes reached from a set along edges, in at most n rounds. -/
def reach (es : List (Nat × Nat)) : Nat → List Nat → List Nat
  | 0, l => l
  | n + 1, l =>
    let new := ((es.filter (fun e => l.contains e.1 && !l.contains e.2)).map (fun e => e.2)).eraseDups
    if new.isEmpty then l else reach es n (l ++ new)

/-- The nodes on a cycle. -/
def onCycle (es : List (Nat × Nat)) : List Nat :=
  ((es.map (fun e => e.1)).eraseDups).filter (fun x =>
    (reach es 1024 (((es.filter (fun e => e.1 == x)).map (fun e => e.2)).eraseDups)).contains x)

/-- A cycle none of whose edges is registered (R340). -/
def State.evtLoop (s : State) : Bool :=
  !(onCycle ((s.edges.filter (fun e => !e.2.2)).map (fun e => (e.1, e.2.1)))).isEmpty

/-- The channels on a loop, after an apply (R341). -/
def State.reloop (s : State) : State :=
  let l := onCycle (s.edges.map (fun e => (e.1, e.2.1)))
  let was := (List.range 1024).filter (fun c => s.rdB (pHchan (c / 64)) (0x300 + 4 * (c % 64)) 31)
  let s1 := (was ++ l).eraseDups.foldl (fun a c => a.wrB (pHchan (c / 64)) (0x300 + 4 * (c % 64)) 31 (l.contains c)) s
  let s2 := (s1.wrB pHypha 0x10 16 (!l.isEmpty)).wr pHypha 0x100
    (if l.isEmpty then 0 else BitVec.ofNat 32 (2 ^ 31 + l.foldl min 1023))
  if l.isEmpty then s2 else (s2.flag pHypha 0).count pHypha 1 1

/-- A cell is reset at a beat (R333). -/
def State.cellReset (s : State) (k b : Nat) : State :=
  let r := bit (s.cellCfg k) 14
  (s.mapHypha (fun h => { h with cells := Tab.set {} h.cells k { hist := 0, s := false, r := r, out := false, init := some b } })).wr
    (pHcell (k / 16)) (0x20C + 0x10 * (k % 16)) (BitVec.ofNat 32 (if r then 1 else 0))

/-- Entry to HOLD: every cell is reset and every software pulse is discarded (R333). -/
def State.hyphaHold (s : State) : State :=
  let ks := (s.cellList ++ s.hypha.cells.map (fun (e : Nat × Cell) => e.1)).eraseDups
  (ks.foldl (fun a k => a.cellReset k a.beat) s).mapHypha (fun h => { h with
    events := h.events.filter (fun e => !(decide (1024 ≤ e.2) && decide (e.2 < 2048))) })

/-- An event on a channel latches an EVIN (05_crozier_sequencer.md R164; R337): a second one on a set latch merges and is
counted; LAT of every entry of the channel for the task is set. -/
def State.evinEvent (s : State) (c task : Nat) : State :=
  let f := task / 8
  let e := task % 8
  let s1 := if tst (s.crz f).evin e then s.count (pCrozier f) 10 1 else s.setEvin f (mset (s.crz f).evin e)
  (s1.forkList.filter (fun x => x.1 == c / 64 && forkBind x.1 x.2.2 == (c, task))).foldl (fun a x =>
    a.wrB (pHchan x.1) (0x400 + 4 * x.2.1) 30 true) s1

/-- A channel event reaches a task input (Table 12.3). -/
def State.task (s : State) (c t b : Nat) : State :=
  if t < 0x100 then s.evinEvent c t
  else if t < 0x110 then s.trigger (t - 0x100) 5 b false
  else if t < 0x118 then s.strobe (t - 0x110) b
  else if t < 0x518 then s.eventRule ((t - 0x118) / 16) ((t - 0x118) % 16) c
  else
    let k := t - 0x518
    s.cntAdd (k / 16) (k % 16) 0x251 c 1

/-- A channel event is delivered to every task input bound to it by a tap, and watched (R334, R342). -/
def State.deliver (s : State) (c b : Nat) : State :=
  let p := pHchan (c / 64)
  let w := 0x100 + 4 * (c % 64 / 32)
  let s1 := s.wrB p w (c % 32) true
  let s2 := if s1.rdB p (w + 8) (c % 32) then s1.flag p 0 else s1
  (s2.hypha.taps.filter (fun x => x.1 == c)).foldl (fun a x => a.task c x.2 b) s2

/-- CHANNEL_EVENT: a channel that carries an event in beat b, or carried it then and has not delivered it. -/
def State.channelEvent (s : State) (b c : Nat) : State :=
  if s.hypha.carried.contains (b, c) then (s.mapHypha (fun h => { h with carried := h.carried.erase (b, c) })).deliver c b
  else if b = s.beat ∧ s.hyphaNow.1.contains c ∧ !s.hypha.delivered.contains c then
    (s.mapHypha (fun h => { h with delivered := c :: h.delivered })).deliver c b
  else s

/-- SWPULSE (R329): the pulses ride in the beat after the write reaches the beat domain, 4 beats after it is made (Table 1.4). -/
def State.swPulse (s : State) (p j : Nat) (v : Word) : State :=
  (maskList 32 v.toNat).foldl (fun a i =>
    (a.count (pHchan p) 1 1).srcEvent (a.beat + 5) (1024 + 64 * p + 32 * j + i)) s

end Sys2Proof.Machine
end

