-- ==== Sys2Proof/Machine/Issue.lean ====
section
/-! DEFINITION. Issue: what the bundles of one issue beat do (05_crozier_sequencer.md R142, R143, R146, R149 to R154, R158,
R159; 06_waveform_store.md R196). Each command acts on its own field of every bundle whose issue beat it is. -/
namespace Sys2Proof.Machine

/-- The bundles that issue in the current beat, in posting order (R149). -/
def State.due (s : State) (f : Nat) : List Bundle := (s.crz f).queue.filter (fun b => b.issue == s.beat)

/-- Change the bundles that issue now; those with nothing left have left the queue. -/
def State.issued (s : State) (f : Nat) (g : Bundle → Bundle) : State :=
  let q := (s.crz f).queue.map (fun b => if b.issue = s.beat then g b else b)
  s.setQueue f (q.filter (fun b => !b.left s.beat))

/-- Collisions of one issue beat (R152). -/
def State.collide (s : State) (f n : Nat) : State := if n = 0 then s else (s.count (pCrozier f) 4 n).flag (pCrozier f) 4

/-- A start field of a bundle: the bundle, the field, and the player it names. -/
structure StartField where
  b : Bundle
  ch : Chan
  c : Nat
deriving DecidableEq, Repr

/-- Apply the gates of start fields: suppressed ones are counted and dropped (R146). -/
def State.gateStarts (s : State) (f : Nat) (l : List StartField) : State × List StartField :=
  l.foldl (fun (a : State × List StartField) x =>
    match a.1.gate f x.ch.cond x.b.cslot (x.b.issue - 2) with
    | some tag => (a.1.suppress f x.b.shot tag, a.2)
    | none => (a.1, a.2 ++ [x])) (s, [])

/-- Start the fields that no later one of the beat displaces (R150, R152). Of two starts of one beat on one ring, at different OFS, the ring
goes to the one that is processed first: XY[0], XY[1], then the probe, each in posting order (DESIGN CHOICE, log entry 44: R189 does
not say which). -/
def State.startAll (f : Nat) : List StartField → State → State
  | [], s => s
  | x :: t, s =>
    if t.any (fun y => y.c == x.c) then State.startAll f t (s.collide f 1)
    else State.startAll f t (s.startTone f x.c (32 * x.b.issue + x.ch.ofs) x.ch.entry x.b.shot
      (if x.ch.frame then .sample else .plain) x.b.seq)

/-- The start fields of a channel in the bundles that issue now. -/
def startFields (l : List Bundle) (sel : Bundle → Chan) (base : Nat) : List StartField :=
  l.filterMap (fun b => if (sel b).en && !(sel b).jmp then some { b := b, ch := sel b, c := base + (sel b).tone } else none)

/-- Gate and start a set of fields. -/
def State.issueStarts (s : State) (f : Nat) (l : List StartField) : State :=
  let r := s.gateStarts f l
  State.startAll f r.2 r.1

/-- A field no longer to be issued. -/
def Chan.clear (c : Chan) : Chan := if c.en && !c.jmp then {} else c

/-- XY_START: the XY fields with JMP 0 of the beat (R150). -/
def State.xyStart (s : State) (f : Nat) : State :=
  let l := s.due f
  let s1 := s.issueStarts f (startFields l Bundle.xy0 0 ++ startFields l Bundle.xy1 8)
  s1.issued f (fun b => { b with xy0 := b.xy0.clear, xy1 := b.xy1.clear })

/-- PROBE_START: the probe fields with JMP 0 of the beat (R150). -/
def State.probeStart (s : State) (f : Nat) : State :=
  let s1 := s.issueStarts f (startFields (s.due f) Bundle.probe 16)
  s1.issued f (fun b => { b with probe := b.probe.clear })

/-- The flux fields of a list of bundles, each on the channels no later one takes (R150, R152). -/
def State.fluxAll (f : Nat) : List Bundle → State → State
  | [], s => s
  | b :: t, s =>
    let later := t.foldl (fun m x => m ||| x.fluxMask) 0
    let lost := (maskList 8 b.fluxMask).filter (fun n => tst later n)
    let mine := (maskList 8 b.fluxMask).filter (fun n => !tst later n)
    State.fluxAll f t (mine.foldl (fun a n => a.startFlux f n (32 * b.issue + 16 * b.fluxOfs) b.fluxSeg b.shot) (s.collide f lost.length))

/-- FLUX_START: the flux fields of the beat. -/
def State.fluxStart (s : State) (f : Nat) : State :=
  (State.fluxAll f (s.due f) s).issued f (fun b => { b with fluxEn := false, fluxMask := 0 })

/-- A window that is not opened arms no slot (R286). -/
def State.notOpened (s : State) (f t uid : Nat) : State :=
  (s.slotsArmed f (2 ^ t)).foldl (fun a k => a.postDone f k (some uid) none) s

/-- The read-out fields of a list of bundles: a tone a later bundle takes collides, unless its LEN is invalid; a window that opens
arms its rules (R142, R152; 10_sorus_feedback.md R280). -/
def State.windowAll (f : Nat) : List Bundle → State → State
  | [], s => s
  | b :: t, s =>
    let later := t.foldl (fun m x => m ||| x.roMask) 0
    let num := (((s.crz f).shots.find? (fun h => h.uid == b.shot)).map (·.num)).getD 0
    State.windowAll f t ((maskList 16 b.roMask).foldl (fun a n =>
      let len := (a.fe f).lenAt n (24 * (a.beat + 24) + b.roOfs)
      let o := if tst later n && decide (1 ≤ len) && decide (len ≤ 4096) then a.collide f 1 else a.openWindow f n b.roOfs b.shot num
      if (o.fe f).wins.length = (a.fe f).wins.length then o.notOpened f n b.shot else o.armWindow f n) s)

/-- READOUT_WINDOW: the read-out fields of the beat (R142). -/
def State.readoutWindow (s : State) (f : Nat) : State :=
  (State.windowAll f (s.due f) s).issued f (fun b => { b with roEn := false, roMask := 0 })

/-- JUMP_REQUEST: the requests posted since the last are handed to their players, and those of idle tones whose beat this
is act as starts (R154, R181). -/
def State.jumpRequest (s : State) (f : Nat) : State :=
  let c := s.crz f
  let s1 := c.handed.foldl (fun a j => a.handJump f j) (s.setCrz f { c with handed := [] })
  (s1.idleJumps f s1.beat).foldl (fun a j => a.jumpAsStart f s1.beat j) s1

/-- EV_PULSE: EVOUT[n] pulses at ball beat issue + 24, into Hypha and trigger source 6 (R143; 11_acquisition_queues.md
Table 11.1). -/
def State.evPulse (s : State) (f : Nat) : State :=
  let m := (s.due f).foldl (fun a b => a ||| b.ev) 0
  let s1 := (maskList 4 m).foldl (fun a n => (a.srcEvent (s.beat + 24) (4 * f + n)).acqEv f n (s.beat + 24)) s
  let q := s.rd (pCalf f) 0x104
  let s2 := if bit q 1 && tst m (fld q 17 16) then s1.mapCal (fun c => { c with decl := Tab.put c.decl f s.beat }) else s1
  s2.issued f (fun b => { b with ev := 0 })

/-- The qubits a bundle's frame operation addresses: 5 and 6 address all (R152). -/
def Bundle.frQubits (b : Bundle) : Nat := if b.frOp == 5 || b.frOp == 6 then 0xFFFF else 2 ^ b.frQubit

/-- The bundles whose frame operation later ones displace, the qubits they lose to them, and the collisions, one with each of the later
ones (R152). -/
def frameLosers : List Bundle → List (Nat × Nat × Nat)
  | [] => []
  | b :: t =>
    let hits := t.filter (fun x => (x.frQubits &&& b.frQubits) ||| b.frLost != b.frLost)
    if hits.isEmpty then frameLosers t
    else (b.seq, t.foldl (fun m x => m ||| x.frQubits) 0 &&& b.frQubits, hits.length) :: frameLosers t

/-- A frame operation that has lost qubits: it still acts on the others it addresses (R152). -/
def Bundle.frLose (b : Bundle) (m : Nat) : Bundle :=
  if b.frQubits &&& m = b.frQubits then { b with frOp := 0 } else { b with frLost := b.frLost ||| m }

/-- The frame operations of the beat: a suppressed operation 6 is dropped, then collisions are resolved (R146, R152). -/
def State.frameResolve (s : State) (f : Nat) : State :=
  let l := (s.due f).filter (fun b => b.frOp != 0)
  let sup := l.filterMap (fun b =>
    let v := (s.slot f b.frQubit).view (b.issue - 2)
    if b.frOp = 6 ∧ !(v.st == 2 && v.qual == 0) then some (b, Slot.sampleTag v.st v.qual) else none)
  let s1 := sup.foldl (fun a x => a.suppress f x.1.shot x.2) s
  let lose := frameLosers (l.filter (fun b => !sup.any (fun x => x.1.seq == b.seq)))
  (s1.collide f (lose.foldl (fun n x => n + x.2.2) 0)).issued f (fun b =>
    if sup.any (fun x => x.1.seq == b.seq) then { b with frOp := 0 }
    else match lose.find? (fun x => x.1 == b.seq) with
      | some x => b.frLose x.2.1
      | none => b)

/-- The frame operations of code op of the beat act (Table 5.6; 10_sorus_feedback.md R296). -/
def State.frameRow (s : State) (f op : Nat) : State :=
  let s1 := s.frameResolve f
  let l := (s1.due f).filter (fun b => b.frOp == op)
  let s2 := l.foldl (fun a b => a.frameOp f op b.frQubit ((a.slot f b.frQubit).view (b.issue - 2)).word b.frLost) s1
  s2.issued f (fun b => if b.frOp = op then { b with frOp := 0 } else b)

/-- SHOT_END_ISSUE: the shots whose SHOT_END bundles issue now end (R155, R158; 10_sorus_feedback.md R285). -/
def State.shotEndIssue (s : State) (f : Nat) : State :=
  let l := (s.due f).filter (fun b => b.shotEnd)
  if l.isEmpty then s
  else
    let ends := (s.crz f).shots.filter (fun h => l.any (fun b => b.shot == h.uid))
    let s1 := l.foldl (fun a b => (a.mapShot f b.shot (fun h => { h with
        ended := some (h.ended.getD a.beat), tags := tagOr h.tags (if a.splitMark f a.beat then 1 else 0) })).count (pCrozier f) 8 1) s
    let s2 := (List.range 16).foldl (fun a k => if (a.slot f k).lock then a else a.setSlot f k ((a.slot f k).to a.beat 0 0 0 0)) s1
    let s3 := (s2.busShotEnd f ends).issued f (fun b => { b with shotEnd := false })
    let marked := (s3.crz f).shots.any (fun h => l.any (fun b => b.shot == h.uid) && tst h.tags 5)
    if marked && s3.rdB (pWaveform f) 0x100 16 then s3.abortAtEnd f else s3

/-- SYNC_ISSUE: sync records of the beat (R153). -/
def State.syncIssue (s : State) (f : Nat) : State :=
  let l := (s.due f).filter (fun b => b.sync)
  if l.isEmpty then s
  else (s.busPut f (fun r => { r with syncs := r.syncs ++ l.map (fun b => b.grp) })).issued f (fun b => { b with sync := false })

/-- Every event a shot's status item waits for has happened (R159). -/
def State.shotSettled (s : State) (f : Nat) (h : Shot) : Bool :=
  (match h.ended with | some e => decide (e + 25 ≤ s.beat) | none => false)
    && s.txs.all (fun x => !((x.owner == 0x1F || x.owner == s.frondOwner f)
        && (match h.ended with | some e => decide (x.t ≤ e) | none => true)) || decide (x.t + 256 ≤ s.beat))
    && (s.fe f).wins.all (fun (w : Win) => w.shot != h.uid)
    && (s.crz f).queue.all (fun b => b.roMask == 0 || b.shot != h.uid)
    && s.sorus.flights.all (fun (e : Nat × Flight) => !(s.ruleDF (e.1 / 16) (e.1 % 16) == f && e.2.shot == some h.uid))
    && s.sorus.resols.all (fun r => !(r.frond == f && r.shot == some h.uid))

/-- The status item of a shot (Table 5.11). -/
def statusItem (f tags : Nat) (h : Shot) : BitVec 64 :=
  BitVec.ofNat 64 (f * 2 ^ 59 + tags % 256 * 2 ^ 40 + h.starts % 256 * 2 ^ 32 + h.num % 2 ^ 32)

/-- Write a shot's status item, or drop it where the queue is foreign, and forget the shot (R159). -/
def State.writeStatus (s : State) (f : Nat) (h : Shot) : State :=
  let e := h.ended.getD s.beat
  let tags := tagOr (tagOr h.tags h.res) (if s.clrIn (h.start + 24) (e + 24) then 1 else 0)
  let c := s.crz f
  let s1 := s.setCrz f { c with shots := c.shots.filter (fun x => x.uid != h.uid) }
  let q := s1.rdF (pCrozier f) 0x168 5 0
  if !s1.rdB (pCrozier f) 0x168 8 then s1
  else if s1.owner (pQueue q) = s1.frondOwner f then s1.sendItem q [statusItem f tags h]
  else (s1.count (pCrozier f) 12 1).flag (pCrozier f) 10

/-- SHOT_STATUS_ITEM: the oldest shot whose item is due. -/
def State.shotStatus (s : State) (f : Nat) : State :=
  match (s.crz f).shots.find? (fun h => s.shotSettled f h) with
  | some h => s.writeStatus f h
  | none => s

end Sys2Proof.Machine
end

