-- ==== Sys2Proof/Machine/GroupCore.lean ====
section
/-! DEFINITION. GroupCore: the states of the commit groups, shadow writes, dooming, and the overlay that validation judges
(04_commit_groups.md R101, R105 to R110, R113; 03_register_pages.md R82, R87, R93). -/
namespace Sys2Proof.Machine

/-- Group g beyond its registers. -/
def State.grp (s : State) (g : Nat) : Group := Tab.get {} s.groups g

/-- Set a group. -/
def State.setGrp (s : State) (g : Nat) (x : Group) : State := { s with groups := Tab.set {} s.groups g x }

/-- The state of a group (Table 4.1): from its decision beat on, an armed group is DECIDED (R116). -/
def State.grpSt (s : State) (g : Nat) : Nat :=
  let st := s.rdF (pCgrp g) 0x104 2 0
  if st = 3 then (match (s.grp g).dec with | some d => if d ≤ s.beat then 4 else 3 | none => 3) else st

/-- POINT.KIND (Table 4.3): 0 SHOT, 1 TIME, 2 SYNC, 3 CLUSTER. -/
def State.grpKind (s : State) (g : Nat) : Nat := s.rdF (pCgrp g) 0x108 1 0

/-- Set bit g of a 64-bit pair of the COMMIT page (Table 4.8). -/
def State.commitBit (s : State) (off g : Nat) (b : Bool) : State := s.wrB pCommit (off + 4 * (g / 32)) (g % 32) b

/-- Set STATE, and the OPEN, ARMED and G63_BUSY bits that follow it (15_calibration.md Table 15.6). -/
def State.setGrpState (s : State) (g st : Nat) : State :=
  let s1 := ((s.wrF (pCgrp g) 0x104 2 0 st).commitBit 0x100 g (st != 0)).commitBit 0x108 g (decide (2 ≤ st))
  if g = 63 then s1.wrB pCal 0x110 0 (st != 0) else s1

/-- The group a path is attached to (R103). -/
def State.attached (s : State) (path : Path) : Option Nat :=
  (List.range 64).find? (fun g => s.rdF (pCgrp g) 0x104 2 0 == 1 && s.rdF (pCgrp g) 0x104 21 16 == path.code)

/-- The group a page is bound to (Table 3.14). -/
def State.boundTo (s : State) (p : Pg) : Option Nat := if s.rdB p 0x28 31 then some (s.rdF p 0x28 5 0) else none

/-- SHADOW_STATE.STATE of a page. -/
def State.setPageState (s : State) (p : Pg) (st : Nat) : State := s.wrF p 0x2C 1 0 st

/-- A calibration run of the frond of a CALF page is in progress: the page stays bound to group 63
(08_readout_front_end.md R251; 15_calibration.md R405). -/
def State.runBound (s : State) (p : Pg) : Bool := p.kind == .calf && (Tab.find? s.cal.runs p.i).isSome

/-- A page is bound to a group, or freed (R106, R87). -/
def State.bindPage (s : State) (p : Pg) (g : Option Nat) : State :=
  match g with
  | some n => s.wr p 0x28 (BitVec.ofNat 32 (2 ^ 31 + n))
  | none => (s.wr p 0x28 (if s.runBound p then BitVec.ofNat 32 (2 ^ 31 + 63) else 0)).setPageState p 0

/-- The RW-C bits of the register at a BAR0 address. -/
def rwcMask (a : Nat) : Word :=
  match pageOf a with
  | some p => BitVec.ofNat 32 (regRow p (a % 0x1000)).rwc
  | none => 0

/-- A register value with its RW-C bits replaced. -/
def mergeRwc (a : Nat) (old new : Word) : Word := (old &&& ~~~(rwcMask a)) ||| (new &&& rwcMask a)

/-- The register at a BAR0 address as the shadow view shows it (03_register_pages.md R93). -/
def State.shadowView (s : State) (a : Nat) : Word :=
  match Tab.find? s.shadow a with
  | some v => mergeRwc a (s.rdA a) v
  | none => s.rdA a

/-- A group's shadow writes hold the register at an offset of a page. -/
def State.wrote (s : State) (p : Pg) (off : Nat) : Bool := (Tab.find? s.shadow (p.reg off)).isSome

/-- The shadow entries of a page. -/
def State.pageShadow (s : State) (p : Pg) : Tab Word :=
  s.shadow.filter (fun (e : Nat × Word) => decide (p.base ≤ e.1) && decide (e.1 < p.base + 0x800))

/-- The group of a shadow entry. -/
def State.entryGroup (s : State) (a : Nat) : Option Nat :=
  match pageOf a with
  | some p => s.boundTo p
  | none => none

/-- The state with the shadow writes of the groups that keep holds for laid over the active registers. -/
def State.lay (s : State) (keep : Nat → Bool) : State :=
  (s.shadow.filter (fun (e : Nat × Word) => match s.entryGroup e.1 with | some g => keep g | none => false)).foldl
    (fun a (e : Nat × Word) => a.wrA e.1 (mergeRwc e.1 (a.rdA e.1) e.2)) s

/-- A group past OPEN: VALIDATING, ARMED or DECIDED. -/
def State.grpArmed (s : State) (g : Nat) : Bool := decide (2 ≤ s.rdF (pCgrp g) 0x104 2 0)

/-- The overlay of R113 for group g. -/
def State.overlay (s : State) (g : Nat) : State := s.lay (fun h => h == g || s.grpArmed h)

/-- The active configuration with group g's own writes alone. -/
def State.overlayOwn (s : State) (g : Nat) : State := s.lay (fun h => h == g)

/-- A page of a frond: of its window, CALF or BIAS (R109). -/
def Pg.ofFrond (p : Pg) : Option Nat := if p.kind.inFrond || p.kind == .calf || p.kind == .bias then some p.i else none

/-- The pages that follow the owner of a frond's CROZIER page (03_register_pages.md R82). -/
def followPages (f : Nat) : List Pg :=
  [pWaveform f, pXy f 0, pXy f 1, pProbe f, pReadout f, pKernel f] ++ (List.range 8).map (fun n => pFlux f n) ++ [pCalf f, pBias f]

/-- Frond f is protected by an armed group other than g (R109). -/
def State.protected_ (s : State) (g f : Nat) : Bool :=
  s.groups.any (fun (e : Nat × Group) => e.1 != g && tst e.2.protects f)

/-- A group becomes doomed (R108). -/
def State.doom (s : State) (g : Nat) : State :=
  if s.rdB (pCgrp g) 0x104 4 then s
  else
    let s1 := ((s.wrB (pCgrp g) 0x104 4 true).count (pCgrp g) 2 1).flag (pCgrp g) 2
    (s.grp g).bound.foldl (fun a p => a.setPageState p 3) s1

/-- A shadow write of a group to a register (R106, R108, R109). -/
def State.shadowWrite (s : State) (g : Nat) (p : Pg) (off : Nat) (v : Word) : State :=
  let prot := match p.ofFrond with | some f => s.protected_ g f | none => false
  let other := match s.boundTo p with | some h => h != g | none => false
  if prot || other then s.doom g
  else
    let x := s.grp g
    let s1 := if x.bound.contains p then s else
      ((s.setGrp g { x with bound := x.bound ++ [p] }).bindPage p (some g)).wr (pCgrp g) 0x134
        (BitVec.ofNat 32 (min 0xFFFF (x.bound.length + 1)))
    { s1.setPageState p (if s1.rdB (pCgrp g) 0x104 4 then 3 else 1) with
      shadow := Tab.put s1.shadow (p.reg off) (v &&& rwcMask (p.reg off)) }

/-- A CLEAR_CODE register, which only the warden writes (07_drive_outputs.md R218; 16_housekeeping_analog.md R427). -/
def isClearCode (p : Pg) (off : Nat) : Bool :=
  match p.kind with
  | .xy | .probe => off == 0x108
  | .flux => off == 0x10C
  | .bias => off == 0x108 || off == 0x118 || off == 0x128 || off == 0x138
  | _ => false

/-- A write to the RW-C fields of a register, admitted by the interconnect (00_scope.md R12; R82, R85, R106): one outside an OPEN
group is recorded as RWC_DIRECT; an OWNER write by a keeper with a group is dropped, and CLEAR_CODE refuses a keeper with cause
CLEAR_OWNER. A dropped write of these kinds made outside an open group is recorded as what it is, FIXED, FOLLOW or CLEAR_OWNER, and not
as RWC_DIRECT (DESIGN CHOICE, log entry 44: the spec gives the causes no order). -/
def State.rwcWrite (s : State) (path : Path) (p : Pg) (off : Nat) (v : Word) : State :=
  let keeper := s.ident path != .warden
  if off = 0x08 ∧ p.ownKind = .fixed then s.recErr p 0x84 off
  else if off = 0x08 ∧ p.ownKind = .follows then s.recErr p 0x83 off
  else if isClearCode p off ∧ keeper then s.recErr p 1 off
  else match s.attached path with
    | some g => if off = 0x08 ∧ keeper then s else s.shadowWrite g p off v
    | none => s.recErr p 0x80 off

/-- The addresses of the image registers of a page (05 R167, 06 R184, 09 R272, 10 R291). -/
def imgReg (p : Pg) : Option Nat :=
  match p.kind with
  | .crozier => some 0x14C
  | .waveform => some 0x104
  | .kernel => some 0x100
  | .slot => some 0x128
  | _ => none

/-- The images a group's shadow writes reference: page and GDDR7 address (R112). -/
def State.imageRefs (s : State) (g : Nat) : List (Pg × Nat) :=
  (s.grp g).bound.filterMap (fun p =>
    match imgReg p with
    | some o =>
      if s.wrote p o || s.wrote p (o + 4) then
        let a := (s.shadowView (p.reg o)).toNat + 2 ^ 32 * (s.shadowView (p.reg (o + 4))).toNat
        if a = 0 then none else some (p, a)
      else none
    | none => none)

/-- n bytes of GDDR7 at an address, as a little-endian number. -/
def State.gnum (s : State) (a n : Nat) : Nat := leNat ((List.range n).map (fun i => Tab.get 0 s.gddr (a + i)))

/-- The SIG_OFF field of an image (Tables 5.13, 6.7, 9.6, 10.5). -/
def State.sigOff (s : State) (p : Pg) (a : Nat) : Nat := s.gnum (a + (if p.kind = .crozier then 0x14 else 0x0C)) 4

end Sys2Proof.Machine
end

