-- ==== Sys2Proof/Machine/Claims.lean ====
section
/-! DEFINITION. Claims: the reservation table and check 4 of validation (11_acquisition_queues.md R306, R309, R310;
06_waveform_store.md R192; 18_tufts_and_security.md R472; 01_architecture.md R21; 04_commit_groups.md R113). -/
namespace Sys2Proof.Machine

/-- What one unit of the reservation table claims: its owner, its share of the pool, of one slice's bulk port in each
direction for each slice, and of its owner's host-DMA reservation, all in GB/s. -/
structure Claim where
  owner : Nat
  total : Nat := 0
  down : List Nat := [0, 0, 0, 0]
  up : List Nat := [0, 0, 0, 0]
  host : Nat := 0
deriving DecidableEq, Repr

/-- The rings of frond f (R192). -/
def State.ringClaim (s : State) (f : Nat) : Claim :=
  let v := (List.range 8).foldl (fun a r => a + s.rdF (pWaveform f) (0x208 + 0x20 * r) 20 16) 0
  { owner := s.frondOwner f, total := v, down := (List.range 4).map (fun k => if k = f / 8 then v else 0) }

/-- Fronds of a context in slice k. -/
def State.acqFronds (s : State) (c k : Nat) : Nat := popCount 8 (s.rdF (pAcq c) 0x108 (8 * k + 7) (8 * k))

/-- Capture context c: upstream on each slice in proportion to its fronds there, rounded up (R310). -/
def State.acqClaim (s : State) (c : Nat) : Claim :=
  let v := s.rdF (pAcq c) 0x138 22 16
  let n := popCount 32 (s.rd (pAcq c) 0x108).toNat
  { owner := s.owner (pAcq c), total := v, host := s.rdF (pAcq c) 0x148 22 16,
    up := (List.range 4).map (fun k => if n = 0 then 0 else (v * s.acqFronds c k + n - 1) / n) }

/-- The drain of queue q. -/
def State.drainClaim (s : State) (q : Nat) : Claim := { owner := s.owner (pQueue q), host := s.rdF (pQueue q) 0x110 6 0 }

/-- A host-DMA reservation: tuft t, or 16 for the warden's. -/
def State.hostDma (s : State) (t : Nat) : Nat := s.rdF pResv (0x100 + 4 * t) 6 0

/-- The reservation table of a configuration, unit by unit in one order. -/
def State.claims (s : State) : List Claim :=
  (List.range 32).map s.ringClaim ++ (List.range 16).map s.acqClaim ++ (List.range 64).map s.drainClaim
    ++ (List.range 17).map (fun t => { owner := if t = 16 then 0x1F else t, total := s.hostDma t })

/-- The sum of a measure over the units, each counted at the larger of two configurations: increases by other groups count
at once, their decreases when they apply (R113). -/
def claimSum (a b : List Claim) (m : Claim → Nat) : Nat := (a.zip b).foldl (fun n x => n + max (m x.1) (m x.2)) 0

/-- A measure of the claims of one owner. -/
def ofOwner (o : Nat) (m : Claim → Nat) (c : Claim) : Nat := if c.owner = o then m c else 0

/-- A context that breaks R310: enabled with CAP_RESV out of bounds, or HOST with HOST_RESV below CAP_RESV. -/
def State.acqBad (s : State) (c : Nat) : Bool :=
  let v := s.rdF (pAcq c) 0x138 22 16
  (s.rdB (pAcq c) 0x104 0 && (decide (v < capMin (s.rd (pAcq c) 0x104, s.rd (pAcq c) 0x108, s.rd (pAcq c) 0x10C)) || decide (96 < v)))
    || (s.rdB (pAcq c) 0x104 4 && decide (s.rdF (pAcq c) 0x148 22 16 < v))

/-- CFG.EN of a tuft. -/
def State.tuftEn (s : State) (t : Nat) : Bool := s.rdB (pTuft t) 0x100 31

/-- Check 4 of Table 4.2 for group g: whether it fails with BANDWIDTH. own is the configuration with the group's writes, full
the overlay. -/
def bandwidthBad (own full : State) (pool imgOwner : Nat) (imgs : Bool) : Bool :=
  let a := own.claims
  let b := full.claims
  let sum := claimSum a b
  let quota := fun (t : Nat) => min (own.rdF (pTuft t) 0x104 25 16) (full.rdF (pTuft t) 0x104 25 16)
  let squota := fun (t k : Nat) => min (own.rdF (pTuft t) 0x108 (8 * k + 7) (8 * k)) (full.rdF (pTuft t) 0x108 (8 * k + 7) (8 * k))
  let tufts := (List.range 16).filter full.tuftEn
  let host := fun (o : Nat) => max (own.hostDma (if o = 0x1F then 16 else o)) (full.hostDma (if o = 0x1F then 16 else o))
  let slices := List.range 4
  let dn := fun (k : Nat) (c : Claim) => c.down.getD k 0
  let up := fun (k : Nat) (c : Claim) => c.up.getD k 0
  decide (pool < sum Claim.total)
    || slices.any (fun k => decide (240 < sum (dn k)) || decide (240 < sum (up k)))
    || decide (48 < (List.range 17).foldl (fun n t => n + max (own.hostDma t) (full.hostDma t)) 0)
    || (List.range 32).any (fun f => (List.range 8).any (fun r => decide (16 < full.rdF (pWaveform f) (0x208 + 0x20 * r) 20 16)))
    || (List.range 16).any full.acqBad
    || (0x1F :: List.range 16).any (fun o => decide (host o < sum (ofOwner o Claim.host)))
    || (imgs && host imgOwner == 0)
    || tufts.any (fun t => decide (quota t < sum (ofOwner t Claim.total)))
    || tufts.any (fun t => slices.any (fun k => decide (squota t k < sum (ofOwner t (dn k))) || decide (squota t k < sum (ofOwner t (up k)))))
    || decide (pool < tufts.foldl (fun n t => n + quota t) 0 + sum (ofOwner 0x1F Claim.total))
    || slices.any (fun k =>
        let q := tufts.foldl (fun n t => n + squota t k) 0
        decide (240 < q + sum (ofOwner 0x1F (dn k))) || decide (240 < q + sum (ofOwner 0x1F (up k))))

/-- The overlay total of the groups that are armed and of group g (R113). -/
def State.claimed (s : State) (g : Nat) : Nat := claimSum (s.overlayOwn g).claims (s.overlay g).claims Claim.total

/-- COMMIT.POOL.CLAIMED shows the overlay total once a check 4 has been made (R113; DEDUCED, log entry 10). -/
def State.showClaims (s : State) (g : Nat) : State := s.wrF pCommit 0x110 31 16 (min 0xFFFF (s.claimed g))

/-- CLAIMED after a group's claims have left the overlay or become active. -/
def State.reclaim (s : State) : State := if s.rdF pCommit 0x110 31 16 = 0 then s else s.showClaims 64

/-- The RESV page's active totals (Table 11.9). -/
def State.showResv (s : State) : State :=
  let c := s.claims
  let sum := fun (m : Claim → Nat) => c.foldl (fun n x => n + m x) 0
  let s1 := s.wr pResv 0x144 (BitVec.ofNat 32 (sum Claim.total))
  let s2 := (List.range 4).foldl (fun a k => a.wr pResv (0x148 + 4 * k)
    (BitVec.ofNat 32 (sum (fun x => x.down.getD k 0) * 2 ^ 16 + sum (fun x => x.up.getD k 0)))) s1
  (List.range 16).foldl (fun a t => a.wr pResv (0x160 + 4 * t) (BitVec.ofNat 32 (sum (ofOwner t Claim.total)))) s2

end Sys2Proof.Machine
end

