-- ==== Sys2Proof/Machine/GroupOps.lean ====
section
/-! DEFINITION. GroupOps: the commands of a commit group, its outcomes and its aborts (04_commit_groups.md R102 to R104, R111,
R114, R120, R125, R127, R128). -/
namespace Sys2Proof.Machine

/-- An outcome of a group: RESULT and APPLY (Tables 4.14, 4.18), and back to IDLE with nothing held; a CLUSTER group that aborts still
owes the protocol its vote and decision (R129). An ABORT still on its way to the apply stage goes with the group's state and leaves no
record (DESIGN CHOICE, log entry 44: R120 does not say what an ABORT finds whose group has aborted otherwise). -/
def State.outcome (s : State) (g out cause : Nat) : State :=
  let p := pCgrp g
  let seq := (s.rdF p 0x128 31 16 + 1) % 65536
  ((((((s.setGrpState g 0).wr p 0x104 0).wr p 0x134 0).wr p 0x128 (BitVec.ofNat 32 (seq * 2 ^ 16 + cause * 256 + out))).wr64 p 0x12C
    s.beat)).setGrp g (if out = 2 ∧ 2 ≤ s.rdF p 0x104 2 0 ∧ s.grpKind g = 3 then
      { gone := some (s.rd64 p 0x10C), voteSent := (s.grp g).voteSent, sentOut := (s.grp g).sentOut, copies := (s.grp g).copies,
        decOk := (s.grp g).decOk } else {})

/-- Group 63 has aborted: after EXPIRED, LATE or SW its writes return to pending, a newer accepted value taking the place of
the older; every abort is counted (15_calibration.md R414, R421). -/
def State.abort63 (s : State) (cause : Nat) : State :=
  let s1 := s.count pCal 1 1
  if cause = 6 ∨ cause = 7 ∨ cause = 8 then
    (s1.mapCal (fun c =>
      let back := c.carry.foldl (fun (t : Tab CalVal) (e : Nat × CalVal) => if (Tab.find? t e.1).isSome then t else Tab.put t e.1 e.2) c.pend
      { c with carry := [], pend := back })).flag pCal 1
  else s1.mapCal (fun c => { c with carry := [] })

/-- A group aborts (R127, R87): its shadow copies are discarded, its pages freed, and its outcome shown. -/
def State.abortGrp (s : State) (g cause : Nat) : State :=
  let ps := (s.grp g).bound
  let s1 := ps.foldl (fun a p => { a.bindPage p none with
    shadow := a.shadow.filter (fun (e : Nat × Word) => !(decide (p.base ≤ e.1) && decide (e.1 < p.base + 0x800))) }) s
  let s2 := ((s1.outcome g 2 cause).count (pCgrp g) 1 1).flag (pCgrp g) 1
  let s3 := (s2.wrF (pCgrp g) 0x20 7 0 cause).reclaim
  if g = 63 then s3.abort63 cause else s3

/-- A refused command of a group (R102). -/
def State.grpRefuse (s : State) (g cause : Nat) : State := s.recErr (pCgrp g) cause 0x100

/-- OPEN (R103). -/
def State.grpOpen (s : State) (path : Path) (g : Nat) : State :=
  if s.rdF (pCgrp g) 0x104 2 0 ≠ 0 then s.grpRefuse g 0x20
  else if (s.attached path).isSome then s.grpRefuse g 0x21
  else ((s.wr (pCgrp g) 0x104 (BitVec.ofNat 32 (path.code * 2 ^ 16))).setGrpState g 1).setGrp g {}

/-- Whether the device is in a cluster, for R116 and R129: ALIGNED or HOLDOVER, with PEERS_DONE (13_time_and_cluster.md R367). -/
def State.inCluster (s : State) : Bool := (s.rdF pCsync 0x10C 2 0 == 4 || s.rdF pCsync 0x10C 2 0 == 5) && s.rdB pCsync 0x10C 8

/-- Whether a group's commit point is refused at ARM (Table 4.3; R105, R130). -/
def State.pointBad (s : State) (g : Nat) : Bool :=
  let p := pCgrp g
  let own := s.owner p
  match s.grpKind g with
  | 0 => own != 0x1F && s.rdF p 0x108 12 8 != own
  | 1 => false
  | 2 => own != 0x1F && s.frondOwner (s.rdF p 0x108 20 16) != own
  | _ => !s.inCluster || s.rdF p 0x124 15 0 % 2 == 1 || decide (s.rdF p 0x124 15 0 < 256)
      || !tst (s.rd p 0x120).toNat (s.rdF p 0x11C 20 16)

/-- ARM (R103, R109, R111, R114): the group detaches and enters VALIDATING. The pages of a doomed group keep SHADOW_STATE 3 while it
validates (Table 3.15, R108; Table 4.1 says ARMED: DESIGN CHOICE, log entry 44). -/
def State.grpArm (s : State) (g : Nat) : State :=
  let p := pCgrp g
  if s.rdF p 0x104 2 0 ≠ 1 then s.grpRefuse g 0x20
  else if s.pointBad g then s.grpRefuse g 0x23
  else
    let x := s.grp g
    let prot := x.bound.foldl (fun m q => if q.kind = .crozier ∧ s.wrote q 0x08 then mset m q.i else m) 0
    let imgs := (s.imageRefs g).map (fun r => (r.2, s.sigOff r.1 r.2 + 256))
    let s1 := ((s.setGrpState g 2).wrF p 0x104 21 16 0).setGrp g { x with protects := prot, images := imgs }
    if s1.rdB p 0x104 4 then s1 else x.bound.foldl (fun a q => a.setPageState q 2) s1

/-- An ABORT of group g at the apply stage at beat b: refused with VOTED, at or after D with STATE; else the group aborts with SW
(R120). -/
def State.abortActs (s : State) (g b : Nat) : State :=
  if s.rdB (pCgrp g) 0x104 5 then s.grpRefuse g 0x24
  else match (s.grp g).dec with
    | some d => if d ≤ b then s.grpRefuse g 0x20 else s.abortGrp g 0x08
    | none => s.abortGrp g 0x08

/-- ABORT that reaches the apply stage at beat b (R120): an OPEN group aborts at once; one past OPEN when the command has reached the
apply stage, or at once while no beat occurs. A second command behind one on its way is refused: it finds the group IDLE or past D. -/
def State.grpAbortCmd (s : State) (g b : Nat) : State :=
  let st := s.rdF (pCgrp g) 0x104 2 0
  if st = 0 then s.grpRefuse g 0x20
  else if st = 1 then s.abortGrp g 0x08
  else if s.rdB (pCgrp g) 0x104 5 then s.grpRefuse g 0x24
  else if (s.grp g).abortAt.isSome then s.grpRefuse g 0x20
  else if s.clockOn then s.setGrp g { s.grp g with abortAt := some b }
  else s.abortActs g b

/-- A flit of types 0xA to 0xC: TYPE, the device's own number, TXID, bit 38, COPY and T[31:0] (14_serial_links.md Table 14.6). -/
def State.commitFlit (s : State) (type txid : Nat) (ok : Bool) (copy t : Nat) : BitVec 64 :=
  BitVec.ofNat 64 (type * 2 ^ 60 + s.devnum * 2 ^ 55 + txid % 65536 * 2 ^ 39 + (if ok then 2 ^ 38 else 0) + copy * 2 ^ 36 + t % 2 ^ 32)

/-- T of a TIME or CLUSTER point, and the beat it names (13_time_and_cluster.md R348). -/
def State.grpT (s : State) (g : Nat) : Nat := s.rd64 (pCgrp g) 0x10C
def State.grpWhen (s : State) (g : Nat) : Nat := s.absBeat (s.grpT g)

/-- D and A are fixed (R116). -/
def State.fixBeats (s : State) (g d a : Nat) : State := s.setGrp g { s.grp g with dec := some d, app := some a, stretch := false }

/-- TXID, COORD, PMASK and L of a group. -/
def State.txid (s : State) (g : Nat) : Nat := s.rdF (pCgrp g) 0x11C 15 0
def State.coord (s : State) (g : Nat) : Nat := s.rdF (pCgrp g) 0x11C 20 16
def State.pmask (s : State) (g : Nat) : Nat := (s.rd (pCgrp g) 0x120).toNat
def State.lead (s : State) (g : Nat) : Nat := s.rdF (pCgrp g) 0x124 15 0

/-- One copy of the coordinator's DECIDE to every participant (R129). -/
def State.sendCopy (s : State) (g : Nat) : State :=
  let x := s.grp g
  (maskList 32 (s.pmask g)).foldl (fun a d => a.unicast d 1 (s.commitFlit 0xB (s.txid g) x.decOk x.copies (s.grpT g)))
    (s.setGrp g { x with copies := x.copies + 1 })

/-- What waits in a group for a beat of its own: an ABORT on its way, a copy of DECIDE to be sent, or a SHOT commit that waits with the
Croziers for the stretch factor. -/
def Group.waits (x : Group) : Bool := x.abortAt.isSome || (decide (0 < x.copies) && decide (x.copies < 3)) || x.stretch

/-- A SHOT commit that waited between shots with the Croziers takes the first beat in which the stretch factor is below 8 as its R
(17_thermal_and_counters.md R463; log entry 44). -/
def State.stretchDue (s : State) (g : Nat) : State :=
  if (s.grp g).stretch && decide (s.stretch < 2048) then
    (s.setGrp g { s.grp g with stretch := false }).fixBeats g (s.beat + 2) (s.beat + 36)
  else s

/-- A new beat finds group g: the next of the three copies of DECIDE leaves, a SHOT commit that waited goes on, and an ABORT that has
reached the apply stage acts (R120, R129; 17_thermal_and_counters.md R463). -/
def State.groupDue (s : State) (g : Nat) : State :=
  let s1 := (if decide (0 < (s.grp g).copies) && decide ((s.grp g).copies < 3) then s.sendCopy g else s).stretchDue g
  match (s1.grp g).abortAt with
  | some b => if b ≤ s1.beat then (s1.setGrp g { s1.grp g with abortAt := none }).abortActs g b else s1
  | none => s1

/-- A new beat finds every group. -/
def State.groupsDue (s : State) : State :=
  (s.groups.filter (fun (e : Nat × Group) => e.2.waits)).foldl (fun a e => a.groupDue e.1) s

/-- A write of CGRP[g].CMD (R102, R128); an ABORT reaches the apply stage 4 beats later (01_architecture.md Table 1.4). -/
def State.grpCmd (s : State) (path : Path) (g : Nat) (v : Word) : State :=
  if g = 63 then s.grpRefuse g 0x22
  else if fld v 31 16 ≠ 0x4347 then s
  else match fld v 1 0 with
    | 1 => s.grpOpen path g
    | 2 => s.grpArm g
    | 3 => s.grpAbortCmd g (s.beat + 4)
    | _ => s

/-- The commit-point registers of a CGRP page, writable in IDLE and OPEN (R104). -/
def isPointReg (off : Nat) : Bool := off == 0x108 || (decide (0x10C ≤ off) && decide (off ≤ 0x124))

/-- A group that has voted OK is exempt from the aborts of R125. -/
def State.grpVoted (s : State) (g : Nat) : Bool := s.rdB (pCgrp g) 0x104 5

/-- Entry to SERVICE or HOLD aborts groups with cause MODE (R125): every group not IDLE, group 63 only in HOLD. -/
def State.modeAborts (s : State) (hold : Bool) : State :=
  let gs := (List.range 64).filter (fun g => s.rdF (pCgrp g) 0x104 2 0 != 0 && !s.grpVoted g && (hold || g != 63))
  let s1 := gs.foldl (fun a g => a.abortGrp g 0x09) s
  if hold && !gs.isEmpty then s1.flag pCommit 1 else s1

/-- A function-level reset or a PCIe fundamental reset aborts the OPEN group of a path (R125). -/
def State.pathReset (s : State) (path : Path) : State :=
  match s.attached path with
  | some g => s.abortGrp g 0x0A
  | none => s

/-- A tuft abort aborts the tuft's groups that have not reached D (R125); group 63, where it holds writes for the tuft's
fronds, aborts with SW. -/
def State.tuftAborts (s : State) (t : Nat) : State :=
  let early := fun (a : State) (g : Nat) => a.grpSt g != 0 && a.grpSt g != 4
  let s1 := ((List.range 63).filter (fun g => s.owner (pCgrp g) == t && early s g && !s.grpVoted g)).foldl (fun a g => a.abortGrp g 0x0D) s
  let mine := (s1.grp 63).bound.any (fun p => match p.ofFrond with | some f => s1.frondOwner f == t | none => false)
  if mine && early s1 63 then s1.abortGrp 63 0x08 else s1

end Sys2Proof.Machine
end

