-- ==== Sys2Proof/Machine/Image.lean ====
section
/-! DEFINITION. Image: the control-store, library, kernel and lookup images: header and layout, signature, sections, and
loading (18_tufts_and_security.md R483, R484, R516; 05_crozier_sequencer.md R167, R169; 06_waveform_store.md R184 to R187;
09_readout_kernels.md R272, R273; 10_sorus_feedback.md R291). -/
namespace Sys2Proof.Machine

/-- n bytes of GDDR7 from an address on. -/
def State.gbytes (s : State) (a n : Nat) : List Byte := (List.range n).map (fun i => Tab.get 0 s.gddr (a + i))

/-- A section of an image: the address of its data, TYPE or TONE, FIRST and COUNT (Table 6.8). -/
structure Sect where
  data : Nat
  type : Nat
  first : Nat
  count : Nat
deriving DecidableEq, Repr

/-- Bytes of one item of a section (Tables 6.8, 9.6, 10.5). -/
def Sect.item (p : Pg) (type : Nat) : Nat :=
  match p.kind with
  | .kernel => 8
  | .slot => 4
  | _ => if type = 1 then 8 else if type = 2 then 16 else 4

/-- n sections from an offset on, each at the next 64-byte boundary, and all of them within bytes 0x40 to SIG_OFF − 1; none
where one is not (R516). -/
def State.sections (s : State) (p : Pg) (a sig : Nat) : Nat → Nat → Option (List Sect)
  | 0, _ => some []
  | n + 1, o =>
    let x : Sect := { data := a + o + 16, type := s.gnum (a + o) 2, first := s.gnum (a + o + 4) 4, count := s.gnum (a + o + 8) 4 }
    let e := o + 16 + x.count * Sect.item p x.type
    if sig < e then none
    else (State.sections s p a sig n ((e + 63) / 64 * 64)).map (fun l => x :: l)

/-- The sections of the image a page references. -/
def State.sectsOf (s : State) (p : Pg) (a : Nat) : Option (List Sect) :=
  if p.kind = .crozier then some [] else s.sections p a (s.sigOff p a) (s.gnum (a + 6) 2) 0x40

/-- MAGIC of an image's header (Tables 5.13, 6.7, 9.6, 10.5). -/
def imgMagic (p : Pg) : Nat :=
  match p.kind with
  | .crozier => 0x5A434451
  | .waveform => 0x4C574451
  | .kernel => 0x4B524451
  | _ => 0x4C534451

/-- The header checks of R516. -/
def State.headerOk (s : State) (p : Pg) (a : Nat) : Bool :=
  let sig := s.sigOff p a
  let words := s.gnum (a + 8) 4
  s.gnum a 4 == imgMagic p && s.gnum (a + 4) 2 == 1 && sig % 64 == 0 && decide (0x40 ≤ sig)
    && (if p.kind = .crozier then decide (1 ≤ words) && decide (words ≤ 8192) && decide (0x40 + 24 * words ≤ sig)
      else (s.sectsOf p a).isSome)

/-- The signature key of an owner: a tuft's PUBKEY, or the warden key (R483). -/
def State.signKey (s : State) (own : Nat) : List Byte :=
  if own < 16 then (List.range 24).flatMap (fun j => leBytes 4 (s.rd (pTuft own) (0x140 + 4 * j)).toNat) else s.sec.wardenKey

/-- The signature checks of R483 over the bytes from a to sig, for a KEY number and a public key; in BLANK and RETURNED only
the first two. -/
def State.sigOk (s : State) (a sig key : Nat) (pub : List Byte) : Bool :=
  let b := a + sig
  let st := s.rdF pSec 0x100 1 0
  s.gnum b 4 == 0x47534451 && s.gnum (b + 4) 2 == 1
    && decide (s.gbytes (b + 8) 48 = Config.sha384 (s.gbytes a sig))
    && (st == 0 || st == 3
      || (s.gnum (b + 6) 1 == key && (key != 0x1F && pub.any (fun x => x != 0) || key == 0x1F)
        && Config.ecdsaOk pub (Config.sha384 (s.gbytes b 0x38)) (s.gbytes (b + 0x38) 96)))

/-- The section rules of R186, R272 and R291. -/
def sectOk (p : Pg) (x : Sect) : Bool :=
  let e := x.first + x.count
  match p.kind with
  | .waveform => match x.type with
    | 1 => decide (e ≤ 4096)
    | 2 => decide (e ≤ 16384)
    | 3 => decide (e ≤ 0x100000)
    | _ => false
  | .kernel => decide (x.type ≤ 15) && decide (e ≤ 32768)
  | .slot => decide (e ≤ 65536)
  | _ => true

/-- Check 3 of Table 4.2 for one image of a group owned by own. -/
def State.imageOk (s : State) (p : Pg) (a own : Nat) : Bool :=
  s.headerOk p a && s.sigOk a (s.sigOff p a) own (s.signKey own) && ((s.sectsOf p a).getD []).all (sectOk p)

/-- Whether two spans of words meet. -/
def meets (a n b m : Nat) : Bool := decide (a < b + m) && decide (b < a + n) && n != 0 && m != 0

/-- A SAMPLES section lies on words in use: of a descriptor of the active bank, or staging of a ring in effect enabled
(R187). -/
def State.liveSamples (s : State) (f : Nat) (x : Sect) : Bool :=
  let lo := f * 8192 + s.tblBank f * 4096
  s.descs.any (fun (e : Nat × BitVec 64) => decide (lo ≤ e.1) && decide (e.1 < lo + 4096) && descKind e.2 != 0 && !descStream e.2
      && meets x.first x.count (descStart e.2) (if descKind e.2 = 2 then (descNsamp e.2 + 1) / 2 else descNsamp e.2))
    || (List.range 8).any (fun r => s.ringOn f r
      && meets x.first x.count (256 * s.rdF (pWaveform f) (ringReg r 3) 27 16) (256 * s.rdF (pWaveform f) (ringReg r 3) 8 0))

/-- A kernel section lies on weights in use (R273), which go on at word 0 after word 32,767 (R259). -/
def State.liveWeights (s : State) (f : Nat) (x : Sect) : Bool :=
  let w := s.rdF (pKernel f) (0x200 + 0x20 * x.type) 14 0
  let n := s.rdF (pReadout f) (0x20C + 0x10 * x.type) 12 0
  meets x.first x.count w n || meets (x.first + 32768) x.count w n

/-- The entries of a table within [lo, lo + n) are replaced by those of f at i, i < m; entries of f beyond are dropped. -/
def Tab.fill {α : Type} [DecidableEq α] (d : α) (t : Tab α) (lo n : Nat) (l : List (Nat × α)) : Tab α :=
  l.foldl (fun a (e : Nat × α) => Tab.set d a e.1 e.2) (t.filter (fun (e : Nat × α) => !(decide (lo ≤ e.1) && decide (e.1 < lo + n))))

/-- Load a control-store image into the inactive bank (R167). -/
def State.loadCs (s : State) (f a : Nat) : State :=
  let lo := f * 16384 + (if s.rdB (pCrozier f) 0x148 16 then 0 else 8192)
  let ws := (List.range (s.gnum (a + 8) 4)).map (fun i => (lo + i, BitVec.ofNat 192 (s.gnum (a + 0x40 + 24 * i) 24)))
  ({ s with cs := Tab.fill 0 s.cs lo 8192 ws }).wrF (pCrozier f) 0x154 31 16 (s.gnum (a + 0x10) 2)

/-- The active bank of a table copied into the inactive one: entries of [lo, lo + n) at dst on. -/
def bankCopy {α : Type} (t : Tab α) (lo n dst : Nat) : List (Nat × α) :=
  (t.filter (fun (e : Nat × α) => decide (lo ≤ e.1) && decide (e.1 < lo + n))).map (fun (e : Nat × α) => (e.1 - lo + dst, e.2))

/-- One section of a library image (R184, R187). -/
def State.loadLibSect (s : State) (f : Nat) (x : Sect) : State :=
  let k := 1 - s.tblBank f
  match x.type with
  | 1 => { s with descs := (List.range x.count).foldl (fun t i => Tab.set 0 t (f * 8192 + k * 4096 + x.first + i)
      (BitVec.ofNat 64 (s.gnum (x.data + 8 * i) 8))) s.descs }
  | 2 => { s with lists := (List.range x.count).foldl (fun t i => Tab.set 0 t (f * 32768 + k * 16384 + x.first + i)
      (BitVec.ofNat 128 (s.gnum (x.data + 16 * i) 16))) s.lists }
  | _ =>
    let s1 := { s with sram := (List.range x.count).foldl (fun t i => Tab.set 0 t (f * 0x100000 + x.first + i)
      (BitVec.ofNat 32 (s.gnum (x.data + 4 * i) 4))) s.sram }
    if s.liveSamples f x then (s1.flag (pWaveform f) 3).count (pWaveform f) 5 1 else s1

/-- Load a library image (R184). -/
def State.loadLib (s : State) (f a : Nat) (l : List Sect) : State :=
  let b := s.tblBank f
  let dl := f * 8192
  let ll := f * 32768
  let s1 := { s with
    descs := Tab.fill 0 s.descs (dl + (1 - b) * 4096) 4096 (bankCopy s.descs (dl + b * 4096) 4096 (dl + (1 - b) * 4096)),
    lists := Tab.fill 0 s.lists (ll + (1 - b) * 16384) 16384 (bankCopy s.lists (ll + b * 16384) 16384 (ll + (1 - b) * 16384)) }
  (l.foldl (fun t x => t.loadLibSect f x) s1).wrF (pWaveform f) 0x10C 31 16 (s.gnum (a + 8) 2)

/-- Load a kernel image (R272, R273). -/
def State.loadKimg (s : State) (f a : Nat) (l : List Sect) : State :=
  (l.foldl (fun t x =>
    let t1 := { t with wmem := (List.range x.count).foldl (fun m i => Tab.set 0 m ((16 * f + x.type) * 32768 + x.first + i)
      (BitVec.ofNat 40 (t.gnum (x.data + 8 * i) 5))) t.wmem }
    if t.liveWeights f x then (t1.flag (pKernel f) 5).count (pKernel f) 7 1 else t1) s).wrF (pKernel f) 0x108 15 0 (s.gnum (a + 8) 2)

/-- Load a lookup image (R291). -/
def State.loadLut (s : State) (n a : Nat) (l : List Sect) : State :=
  (l.foldl (fun t x =>
    { t with sorus := { t.sorus with lut := (List.range x.count).foldl (fun m i => Tab.set 0 m (x.first + i)
      (BitVec.ofNat 32 (t.gnum (x.data + 4 * i) 4))) t.sorus.lut } }) s).wrF (pSlot n) 0x130 15 0 (s.gnum (a + 8) 2)

/-- Twelve words of a measurement log as bytes, and back (R484). -/
def State.logBytes (s : State) (p : Pg) (off : Nat) : List Byte :=
  (List.range 12).flatMap (fun j => leBytes 4 (s.rd p (off + 4 * j)).toNat)

/-- Set a measurement log. -/
def State.setLog (s : State) (p : Pg) (off : Nat) (b : List Byte) : State :=
  (List.range 12).foldl (fun t j => t.wr p (off + 4 * j) (BitVec.ofNat 32 (leNat ((b.drop (4 * j)).take 4)))) s

/-- An image that passed check 3 extends its owner's measurement log (R484). -/
def State.extendLog (s : State) (own : Nat) (digest : List Byte) : State :=
  let p := if own < 16 then pTuft own else pSec
  let off := if own < 16 then 0x1A0 else 0x140
  s.setLog p off (Config.sha384 (s.logBytes p off ++ digest))

/-- An image passes check 3: it is loaded and measured. -/
def State.loadImage (s : State) (own : Nat) (p : Pg) (a : Nat) : State :=
  let l := (s.sectsOf p a).getD []
  let d := s.gbytes (a + s.sigOff p a + 8) 48
  (match p.kind with
    | .crozier => s.loadCs p.i a
    | .waveform => s.loadLib p.i a l
    | .kernel => s.loadKimg p.i a l
    | _ => s.loadLut p.i a l).extendLog own d

/-- An image fails its signature checks (R483). -/
def State.sigFail (s : State) : State := (s.flag pSec 1).count pSec 0 1

end Sys2Proof.Machine
end

