-- ==== Sys2Proof/Machine/Validate.lean ====
section
/-! DEFINITION. Validate: the validation of an armed group, and its way to its decision (04_commit_groups.md R105, R111 to R119,
R124; 18_tufts_and_security.md R471, R495; 06_waveform_store.md R188; 11_acquisition_queues.md R312). -/
namespace Sys2Proof.Machine

/-- The owner of a granule, and whether it is under scrub (18_tufts_and_security.md Table 18.13). -/
def State.granOwner (s : State) (n : Nat) : Nat := s.rdF pGranule (0x100 + 4 * (n / 4)) (8 * (n % 4) + 4) (8 * (n % 4))
def State.granScrub (s : State) (n : Nat) : Bool := s.rdB pGranule (0x100 + 4 * (n / 4)) (8 * (n % 4) + 7)

/-- Granules fitted: 256 MiB each (R495; 14_serial_links.md R392). -/
def State.granules (s : State) : Nat := 4 * s.rdF pMemctl 0x104 5 0

/-- The granules a span of GDDR7 meets. -/
def granSpan (a n : Nat) : List Nat := (List.range ((a + n - 1) / 2 ^ 28 + 1 - a / 2 ^ 28)).map (fun i => a / 2 ^ 28 + i)

/-- A span lies in granules of an owner, none under scrub; s0 holds the scrub bits. -/
def State.spanOwned (s s0 : State) (a n own : Nat) : Bool :=
  (granSpan a n).all (fun k => decide (k < 128) && s.granOwner k == own && !s0.granScrub k)

/-- An owner value names the warden or a tuft that exists in a configuration (R471). -/
def State.ownerOk (s : State) (v : Nat) : Bool := v == 0x1F || (decide (v < 16) && s.tuftEn v)

/-- The assignable pages (03_register_pages.md R79). -/
def assignable : List Pg :=
  (List.range 32).map pCrozier ++ (List.range 63).map pCgrp ++ (List.range 64).map pQueue ++ (List.range 16).map pAcq
    ++ (List.range 64).map pSlot ++ (List.range 16).map pHchan ++ (List.range 16).map pHcell ++ (List.range 16).map pCnt

/-- Every owner field of a configuration names the warden or an existing tuft (R471, R495). -/
def State.ownersOk (s : State) : Bool :=
  assignable.all (fun p => s.ownerOk (s.owner p))
    && (List.range 16).all (fun b => s.ownerOk (s.rdF pSorus (0x104 + 4 * b) 4 0))
    && (List.range 128).all (fun k => s.ownerOk (s.granOwner k) && (decide (k < s.granules) || s.granOwner k == 0x1F))
    && (List.range 16).all (fun t => s.hostDma t == 0 || s.tuftEn t)

/-- No two existing tufts name one virtual function (R471). -/
def State.funcsOk (s : State) : Bool :=
  let fs := ((List.range 16).filter s.tuftEn).map (fun t => s.rdF (pTuft t) 0x100 4 0)
  (fs.filter (fun f => f != 0)).all (fun f => (fs.filter (fun g => g == f)).length == 1)

/-- Every enabled ring lies where R188 says, in configuration s; s0 holds the scrub bits. -/
def State.ringsOk (s s0 : State) : Bool :=
  (List.range 32).all (fun f => (List.range 8).all (fun r =>
    let size := 65536 * 2 ^ min 14 (s.rdF (pWaveform f) (ringReg r 2) 27 24)
    let base := s.rd64 (pWaveform f) (ringReg r 0)
    !s.rdB (pWaveform f) (ringReg r 2) 31 || (base % size == 0 && s.spanOwned s0 base size (s.frondOwner f))))

/-- Every enabled context's capture ring lies in its owner's granules (R312). -/
def State.capturesOk (s s0 : State) : Bool :=
  (List.range 16).all (fun c => !s.rdB (pAcq c) 0x104 0
    || s.spanOwned s0 (s.rd64 (pAcq c) 0x130) (ringBytes (s.rdF (pAcq c) 0x138 27 24)) (s.owner (pAcq c)))

/-- The group's own writes that R471 forbids: EN = 1 in a wrong lifecycle state, or an owner change of a frond beside other
pages of the frond. -/
def State.writesOk (s : State) (g : Nat) : Bool :=
  let st := s.rdF pSec 0x100 1 0
  (s.grp g).bound.all (fun p => match p.kind with
    | .tuft => !(s.wrote p 0x100 && bit (s.shadowView (p.reg 0x100)) 31)
        || !(st == 0 || st == 3 || (st == 2 && s.rdB pDebug 0x10 16))
    | .crozier => !s.wrote p 0x08 || (followPages p.i).all (fun q => match s.boundTo q with
        | some h => h == 63 && g != 63
        | none => true)
    | _ => true)

/-- The lookup blocks an image writes belong to the owner of its SLOT page (R291). -/
def State.lutOk (s full : State) (p : Pg) (a : Nat) : Bool :=
  p.kind != .slot || ((s.sectsOf p a).getD []).all (fun x => x.count == 0
    || ((List.range ((x.first + x.count - 1) / 4096 + 1 - x.first / 4096)).all (fun i =>
      let b := x.first / 4096 + i
      decide (15 < b) || full.rdF pSorus (0x104 + 4 * b) 4 0 == full.owner p)))

/-- Check 2 of Table 4.2 for group g. -/
def State.ownershipOk (s : State) (g : Nat) : Bool :=
  let own := s.owner (pCgrp g)
  let full := s.overlay g
  (s.grp g).bound.all (fun p => own == 0x1F || (s.owner p == own && !s.rdB p 0x08 31))
    && full.ownersOk && full.funcsOk && full.ringsOk s && full.capturesOk s && s.writesOk g
    && (s.imageRefs g).all (fun r => r.2 % 256 == 0 && s.spanOwned s r.2 1 own && s.lutOk full r.1 r.2)

/-- Check 3: the images in turn, each loaded and measured once it passes (R484, R516); whether all passed. -/
def State.checkImages (own : Nat) : List (Pg × Nat) → State → State × Bool
  | [], s => (s, true)
  | r :: t, s => if s.imageOk r.1 r.2 own then State.checkImages own t (s.loadImage own r.1 r.2) else (s.sigFail, false)

/-- Check 3 where a GDDR7 error persisted in the reading of image k: it fails at that image (14_serial_links.md R392). -/
def State.checkRead (own : Nat) (imgs : List (Pg × Nat)) (k : Option Nat) (s : State) : State × Bool :=
  match k with
  | none => State.checkImages own imgs s
  | some n =>
    let q := State.checkImages own (imgs.take n) s
    if q.2 && decide (n < imgs.length) then (q.1.sigFail, false) else q

/-- A page of a frond under scrub is bound to the group: its checks have not begun (R474). -/
def State.scrubWait (s : State) (g : Nat) : Bool :=
  (s.grp g).bound.any (fun p => match p.ofFrond with | some f => s.rdB pSec 0x11C f | none => false)

/-- Checks 3 to 5, after 1 and 2 passed. -/
def State.checksLate (s : State) (g : Nat) : State :=
  let own := s.owner (pCgrp g)
  let imgs := s.imageRefs g
  let r := State.checkRead own imgs (s.grp g).badRead s
  if !r.2 then r.1.abortGrp g 0x03
  else
    let s1 := r.1.showClaims g
    if bandwidthBad (s1.overlayOwn g) (s1.overlay g) (s1.rdF pCommit 0x110 15 0) own (!imgs.isEmpty) then s1.abortGrp g 0x04
    else if (s1.overlay g).evtLoop then s1.abortGrp g 0x05
    else (s1.setGrpState g 3).setGrp g { s1.grp g with ready := some (s1.beat + 4) }

/-- VALIDATION_COMPLETE (R111, R112). -/
def State.validate (s : State) (g : Nat) : State :=
  if s.rdF (pCgrp g) 0x104 2 0 ≠ 2 ∨ s.scrubWait g then s
  else if s.rdB (pCgrp g) 0x104 4 then s.abortGrp g 0x01
  else if !s.ownershipOk g then s.abortGrp g 0x02
  else s.checksLate g

/-- No participating frond of a tuft is inside a shot at beat r; a shot whose start lies after r is not running (R124, R155, R158). -/
def State.betweenShots (s : State) (t r : Nat) : Bool :=
  (List.range 32).all (fun f => s.frondOwner f != t || !s.active f || (s.shotAt f r).isNone)

/-- The commit would change the OWNER of a CGRP page whose group is not IDLE (R105). -/
def State.ownerBusy (s : State) (g : Nat) : Bool :=
  (s.grp g).bound.any (fun p => p.kind == .cgrp && s.wrote p 0x08 && s.shadowView (p.reg 0x08) != s.rd p 0x08
    && s.rdF p 0x104 2 0 != 0)

/-- A shot boundary of tuft t at beat b commits the SHOT groups that wait for one (R116, R124). -/
def State.boundary (s : State) (t num b : Nat) : State :=
  let s1 := { s with bounds := Tab.put s.bounds t (num, b) }
  (List.range 64).foldl (fun a g =>
    let x := a.grp g
    let late := match x.ready with | some r => decide (b + 12 < r) | none => true
    if a.rdF (pCgrp g) 0x104 2 0 = 3 ∧ a.grpKind g = 0 ∧ a.rdF (pCgrp g) 0x108 12 8 = t ∧ x.isReady ∧ x.dec = none ∧ !late then a.fixBeats g (b + 14) (b + 48) else a) s1

/-- No frond of a tuft has a shot that runs or is still to come. -/
def State.tuftDone (s : State) (t : Nat) : Bool :=
  (List.range 32).all (fun f => s.frondOwner f != t || (s.crz f).shots.all (fun h => h.ended.isSome))

/-- A shot-end record that is still on its way to the commit engine (R124). -/
def State.onWay (s : State) (q : BusRec) : Bool := q.shotEnd && decide (s.beat ≤ q.beat + 12) && !q.sent.contains 32

/-- A frond has a shot-end record of tuft t on its way. -/
def State.endWaits (s : State) (f t : Nat) : Bool := s.bus.any (fun q => q.frond == f && q.tuft == t && s.onWay q)

/-- The commit engine has not yet seen a shot of frond f end. -/
def State.endUnseen (s : State) (f : Nat) (h : Shot) : Bool :=
  match h.ended with
  | some e => s.bus.any (fun q => q.frond == f && q.beat == e && s.onWay q)
  | none => true

/-- The number up to which the commit engine has seen every shot of a frond end since its latest start; 0 where none (R158). -/
def State.endedTo (s : State) (f : Nat) : Nat :=
  let c := s.crz f
  let g := s.rdF (pCrozier f) 0x10 31 24
  if c.lastGen = g then (c.shots.filter (fun h => h.starts == g && s.endUnseen f h)).foldl (fun m h => min m (h.num - 1)) c.lastEnd else 0

/-- A shot-end record reaches the commit engine: the boundary of a shot is the latest end among the fronds that were in the
set during it: those that take part still, those whose record is on its way, and those that stopped with a SHOT_END in their queue. A
record of a new start of its frond counts the shots anew. Out of RUN, or on the way to READY, the end of the last running shot is a
boundary whatever the shot counts (R124; 05_crozier_sequencer.md R158). -/
def State.shotEndSeen (s : State) (r : BusRec) : State :=
  let f := r.frond
  let c := s.crz f
  let old := Tab.get (0, 0) s.bounds r.tuft
  let fresh := r.shotNum ≠ 0 ∧ r.gen ≠ c.lastGen
  let s1 := if r.shotNum = 0 then s
    else s.setCrz f { c with lastEnd := if r.gen = c.lastGen then max c.lastEnd r.shotNum else r.shotNum, lastGen := r.gen }
  let s2 := if fresh then { s1 with bounds := Tab.put s1.bounds r.tuft (0, old.2) } else s1
  let parts := (List.range 32).filter (fun h => s2.frondOwner h == r.tuft
    && (s2.active h || s2.endWaits h r.tuft || (s2.crz h).shots.any (fun x => x.ended.isNone)))
  let m := match parts with | [] => r.shotNum | h :: l => l.foldl (fun a x => min a (s2.endedTo x)) (s2.endedTo h)
  let n := (Tab.get (0, 0) s2.bounds r.tuft).1
  if m ≠ 0 ∧ n < m then s2.boundary r.tuft m r.beat
  else if (s2.mode ≠ 3 ∨ s2.boot.target = some 2) ∧ r.shotNum ≠ 0 ∧ s2.tuftDone r.tuft ∧ !(List.range 32).any (fun h => s2.endWaits h r.tuft) then
    s2.boundary r.tuft (max n r.shotNum) r.beat
  else s2

/-- The latest boundary of tuft t once the records of beats from b on that are on their way have been seen: 0 where there was none (R124). -/
def State.lastBound (s : State) (t b : Nat) : Nat :=
  let due := s.bus.filter (fun r => r.tuft == t && decide (b ≤ r.beat) && s.onWay r)
  (Tab.get (0, 0) (due.foldl (fun a r =>
    State.shotEndSeen { a with bus := a.bus.map (fun y => if y.frond = r.frond ∧ y.beat = r.beat then { y with sent := 32 :: y.sent } else y) } r)
    s).bounds t).2

/-- A SHOT group at R, between shots: D and A follow R, unless the stretch factor holds Croziers of the tuft, and the commit waits with
them (R124; 17_thermal_and_counters.md R463). One whose boundary has come lands 48 beats behind it whatever the factor is (R116; DESIGN
CHOICE, log entry 44). -/
def State.readyIdle (s : State) (g t r : Nat) : State :=
  if 2048 ≤ s.stretch ∧ (List.range 32).any (fun f => s.frondOwner f == t && s.active f) then s.setGrp g { s.grp g with stretch := true }
  else s.fixBeats g (r + 2) (r + 36)

/-- A SHOT group at R (R116, R124): the latest boundary from R − 12 on commits it; where none is on its way and the tuft is between shots,
it does not wait. -/
def State.readyShot (s : State) (g r : Nat) : State :=
  let t := s.rdF (pCgrp g) 0x108 12 8
  let last := (Tab.get (0, 0) s.bounds t).2
  if r ≤ last + 12 ∧ last ≠ 0 then s.fixBeats g (last + 14) (last + 48)
  else if s.betweenShots t r ∧ s.lastBound t (r - 12) + 12 < r then s.readyIdle g t r
  else s

/-- READY_BEAT (R105, R111, R116, R117, R124). -/
def State.readyBeat (s : State) (g : Nat) : State :=
  let x := s.grp g
  match x.ready with
  | some r =>
    if s.rdF (pCgrp g) 0x104 2 0 ≠ 3 ∨ x.isReady ∨ s.beat < r then s
    else if s.ownerBusy g then s.abortGrp g 0x02
    else
      let s1 := s.setGrp g { x with isReady := true }
      match s.grpKind g with
      | 0 => s1.readyShot g r
      | 1 => if s.grpWhen g < r + 34 then s1.abortGrp g 0x06 else s1.fixBeats g (s.grpWhen g - 34) (s.grpWhen g)
      | 2 => s1
      | _ => if s.grpWhen g < r + 34 then s1.abortGrp g 0x06 else s1
  | none => s

/-- A sync operation of frond f with issue beat i reaches the commit engine and names group g (R118). An acting one that comes once S is
fixed changes nothing and counts in LCNT[3] with the ignored ones (DESIGN CHOICE, log entry 44). -/
def State.syncSeen (s : State) (f i g : Nat) : State :=
  let st := s.rdF (pCgrp g) 0x104 2 0
  let x := s.grp g
  if st < 2 ∨ s.grpKind g ≠ 2 ∨ s.rdF (pCgrp g) 0x108 20 16 ≠ f ∨ x.synced then s.count (pCgrp g) 3 1
  else match x.ready with
    | some r => if i < r then s.abortGrp g 0x06 else (s.setGrp g { x with synced := true }).fixBeats g (i + 14) (i + 48)
    | none => s.abortGrp g 0x06

/-- EXPIRED (R119). -/
def State.expire (s : State) (g : Nat) : State :=
  let dl := s.absBeat (s.rd64 (pCgrp g) 0x114)
  let st := s.rdF (pCgrp g) 0x104 2 0
  let gone := match (s.grp g).dec with | some d => decide (d ≤ dl) | none => false
  if (s.grpKind g = 0 ∨ s.grpKind g = 2) ∧ s.rd64 (pCgrp g) 0x114 ≠ 0 ∧ dl ≤ s.beat ∧ (st = 2 ∨ st = 3) ∧ !gone ∧ s.grpSt g ≠ 4 then s.abortGrp g 0x07
  else s

end Sys2Proof.Machine
end

