-- ==== Sys2Proof/Machine/Apply.lean ====
section
/-! DEFINITION. Apply: the apply beat of a commit group: pages swap, resources change owner, and every engine takes up its
configuration (04_commit_groups.md R121, R122; 03_register_pages.md R82, R83, R87; 18_tufts_and_security.md R470, R473 to R477;
05_crozier_sequencer.md R160, R161, R166 to R168; 06_waveform_store.md R185, R197; 10_sorus_feedback.md R287;
15_calibration.md R415 to R419). Every operation here takes A as an argument; s0 is the state before the commit. -/
namespace Sys2Proof.Machine

/-- Those of some pages whose OWNER the shadow writes change. -/
def State.moved (s : State) (ps : List Pg) : List Pg :=
  ps.filter (fun p => p.ownKind == .assignable && s.wrote p 0x08 && fld (s.shadowView (p.reg 0x08)) 4 0 != s.owner p)

/-- Entries of a table outside [lo, lo + n). -/
def Tab.cut {α : Type} (t : Tab α) (lo n : Nat) : Tab α :=
  t.filter (fun (e : Nat × α) => !(decide (lo ≤ e.1) && decide (e.1 < lo + n)))

/-- Rules with a decision in flight whose destination is frond f are abandoned, and what is on its way to the frond's port is
dropped (R474). -/
def State.abandonTo (s : State) (f : Nat) : State :=
  let s1 := (allRules.filter (fun x => (s.flight x.1 x.2).isSome && s.ruleDF x.1 x.2 == f)).foldl (fun a x => a.abandon x.1 x.2) s
  s1.mapSorus (fun o => { o with
                              notices := o.notices.filter (fun x => x.frond != f), resols := o.resols.filter (fun x => x.frond != f) })

/-- Every slot of a frond becomes EMPTY in both views (R287, R474). -/
def State.emptySlots (s : State) (f : Nat) : State :=
  (List.range 16).foldl (fun a k => a.setSlot f k { (a.slot f k).to a.beat 0 0 0 0 with post := 0, due := 0, pdone := false }) s

/-- A frond leaves its owner, before any register changes (R474): halted, its queue discarded, its status items written under
the old owner, its players idle, its flux chains at rest, the captures of its old owner without it, its slots EMPTY and its frames clear; its windows keep the
marks of their shots (09_readout_kernels.md R266). -/
def State.frondLeaves (s : State) (f : Nat) : State :=
  let s0 := s.crzDrop f
  let marks := fun (h : Shot) => tagOr h.tags (if s0.clrIn (h.start + 24) (min (h.ended.getD s0.beat + 24) s0.beat) then 1 else 0)
  let s1 := s0.setFe f { s0.fe f with wins := (s0.fe f).wins.map (fun w =>
    match (s0.crz f).shots.find? (fun h => h.uid == w.shot) with
    | some h => { w with kept := marks h }
    | none => w) }
  let s2 := (s1.crz f).shots.foldl (fun a h => a.writeStatus f h) s1
  let s3 := s2.idlePlayers f
  let s4 := { s3 with chains := Tab.cut s3.chains (8 * f) 8 }.acqForeign f
  ((s4.abandonTo f).emptySlots f).clearFrames f 0xFFFF

/-- A queue leaves its owner: flushed, waiting reads end empty, and its latches, timer and sequence restart (R474 of a queue:
18_tufts_and_security.md Table 18.1; 11_acquisition_queues.md R321). -/
def State.queueLeaves (s : State) (q : Nat) : State :=
  let s1 := (s.queue q).waits.foldl (fun a (x : Path × Nat) => a.emptyHead q x.1) (s.flushQ q true)
  s1.setQ q { s1.queue q with latch := [], waits := [], timer := none, seq := 0 }

/-- Rule r of SLOT[n] is abandoned and the slots it writes become EMPTY (R287). -/
def State.ruleLeaves (s : State) (n r : Nat) : State :=
  let key := 16 * n + r
  let s1 := (s.abandon n r).mapSorus (fun o => { o with
    notices := o.notices.filter (fun x => x.rule != key), resols := o.resols.filter (fun x => x.rule != key) })
  (if s.ruleOn n r && s.ruleLocal n r && s.writerOf (s.ruleDF n r) (s.ruleDS n r) == some (n, r) then
    s1.setSlot (s.ruleDF n r) (s.ruleDS n r)
      { (s1.slot (s.ruleDF n r) (s.ruleDS n r)).to s1.beat 0 0 0 0 with post := 0, due := 0, pdone := false, lock := false }
  else s1)

/-- A resource leaves its owner, before any register changes. -/
def State.leaves (s : State) (p : Pg) : State :=
  match p.kind with
  | .crozier => s.frondLeaves p.i
  | .queue => s.queueLeaves p.i
  | .slot => (List.range 16).foldl (fun a r => a.ruleLeaves p.i r) s
  | _ => s

/-- The header of a page whose owner changed is cleared, and its latches (R83). -/
def State.clearHead (s : State) (p : Pg) : State :=
  let s1 := ((((s.wr p 0x14 0).wr p 0x18 0).wr p 0x20 0).wr p 0x24 0).resetRange p 0x0C 0x10
  let s2 := s1.resetRange p 0x40 0x100
  let keep := fun (k : Nat) => !(decide (p.base ≤ k % 2 ^ 25) && decide (k % 2 ^ 25 < p.base + 0x1000))
  { s2 with hiLatch := s2.hiLatch.filter (fun (e : Nat × Word) => keep e.1), loStage := s2.loStage.filter (fun (e : Nat × Option Word) => keep e.1) }

/-- The fields of a page at 0x100 to 0x7FF return to reset, but for those the group wrote and CLEAR_CODE (R473, R474). -/
def State.clearBlock (s0 s : State) (p : Pg) : State :=
  { s with regs := s.regs.filter (fun (e : Nat × Word) =>
      !(decide (p.reg 0x100 ≤ e.1) && decide (e.1 < p.reg 0x800)) || (Tab.find? s0.shadow e.1).isSome || isClearCode p (e.1 - p.base)) }

/-- Group 63 holds writes for a frond and has not reached its decision beat: it aborts with SW (15_calibration.md R417). -/
def State.owner63 (s : State) (f : Nat) : State :=
  if s.boundTo (pCalf f) = some 63 ∧ s.grpSt 63 ≠ 0 ∧ s.grpSt 63 ≠ 4 then s.abortGrp 63 0x08 else s

/-- Registers of a page whose committed value acts at the balls 24 beats after A, not in the engine at A: FS_ATTEN, CLEAR_CODE, the rest
level of an idle flux output, and the raw tap's words (07_drive_outputs.md Table 7.7; 08_readout_front_end.md R248). -/
def PageKind.ballRegs : PageKind → List Nat
  | .xy | .probe => [0x100, 0x108]
  | .flux => [0x108, 0x10C]
  | .readout => [0x120, 0x124, 0x128]
  | _ => []

/-- The values before a commit at A stay at the balls up to ball beat A + 23. -/
def State.ballApply (s0 s : State) (a : Nat) (p : Pg) : State :=
  p.kind.ballRegs.foldl (fun t o => if s0.rd p o = s.rd p o then t else t.keepBall (a + 24) (p.reg o) (s0.rd p o)) s

/-- A frond comes to its new owner (R474): pages reset, the Crozier IDLE, bias channels CLEARED, memories zero, the frond under
scrub. -/
def State.frondArrives (s0 s : State) (f a : Nat) : State :=
  let own := s.frondOwner f
  let s1 := (followPages f).foldl (fun t p => (t.clearHead p).wrF p 0x08 4 0 own) (s.clearHead (pCrozier f))
  let s2 := (pCrozier f :: (followPages f).filter (fun p => p.kind != .calf)).foldl (fun t p => State.clearBlock s0 t p) s1
  let c := s2.crz f
  let s3 := ((s2.wr (pCrozier f) 0x10 0).setCrz f { nextUid := c.nextUid, nextSeq := c.nextSeq, frClr := c.frClr, forced := c.forced, forcedTo := c.forcedTo }).biasClear f
  let s4 := (List.range 8).foldl (fun t r => t.setRing f r {}) s3
  let s5 := { s4 with
              cs := Tab.cut s4.cs (f * 16384) 16384, descs := Tab.cut s4.descs (f * 8192) 8192,
              lists := Tab.cut s4.lists (f * 32768) 32768, sram := Tab.cut s4.sram (f * 0x100000) 0x100000,
              wmem := Tab.cut s4.wmem (16 * f * 32768) (16 * 32768) }
  let s6 := s5.feCommit f a (s0.rd (pReadout f) 0x100)
  let s7 := (List.range 16).foldl (fun t k => if s0.demodReg f k = t.demodReg f k then t else t.toneCommit f k a) s6
  let s8 := (followPages f).foldl (fun t p => State.ballApply s0 t a p) s7
  (s8.wrB pSec 0x11C f true).owner63 f

/-- A resource comes to its new owner. -/
def State.arrives (s0 s : State) (p : Pg) (a : Nat) : State :=
  match p.kind with
  | .crozier => State.frondArrives s0 s p.i a
  | k =>
    let s1 := State.clearBlock s0 (s.clearHead p) p
    match k with
    | .acq => s1.setAcq p.i {}
    | .queue => s1.setQ p.i { s1.queue p.i with mark := none }
    | .hcell => (List.range 16).foldl (fun t j => t.cellReset (16 * p.i + j) a) s1
    | .hchan => s1.mapHypha (fun h => { h with
                  binds := h.binds.filter (fun x => x.1 / 64 != p.i || decide (0x100 ≤ x.2)),
                  taps := h.taps.filter (fun x => x.1 / 64 != p.i || decide (0x100 ≤ x.2)), events := h.events.filter (fun e =>
                    !(decide (1024 ≤ e.2) && (e.2 - 1024) % 1024 / 64 == p.i)) })
    | _ => s1

/-- A Crozier starts at A (R160). -/
def State.crzStart (s : State) (f a : Nat) : State :=
  let p := pCrozier f
  let q := ((s.crz f).queue.map (fun b => b.issue)).foldl max 0
  let s1 := (List.range 8).foldl (fun t k => t.setLc f k 0) (s.setStack f [])
  let s2 := (((s1.wrB p 0x10 23 false).wrB p 0x14 0 false).wr p 0x118 0).wr p 0x12C 0
  let s3 := (s2.wrF p 0x10 31 24 (s2.rdF p 0x10 31 24 + 1)).wrB p 0x10 22 (s2.rdB p 0x148 16)
  let s4 := ((s3.setTc f (max (a + 3) q)).setPc f (s3.rdF p 0x100 28 16)).setCrzState f 1
  let c := s4.crz f
  s4.setCrz f { c with inShot := false, sPrev := none, lPrev := 0, ready := a, waited := false, hwaited := false, forced := false, forcedTo := if c.forced then a + 24 else c.forcedTo }

/-- A commit applies RUN_CTRL (R160, R161). -/
def State.runCtrl (s : State) (f a : Nat) : State :=
  if s.rdB (pCrozier f) 0x100 0 then (if s.active f then s else s.crzStart f a)
  else if s.active f && (s.crzState f == 2 || !(s.crz f).inShot) then (s.unpause f).setCrzState f 0
  else s

/-- CS_LOADED and LIB_LOADED keep naming the inactive bank's image in [31:16] as SEL changes (Tables 5.33, 6.13). -/
def State.swapTags (s : State) (p : Pg) (off : Nat) : State :=
  let w := s.rd p off
  s.wr p off (BitVec.ofNat 32 (w.toNat % 65536 * 65536 + w.toNat / 65536))

/-- A commit to a CROZIER page (R160, R161, R166, R168). -/
def State.crozierApply (s0 s : State) (f a : Nat) : State :=
  let p := pCrozier f
  let ps := (List.range 64).filter (fun k => s0.wrote p (0x200 + 4 * k))
  let m := ps.foldl (fun m k => mset m k) 0
  let lost := match (s.crz f).aluAt with
    | some (b, k) => b == a && tst m k
    | none => false
  let s0' := if lost then (s.count p 9 1).flag p 6 else s
  let s1 := if ps.isEmpty then s0' else s0'.setCrz f { s0'.crz f with parBeat := a, parMask := m }
  let s2 := if s0.wrote p 0x148 && s0.rdB p 0x148 16 != s1.rdB p 0x148 16 then s1.swapTags p 0x154 else s1
  if s0.wrote p 0x100 then s2.runCtrl f a else s2

/-- A commit that changes BASE, SIZE or EN of a ring (R197): WR and RD restart, staging is empty, and the pass that consumes the
ring underruns from its next sample. A change of STAGE.BASE or BLOCKS moves the staging area at A and resets nothing (DESIGN CHOICE, log entry 44:
R197 names BASE, SIZE and EN alone). -/
def State.ringApply (s0 s : State) (f r a : Nat) : State :=
  let p := pWaveform f
  let ch := fun (w : Nat) => s0.rd p (ringReg r w) != s.rd p (ringReg r w)
  let on0 := s0.rdB p (ringReg r 2) 31
  let on1 := s.rdB p (ringReg r 2) 31
  let fresh := ch 0 || ch 1 || s0.rdF p (ringReg r 2) 27 24 != s.rdF p (ringReg r 2) 27 24 || (!on0 && on1)
  let stop := on0 && !on1
  if !fresh && !stop then s
  else
    let cut := match (s.ring f r).consumer with
      | some c =>
        let x := s.player f c
        if x.playing && x.ring == some r && !x.under then
          let i := x.taken a
          if descNsamp x.desc ≤ i then s
          else
            let k := x.k0 + i * descSpan x.desc
            let s1 := ((((s.setPlayer f c { x with under := true, underK := k }).flag p 0).count p 3 1).count p (8 + r) 1).wrB p (ringReg r 7) 28 fresh
            (match s1.shotAt f (k / 32) with | some h => s1.markShot f h.uid 0x21 | none => s1)
        else s
      | none => s
    if fresh then
      let left := match (cut.ring f r).consumer with
        | some c =>
          let x := cut.player f c
          (descNsamp x.desc - x.taken a) * descBytes x.desc
        | none => 0
      (((cut.wr p (ringReg r 5) 0).wr p (ringReg r 6) 0).ringLevels f r (cut.ringFill f r)).setRing f r { cut.ring f r with next := left, bad := [] }
    else cut

/-- A commit to a WAVEFORM page (R185, R197). -/
def State.waveformApply (s0 s : State) (f a : Nat) : State :=
  let p := pWaveform f
  let s1 := if s0.rdB p 0x100 0 != s.rdB p 0x100 0 then s.swapTags p 0x10C else s
  (List.range 8).foldl (fun t r => State.ringApply s0 t f r a) s1

/-- A commit to a READOUT page (08_readout_front_end.md R237 to R239, R246). -/
def State.readoutApply (s0 s : State) (f a : Nat) : State :=
  let s1 := s.feCommit f a (s0.rd (pReadout f) 0x100)
  (List.range 16).foldl (fun t k => if s0.demodReg f k = t.demodReg f k then t else t.toneCommit f k a) s1

/-- Whether a commit changes any field of a rule (R287). -/
def State.ruleChanged (s0 s : State) (n r : Nat) : Bool :=
  (List.range 8).any (fun w => s0.rd (pSlot n) (ruleReg r w) != s.rd (pSlot n) (ruleReg r w))

/-- A commit to a SLOT page (R287): flights were abandoned and the slots written before it emptied under the old configuration;
the slots written after it become EMPTY here. A parity unit it disables or takes away brings its input, invalid, to the decisions that
wait for it (R282). -/
def State.slotApply (s0 s : State) (n : Nat) : State :=
  ((List.range 16).foldl (fun t r => if State.ruleChanged s0 t n r then
    (if t.ruleOn n r && t.ruleLocal n r && t.writerOf (t.ruleDF n r) (t.ruleDS n r) == some (n, r) then
      t.setSlot (t.ruleDF n r) (t.ruleDS n r) { (t.slot (t.ruleDF n r) (t.ruleDS n r)).to t.beat 0 0 0 0 with post := 0, due := 0, pdone := false, lock := false }
    else t) else t) s).evaluateAll

/-- Rules that a group's writes to a SLOT page change are abandoned under the old configuration (R287). -/
def State.slotBefore (s : State) (n : Nat) : State :=
  (List.range 16).foldl (fun t r =>
    if (List.range 8).any (fun w => s.wrote (pSlot n) (ruleReg r w)
        && s.shadowView ((pSlot n).reg (ruleReg r w)) != s.rd (pSlot n) (ruleReg r w)) then t.ruleLeaves n r else t) s

/-- Lookup blocks whose owner a commit changes read 0 until an image writes them (18_tufts_and_security.md Table 18.1). -/
def State.sorusApply (s0 s : State) : State :=
  (List.range 16).foldl (fun t b =>
    if s0.rdF pSorus (0x104 + 4 * b) 4 0 = t.rdF pSorus (0x104 + 4 * b) 4 0 then t
    else t.mapSorus (fun o => { o with lut := Tab.cut o.lut (4096 * b) 4096 })) s

/-- Cells whose configuration a commit changes restart (12_hypha_events.md R333). -/
def State.hcellApply (s0 s : State) (n a : Nat) : State :=
  (List.range 16).foldl (fun t j =>
    if (List.range 3).any (fun w => s0.rd (pHcell n) (0x200 + 0x10 * j + 4 * w) != t.rd (pHcell n) (0x200 + 0x10 * j + 4 * w))
    then t.cellReset (16 * n + j) a else t) s

/-- Counters whose CFG a commit changes restart at 0 (17_thermal_and_counters.md R465). -/
def State.cntApply (s0 s : State) (n : Nat) : State :=
  (List.range 16).foldl (fun t i =>
    if s0.rd (pCnt n) (cntReg i 0) = t.rd (pCnt n) (cntReg i 0) then t else t.wr64 (pCnt n) (cntReg i 1) 0) s

/-- Number of granules of a tuft: those it owns and that are not under scrub (18_tufts_and_security.md R477, Table 18.11). -/
def State.granCount (s : State) (t : Nat) : Nat :=
  ((List.range 128).filter (fun k => s.granOwner k == t && !s.granScrub k)).length

/-- TUFT[t].STAT and FRONDS show what the tuft owns (Table 18.11). -/
def State.showTufts (s : State) : State :=
  (List.range 16).foldl (fun t k =>
    let m := (List.range 32).foldl (fun n f => if t.frondOwner f = k then mset n f else n) 0
    ((t.wr (pTuft k) 0x110 (BitVec.ofNat 32 m)).wrF (pTuft k) 0x10C 5 0 (popCount 32 m)).wrF (pTuft k) 0x10C 15 8 (min 255 (t.granCount k))) s

/-- A commit to a TUFT page (R470, R475, R484): a tuft that comes to exist has a key and an empty measurement log; one that
ceases to exist loses its key. -/
def State.tuftApply (s0 s : State) (t : Nat) : State :=
  let on := s.tuftEn t
  if s0.tuftEn t = on then s
  else
    let s1 := ((s.wrB (pTuft t) 0x10C 31 on).wrB (pTuft t) 0x10C 30 on).wrB pSec 0x114 t on
    if on then s1.resetRange (pTuft t) 0x1A0 0x1D0 else s1

/-- Granules whose owner a commit changes enter scrub, and read as zeros from then on (R477). -/
def State.granuleApply (s0 s : State) : State :=
  (List.range 128).foldl (fun t k =>
    if s0.granOwner k = t.granOwner k then t
    else
      let more := if t.granScrub k then 0 else 1
      let t1 := (t.wrB pGranule (0x100 + 4 * (k / 4)) (8 * (k % 4) + 7) true).wrF pGranule 0x180 7 0 (t.rdF pGranule 0x180 7 0 + more)
      { t1 with gddr := Tab.cut t1.gddr (k * 2 ^ 28) (2 ^ 28) }) s

/-- A CLEARED bias channel outputs CLEAR_CODE, a newly committed one too (16_housekeeping_analog.md R427). -/
def State.biasOut (s : State) (f k : Nat) : State :=
  if s.rdB (pBias f) (biasReg k 3) 31 then s.wrF (pBias f) (biasReg k 3) 19 0 (s.rdF (pBias f) (biasReg k 2) 19 0) else s

/-- BIAS CODEs a group wrote are staged (16_housekeeping_analog.md R426), after a new CLEAR_CODE reaches the channels it holds. -/
def State.biasApply (s0 s : State) (f : Nat) : State :=
  (List.range 4).foldl (fun t k =>
    let u := t.biasOut f k
    if s0.wrote (pBias f) (biasReg k 0) then u.biasStage f k else u) s

/-- The unit of a CALF trim register (Table 15.8). -/
def calUnit (off : Nat) : Nat :=
  if off < 0x210 then 0
  else if off < 0x220 then 1 + (off - 0x210) / 4
  else if off < 0x260 then 1 + (off - 0x220) / 0x10
  else if off < 0x2C0 then 1 + (off - 0x260) / 0x20
  else if off < 0x2E0 then 4 + (off - 0x2C0) / 4
  else 12

/-- A register of a CALF page that holds DAC trims, of which the engine keeps a set per band: DOFS, DGAIN, CELL, FOFS, FGTRIM (R416). -/
def trimReg (off : Nat) : Bool := (decide (0x210 ≤ off) && decide (off < 0x250)) || (decide (0x2C0 ≤ off) && decide (off < 0x2E0))

/-- A commit to a CALF page (R415, R418, R419): the units with changed fields wait to take effect and are recorded; src and
temp, where the calibration engine carries them. -/
def State.calfApply (s0 s : State) (f a : Nat) (info : Nat → Option (Nat × Nat)) : State :=
  let p := pCalf f
  let offs := ((List.range 0x6C).map (fun i => 0x140 + 4 * i)).filter (fun o => s0.rd p o != s.rd p o)
  let units := (offs.map calUnit).eraseDups
  let wait := offs.filter (fun o => decide (calUnit o < 12) && (rwcMask (p.reg o)).toNat != 0)
  let s1 := s.mapCal (fun c => { c with eff := wait.foldl (fun (t : Tab Word) o =>
    if (Tab.find? t (p.reg o)).isSome then t else Tab.put t (p.reg o) (s0.rd p o)) c.eff })
  let s2 := units.foldl (fun t u =>
    let r := 0x300 + 0x10 * u
    let w := if u < 12 then t.wrB p 0x10C u true else t
    let w1 := (w.wr p r (w.rd p r + 1)).wr64 p (r + 4) a
    match info u with
    | some (src, temp) => w1.wr p (r + 12) (BitVec.ofNat 32 (src * 2 ^ 30 + temp % 65536))
    | none => w1.wr p (r + 12) (BitVec.ofNat 32 (3 * 2 ^ 30 + t.rdF p (r + 12) 15 0))) s1
  if units.isEmpty then s2 else s2.flag p 0

/-- The unit of a CALHK trim register (Table 16.9). -/
def hkUnit (off : Nat) : Nat := if off < 0x140 then 0 else if off < 0x180 then 1 else 2

/-- A commit to the CALHK page (R424, R419): the units with changed fields are recorded. -/
def State.calhkApply (s0 s : State) (a : Nat) (info : Nat → Option (Nat × Nat)) : State :=
  let offs := ((List.range 0x40).map (fun i => 0x100 + 4 * i)).filter (fun o => s0.rd pCalhk o != s.rd pCalhk o)
  ((offs.map hkUnit).eraseDups).foldl (fun t u =>
    let r := 0x300 + 0x10 * u
    let w := (t.wr pCalhk r (t.rd pCalhk r + 1)).wr64 pCalhk (r + 4) a
    match info u with
    | some (src, temp) => w.wr pCalhk (r + 12) (BitVec.ofNat 32 (src * 2 ^ 30 + temp % 65536))
    | none => w.wr pCalhk (r + 12) (BitVec.ofNat 32 (3 * 2 ^ 30 + t.rdF pCalhk (r + 12) 15 0))) s

/-- Group 63 commits: the fields that no shadow copy holds (RESP and LGAIN, 16 bits each) take their values, and the band of the trims it
carries for a frond, which all belong to one set, is shown (R406, R416). -/
def State.commit63 (s : State) : State :=
  let s1 := s.cal.carry.foldl (fun t (e : Nat × CalVal) =>
    let a := e.1 / 32
    let lo := e.1 % 32
    if rwcMask a = 0 then t.wrA a (setFld (t.rdA a) (lo + 15) lo e.2.value) else t) s
  let trims := s.cal.carry.filter (fun (e : Nat × CalVal) =>
    decide (0xA02 ≤ e.1 / 32 / 0x1000) && decide (e.1 / 32 / 0x1000 < 0xA22) && trimReg (e.1 / 32 % 0x1000))
  trims.foldl (fun t (e : Nat × CalVal) => t.wrF (pCalf (e.1 / 32 / 0x1000 - 0xA02)) 0x10 27 26 e.2.band) s1

/-- The source of the latest estimate among values, and the temperature when it ended (R419). -/
def latestInfo (l : List (Nat × CalVal)) : Option (Nat × Nat) :=
  (l.foldl (fun (m : Option CalVal) e => match m with | some v => some (if v.at_ ≤ e.2.at_ then e.2 else v) | none => some e.2) none).map
    (fun v => (v.src, v.temp))

/-- What group 63 carries for a unit of a frond: source, and the temperature of its latest estimate. -/
def State.carryInfo (s : State) (f u : Nat) : Option (Nat × Nat) :=
  latestInfo (s.cal.carry.filter (fun (e : Nat × CalVal) => e.1 / 32 / 0x1000 == 0xA02 + f && calUnit (e.1 / 32 % 0x1000) == u))

/-- What group 63 carries for a unit of the housekeeping die. -/
def State.carryHk (s : State) (u : Nat) : Option (Nat × Nat) :=
  latestInfo (s.cal.carry.filter (fun (e : Nat × CalVal) => e.1 / 32 / 0x1000 == 0xA22 && hkUnit (e.1 / 32 % 0x1000) == u))

/-- A committed page's engine takes up its configuration; own: the page came to a new owner. -/
def State.pageApply (s0 s1 : State) (g a : Nat) (own : Bool) (p : Pg) : State :=
  let s := State.ballApply s0 s1 a p
  match p.kind with
  | .crozier => State.crozierApply s0 s p.i a
  | .waveform => State.waveformApply s0 s p.i a
  | .readout => State.readoutApply s0 s p.i a
  | .acq => s.acqCommit p.i a (if own then 0 else s0.rd p 0x104) (s0.wrote p 0x124 || s0.wrote p 0x128)
  | .queue => if s0.rdF p 0x110 20 16 != s.rdF p 0x110 20 16 && !own then s.flushQ p.i false else s
  | .slot => State.slotApply s0 s p.i
  | .sorus => State.sorusApply s0 s
  | .hcell => if own then s else State.hcellApply s0 s p.i a
  | .cnt => State.cntApply s0 s p.i
  | .tuft => State.tuftApply s0 s p.i
  | .granule => State.granuleApply s0 s
  | .bias => State.biasApply s0 s p.i
  | .calhk => State.calhkApply s0 s a (fun u => if g = 63 then s0.carryHk u else none)
  | .calf => State.calfApply s0 s p.i a (fun u => if g = 63 then s0.carryInfo p.i u else none)
  | _ => s

/-- The shadow entries of some pages. -/
def State.entriesOf (s : State) (ps : List Pg) : Tab Word :=
  s.shadow.filter (fun (e : Nat × Word) => ps.any (fun p => decide (p.base ≤ e.1) && decide (e.1 < p.base + 0x800)))

/-- The shadow writes of some pages become active (R121). -/
def State.swap (s : State) (ps : List Pg) : State :=
  (s.entriesOf ps).foldl (fun t (e : Nat × Word) => t.wrA e.1 (mergeRwc e.1 (t.rdA e.1) e.2)) s

/-- Pages that a group's commit frees, in beat A whatever their domain: their commit count goes up (R87, R122). -/
def State.freePages (s : State) (ps : List Pg) : State :=
  ps.foldl (fun t p =>
    let t1 := t.wrF p 0x2C 31 16 (t.rdF p 0x2C 31 16 + 1)
    { t1.bindPage p none with
      shadow := t1.shadow.filter (fun (e : Nat × Word) => !(decide (p.base ≤ e.1) && decide (e.1 < p.base + 0x800))) }) s

/-- Whether an apply changed any Hypha configuration: an RW-C field at 0x100 or above of an HCELL or HCHAN page
(12_hypha_events.md R343; log entry 37). -/
def State.hyphaChanged (s0 s : State) : Bool :=
  let mine := fun (k : Nat) => decide (0x401000 ≤ k) && decide (k < 0x421000) && decide (0x100 ≤ k % 0x1000) && decide (k % 0x1000 < 0x800)
  (s0.regs ++ s.regs).any (fun e => mine e.1 && ((s0.rdA e.1 ^^^ s.rdA e.1) &&& rwcMask e.1) != 0)

/-- How many whole beats after the start of A the first edge of a page's domain may lie: none in the beat domain and the fabric, whose
edge lies in A; 1 in the GDDR7 domain, 5 in the housekeeping domain (R121, Table 1.3; the domain of a page: DEDUCED, log entry 6). -/
def PageKind.lagMax : PageKind → Nat
  | .granule => 1
  | .bias | .calhk => 5
  | _ => 0

/-- The beat of the first edge of a page's domain at or after the start of beat A: one for all pages and groups of the domain (R121). Which
of the beats the bound allows, the spec leaves to the clocks' phases (Config.clockEdge; log entry 5). -/
def PageKind.edge (k : PageKind) (a : Nat) : Nat := a + Config.clockEdge k.lagMax a % (k.lagMax + 1)

/-- The pages with RW-C fields outside the beat domain (R121; 01_architecture.md Table 1.3; DEDUCED, log entry 6). -/
def PageKind.offBeat : PageKind → Bool
  | .granule | .bias | .calhk | .queue | .tuft | .cnt | .cgrp => true
  | _ => false

/-- Pages come to their new configuration: resources leave their owners, the shadow writes become active, and every engine takes up
what they hold (R121, R122). -/
def State.applyPages (s : State) (g a : Nat) (ps : List Pg) : State :=
  let mv := s.moved ps
  let s1 := mv.foldl (fun t p => t.leaves p) (ps.foldl (fun t p => if p.kind = .slot ∧ !mv.contains p then t.slotBefore p.i else t) s)
  let s2 := s1.swap ps
  let s3 := if g = 63 then s2.commit63 else s2
  let s4 := mv.foldl (fun t p => State.arrives s t p a) s3
  ps.foldl (fun t p => State.pageApply s t g a (mv.contains p) p) s4

/-- The pages of a commit that wait for their domain's beat count (01_architecture.md R34). -/
def State.waitPages (s : State) (ps : List Pg) : List Pg := if s.time.resync.isSome then ps.filter (fun p => p.kind.offBeat) else []

/-- Pages that waited for their domain's beat count swap (01_architecture.md R34): the commit's shadow entries stand in for those that
groups hold now. -/
def State.swapHeld (s : State) (h : HeldPages) : State :=
  { ({ s with shadow := h.entries }.applyPages h.g h.a h.pages) with shadow := s.shadow }

/-- The totals that follow what pages hold. -/
def State.showAll (s : State) : State := s.showTufts.reclaim.showResv

/-- The pages whose domain's first edge at or after A has come swap (R121). -/
def State.pagesDue (s : State) : State :=
  let now := fun (h : HeldPages) => match h.due with | some b => decide (b ≤ s.beat) | none => false
  if s.time.held.any now then
    ((s.time.held.filter now).foldl (fun t h => t.swapHeld h) (s.mapTime (fun t => { t with held := t.held.filter (fun h => !now h) }))).showAll
  else s

/-- BEAT_COUNT_SAMPLE: every domain learns the count of the latest beat whose BEAT[7:0] is 0 (R121). The first such sample after a relock
gives the domains their counts again, and the pages that waited swap (01_architecture.md R34). -/
def State.countSample (s : State) : State :=
  match s.time.resync with
  | some r =>
    if r ≤ s.beat / 256 * 256 then
      ((s.time.held.filter (fun h => h.due.isNone)).foldl (fun t h => t.swapHeld h)
        (s.mapTime (fun t => { t with resync := none, held := t.held.filter (fun h => h.due.isSome) }))).showAll.retap
    else s
  | none => s

/-- APPLY_BEAT at A (R115, R121, R122). -/
def State.applyGrp (s0 : State) (g a : Nat) : State :=
  let all := (s0.grp g).bound
  let late := s0.waitPages all
  let behind := all.filter (fun p => !late.contains p && decide (a < p.kind.edge a))
  let ps := all.filter (fun p => !late.contains p && !behind.contains p)
  let s4 := s0.applyPages g a ps
  let wait := fun (due : Option Nat) (l : List Pg) =>
    if l.isEmpty then [] else [({ g := g, a := a, due := due, pages := l, entries := s0.entriesOf l } : HeldPages)]
  let s5 := ((s4.mapTime (fun t => { t with
    held := t.held ++ wait none late ++ behind.flatMap (fun p => wait (some (p.kind.edge a)) [p]) })).freePages all).pagesDue
  let s6 := (if State.hyphaChanged s0 s5 then s5.count pHypha 0 1 else s5).retap.reloop.showTufts
  let s7 := ((s6.strobesOf 3 g).foldl (fun t n => t.strobe n a) s6).srcEvent a (0x0F4 + g)
  let s8 := (((s7.outcome g 1 0).wr64 (pCgrp g) 0x12C a).count (pCgrp g) 0 1).flag (pCgrp g) 0
  let s9 := s8.reclaim.showResv
  if g = 63 then (s9.count pCal 0 1).mapCal (fun c => { c with carry := [] }) else s9

end Sys2Proof.Machine
end

