-- ==== Sys2Proof/Machine/Power.lean ====
section
/-! DEFINITION. Power: the power sequencer, and what a slice loses with its digital domain (02_modes_power_boot.md R59, R61, R62). -/
namespace Sys2Proof.Machine

/-- Change the boot state. -/
def State.mapBoot (s : State) (g : Boot → Boot) : State := { s with boot := g s.boot }

/-- A slice whose digital domain goes off loses its fronds' registers and memories (DESIGN CHOICE, log entry 19). -/
def State.sliceOff (s : State) (k : Nat) : State :=
  let s1 := (List.range 8).foldl (fun a i =>
    let f := 8 * k + i
    let pages := [pCrozier f, pWaveform f, pXy f 0, pXy f 1, pProbe f, pReadout f, pKernel f] ++ (List.range 8).map (fun n => pFlux f n)
    pages.foldl (fun t p => t.resetRange p 0x100 0x800) ((a.crzDrop f).idlePlayers f)) s
  { s1 with
    croz := Tab.cut s1.croz (8 * k) 8, cs := Tab.cut s1.cs (131072 * k) 131072, players := Tab.cut s1.players (512 * k) 512,
    chains := Tab.cut s1.chains (64 * k) 64, rings := Tab.cut s1.rings (64 * k) 64, descs := Tab.cut s1.descs (65536 * k) 65536,
    lists := Tab.cut s1.lists (262144 * k) 262144, sram := Tab.cut s1.sram (8388608 * k) 8388608,
    fes := Tab.cut s1.fes (8 * k) 8, wmem := Tab.cut s1.wmem (4194304 * k) 4194304, slots := Tab.cut s1.slots (128 * k) 128 }

/-- The slice domains, in the order they switch on (R61). -/
def sliceDomsAll : List Nat := (List.range 4).flatMap sliceDoms

/-- Every switched domain, in the order boot switches them on (Table 2.3, R61). -/
def domOrder : List Nat := [9, 1, 2, 6, 3] ++ sliceDomsAll ++ [7, 8, 5, 4]

/-- A domain's switch opens or closes, and its power-good follows (R61); with the PHY of the Ethernet ports or of GDDR7 goes the lock of
its PLL (R66, Table 1.12). -/
def State.switchDom (s : State) (d : Nat) (on : Bool) : State :=
  let s1 := if !on && decide (10 ≤ d) && d % 4 == 2 && s.domOn d then s.sliceOff ((d - 10) / 4) else s
  let s2 := if !on && (d == 4 || d == 6) then s1.wrB pTimeline 0x108 (if d = 4 then 4 else 5) false else s1
  s2.wrB pPower 0x100 d on

/-- The switches whose beat has come are made, in order (R61). -/
def State.powerDue (s : State) : State :=
  let now := fun (x : Nat × Bool × Nat) => decide (x.2.2 ≤ s.beat)
  if s.boot.sw.any now then
    (s.boot.sw.filter now).foldl (fun a x => a.switchDom x.1 x.2.1) (s.mapBoot (fun b => { b with sw := b.sw.filter (fun x => !now x) }))
  else s

/-- The sequencer makes all its switches: no beat tells their times apart while the beat counter stands (log entry 45). -/
def State.powerFlush (s : State) : State :=
  s.boot.sw.foldl (fun a x => a.switchDom x.1 x.2.1) (s.mapBoot (fun b => { b with sw := [], swAt := none }))

/-- Whether a domain will be on when the sequencer has made its switches. -/
def State.domWill (s : State) (d : Nat) : Bool :=
  match (s.boot.sw.filter (fun x => x.1 == d)).getLast? with
  | some x => x.2.1
  | none => s.domOn d

/-- The sequencer is to switch domains on, or off, one at a time in the order given, each 50 µs behind the one before (R61); the first
at once where the sequencer rests (log entry 45). -/
def State.domains (s : State) (l : List Nat) (on : Bool) : State :=
  let ds := l.filter (fun d => s.domWill d != on)
  if ds.isEmpty then s
  else if !s.clockOn then ds.foldl (fun a d => a.switchDom d on) s.powerFlush
  else
    let first := match s.boot.swAt with | some b => max s.beat (b + 50000) | none => s.beat
    (s.mapBoot (fun b => { b with
      sw := b.sw ++ ds.zipIdx.map (fun x => (x.1, on, first + 50000 * x.2)), swAt := some (first + 50000 * (ds.length - 1)) })).powerDue

end Sys2Proof.Machine
end

