-- ==== Sys2Proof/Machine/Tick.lean ====
section
/-! DEFINITION. Tick: how device time passes: what happens by itself in a beat, and the event counters that count beats
(01_architecture.md R28, R34; 17_thermal_and_counters.md R464). -/
namespace Sys2Proof.Machine

/-- Beats from b to b + n − 1 in which a frond is inside a shot. -/
def State.shotBeats (s : State) (f b n : Nat) : Nat :=
  (s.crz f).shots.foldl (fun a h => a + ((match h.ended with | some e => min (b + n) (e + 1) | none => b + n) - max b h.start)) 0

/-- The next n beats in which the stretch factor is at least lo. -/
def State.stretchBeats (s : State) (lo n : Nat) : Nat :=
  let m := min n (s.therm.fAt - s.beat)
  (if lo ≤ s.therm.fOld then m else 0) + (if lo ≤ s.rdF pTherm 0x108 31 16 then n - m else 0)

/-- Of the next n beats, those that CLR_N forces are counted on the page of every drive output (07_drive_outputs.md R220). -/
def State.clrCount (s : State) (n : Nat) : State :=
  let k := s.clrBeats s.beat (s.beat + n)
  if k = 0 then s else outPages.foldl (fun a p => a.count p 2 k) s

/-- The beats in which a Crozier stalls or holds are counted as they pass (05_crozier_sequencer.md R170). -/
def State.pauseCount (s : State) (n : Nat) : State :=
  s.croz.foldl (fun a (e : Nat × Croz) => if e.2.paused = 0 then a else a.count (pCrozier e.1) (min 7 e.2.paused) n) s

/-- n beats from the current one on are counted where they are forced, and reach the event counters that count beats
(17_thermal_and_counters.md Table 17.3). -/
def State.passBeats (s0 : State) (n : Nat) : State :=
  let s := (s0.clrCount n).pauseCount n
  s.cntList.foldl (fun a (x : Nat × Nat × Nat × Nat) =>
    let src := x.2.2.1
    let k := if src = 0x252 then n
      else if src = 0x253 then s.stretchBeats 257 n
      else if src = 0x254 then s.stretchBeats 2048 n
      else if 1 ≤ src ∧ src < 0x201 ∧ (src - 1) % 16 = 0 then s.shotBeats ((src - 1) / 16) s.beat n
      else 0
    if k = 0 then a else a.cntAdd x.1 x.2.1 src x.2.2.2 k) s

/-- One beat passes (R28): bundles leave the timed queues (05_crozier_sequencer.md R149), decisions resolve whose resolving beat is the
new one (10_sorus_feedback.md R283), halt commands take effect (R162), forced switches are flagged in their ball beat
(08_readout_front_end.md R238), groups do what this beat brings (04_commit_groups.md R120, R129), triggers are met whose beat this is (11_acquisition_queues.md R302), pages swap at their domain's edge
(R121), and the power sequencer makes its next switch (02_modes_power_boot.md R61). -/
def State.beatTick (s : State) : State :=
  let s1 := s.driveTick
  let s2 := (if s1.hyphaOn then s1.hyphaTick else s1).passBeats 1
  let s3 := { s2 with beat := s2.beat + 1, ticking := true, flagNow := [] }.queuesLeave.concludeDue.haltDue.switchesDue.groupsDue.trigsDue.pagesDue.powerDue
  { s3 with ticking := false }

/-- n beats pass, one by one. -/
def State.ticks : Nat → State → State
  | 0, s => s
  | n + 1, s => State.ticks n s.beatTick

/-- Nothing moves by itself: no player is busy, no flux chain rings, the event matrix is at rest, no decision waits for its resolving
beat, no halt command is on its way, no forced switch is due, no trigger is on its way, no group waits for a beat of its own, and no page waits for its edge.
-/
def State.quiet (s : State) : Bool :=
  s.players.all (fun e => !e.2.busy) && s.chains.isEmpty && !s.hyphaOn
    && s.sorus.flights.all (fun (e : Nat × Flight) => e.2.ready.isNone) && s.sorus.intake.isEmpty
    && s.croz.all (fun (e : Nat × Croz) => e.2.haltAt.isNone)
    && s.fes.all (fun (e : Nat × Fe) => e.2.swDue.isEmpty)
    && s.trigs.isEmpty && s.groups.all (fun (e : Nat × Group) => !e.2.waits) && s.time.held.all (fun h => h.due.isNone)

/-- Device time moves on to beat b; it never moves back, and it stands while the main clock is unlocked
(R28, R34; log entry 1). -/
def State.at (s : State) (b : Nat) : State :=
  if s.clockOn && decide (s.beat < b) then
    (if s.quiet then { s.passBeats (b - s.beat) with beat := b, flagNow := [] }.queuesLeave.powerDue else State.ticks (b - s.beat) s)
  else s

end Sys2Proof.Machine
end

