-- ==== Sys2Proof/Machine/AcqRows.lean ====
section
/-! DEFINITION. AcqRows: the rows of the trigger and acquisition engine (11_acquisition_queues.md R302 to R315). -/
namespace Sys2Proof.Machine

/-- A qualified edge on TRIG_IN[i], detected in beat b (Table 11.1, R322; 12_hypha_events.md Table 12.2): the level has been
held for MINW further beats after the edge. -/
def State.trigIn (s : State) (i b : Nat) (falling : Bool) (held : Nat) : State :=
  let minw := s.rdF pTrig (0x100 + 4 * i) 3 0
  if falling = s.rdB pTrig (0x100 + 4 * i) 8 ∧ minw ≤ held then
    (List.range 16).foldl (fun a c => a.trigger c i (b - 3 - minw) false) ((s.count pTrig i 1).srcEvent b (0x0A0 + i))
  else s

/-- TRIG_IN (R302): b is the detection beat; held is how many further beats the level was held by then. -/
def execTrigIn (b : Nat) (i : Fin 4) (falling : Bool) (held : Nat) (s : State) : Host.Outcome State Fault Refusal :=
  let s1 := s.at b
  .next (s1.trigIn i.val s1.beat falling held)

/-- TIME_MATCH (R303). -/
def execTimeMatch (b : Nat) (c : Fin 16) (s : State) : Host.Outcome State Fault Refusal := .next ((s.at b).timeMatch c.val)

/-- SWTRIG_FIRE (R302). -/
def execSwtrigFire (path : Path) (c : Fin 16) (s : State) : Host.Outcome State Fault Refusal :=
  .next (s.rowWrite path (pAcq c.val) 0x12C 1 (fun _ t => t.swTrig c.val))

/-- AUTO (R302, R305). -/
def execAutoTrigger (b : Nat) (c : Fin 16) (s : State) : Host.Outcome State Fault Refusal := .next ((s.at b).autoTrigger c.val)

/-- A gated capture ends once T + POST is reached (R308). -/
def State.captureEnd (s : State) (c : Nat) : State :=
  if s.acqState c = 2 ∧ (s.acq c).capTo ≤ s.beat then s.setAcqState c 3 else s

/-- CAPTURE_END (R308). -/
def execCaptureEnd (b : Nat) (c : Fin 16) (s : State) : Host.Outcome State Fault Refusal := .next ((s.at b).captureEnd c.val)

/-- HOLDOFF_END (R308). -/
def execHoldoffEnd (b : Nat) (c : Fin 16) (s : State) : Host.Outcome State Fault Refusal := .next ((s.at b).acqStep c.val)

/-- DATA_RECORD (R313): raw holds the ADC codes of each frond of the context, demod the samples of its tones, lost the beats
that found the elastic buffer full, which follow from State too (R311). -/
def execDataRecord (b : Nat) (c : Fin 16) (raw : List (List (BitVec 12))) (demod : List DemodUnit) (lost : List Nat) (s : State) :
    Host.Outcome State Fault Refusal :=
  .next ((s.at b).dataRecord c.val raw demod lost)

/-- HOST_COPY (R314, R315). -/
def execHostCopy (b : Nat) (c : Fin 16) (s : State) : Host.Outcome State Fault Refusal := .next ((s.at b).hostCopy c.val)

/-- HOST_RD (R314), a write of the register or of its doorbell. -/
def execHostRd (path : Path) (c : Fin 16) (v : Word) (bell : Bool) (s : State) : Host.Outcome State Fault Refusal :=
  .next (s.viaBell path (pAcq c.val) 0x158 v (if bell then some (0x800 + 4 * c.val) else none)
    (fun t => t.hostRdWrite (pAcq c.val) 0x154 0x158 v))

end Sys2Proof.Machine
end

