-- ==== Sys2Proof/Machine/Cluster.lean ====
section
/-! DEFINITION. Cluster: the distributed commit: votes, decisions, outcomes and splits (04_commit_groups.md R129 to R131;
14_serial_links.md R383, Table 14.6). -/
namespace Sys2Proof.Machine

/-- The device took part in a distributed commit: only the latest are remembered, newest first (R131). -/
def State.noteTx (s : State) (txid owner t : Nat) : State :=
  { s with txs := { txid := txid, owner := owner, t := t } :: (s.txs.filter (fun x => !(x.txid == txid && x.owner == owner && x.t == t))).take 63 }

/-- The group takes part in a distributed commit at T, still armed or aborted since (R129). -/
def State.inTx (s : State) (g : Nat) : Bool :=
  s.grpKind g == 3 && (decide (2 ≤ s.rdF (pCgrp g) 0x104 2 0) || (s.grp g).gone == some (s.grpT g))

/-- VOTE at T − L (R129): OK from an armed group, else FAIL, and always FAIL in ALIGN_LOST (13_time_and_cluster.md R362); a group still in VALIDATING aborts with LATE. -/
def State.voteNow (s : State) (g : Nat) : State :=
  let t := s.grpT g
  if s.inTx g && !(s.grp g).voteSent && decide (s.grpWhen g ≤ s.beat + s.lead g) then
    let st := s.rdF (pCgrp g) 0x104 2 0
    let ok := st == 3 && s.rdF pCsync 0x10C 2 0 != 6
    let s1 := (s.setGrp g { s.grp g with voteSent := true }).noteTx (s.txid g) (s.owner (pCgrp g)) (s.grpWhen g)
    let s2 := s1.unicast (s.coord g) 1 (s.commitFlit 0xA (s.txid g) ok 0 t)
    if ok then s2.wrB (pCgrp g) 0x104 5 true else if st = 2 then s2.abortGrp g 0x06 else s2
  else s

/-- A VOTE that reaches its coordinator (R129): it counts where TXID and T[31:0] agree. -/
def State.voteArrives (s : State) (w : BitVec 64) : State :=
  let src := nfld w.toNat 59 55
  if tst w.toNat 38 then
    (List.range 63).foldl (fun a g =>
      if a.inTx g && a.coord g == a.devnum && a.txid g == nfld w.toNat 54 39 && a.grpT g % 2 ^ 32 == nfld w.toNat 31 0 then
        a.setGrp g { a.grp g with votes := mset (a.grp g).votes src }
      else a) s
  else s

/-- DECIDE at T − L/2 (R129): COMMIT with an OK vote of every device in PMASK and the group still standing; the first of the three
copies leaves for each participant, the others in the next two beats. -/
def State.decideNow (s : State) (g : Nat) : State :=
  if s.inTx g && s.coord g == s.devnum && !(s.grp g).sentOut && decide (s.grpWhen g ≤ s.beat + s.lead g / 2) then
    let ok := (maskList 32 (s.pmask g)).all (fun d => tst (s.grp g).votes d) && (s.grp g).gone.isNone
    (s.setGrp g { s.grp g with sentOut := true, decOk := ok, copies := 0 }).sendCopy g
  else s

/-- A DECIDE that reaches a participant (R129). -/
def State.decideArrives (s : State) (w : BitVec 64) : State :=
  (List.range 63).foldl (fun a g =>
    if a.grpKind g == 3 && decide (2 ≤ a.rdF (pCgrp g) 0x104 2 0) && a.coord g == nfld w.toNat 59 55
        && a.txid g == nfld w.toNat 54 39 && a.grpT g % 2 ^ 32 == nfld w.toNat 31 0 then
      a.setGrp g { a.grp g with decided := some (tst w.toNat 38) }
    else a) s

/-- A distributed commit has split (R131): the flag stands until the warden clears it, and every shot of the group's tuft, or of
every tuft for a warden group, that runs at T or starts after it is INVALID; a shot that may still end before T is judged at its
end. -/
def State.split (s : State) (x : Tx) : State :=
  let was := s.rdB pCommit 0x14 0
  let s1 := { s.flag pCommit 0 with splits := if was then (x.owner, x.t) :: s.splits else [(x.owner, x.t)] }
  (List.range 32).foldl (fun a f =>
    if x.owner = 0x1F ∨ a.frondOwner f = x.owner then
      let c := a.crz f
      a.setCrz f { c with shots := c.shots.map (fun h =>
        if (match h.ended with | some e => decide (x.t ≤ e) | none => decide (x.t ≤ s.beat) || decide (x.t ≤ h.start)) then { h with tags := tagOr h.tags 1 } else h) }
    else a) s1

/-- A broadcast of a source, type and number has not been seen within 65,536 beats (R383); it is remembered. -/
def State.newCast (s : State) (src type num : Nat) : Bool × State :=
  let live := s.time.seen.filter (fun x => decide (s.beat < x.2.2.2 + 65536))
  if live.any (fun x => x.1 == src && x.2.1 == type && x.2.2.1 == num) then (false, s)
  else (true, { s with time := { s.time with seen := (src, type, num, s.beat) :: live } })

/-- A participant that received no DECIDE broadcasts OUTCOME LOST, and takes note of the split (R131). -/
def State.lostNow (s : State) (g : Nat) : State :=
  let x := Tx.mk (s.txid g) (s.owner (pCgrp g)) (s.grpWhen g)
  ((((s.newCast s.devnum 0xC x.txid).2).broadcast 4 1 (s.commitFlit 0xC x.txid true 0 (s.grpT g))).split x)

/-- OUTCOME LOST arrives on a port (R131, R383): acted on and forwarded once. -/
def State.outcomeArrives (s : State) (port : Nat) (w : BitVec 64) : State :=
  let c := s.newCast (nfld w.toNat 59 55) 0xC (nfld w.toNat 54 39)
  if c.1 then
    let s1 := c.2.broadcast port 1 w
    match s1.txs.find? (fun x => x.txid == nfld w.toNat 54 39 && tst w.toNat 38) with
    | some x => s1.split x
    | none => s1
  else c.2

/-- DECISION_BEAT (R116, R129): at D a TIME group, or one whose point has come, is DECIDED; a CLUSTER group follows the
coordinator's decision. -/
def State.decisionBeat (s : State) (g : Nat) : State :=
  let x := s.grp g
  if s.rdF (pCgrp g) 0x104 2 0 ≠ 3 then s
  else if s.grpKind g = 3 then
    let t := s.grpWhen g
    if x.isReady && decide (t ≤ s.beat + 34) then
      match x.decided with
      | some true => (s.setGrpState g 4).setGrp g { x with dec := some (t - 34), app := some t }
      | some false => s.abortGrp g 0x0B
      | none => (s.lostNow g).abortGrp g 0x0C
    else s
  else match x.dec with
    | some d => if d ≤ s.beat then s.setGrpState g 4 else s
    | none => s

/-- APPLY_BEAT (R116, R121): a DECIDED group applies at A. -/
def State.applyBeat (s : State) (g : Nat) : State :=
  match (s.grp g).app with
  | some a =>
    if a ≤ s.beat ∧ s.grpSt g = 4 then
      let s1 := (s.decisionBeat g).applyGrp g a
      if (s.grp g).lost then s1.split { txid := s.txid g, owner := s.owner (pCgrp g), t := a } else s1
    else s
  | none => s

/-- The latency of the decision bus: none to the frond's own port, 12 beats to the central units, 24 to another frond
(01_architecture.md Table 1.2; R276). -/
def busLat (src dst : Nat) : Nat := if dst = src then 0 else if dst = 32 then 12 else 24

/-- The record of a frond and a beat reaches a receiver, after exactly its latency: a frond, or 32 for the central Sorus and the commit
engine (R19, R20, R118, R124). A frond places a record in every beat (10_sorus_feedback.md R275); one that holds nothing matters only where it fails
parity, in the beat it arrives. -/
def State.busRecord (s : State) (f r dst : Nat) (perr : Bool) : State :=
  match s.bus.find? (fun x => x.frond == f && x.beat == r) with
  | some x =>
    if x.sent.contains dst ∨ s.beat ≠ r + busLat f dst then s
    else
      let got := dst :: x.sent
      let bus := if got.length = 33 then s.bus.filter (fun y => !(y.frond == f && y.beat == r))
        else s.bus.map (fun y => if y.frond = f ∧ y.beat = r then { y with sent := got } else y)
      let s1 := { s with bus := bus }
      if perr then s1.unitDiscard dst x
      else
        let s2 := s1.unitRecord dst x
        if dst = 32 then
          let s3 := if x.shotEnd then s2.shotEndSeen x else s2
          x.syncs.foldl (fun a g => a.syncSeen f r g) s3
        else s2
  | none =>
    if perr ∧ s.beat = r + busLat f dst then
      let x : BusRec := { frond := f, beat := r, sent := [dst] }
      { s with bus := s.bus ++ [x] }.unitDiscard dst x
    else s

end Sys2Proof.Machine
end

