-- ==== Sys2Proof/Machine/Cal.lean ====
section
/-! DEFINITION. Cal: the calibration engine: quantities and their validation, runs, quiet slots, DUE fronds, the rounds of group
63, trims, the field bank and the housekeeping calibration (15_calibration.md R399 to R424; 08_readout_front_end.md R250 to R252;
16_housekeeping_analog.md R442, R444). -/
namespace Sys2Proof.Machine

/-- A quantity of Table 15.1 or of the CALHK trims of Table 16.9: unit, width, signed, repeat tolerance, drift limit, whether
background calibration covers it, whether a DAC trim set holds it, and the phase of its part that measures it. -/
structure Quant where
  unit : Nat
  width : Nat
  signed : Bool
  tol : Nat
  drift : Option Nat := none
  bg : Bool := false
  trim : Bool := false
  phase : Nat := 0
deriving DecidableEq, Repr

/-- The quantity at a bit of a register of a CALF page (Tables 15.1, 15.2, 15.8, 8.7). -/
def quantOf (off lo : Nat) : Option Quant :=
  if off % 4 ≠ 0 then none
  else if 0x140 ≤ off ∧ off < 0x180 ∧ lo = 0 then some { unit := 0, width := 16, signed := true, tol := 128, drift := some 2048, bg := true, phase := 1 }
  else if 0x180 ≤ off ∧ off < 0x1C0 ∧ lo = 0 then some { unit := 0, width := 18, signed := false, tol := 13, drift := some 1311, bg := true, phase := 4 }
  else if 0x1C0 ≤ off ∧ off < 0x1CC ∧ lo = 0 then some { unit := 0, width := 18, signed := false, tol := 13, drift := some 1311, phase := 3 }
  else if 0x1D0 ≤ off ∧ off < 0x210 ∧ lo = 0 then some { unit := 0, width := 9, signed := true, tol := 5, bg := true, phase := 5 }
  else if 0x210 ≤ off ∧ off < 0x21C ∧ lo = 0 then
    some { unit := calUnit off, width := 12, signed := true, tol := 8, drift := some 400, bg := true, trim := true, phase := 2 }
  else if 0x210 ≤ off ∧ off < 0x21C ∧ lo = 16 then
    some { unit := calUnit off, width := 12, signed := true, tol := 2, drift := some 64, bg := true, trim := true, phase := 1 }
  else if 0x220 ≤ off ∧ off < 0x250 ∧ lo % 8 = 0 ∧ lo < 32 ∧ !(off % 16 = 12 ∧ lo = 24) then
    some { unit := calUnit off, width := 8, signed := true, tol := 6, trim := true, phase := 2 }
  else if 0x260 ≤ off ∧ off < 0x2C0 ∧ off % 0x20 < 0x18 ∧ (lo = 0 ∨ lo = 16) then
    some { unit := calUnit off, width := 16, signed := true, tol := 5, phase := 3 }
  else if 0x2C0 ≤ off ∧ off < 0x2E0 ∧ lo = 0 then
    some { unit := calUnit off, width := 10, signed := true, tol := 2, drift := some 200, bg := true, trim := true, phase := 4 }
  else if 0x2C0 ≤ off ∧ off < 0x2E0 ∧ lo = 16 then
    some { unit := calUnit off, width := 8, signed := true, tol := 2, drift := some 100, bg := true, trim := true, phase := 4 }
  else if 0x2E0 ≤ off ∧ off < 0x2EC ∧ lo = 0 then some { unit := 12, width := 16, signed := true, tol := 5, drift := some 100, phase := 3 }
  else none

/-- The housekeeping quantity at a bit of a register of the CALHK page (Table 16.9); fields whose sign the table does not state
are signed where they hold an offset or a bank's gain (DEDUCED, log entry 12). -/
def hkQuantOf (off lo : Nat) : Option Quant :=
  if off % 4 ≠ 0 then none
  else if off = 0x100 ∧ lo = 0 then some { unit := 0, width := 16, signed := true, tol := 8 }
  else if off = 0x104 ∧ lo = 0 then some { unit := 0, width := 18, signed := false, tol := 4 }
  else if 0x140 ≤ off ∧ off < 0x180 ∧ (lo = 0 ∨ lo = 16) then some { unit := 1, width := 16, signed := true, tol := 8 }
  else if 0x180 ≤ off ∧ off < 0x190 ∧ lo = 0 then some { unit := 2, width := 18, signed := false, tol := 6 }
  else if 0x1C0 ≤ off ∧ off < 0x200 ∧ lo = 0 then some { unit := 2, width := 18, signed := false, tol := 4 }
  else if 0x1C0 ≤ off ∧ off < 0x200 ∧ lo = 18 then some { unit := 2, width := 14, signed := true, tol := 4 }
  else none

/-- A value lies within a field's range; a skew, of 9 bits, within ±255 (Table 15.1). -/
def Quant.fits (q : Quant) (v : Int) : Bool :=
  if q.width = 9 then decide (v.natAbs ≤ 255)
  else if q.signed then decide (-(2 ^ (q.width - 1) : Int) ≤ v) && decide (v < 2 ^ (q.width - 1))
  else decide (0 ≤ v) && decide (v < 2 ^ q.width)

/-- The number a field holds. -/
def Quant.dec (q : Quant) (w : Word) (lo : Nat) : Int :=
  if q.signed then sgn (fld w (lo + q.width - 1) lo) q.width else (fld w (lo + q.width - 1) lo : Int)

/-- The value of a pair: rhu(a + b, 1) (R407). -/
def pairValue (x : CalPair) : Int := roundShift (x.a + x.b) 1

/-- The baseline of the register at an address (R400): the generation loaded at boot step 2, or the factory set. -/
def State.baseWord (s : State) (a : Nat) : Word :=
  if s.rdB pFusebank 0x104 20 then Config.baseline a else Tab.get 0 s.cal.burnt (s.rdF pFusebank 0x104 18 16 * 2 ^ 26 + a)

/-- R407 for a pair of a quantity of a page: within the repeat tolerance, the drift limit of the baseline, and the field's
range; a skew lies within ±255 (Table 15.1). -/
def State.pairOk (s : State) (p : Pg) (q : Quant) (x : CalPair) : Bool :=
  decide ((x.a - x.b).natAbs ≤ q.tol) && q.fits (pairValue x)
    && (match q.drift with
        | some d => decide (((pairValue x) - q.dec (s.baseWord (p.reg x.off)) x.lo).natAbs ≤ d)
        | none => q.width != 9 || decide ((pairValue x).natAbs ≤ 255))

/-- The key of a quantity: 32 × the address of its register + its lowest bit. -/
def quantKey (p : Pg) (off lo : Nat) : Nat := 32 * p.reg off + lo

/-- The temperature of a frond's slice, and the band it lies in (17_thermal_and_counters.md Table 17.4). -/
def State.sliceT (s : State) (f : Nat) : Nat := s.rdF pTherm (0x110 + 4 * (f / 8)) 15 0
def State.sliceBand (s : State) (f : Nat) : Nat := s.rdF pTherm 0x10C (2 * (f / 8) + 1) (2 * (f / 8))

/-- A value is accepted: it waits for group 63, and updates the trim set of the band in force (R414, R416). -/
def State.accept (s : State) (p : Pg) (q : Quant) (x : CalPair) (src temp : Nat) : State :=
  let v : CalVal := { value := enc (pairValue x) q.width, src := src, temp := temp, at_ := s.beat, band := s.sliceBand p.i }
  let k := quantKey p x.off x.lo
  s.mapCal (fun c => { c with
                          pend := Tab.put c.pend k v,
                          sets := if q.trim then Tab.put c.sets (s.sliceBand p.i * 2 ^ 32 + k) v else c.sets })

/-- A value is rejected (R407): CAL_REJECT, FLAGS.REJECT, and INFO.REJ of the unit. -/
def State.reject (s : State) (p : Pg) (u : Nat) : State :=
  let r := 0x30C + 0x10 * u
  let s1 := s.wrF p r 23 16 (min 255 (s.rdF p r 23 16 + 1))
  if p.kind = .calf then (s1.count p 1 1).flag p 1 else s1

/-- One pair of a frond (R407). -/
def State.judge (s : State) (f : Nat) (q : Quant) (x : CalPair) (src : Nat) : State :=
  if s.pairOk (pCalf f) q x then s.accept (pCalf f) q x src (s.sliceT f)
  else (s.reject (pCalf f) q.unit).mapCal (fun c => { c with
    runs := c.runs.map (fun (e : Nat × CalRun) => if e.1 = f then (e.1, { e.2 with rejected := true }) else e) })

/-- The calibration run of a frond. -/
def State.run? (s : State) (f : Nat) : Option CalRun := Tab.find? s.cal.runs f

/-- Whether group 63 is IDLE. -/
def State.idle63 (s : State) : Bool := s.rdF (pCgrp 63) 0x104 2 0 == 0

/-- The front end's range and input from ball beat b on, as the calibration engine selects them: no switch of the owner's (R250). -/
def State.feSet (s : State) (f b range input : Nat) : State :=
  let x := s.fe f
  s.setFe f { x with sws := trimSwitches s.beat (insSwitch { beat := b, range := range, input := input, forced := false, cal := true } x.sws) }

/-- The front end's input from ball beat b on, as the calibration engine selects it (R250, R410). -/
def State.feRoute (s : State) (f b input : Nat) : State := s.feSet f b ((s.fe f).rangeAt b) input

/-- The front end is on its owner's setting again from ball beat b on; what the engine had still to route goes. -/
def State.feBack (s : State) (f b : Nat) : State :=
  let x := s.fe f
  (s.setFe f { x with sws := x.sws.filter (fun w => !w.cal || decide (w.beat < b)) }).feRoute f b (x.setting b).2

/-- What the engine has routed stands over switches of the owner that are still to come when its part begins: the selector stays where the
engine holds it (R250). -/
def State.feKeep (s : State) (f : Nat) : State :=
  (((s.fe f).sws.filter (fun w => !w.cal && decide (s.beat < w.beat)))).foldl (fun t w =>
    t.feSet f w.beat w.range ((((s.fe f).sws.find? (fun y => y.cal && decide (y.beat ≤ w.beat))).map (·.input)).getD w.input)) s

/-- Phase 3 of the ADC part, from ball beat b on for 2 ms (Table 8.7): REF at each range, in an order and at times the spec does not fix
(free values, log entry 5). -/
def State.adcRanges (s : State) (f b : Nat) : State :=
  let p := s.draw
  let x := p.2.draw
  let y := x.2.draw
  let r := p.1.toNat % 3
  let q := (r + 1 + p.1.toNat / 3 % 2) % 3
  let t := 1 + x.1.toNat % 1999998
  ((y.2.feSet f b r 5).feSet f (b + t) q 5).feSet f (b + t + 1 + y.1.toNat % (1999999 - t)) (3 - r - q) 5

/-- A frond's ADC part begins at the current beat (R250): 18 ms, its five phases on TERM, REF, REF, LOOP_PROBE, LOOP_PROBE. -/
def State.adcPart (s : State) (f : Nat) : State :=
  let b := s.beat
  ((((((s.wrB (pReadout f) 0x10 24 true).setFe f { s.fe f with calEnd := b + 18000000 }).feRoute f b 4).feRoute f (b + 2000000) 5).adcRanges f
    (b + 10000000)).feSet f (b + 12000000) ((s.fe f).setting (b + 12000000)).1 1).feKeep f

/-- The loopbacks of XY[0], XY[1] and PROBE in turn, from ball beat b on for n beats (R404), at times the spec does not fix (free values,
log entry 5). -/
def State.loopTurn (s : State) (f b n : Nat) : State :=
  let x := s.draw
  let y := x.2.draw
  let t := 1 + x.1.toNat % (n - 2)
  ((y.2.feRoute f b 2).feRoute f (b + t) 3).feRoute f (b + t + 1 + y.1.toNat % (n - 1 - t)) 1

/-- A frond's DAC part begins (R404): XY[0], XY[1] and PROBE in turn through their loopbacks in each of phases 1 to 3, then the flux
monitor. -/
def State.dacPart (s : State) (f : Nat) : State :=
  let b := s.beat
  ((((s.loopTurn f b 1000000).loopTurn f (b + 1000000) 3000000).loopTurn f (b + 4000000) 1000000).feRoute f (b + 5000000) 6).feKeep f

/-- A calibration run of a frond starts (R251, R405): its parts, and its CALF page bound to group 63. -/
def State.startRun (s : State) (f : Nat) (adc dac full : Bool) : State :=
  let s1 := s.mapCal (fun c => { c with runs := Tab.put c.runs f { adc := adc, dac := dac, start := s.beat, full := full } })
  let s2 := (s1.bindPage (pCalf f) none).wrB (pCalf f) 0x10 29 dac
  if adc then s2.adcPart f else s2.dacPart f

/-- A run of a frond ends: its page is freed where group 63 does not hold it. -/
def State.endRun (s : State) (f : Nat) : State :=
  let s1 := (s.mapCal (fun c => { c with runs := Tab.del c.runs f })).wrB (pReadout f) 0x10 24 false
  let s2 := (s1.wrB (pCalf f) 0x10 29 false).feBack f s.beat
  if (s2.grp 63).bound.contains (pCalf f) then s2 else s2.bindPage (pCalf f) none

/-- Phases of the ADC part, each over by so many beats (Table 8.7), and of the DAC part (Table 15.2). -/
def adcPhases : List Nat := [2000000, 10000000, 12000000, 14000000]
def dacPhases : List Nat := [1000000, 4000000, 5000000]

/-- The phase in progress n beats after the start. -/
def phaseAt (l : List Nat) (n : Nat) : Nat := 1 + (l.filter (fun x => decide (x ≤ n))).length

/-- The length of a part in µs. -/
def State.runUs (s : State) (r : CalRun) : Nat := min 0xFFFF (quot 8 (s.beat - r.start : Nat) 1000).toNat

/-- Why a calibration command of a frond is refused: MODE, CAL_BUSY (R251, R405). -/
def State.calRefused (s : State) (f : Nat) : Option Nat :=
  if s.mode ≠ 2 ∧ s.mode ≠ 4 then some 1
  else if !s.idle63 || (s.boundTo (pCalf f)).isSome || (s.run? f).isSome then some 2
  else none

/-- A write of READOUT.ADC_CMD (R251). -/
def State.adcCmd (s : State) (path : Path) (f : Nat) (v : Word) : State :=
  if fld v 31 16 ≠ 0x4144 ∨ !bit v 0 then s
  else if s.ident path ≠ .warden then s.recErr (pReadout f) 3 0x118
  else match s.calRefused f with
    | some c => s.recErr (pReadout f) c 0x118
    | none => s.startRun f true false false

/-- A write of CALF.CMD (R405): FULL, or DACCAL for the DAC part alone. -/
def State.calfCmd (s : State) (f : Nat) (v : Word) : State :=
  if fld v 31 16 ≠ 0x4346 ∨ fld v 1 0 = 0 then s
  else match s.calRefused f with
    | some c => s.recErr (pCalf f) c 0x100
    | none => s.startRun f (bit v 0) true (bit v 0)

/-- Whether the engine may arm group 63: not during a JOIN (R414, 13_time_and_cluster.md R364). -/
def State.may63 (s : State) : Bool :=
  let st := s.rdF pCsync 0x10C 2 0
  s.idle63 && !(decide (1 ≤ st) && decide (st ≤ 3))

/-- Group 63 makes the pending writes of pages; the fields without RW-C bits ride along, their pages bound like the others (R414, R419). -/
def State.carry63 (s : State) (ps : List Pg) : State :=
  let mine := fun (k : Nat) => ps.any (fun p => decide (p.base ≤ k / 32) && decide (k / 32 < p.base + 0x1000))
  let es := s.cal.pend.filter (fun (e : Nat × CalVal) => mine e.1)
  let s1 := s.mapCal (fun c => { c with pend := c.pend.filter (fun (e : Nat × CalVal) => !mine e.1), carry := es })
  es.foldl (fun t (e : Nat × CalVal) =>
    match pageOf (e.1 / 32) with
    | some p =>
      let off := e.1 / 32 % 0x1000
      let q := if p.kind = .calhk then hkQuantOf off (e.1 % 32) else quantOf off (e.1 % 32)
      let w := (q.map (fun x => x.width)).getD 1
      t.shadowWrite 63 p off (setFld (t.shadowView (e.1 / 32)) (e.1 % 32 + w - 1) (e.1 % 32) e.2.value)
    | none => t) s1

/-- The engine opens group 63, writes the pending values of pages and arms it with a SHOT point for a tuft or a TIME point
(R414). -/
def State.serve63 (s : State) (ps : List Pg) (own : Nat) (shot : Bool) : State :=
  let s1 := (((s.wr (pCgrp 63) 0x104 (BitVec.ofNat 32 (Path.cal.code * 2 ^ 16))).setGrpState 63 1).setGrp 63 {}).wrF pCal 0x110 20 16 own
  let s2 := s1.carry63 ps
  let s3 := if shot then
      (s2.wr (pCgrp 63) 0x108 (BitVec.ofNat 32 (own * 256))).wr64 (pCgrp 63) 0x114 (s.beat + 24 + 1000 * s.rdF pCal 0x108 23 0)
    else (s2.wr (pCgrp 63) 0x108 1).wr64 (pCgrp 63) 0x10C (s.beat + 64)
  s3.grpArm 63

/-- The pages with pending values, of an owner: 0 to 15, or 16 for the warden's; the warden's hold the housekeeping trims
too. A run binds its frond's page to group 63, so its pending writes are made (R414). -/
def State.pend63 (s : State) (o : Nat) : List Pg :=
  let has := fun (p : Pg) => s.cal.pend.any (fun (e : Nat × CalVal) => decide (p.base ≤ e.1 / 32) && decide (e.1 / 32 < p.base + 0x1000))
  let fs := (List.range 32).filter (fun f => (if s.frondOwner f = 0x1F then 16 else s.frondOwner f) == o && has (pCalf f))
  fs.map pCalf ++ (if o = 16 ∧ has pCalhk then [pCalhk] else [])

/-- A page the engine defers: bound to another group, or of a frond under a pending owner change (R128, R414). -/
def State.deferred63 (s : State) (p : Pg) : Bool :=
  (match s.boundTo p with | some g => g != 63 | none => false)
    || (p.kind == .calf && s.protected_ 63 p.i)

/-- The fronds that are DUE and may run now start a full calibration (R413): in READY, or in SERVICE where the engine may. -/
def State.dueRuns (s : State) : State :=
  if s.mode = 2 ∨ s.mode = 4 then
    (List.range 32).foldl (fun t f =>
      if tst (t.rd pCal 0x114).toNat f && t.idle63 && (t.boundTo (pCalf f)).isNone && (t.run? f).isNone
          && !(t.mode == 4 && t.rdB (pCalf f) 0x104 4) then t.startRun f true true true else t) s
  else s

/-- GROUP63_ROUND (R414, R413). -/
def State.round63 (s0 : State) : State :=
  if !s0.may63 then s0
  else
    let s := s0.dueRuns
    match ((List.range 17).map (fun i => (s.cal.last + 1 + i) % 17)).find? (fun o => !(s.pend63 o).isEmpty) with
    | none => s
    | some o =>
      let ps := s.pend63 o
      let late := ps.filter (fun p => s.deferred63 p)
      let s1 := late.foldl (fun t p => if p.kind = .calf then (t.count p 2 1).flag p 2 else t) (s.mapCal (fun c => { c with last := o }))
      let now := ps.filter (fun p => !s.deferred63 p)
      if now.isEmpty then s1
      else
        let own := if o = 16 then 0x1F else o
        s1.serve63 now own (s1.mode == 3 && o != 16 && (List.range 32).any (fun f => s1.frondOwner f == o && s1.active f))

/-- The results of a part are committed at once where group 63 is free (R252, R406); else they wait for a round. -/
def State.commitPart (s : State) (f : Nat) : State :=
  if s.may63 ∧ s.cal.pend.any (fun (e : Nat × CalVal) => e.1 / 32 / 0x1000 == 0xA02 + f) ∧ !s.deferred63 (pCalf f) then
    s.serve63 [pCalf f] (s.frondOwner f) false
  else s

/-- The registers and lowest bits of the quantities of a part: the ADC's, or those of the DACs and the loopback paths (Table 15.1). -/
def calKeys (adc : Bool) : List (Nat × Nat) :=
  ((List.range 0x6C).flatMap (fun i => [0, 8, 16, 24].map (fun j => (0x140 + 4 * i, j)))).filter (fun k =>
    match quantOf k.1 k.2 with | some q => (q.unit == 0) == adc | none => false)

/-- What a part measured: every quantity of its phases, twice (R250, R404); the estimates of one that the command does not give are free
values (log entry 5). -/
def State.measured (s : State) (adc : Bool) (pairs : List CalPair) : List (Quant × CalPair) × State :=
  (calKeys adc).foldl (fun r k =>
    match quantOf k.1 k.2 with
    | none => r
    | some q =>
      match pairs.find? (fun x => x.off == k.1 && x.lo == k.2) with
      | some x => (r.1 ++ [(q, x)], r.2)
      | none =>
        let a := r.2.draw
        let b := a.2.draw
        (r.1 ++ [(q, { off := k.1, lo := k.2, a := a.1.toInt, b := b.1.toInt })], b.2)) ([], s)

/-- The first phase of a part with a value that breaches its field's range, among pairs that repeat (R252, R406; DEDUCED, log
entry 12). -/
def breach (l : List (Quant × CalPair)) : Option Nat :=
  ((l.filter (fun e => decide ((e.2.a - e.2.b).natAbs ≤ e.1.tol) && !e.1.fits (pairValue e.2))).map (fun e => e.1.phase)).foldl
    (fun (m : Option Nat) p => match m with | some k => some (min k p) | none => some p) none

/-- A slice without fence or gate. -/
def State.sliceUp (s : State) (k : Nat) : Bool := !tst s.boot.fencedSlices k && !s.sliceGated k

/-- A full calibration of a frond has passed, or failed (R405, R413, R420). -/
def State.fullOver (s : State) (f : Nat) (r : CalRun) (pass : Bool) : State :=
  let s1 := if pass then
      (((s.wrB pCal (0x114) f false).wrB (pCalf f) 0x10 31 false).wr (pCalf f) 0x110 (BitVec.ofNat 32 (s.sliceT f))).mapCal
        (fun c => { c with due := Tab.del c.due f, done := Tab.del c.done f })
    else s
  if s1.mode ≠ 4 then s1
  else if pass && !r.rejected then
    let s2 := s1.mapCal (fun c => { c with svc := mset c.svc f })
    if (List.range 32).all (fun k => !(!tst s2.boot.fencedSlices (k / 8)) || tst s2.cal.svc k) then s2.wrB pCal 0x110 31 true else s2
  else (s1.mapCal (fun c => { c with svc := mclr c.svc f })).wrB pCal 0x110 31 false

/-- SELFCAL_DONE (R250, R252): the ADC part of a run ends, 18 ms after it began and in no other beat. -/
def State.adcDone (s : State) (f : Nat) (pairs : List CalPair) : State :=
  match s.run? f with
  | none => s
  | some r =>
    if !r.adc || decide (s.beat ≠ r.start + 18000000) then s
    else
      let m := s.measured true pairs
      let l := m.1
      let s0 := m.2.wr (pReadout f) 0x11C (BitVec.ofNat 32 (s.runUs r))
      match breach l with
      | some ph =>
        let s1 := ((s0.wrF (pReadout f) 0x11C 31 28 (ph + 1)).flag (pReadout f) 4).count (pReadout f) 7 1
        let s2 := if r.full then (s1.count (pCalf f) 7 1).flag (pCalf f) 5 else s1
        let s3 := s2.endRun f
        if r.full then s3.fullOver f r false else s3
      | none =>
        let s1 := l.foldl (fun t e => t.judge f e.1 e.2 1) s0
        let s2 := (((s1.wrF (pReadout f) 0x11C 31 28 1).flag (pReadout f) 3).count (pReadout f) 6 1).wrB (pReadout f) 0x10 24 false
        if r.dac then
          let bad := match s2.run? f with | some x => x.rejected | none => false
          ((s2.mapCal (fun c => { c with runs := Tab.put c.runs f { r with adc := false, start := s.beat, rejected := bad } })).dacPart f).commitPart f
        else (s2.endRun f).commitPart f

/-- DAC_CAL_DONE (R404, R406): the DAC part of a run ends, 6 ms after it began and in no other beat. -/
def State.dacDone (s : State) (f : Nat) (pairs : List CalPair) : State :=
  match s.run? f with
  | none => s
  | some r =>
    if r.adc || !r.dac || decide (s.beat ≠ r.start + 6000000) then s
    else
      let m := s.measured false pairs
      let l := m.1
      let s0 := m.2.wr (pCalf f) 0x108 (BitVec.ofNat 32 (s.runUs r))
      match breach (l.filter (fun e => e.1.trim)) with
      | some ph =>
        let s1 := (((s0.wrF (pCalf f) 0x108 31 28 (ph + 1)).flag (pCalf f) 5).count (pCalf f) 7 1).endRun f
        if r.full then s1.fullOver f r false else s1
      | none =>
        let s1 := l.foldl (fun t e => t.judge f e.1 e.2 1) s0
        let r1 := (s1.run? f).getD r
        let s2 := (((s1.wrF (pCalf f) 0x108 31 28 1).flag (pCalf f) 4).count (pCalf f) 6 1).endRun f
        (if r.full then s2.fullOver f r1 true else s2).commitPart f

/-- Entry to RUN or HOLD ends every run with RESULT ABORTED (R252, R406). -/
def State.abortRuns (s : State) : State :=
  s.cal.runs.foldl (fun t (e : Nat × CalRun) =>
    let f := e.1
    let t1 := if e.2.adc then (t.wr (pReadout f) 0x11C (BitVec.ofNat 32 (7 * 2 ^ 28 + t.runUs e.2))).flag (pReadout f) 4
      else t.wr (pCalf f) 0x108 (BitVec.ofNat 32 (7 * 2 ^ 28 + t.runUs e.2))
    t1.endRun f) s

/-- Whether background calibration of a frond runs (R408, R420). -/
def State.bgOn (s : State) (f : Nat) : Bool :=
  s.rdB pCal 0x100 0 && s.rdB (pCalf f) 0x104 0 && (s.mode == 3 || (s.mode == 4 && !s.rdB (pCalf f) 0x104 4))

/-- The number of B quantities of a frond: 48 of the ADC, 6 of the XY and probe DACs, 16 of the flux DACs (Table 15.1). -/
def bgCount : Nat := 70

/-- A B quantity of a DUE frond has resolved from estimates that began after the frond became DUE (R413). -/
def State.dueStep (s : State) (f k start : Nat) : State :=
  match Tab.find? s.cal.due f with
  | none => s
  | some d =>
    if start + 1 < d then s
    else
      let l := (k :: (Tab.get [] s.cal.done f)).eraseDups
      if l.length < bgCount then s.mapCal (fun c => { c with done := Tab.put c.done f l })
      else (((s.wrB pCal 0x114 f false).wrB (pCalf f) 0x10 31 false).wr (pCalf f) 0x110 (BitVec.ofNat 32 (s.sliceT f))).mapCal
        (fun c => { c with due := Tab.del c.due f, done := Tab.del c.done f })

/-- One background estimate: the first of a pair waits, the second is judged with it (R407, R408). -/
def State.estimate (s : State) (f : Nat) (q : Quant) (x : CalEst) : State :=
  let k := quantKey (pCalf f) x.off x.lo
  match Tab.find? s.cal.est k with
  | none => s.mapCal (fun c => { c with est := Tab.put c.est k (x.v, x.start) })
  | some y =>
    ((s.mapCal (fun c => { c with est := Tab.del c.est k })).judge f q { off := x.off, lo := x.lo, a := y.1, b := x.v } 2).dueStep f k y.2

/-- The measured beats of slots that are over are gathered: n − 12 of a slot of n beats, none of one that CLR_N met (R409, R411, R412). -/
def State.gather (s : State) (f : Nat) : State :=
  let l := Tab.get [] s.cal.slots f
  let fresh := l.filter (fun z => !z.done && decide (z.e < s.beat) && !s.clrIn z.b z.e)
  s.mapCal (fun c => { c with
    meas := fresh.foldl (fun m z => Tab.set 0 m (16 * f + z.unit) (Tab.get 0 m (16 * f + z.unit) + (z.e - z.b + 1 - 12))) c.meas,
    slots := Tab.set [] c.slots f ((l.filter (fun z => decide (s.beat < z.e + 64))).map (fun z => { z with done := z.done || decide (z.e < s.beat) })) })

/-- The beats in which each sub-converter takes the 2^22 samples of an estimate, of 24 samples a beat among 16 sub-converters (R408). -/
def estimateBeats : Nat := 2796203

/-- An estimate took what its quantity needs: for the ADC at least estimateBeats beats since it began, none of them those of the first of its
pair; for a DAC unit 16,384 measured beats (R407 to R409). -/
def State.estimateReady (s : State) (f : Nat) (q : Quant) (x : CalEst) : Bool :=
  if q.unit = 0 then
    decide (x.start + estimateBeats ≤ s.beat)
      && (match Tab.find? s.cal.est (quantKey (pCalf f) x.off x.lo) with | some y => decide (y.2 + estimateBeats ≤ x.start) | none => true)
  else decide (16384 ≤ Tab.get 0 s.cal.meas (16 * f + q.unit))

/-- ESTIMATE_DONE (R407 to R409): weak: the input's level gives no gain or skew values. -/
def State.estimates (s9 : State) (f : Nat) (ests : List CalEst) (weak : Bool) : State :=
  let s := s9.gather f
  let l := ests.filterMap (fun x => (quantOf x.off x.lo).bind (fun q => if q.bg then some (q, x) else none))
  let units := (l.map (fun e => e.1.unit)).eraseDups
  let dacs := units.filter (fun u => u != 0)
  if !s.bgOn f || units.isEmpty || !l.all (fun e => s.estimateReady f e.1 e.2) then s
  else
    let s1 := s.count (pCalf f) 0 1
    let s2 := if weak then s1.count (pCalf f) 5 1 else s1
    let s3 := s2.mapCal (fun c => { c with meas := dacs.foldl (fun m u => Tab.set 0 m (16 * f + u) 0) c.meas })
    let use := l.filter (fun e => !(weak && e.1.unit == 0 && e.1.phase != 1))
    use.foldl (fun t e => t.estimate f e.1 e.2) s3

/-- The players of DAC unit u of a frond (R399). -/
def unitPlayers (u : Nat) : List Nat :=
  if u = 1 then (List.range 8) else if u = 2 then (List.range 8).map (fun t => 8 + t)
  else if u = 3 then (List.range 16).map (fun t => 16 + t) else [28 + u]

/-- A player is idle from DAC sample k on: it neither plays nor will play on by a link or a jump. -/
def Player.idleFrom (p : Player) (k : Nat) : Bool :=
  p.jumps.isEmpty && (!p.playing || (decide (p.k0 + p.len ≤ k) && !entLinkEn p.ent && p.latched.isNone))
    && p.last.all (fun q => decide (q.k0 + q.len ≤ k)) && decide (p.past ≤ k)

/-- A bundle starts or jumps a channel of DAC unit u. -/
def Bundle.plays (b : Bundle) (u : Nat) : Bool :=
  if u = 1 then b.xy0.en else if u = 2 then b.xy1.en else if u = 3 then b.probe.en else tst b.fluxMask (u - 4)

/-- DAC unit u of a frond plays nothing in ball beats sb to se (R411). -/
def State.unitFree (s : State) (f u sb se : Nat) : Bool :=
  (unitPlayers u).all (fun c => (s.player f c).idleFrom (32 * (sb - 24)))
    && (s.crz f).queue.all (fun b => decide (se < b.issue + 24) || !b.plays u)

/-- The windows a queued bundle will open, as first and last ball beats. -/
def State.windowsOf (s : State) (f : Nat) (b : Bundle) : List (Nat × Nat) :=
  (maskList 16 b.roMask).map (fun t =>
    let ks := 24 * (b.issue + 24) + b.roOfs
    (ks / 24, (ks + 48 * (s.fe f).lenAt t ks - 1) / 24))

/-- Every window keeps clear of ball beats sb to se (R411). -/
def State.windowsClear (s : State) (f sb se : Nat) : Bool :=
  ((s.fe f).wins.map (fun w => (w.firstBeat, w.lastBeat)) ++ (s.crz f).queue.flatMap (fun b => s.windowsOf f b)).all
    (fun w => decide (w.2 + 5 ≤ sb) || decide (se + 4 ≤ w.1))

/-- An enabled context captures RAW or DEMOD data of a frond (R410; 11_acquisition_queues.md Table 11.7). -/
def State.captured (s : State) (f : Nat) : Bool :=
  (List.range 16).any (fun c => s.rdB (pAcq c) 0x104 0 && tst (s.rd (pAcq c) 0x108).toNat f
    && decide (s.rdF (pAcq c) 0x104 9 8 ≤ 1))

/-- The DAC unit a slot serves: among those eligible, the one with the oldest REC[u].TIME (R409). -/
def State.slotUnit (s : State) (f sb se : Nat) (eager : Bool) : Option Nat :=
  ((List.range 11).map (· + 1)).foldl (fun (m : Option Nat) u =>
    if eager || s.unitFree f u sb se then
      match m with
      | some v => if s.rd64 (pCalf f) (0x304 + 0x10 * u) < s.rd64 (pCalf f) (0x304 + 0x10 * v) then some u else m
      | none => some u
    else m) none

/-- The converter input a DAC unit is measured through (08_readout_front_end.md Table 8.3; R404). -/
def unitInput (u : Nat) : Nat := if u = 1 then 2 else if u = 2 then 3 else if u = 3 then 1 else 6

/-- QUIET_SLOT_DECISION (R410, R411, R420), at issue beat b − 32. -/
def State.slotDecision (s9 : State) (f : Nat) (found : Bool) : State :=
  let s := s9.gather f
  let c := s.rd (pCalf f) 0x104
  let n := max 64 (fld c 31 20)
  let sb := s.beat + 32
  let se := sb + n - 1
  let svc := s.mode == 4
  let after := (Tab.get [] s.cal.slots f).all (fun z => decide (z.e < sb))
  let arises := if svc then after
    else if found then bit c 2 && after && !s.captured f
    else bit c 1 && Tab.find? s.cal.decl f == some s.beat
  let s1 := s.mapCal (fun k => { k with decl := Tab.del k.decl f })
  if !s.bgOn f || !arises then s
  else
    let free := (s.run? f).isNone && (svc || (after && decide (se ≤ s.tc f + 23) && s.windowsClear f sb se && !(s.fe f).pendingAt s.beat))
    match (if free then s.slotUnit f sb se svc else none) with
    | none => s1.count (pCalf f) 4 1
    | some u =>
      let s2 := (s1.count (pCalf f) 3 1).mapCal (fun k => { k with
        slots := Tab.set [] k.slots f ({ b := sb, e := se, unit := u } :: Tab.get [] k.slots f) })
      (s2.feRoute f sb (unitInput u)).feRoute f (se - 7) ((s.fe f).setting se).2

/-- Entry to HOLD (R412): slots end, and partial estimates and results not committed are discarded. -/
def State.calHold (s : State) : State :=
  let s1 := s.abortRuns
  let s2 := s1.cal.slots.foldl (fun t (z : Nat × List CalSlot) => if z.2.any (fun y => decide (t.beat ≤ y.e)) then t.feBack z.1 t.beat else t) s1
  s2.mapCal (fun c => { c with pend := [], carry := [], slots := [], decl := [], meas := [], est := [] })

/-- DUE (R413): a frond whose slice temperature left FULL_TEMP by more than DTEMP. -/
def State.dueNow (s : State) (f : Nat) : State :=
  let d := (sgn (s.sliceT f) 16 - sgn (s.rdF (pCalf f) 0x110 15 0) 16).natAbs
  if !s.rdB pCal 0x100 1 || s.rdB pCal 0x114 f || decide (d ≤ s.rdF pCal 0x104 15 0) then s
  else
    (((s.wrB pCal 0x114 f true).flag (pCalf f) 3).wrB (pCalf f) 0x10 31 true |>.mapCal (fun c => { c with
      due := Tab.put c.due f (s.beat + 1), done := Tab.del c.done f })).dueRuns

/-- OVERDUE (R413): still DUE after DUE_TMO. -/
def State.overdue (s : State) (f : Nat) : State :=
  match Tab.find? s.cal.due f with
  | some d => if d - 1 + 1000000 * s.rdF pCal 0x10C 15 0 ≤ s.beat then s.flag pCal 0 else s
  | none => s

/-- Unit u of a frond is quiet at ball beat b (R415). -/
def State.unitQuiet (s : State) (f u b : Nat) : Bool :=
  if u = 0 then (s.fe f).wins.all (fun w =>
    decide ((w.ks + 48 * (w.len - 1) + 120) / 24 < b) || decide (b < (w.ks - 71) / 24))
  else (unitPlayers u).all (fun c =>
    let p := s.player f c
    decide (p.past ≤ 32 * (b - 24)) && p.last.all (fun q => decide (q.k0 + q.len ≤ 32 * (b - 24)))
      && (!p.playing || decide (32 * (b - 24) + 32 ≤ p.k0)))

/-- The ADC timing margin of a frond's band takes effect at a quiet beat of its read-out channel (17_thermal_and_counters.md R460). -/
def State.marginEffect (s : State) (f : Nat) : State :=
  if s.unitQuiet f 0 s.beat then s.mapCal (fun c => { c with margin := Tab.set 0 c.margin f (s.sliceBand f) }) else s

/-- TRIM_TAKE_EFFECT (R415): the values committed for a unit take effect at a quiet ball beat from A + 24 on; with unit 0 the timing margin
of the band does too (R460). -/
def State.trimEffect (s9 : State) (f u : Nat) : State :=
  let s := if u = 0 then s9.marginEffect f else s9
  let p := pCalf f
  if s.rdB p 0x10C u && decide (s.rd64 p (0x304 + 0x10 * u) + 24 ≤ s.beat) && s.unitQuiet f u s.beat then
    let mine := fun (e : Nat × Word) => decide (p.base ≤ e.1) && decide (e.1 < p.base + 0x1000) && calUnit (e.1 - p.base) == u
    let s1 := (s.cal.eff.filter mine).foldl (fun t e => t.keepBall s.beat e.1 e.2) s
    (s1.wrB p 0x10C u false).mapCal (fun c => { c with eff := c.eff.filter (fun e => !mine e) })
  else s

/-- A change of a frond's band makes the engine commit the new band's trim set (R416); a set never measured holds the
baseline. What the old set had pending goes; values that group 63 carries while the band changes are written over. -/
def State.bandSet (s : State) (f band : Nat) : State :=
  let keys := ((List.range 0x2C).flatMap (fun i => (List.range 4).map (fun j => (0x210 + 4 * i, 8 * j)))
    ++ (List.range 8).flatMap (fun n => [(0x2C0 + 4 * n, 0), (0x2C0 + 4 * n, 16)]))
  let want := keys.filterMap (fun (k : Nat × Nat) =>
    (quantOf k.1 k.2).bind (fun q =>
      if !q.trim then none
      else
        let a := (pCalf f).reg k.1
        let key := quantKey (pCalf f) k.1 k.2
        let v := (Tab.find? s.cal.sets (band * 2 ^ 32 + key)).getD
          { value := fld (s.baseWord a) (k.2 + q.width - 1) k.2, src := 0, temp := s.sliceT f }
        if s.idle63 && v.value == fld (s.rdA a) (k.2 + q.width - 1) k.2 then none else some (key, { v with band := band })))
  let s1 := s.mapCal (fun c => { c with
    pend := want.foldl (fun t e => Tab.put t e.1 e.2)
      (c.pend.filter (fun (e : Nat × CalVal) => !(e.1 / 32 / 0x1000 == 0xA02 + f && trimReg (e.1 / 32 % 0x1000)))) })
  if want.isEmpty then s1.wrF (pCalf f) 0x10 27 26 band else s1

/-- The registers of the calibrated quantities: offsets of a CALF page and of the CALHK page. -/
def calfOffs : List Nat := (List.range 0x6B).map (fun i => 0x140 + 4 * i)
def calhkOffs : List Nat := (List.range 0x40).map (fun i => 0x100 + 4 * i)

/-- The bits of quantities in a register of a CALF or CALHK page. -/
def quantMask (p : Pg) (off : Nat) : Word :=
  if rwcMask (p.reg off) = 0 then (if 0x260 ≤ off ∧ off < 0x2C0 ∧ off % 0x20 < 0x18 then 0xFFFFFFFF else if 0x2E0 ≤ off ∧ off < 0x2EC then 0xFFFF else 0)
  else rwcMask (p.reg off)

/-- The pages of the calibrated quantities, with the offsets a baseline covers. -/
def calPages : List (Pg × List Nat) := (pCalhk, calhkOffs) :: (List.range 32).map (fun f => (pCalf f, calfOffs))

/-- Boot step 2 (R400, R401): the newest valid generation not revoked, else the factory set, becomes the baseline, and every
field takes it. -/
def State.loadBaseline (s : State) : State :=
  let ok := fun (g : Nat) => tst s.cal.good g && !s.rdB pFusebank 0x104 (8 + g)
  let s1 := match ((List.range 8).map (fun i => 7 - i)).find? ok with
    | some g => (s.wrB pFusebank 0x104 20 false).wrF pFusebank 0x104 18 16 g
    | none => (s.wrB pFusebank 0x104 20 true).wrF pFusebank 0x104 18 16 0
  calPages.foldl (fun t p => p.2.foldl (fun u o => u.wr p.1 o (s1.baseWord (p.1.reg o) &&& quantMask p.1 o)) t) s1

/-- A write of FUSEBANK.CMD (R402, R403): BURN, or REVOKE of a generation. -/
def State.fuseCmd (s : State) (v : Word) : State :=
  let p := pFusebank
  let ref := fun (c : Nat) => s.recErr p c 0x100
  if fld v 31 16 ≠ 0x4642 then s
  else if bit v 0 then
    (if s.mode ≠ 4 then ref 1
    else match (List.range 8).find? (fun g => !s.rdB p 0x104 g) with
      | none => ref 2
      | some g =>
        if !s.rdB pCal 0x110 31 then ref 3
        else if s.rdB p 0x104 31 then ref 4
        else
          let img := calPages.flatMap (fun q =>
            let base := q.1.kind == .calf && !s.sliceUp (q.1.i / 8)
            (if q.1.kind = .calf then [(q.1.reg 0x110, s.rd q.1 0x110)] else []) ++
              q.2.map (fun o => (q.1.reg o, if base then s.baseWord (q.1.reg o) else s.rd q.1 o)))
          (((s.wrB p 0x104 g true).wrB p 0x104 31 true).count p 0 1).mapCal (fun c => { c with
            burn := some (g, false), burnt := img.foldl (fun t e => Tab.set 0 t (g * 2 ^ 26 + e.1) e.2) c.burnt }))
  else if bit v 1 then
    (let g := fld v 10 8
    if s.mode ≠ 4 then ref 1
    else if s.rdB p 0x104 31 then ref 4
    else if !s.rdB p 0x104 g || s.rdB p 0x104 (8 + g) then ref 5
    else ((s.wrB p 0x104 31 true).count p 1 1).mapCal (fun c => { c with burn := some (g, true) }))
  else s

/-- BURN_DONE (R402): the read-back is valid or not. -/
def State.burnDone (s : State) (ok : Bool) : State :=
  match s.cal.burn with
  | some (g, false) =>
    ((s.wrB pFusebank 0x104 31 false).wrF pFusebank 0x104 27 24 (if ok then 1 else 3)).mapCal (fun c => { c with
      burn := none, good := if ok then mset c.good g else c.good })
  | _ => s

/-- REVOKE_DONE (R403): the generation's revoke fuse is burnt. -/
def State.revokeDone (s : State) : State :=
  match s.cal.burn with
  | some (g, true) => ((s.wrB pFusebank 0x104 31 false).wrB pFusebank 0x104 (8 + g) true).mapCal (fun c => { c with burn := none })
  | _ => s

/-- HOLD or a supply reset cuts a burn short (R402). -/
def State.burnCut (s : State) : State :=
  match s.cal.burn with
  | some (_, false) => ((s.wrB pFusebank 0x104 31 false).wrF pFusebank 0x104 27 24 2).mapCal (fun c => { c with burn := none })
  | _ => s

/-- A housekeeping calibration of the selected parts begins (R444, R442). -/
def State.hkCalStart (s : State) (parts : Nat) : State :=
  let s0 := (s.wrB pHk 0x128 31 true).mapHk (fun h => { h with parts := parts, banks := 0, plan := 0, calFrom := h.now, adcFrom := h.now })
  let s1 := if tst parts 1 then
      let ok := (List.range 16).foldl (fun m j => if s0.bankClear j then mset m j else m) 0
      (s0.wrF pHk 0x128 15 0 (65535 - ok)).mapHk (fun h => { h with banks := ok, plan := ok })
    else s0
  let s2 := if tst parts 2 then (List.range 16).foldl (fun t c => t.thRestart c) s1 else s1
  if tst parts 0 then
    (if s2.adcState = 2 ∨ s2.hk.adc.inj then (s2.flag pHkadc 3).mapAdc (fun x => { x with calWait := true }) else s2.adcDrop.setAdcState 3)
  else s2

/-- A write of HK.CAL_CMD (R444, R447). -/
def State.hkCalCmd (s : State) (v : Word) : State :=
  if fld v 31 16 ≠ 0x484B then s
  else if s.rdB pHk 0x128 31 || !s.idle63 then s.recErr pHk 2 0x124
  else if fld v 2 0 = 0 then s
  else s.hkCalStart (fld v 2 0)

/-- Every part of the calibration has had its time: 2 ms from the beginning of the ADC part, 1 ms per bank, 12 ms (R444). -/
def State.hkCalOver (s : State) : Bool :=
  let h := s.hk
  (!tst h.parts 0 || (!h.adc.calWait && decide (h.adcFrom + 400000 ≤ h.now)))
    && decide (h.calFrom + 200000 * popCount 16 h.plan ≤ h.now)
    && (!tst h.parts 2 || decide (h.calFrom + 2400000 ≤ h.now))

/-- HK_CAL_DONE (R442, R444): the values are validated and committed through group 63, or wait for a round where CALHK is bound to
another group (R128); the converter goes on. -/
def State.hkCalDone (s : State) (pairs : List CalPair) : State :=
  if !s.rdB pHk 0x128 31 || !s.hkCalOver then s
  else
    let parts := s.hk.parts
    let l := pairs.filterMap (fun x => (hkQuantOf x.off x.lo).bind (fun q =>
      if tst parts q.unit && (q.unit != 1 || tst s.hk.banks ((x.off - 0x140) / 4)) then some (q, x) else none))
    let s1 := l.foldl (fun t e =>
      if t.pairOk pCalhk e.1 e.2 then
        t.mapCal (fun c => { c with pend := Tab.put c.pend (quantKey pCalhk e.2.off e.2.lo)
                                              { value := enc (pairValue e.2) e.1.width, src := 1, temp := t.rdF pTherm 0x124 15 0, at_ := t.beat } })
      else t.reject pCalhk e.1.unit) s
    let s2 := (s1.wrB pHk 0x128 31 false).mapHk (fun h => { h with parts := 0, banks := 0, plan := 0 })
    let s3 := if tst parts 0 ∧ s2.adcState = 3 then
        (s2.mapAdc (fun x => { x with inj := x.held, held := false })).adcNext
      else s2
    if s3.may63 ∧ !l.isEmpty ∧ !s3.deferred63 pCalhk then s3.serve63 [pCalhk] 0x1F false else s3

/-- What ROUTE connected is disconnected, unless the engine itself has the input (R420). -/
def State.routeOff (s : State) (f : Nat) : State :=
  if (s.fe f).inputAt s.beat = 6 ∧ (s.run? f).isNone ∧ !s.inSlot f s.beat then s.feBack f s.beat else s

/-- The front end of a frond whose flux monitor ROUTE connects (R420). -/
def State.routeSet (s : State) (f : Nat) : State :=
  let c := s.rd (pCalf f) 0x104
  if s.mode = 4 ∧ bit c 4 ∧ 1 ≤ fld c 13 10 ∧ fld c 13 10 ≤ 8 then s.feRoute f s.beat 6 else s.routeOff f

/-- Entry to SERVICE (R420): the flux monitors ROUTE connects, and with SVC_AUTO full calibrations and a housekeeping calibration. -/
def State.svcStart (s0 : State) : State :=
  let s := (List.range 32).foldl (fun t f => t.routeSet f) s0
  let s1 := (s.mapCal (fun c => { c with svc := 0 })).wrB pCal 0x110 31 false
  if s1.rdB pCal 0x100 2 then
    let s2 := (List.range 32).foldl (fun t f =>
      if t.sliceUp (f / 8) && !t.rdB (pCalf f) 0x104 4 && (t.run? f).isNone then t.startRun f true true true else t) s1
    if s2.rdB pHk 0x128 31 then s2 else s2.hkCalStart 7
  else s1

/-- Leaving SERVICE clears SVC_FULL and ends what ROUTE connected (R420). -/
def State.svcEnd (s : State) : State :=
  let s1 := (s.mapCal (fun c => { c with svc := 0 })).wrB pCal 0x110 31 false
  (List.range 32).foldl (fun t f => t.routeOff f) s1

/-- Whether the ball mute switch of DAC unit u of a frond is open in the current ball beat (07_drive_outputs.md R208;
08_readout_front_end.md R250; R405, Table 15.3). -/
def State.unitMuted (s : State) (f u : Nat) : Bool :=
  s.muted
    || (match s.run? f with | some r => if r.adc then u == 3 else true | none => false)
    || (Tab.get [] s.cal.slots f).any (fun z => z.unit == u && decide (z.b ≤ s.beat) && decide (s.beat ≤ z.e))

/-- The page of DAC unit u of a frond (Table 15.3). -/
def unitPage (f u : Nat) : Pg := if u < 3 then pXy f (u - 1) else if u = 3 then pProbe f else pFlux f (u - 4)

/-- Sample i of DAC unit u of a frond that crosses the balls in the current beat, one of 32 for XY and probe and of 2 for flux; none
where the output is unpowered, or cut off by its mute switch, which takes the place of forcing (07_drive_outputs.md R203, R206,
R208, R213, R218; R405). A forced output carries CLEAR_CODE, an idle flux output REST_CODE. -/
def State.ballCode (s : State) (f u i : Nat) : Option Int :=
  let p := unitPage f u
  if !s.powered p || s.unitMuted f u then none
  else if s.forced f then
    some (if u < 4 then sgn (fld (s.rdBall p 0x108 s.beat) 13 0) 14 else sgn (fld (s.rdBall p 0x10C s.beat) 15 0) 16)
  else
    match s.pins.pipe.find? (fun (e : Nat × Nat × List Int) => e.1 + 24 == s.beat && e.2.1 == 16 * f + u) with
    | some e => some (e.2.2.getD i 0)
    | none => some (if u < 4 then 0 else sgn (fld (s.rdBall p 0x108 s.beat) 15 0) 16)

/-- The full-scale level of an XY or probe output at the balls, in steps of 0.5 dBm: −FS_ATTEN, of which values from 71 to 127 act as
70; it settles within 50 ns of its ball beat (07_drive_outputs.md R207, R214, R215). -/
def State.fsLevel (s : State) (f d : Nat) : Int := -(min 70 (fld (s.rdBall (drivePage f d) 0x100 s.beat) 22 16) : Nat)

end Sys2Proof.Machine
end

