-- ==== Sys2Proof/Machine/Ptp.lean ====
section
/-! DEFINITION. Ptp: the 1588 engine: timestamps, offset and delay measurement, the transparent clock, the choice of a master, lock
states, and the choice of the instance that steers (13_time_and_cluster.md R352 to R359). -/
namespace Sys2Proof.Machine

/-- A PTP instance. -/
def State.pinst (s : State) (n : Nat) : PtpInst := Tab.get {} s.time.insts n

/-- Change a PTP instance. -/
def State.mapInst (s : State) (n : Nat) (g : PtpInst → PtpInst) : State :=
  s.mapTime (fun t => { t with insts := Tab.set {} t.insts n (g (Tab.get {} t.insts n)) })

/-- CFG0 of an instance: EN, ROLE (3 acts as 0), P2P, TWO_STEP, SLAVE_ONLY, DOMAIN (Table 13.6). -/
def State.ptpOn (s : State) (n : Nat) : Bool := s.rdB (pPtp n) 0x100 31
def State.ptpRole (s : State) (n : Nat) : Nat := let r := s.rdF (pPtp n) 0x100 29 28; if r = 3 then 0 else r
def State.ptpP2p (s : State) (n : Nat) : Bool := s.rdB (pPtp n) 0x100 27
def State.ptpTwo (s : State) (n : Nat) : Bool := s.rdB (pPtp n) 0x100 26
def State.ptpSlaveOnly (s : State) (n : Nat) : Bool := s.rdB (pPtp n) 0x100 25
def State.ptpDomain (s : State) (n : Nat) : Nat := s.rdF (pPtp n) 0x100 7 0
def State.ptpTr (s : State) (n : Nat) : Nat := let t := s.rdF (pPtp n) 0x100 24 23; if t = 3 then 0 else t

/-- Where a message goes: the multicast address of its type over IEEE 802.3, or the UDP port (R352, Table 13.1). -/
def ptpDst (tr kind : Nat) : Nat :=
  if tr = 0 then (if kind == 2 || kind == 3 || kind == 10 then 0x0180C200000E else 0x011B19000000)
  else if kind < 8 then 319 else 320

/-- The binary logarithm of a message interval in seconds, from its field of CFG2, within the limits of Table 13.1; plus 7. -/
def State.ptpLog (s : State) (n kind : Nat) : Nat :=
  let v := fun (hi lo : Nat) => sgn (s.rdF (pPtp n) 0x108 hi lo) 8
  (7 + match kind with
    | 0 => clampI (-7) 4 (v 31 24)
    | 11 => clampI (-3) 4 (v 23 16)
    | _ => clampI (-7) 5 (v 15 8)).toNat

/-- Whether k MAC cycles reach n intervals of a message type; a second has 390,625,000 cycles of 2.56 ns (R346). -/
def State.ptpAged (s : State) (inst kind n k : Nat) : Bool := decide (390625000 * n * 2 ^ s.ptpLog inst kind ≤ 128 * k)

/-- ANN_TMO; 0 and 1 act as 2 (Table 13.6). -/
def State.annTmo (s : State) (n : Nat) : Nat := max 2 (s.rdF (pPtp n) 0x108 7 0)

/-- Instance n is the transparent clock; at most one is (R352), the lower-numbered where both are configured. -/
def State.ptpTc (s : State) (n : Nat) : Bool :=
  s.ptpOn n && s.ptpRole n == 2 && (n == 0 || !(s.ptpOn 0 && s.ptpRole 0 == 2))

/-- Instance n uses a port: an ordinary clock its lowest, a boundary clock those of PORTS, a transparent clock both (Table 13.6,
R355). -/
def State.ptpPort (s : State) (n p : Nat) : Bool :=
  let m := s.rdF (pPtp n) 0x100 17 16
  s.ptpOn n && (match s.ptpRole n with
    | 0 => if tst m 0 then p == 0 else tst m p && p == 1
    | 1 => tst m p
    | _ => s.ptpTc n && decide (p < 2))

/-- portState of a port of an instance (Table 13.6). -/
def State.portSt (s : State) (n p : Nat) : Nat := s.rdF (pPtp n) 0x10 (19 + 4 * p) (16 + 4 * p)

/-- Set it; a change sets FLAGS.STATE_CHG. -/
def State.setPortSt (s : State) (n p v : Nat) : State :=
  if s.portSt n p = v then s else (s.wrF (pPtp n) 0x10 (19 + 4 * p) (16 + 4 * p) v).flag (pPtp n) 0

/-- STATUS.LOCK: 0 FREE, 1 ACQUIRING, 2 LOCKED, 3 HOLDOVER (R358). -/
def State.ptpLock (s : State) (n : Nat) : Nat := s.rdF (pPtp n) 0x10 25 24

/-- The instance that steers after an entry to HOLDOVER or FREE of the selected one: the other, where AUTO is 1, it is LOCKED, and SEL
was not written in this MAC cycle (R359). -/
def State.autoSwitch (s : State) (n : Nat) : State :=
  if s.rdB pServo 0x100 8 ∧ s.rdF pServo 0x100 4 4 = n ∧ s.ptpLock (1 - n) = 2 ∧ s.time.selMac ≠ some s.time.mac then s.setSel (1 - n)
  else s

/-- Set LOCK: entry to LOCKED sets FLAGS.LOCKED, entry to HOLDOVER sets FLAGS.LOST (R358). -/
def State.setLock (s : State) (n v : Nat) : State :=
  if s.ptpLock n = v then s
  else
    let s1 := s.wrF (pPtp n) 0x10 25 24 v
    match v with
    | 0 => (s1.mapInst n (fun i => { i with good := 0 })).autoSwitch n
    | 2 => s1.flag (pPtp n) 1
    | 3 => ((s1.mapInst n (fun i => { i with good := 0 })).flag (pPtp n) 2).autoSwitch n
    | _ => s1

/-- An instance selects no master any more (R358). -/
def State.dropMaster (s : State) (n : Nat) : State :=
  (s.mapInst n (fun i => { i with master := none, pair := none, sync := none, dreq := none })).setLock n 0

/-- The 1588 engine runs: the MAC clock is locked and the port's unit is powered and not fenced (R346). -/
def State.ptpLive (s : State) (p : Nat) : Bool := s.rdB pTimeline 0x108 4 && s.powered (pEth p) && !s.pageFenced (pEth p)

/-- The PTP time, in 2^−16 ns, a fraction ph/64 into the present MAC cycle (R353); its rounding is open (log entry 25). -/
def State.macTime (s : State) (ph : Nat) : Int := quot 1 (s.time.ptp.total * 64 + s.incr * ph : Nat) (2 ^ 22)

/-- The ingress timestamp of a frame (R353). -/
def State.ingress (s : State) (x : PtpMsg) : Int := s.macTime x.ph.val - sgn (s.rd pClock (0x134 + 4 * x.port.val)).toNat 32

/-- The egress timestamp of a frame whose first bit leaves on a port in MAC cycle mo, as fixed in the present one (R353, R354). -/
def State.egress (s : State) (p mo : Nat) : Int := s.macTime (64 * (mo - s.time.mac)) + sgn (s.rd pClock (0x13C + 4 * p)).toNat 32

/-- The clock at the MAC cycle in which the egress timestamp of a frame that leaves in cycle mo is fixed, 32 cycles before (R354). -/
def State.macFix (s : State) (mo : Nat) : State := s.macTo (mo - 32)

/-- A message of instance n leaves on a port (R352). -/
def State.ptpOut (s : State) (n p kind seq : Nat) (ts corr : Int) (ds : List Nat) : State :=
  s.emit (.ptp p (s.ptpTr n) (ptpDst (s.ptpTr n) kind) kind (s.ptpDomain n) seq ts corr ds)

/-- A message of instance n answers x: over its transport and in its domain. -/
def State.ptpReply (s : State) (x : PtpMsg) (kind : Nat) (ts corr : Int) : State :=
  s.emit (.ptp x.port.val x.tr.val (ptpDst x.tr.val kind) kind x.domain x.seq ts corr [])

/-- An offset measurement of instance n (R357 to R359), from timestamps since which `steps` steps had been made. -/
def State.offset (s : State) (n : Nat) (o : Int) (steps : Nat) : State :=
  let s1 := (s.wr64 (pPtp n) 0x10C (enc o 64)).mapInst n (fun i => { i with lastOff := s.time.mac })
  let thr := (s.rd pServo 0x114).toNat * 2 ^ 16
  let good := if o.natAbs < thr then (s1.pinst n).good + 1 else 0
  let s2 := (s1.mapInst n (fun i => { i with good := good })).setLock n (if 16 ≤ good then 2 else 1)
  if s2.rdF pServo 0x100 4 4 ≠ n ∨ steps ≠ s2.time.steps then s2
  else
    let s3 := if s2.time.active = n then s2
      else ((s2.mapTime (fun t => { t with active := n, hold := 16 })).flag pServo 1).count pServo 2 1
    s3.servoUpdate o

/-- The offset of the pair that instance n holds, once it knows the delay on the port (R357; IEEE 1588 offsetFromMaster). -/
def State.tryOffset (s : State) (n p : Nat) : State :=
  match (s.pinst n).pair, Tab.find? (s.pinst n).delays p with
  | some q, some d =>
    if q.used then s
    else
      let s1 := (s.mapInst n (fun i => { i with pair := some { q with used := true } })).offset n (q.t2 - q.t1 - d) q.steps
      if s1.portSt n p = 8 then s1.setPortSt n p 9 else s1
  | _, _ => s

/-- A complete Sync: its t1 with corrections, its t2, and the step count then. The path delay of an end-to-end transparent clock is
stated nowhere: a free value (log entry 5). -/
def State.syncPair (s : State) (n p : Nat) (t1 t2 : Int) (steps : Nat) : State :=
  let s1 := s.mapInst n (fun i => { i with pair := some { t1 := t1, t2 := t2, steps := steps } })
  if s.ptpTc n && !s.ptpP2p n then
    let d := s1.draw
    d.2.offset n (t2 - t1 - sgn d.1.toNat 64) steps
  else s1.tryOffset n p

/-- A message comes from the selected master, on the port it is heard on; a transparent clock follows every Sync it forwards (R355). -/
def State.fromMaster (s : State) (n : Nat) (x : PtpMsg) : Bool :=
  s.ptpTc n || (match (s.pinst n).master with
    | some (ds, p) => p == x.port.val && ds.getLast? == some x.src
    | none => false)

/-- Sync at instance n (R352, R357). -/
def State.ptpSync (s : State) (n : Nat) (x : PtpMsg) : State :=
  let s1 := s.count (pPtp n) 0 1
  if !s1.fromMaster n x then s1
  else if x.twoStep then s1.mapInst n (fun i => { i with sync := some (x.seq, s.ingress x, x.corr, s.time.steps) })
  else s1.syncPair n x.port.val (x.ts + x.corr) (s.ingress x) s.time.steps

/-- Follow_Up at instance n. -/
def State.ptpFollow (s : State) (n : Nat) (x : PtpMsg) : State :=
  match (s.pinst n).sync with
  | some (q, t2, c, st) =>
    if q = x.seq ∧ s.fromMaster n x then
      (s.mapInst n (fun i => { i with sync := none })).syncPair n x.port.val (x.ts + x.corr + c) t2 st
    else s
  | none => s

/-- Half of a sum of time differences; the rounding of an odd sum is open (log entry 25). -/
def half (v : Int) : Int := quot 2 v 2

/-- A delay measured on a port (Table 13.6 DELAY). -/
def State.setDelay (s : State) (n p : Nat) (d : Int) : State :=
  (s.mapInst n (fun i => { i with delays := Tab.put i.delays p d })).wr64 (pPtp n) 0x114 (enc d 64)

/-- Delay_Req at a master port: answered with its ingress timestamp. -/
def State.ptpDelayReq (s : State) (n : Nat) (x : PtpMsg) : State :=
  if s.portSt n x.port.val = 6 ∧ !s.ptpP2p n then
    (s.count (pPtp n) 2 1).ptpReply x 9 (s.ingress x) x.corr
  else s

/-- Delay_Resp at a slave: the path delay, and the offset that waited for it; a measurement that straddles a step is discarded
(R347). -/
def State.ptpDelayResp (s : State) (n : Nat) (x : PtpMsg) : State :=
  let i := s.pinst n
  match i.dreq, i.pair with
  | some (q, t3, st), some pr =>
    if q = x.seq ∧ x.mine ∧ s.fromMaster n x ∧ !s.ptpP2p n then
      let s1 := s.mapInst n (fun i => { i with dreq := none })
      if st ≠ s.time.steps ∨ pr.steps ≠ s.time.steps then s1
      else (s1.setDelay n x.port.val (half ((pr.t2 - pr.t1) + (x.ts - x.corr - t3)))).tryOffset n x.port.val
    else s
  | _, _ => s

/-- Pdelay_Req: answered in MAC cycle mo, with the turnaround in correctionField, or in two steps (R352, R355; DEDUCED, log
entry 15). -/
def State.ptpPdelayReq (s : State) (n : Nat) (x : PtpMsg) : State :=
  if !s.ptpP2p n then s
  else
    let t2 := s.ingress x
    let s1 := (s.count (pPtp n) 3 1).macFix x.mo
    let t3 := s1.egress x.port.val x.mo
    if s1.ptpTwo n then (s1.ptpReply x 3 t2 x.corr).ptpReply x 10 t3 0
    else s1.ptpReply x 3 0 (x.corr + (t3 - t2))

/-- The end of a peer-delay exchange: meanLinkDelay. -/
def State.peerDone (s : State) (n p : Nat) (sum : Int) (steps : Nat) : State :=
  let s1 := (s.mapInst n (fun i => { i with preq := Tab.del i.preq p })).count (pPtp n) 3 1
  if steps ≠ s.time.steps then s1 else (s1.setDelay n p (half sum)).tryOffset n p

/-- Pdelay_Resp. -/
def State.ptpPdelayResp (s : State) (n : Nat) (x : PtpMsg) : State :=
  match Tab.find? (s.pinst n).preq x.port.val with
  | some q =>
    if q.seq ≠ x.seq ∨ !x.mine then s
    else
      let t4 := s.ingress x - x.corr
      if x.twoStep then s.mapInst n (fun i => { i with preq := Tab.put i.preq x.port.val { q with resp := some (x.ts, t4) } })
      else s.peerDone n x.port.val (t4 - q.t1) q.steps
  | none => s

/-- Pdelay_Resp_Follow_Up. -/
def State.ptpPdelayFollow (s : State) (n : Nat) (x : PtpMsg) : State :=
  match Tab.find? (s.pinst n).preq x.port.val with
  | some q => match q.resp with
    | some (t2, t4) =>
      if q.seq ≠ x.seq ∨ !x.mine then s else s.peerDone n x.port.val ((t4 - q.t1) - (x.ts - t2) - x.corr) q.steps
    | none => s
  | none => s

/-- A list comes before another in the order of the best master clock algorithm (PRESUMED IEEE 1588-2019, log entry 16). -/
def dsBetter : List Nat → List Nat → Bool
  | a :: l, b :: m => decide (a < b) || (a == b && dsBetter l m)
  | [], _ :: _ => true
  | _, [] => false

/-- The device's own dataset: CFG1, the variance and identity of the device, stepsRemoved 0 (R356). -/
def State.ownDs (s : State) (n : Nat) : List Nat :=
  let c := s.rd (pPtp n) 0x104
  [fld c 31 24, fld c 15 8, fld c 7 0, Config.clockVariance, fld c 23 16, Config.clockIdentity, 0]

/-- The order of two datasets of the algorithm (PRESUMED IEEE 1588-2019, log entry 16), each with its sender last and the port it is heard
on: 0 the first is better, 1 better by topology, 2 the second is better by topology, 3 better. -/
def dsOrder (a b : List Nat) (pa pb : Nat) : Nat :=
  if a.getD 5 0 ≠ b.getD 5 0 then (if dsBetter (a.take 6) (b.take 6) then 0 else 3)
  else
    let sa := a.getD 6 0
    let sb := b.getD 6 0
    let xa := a.getLast?.getD 0
    let xb := b.getLast?.getD 0
    if sb + 1 < sa then 3
    else if sa + 1 < sb then 0
    else if sb < sa then (if Config.clockIdentity < xa then 3 else 2)
    else if sa < sb then (if Config.clockIdentity < xb then 0 else 1)
    else if xa ≠ xb then (if xa < xb then 1 else 2)
    else if pa ≤ pb then 1 else 2

/-- Whether a sender of Announce messages is one to choose from: two of its messages came within four intervals, or it is the master selected
already (PRESUMED IEEE 1588-2019, log entry 16). -/
def State.ptpQualified (s : State) (n : Nat) (r : Foreign) : Bool :=
  (match (s.pinst n).master with
    | some (m, q) => q == r.port && m.getLast? == r.ds.getLast?
    | none => false)
  || (match r.prev with
    | some a => decide (128 * (s.time.mac - a) ≤ 390625000 * 4 * 2 ^ s.ptpLog n 11)
    | none => false)

/-- The best of some senders. -/
def bestForeign : List Foreign → Option Foreign
  | [] => none
  | r :: t => match bestForeign t with
    | none => some r
    | some x => if dsOrder r.ds x.ds r.port x.port ≤ 1 then some r else some x

/-- What the algorithm recommends for a port (PRESUMED IEEE 1588-2019, log entry 16): 8 to follow the best sender, heard there; 6 MASTER,
7 PASSIVE, 4 LISTENING. timedOut: the wait for an Announce there has ended. -/
def State.ptpAdvice (s : State) (n p : Nat) (timedOut : Bool) : Nat :=
  let l := (s.pinst n).foreign.filter (s.ptpQualified n)
  let here := bestForeign (l.filter (fun r => r.port == p))
  if here.isNone && s.portSt n p == 4 && !timedOut then 4
  else if s.ptpSlaveOnly n then (match bestForeign l with | some e => if e.port = p then 8 else 4 | none => 4)
  else
    let own := s.ownDs n ++ [Config.clockIdentity]
    let mine := fun (r : Option Foreign) => match r with | some e => decide (dsOrder own e.ds 0 e.port ≤ 1) | none => true
    let class_ := s.rdF (pPtp n) 0x104 15 8
    if 1 ≤ class_ ∧ class_ < 128 then (if mine here then 6 else 7)
    else if mine (bestForeign l) then 6
    else match bestForeign l, here with
      | some e, some h => if e.port = p then 8 else if dsOrder e.ds h.ds e.port h.port = 1 then 7 else 6
      | _, _ => 6

/-- The algorithm runs for an ordinary or boundary clock (R356): the ports take their states, and the instance follows the best sender where a
port follows it, and none otherwise. -/
def State.ptpDecide (s : State) (n : Nat) (timedOut : Option Nat) : State :=
  if s.ptpTc n then s
  else
    let ps := (List.range 2).filter (s.ptpPort n)
    let adv := ps.map (fun p => (p, s.ptpAdvice n p (timedOut == some p)))
    match adv.find? (fun e => e.2 == 8), bestForeign ((s.pinst n).foreign.filter (s.ptpQualified n)) with
    | some (p, _), some e =>
      let same := match (s.pinst n).master with
        | some (m, q) => q == p && m.getLast? == e.ds.getLast?
        | none => false
      let s1 := (s.mapInst n (fun i => { i with master := some (e.ds, p) })).wr64 (pPtp n) 0x11C (e.ds.getLast?.getD 0)
      let s2 := if same then s1
        else ((s1.mapInst n (fun i => { i with pair := none, sync := none, dreq := none, good := 0, lastOff := s.time.mac,
                                               delays := (if s.ptpP2p n then i.delays else []) })).setPortSt n p 8).setLock n 1
      adv.foldl (fun a e => if e.2 = 8 then a else a.setPortSt n e.1 e.2) s2
    | _, _ => adv.foldl (fun a e => a.setPortSt n e.1 e.2) (if (s.pinst n).master.isSome then s.dropMaster n else s)

/-- Announce at an ordinary or boundary clock (R356): its sender is noted, and the algorithm runs. One whose stepsRemoved is 255 or more, and the
device's own, which a slave-only clock does not send, count for nothing. -/
def State.ptpAnnounce (s : State) (n : Nat) (x : PtpMsg) : State :=
  let s1 := s.count (pPtp n) 4 1
  let p := x.port.val
  if s.ptpTc n || decide (255 ≤ (x.ds.getLast?).getD 0) || (!s.ptpSlaveOnly n && x.src == Config.clockIdentity) then s1
  else
    let old := (s.pinst n).foreign
    let is := fun (r : Foreign) => r.port == p && r.ds.getLast? == some x.src
    let r : Foreign := { port := p, ds := x.ds ++ [x.src], last := s.time.mac, prev := (old.find? is).map (·.last) }
    let s2 := s1.mapInst n (fun i => { i with foreign := r :: old.filter (fun y => !is y) })
    let s3 := if s2.ptpQualified n r then s2.mapInst n (fun i => { i with heard := Tab.put i.heard p s.time.mac }) else s2
    s3.ptpDecide n none

/-- A UDP checksum after a 64-bit field has changed from a to b (RFC 1624, PRESUMED, log entry 16); 0 is none. -/
def csumFor (old : Nat) (a b : Int) : Nat :=
  let w := fun (v : Int) (i : Nat) => enc v 64 / 65536 ^ i % 65536
  let fold := fun (v : Nat) => v % 65536 + v / 65536
  let sum := (65535 - old) + (List.range 4).foldl (fun t i => t + (65535 - w a i) + w b i) 0
  let c := 65535 - fold (fold (fold sum))
  if old = 0 then 0 else if c = 0 then 65535 else c

/-- Where an instance receives a message: it serves the domain over the transport and uses the port; a transparent clock takes every one
(R352, R355, R356). -/
def State.ptpServes (s : State) (n : Nat) (x : PtpMsg) : Bool :=
  s.ptpPort n x.port.val && (s.ptpTc n || (s.ptpDomain n == x.domain && s.ptpTr n == x.tr.val))

/-- The transparent clock forwards a frame to the other port in MAC cycle mo: an event message with its residence time, and a Sync, with
P2P, with the ingress port's link delay, its UDP checksum following (R354); peer messages not with P2P; any other message unchanged
(R355). -/
def State.ptpForward (s : State) (kind : Nat) (x : PtpMsg) (t2 : Int) : State :=
  match (List.range 2).find? s.ptpTc with
  | none => s
  | some n =>
    let p := x.port.val
    let peer := kind == 2 || kind == 3 || kind == 10
    if (peer && s.ptpP2p n) || !s.ptpLive (1 - p) then s
    else if kind < 8 then
      let s1 := (s.macFix x.mo).count (pPtp n) 7 1
      let link := if kind = 0 ∧ s.ptpP2p n then (Tab.find? (s.pinst n).delays p).getD 0 else 0
      let corr := x.corr + (s1.egress (1 - p) x.mo - t2) + link
      s1.emit (.ptpPass (1 - p) kind { x with corr := corr, csum := if x.tr = 0 then x.csum else csumFor x.csum x.corr corr })
    else s.emit (.ptpPass (1 - p) kind x)

/-- A PTP frame is received (R352 to R355): every instance that serves it uses it, and the transparent clock forwards it; a unicast one is not
supported and ignored. -/
def State.ptpRx (s : State) (kind : Nat) (x : PtpMsg) (own : State → Nat → State) : State :=
  let s1 := s.macTo x.m
  if !s1.ptpLive x.port.val || !x.multi then s1
  else
    let t2 := s1.ingress x
    ((List.range 2).foldl (fun a n => if a.ptpServes n x then own a n else a) s1).ptpForward kind x t2

/-- The next sequence number of a message type on a port. -/
def State.ptpSeq (s : State) (n p kind : Nat) : Nat × State :=
  let q := Tab.get 0 (s.pinst n).seqs (16 * p + kind)
  (q, s.mapInst n (fun i => { i with seqs := Tab.set 0 i.seqs (16 * p + kind) ((q + 1) % 65536) }))

/-- PTP_MESSAGE_TX (R354): an interval of instance n on a port has expired (R352) and a message leaves in MAC cycle m: 0 Sync and 11
Announce from a master port, 1 Delay_Req from a slave port, 2 Pdelay_Req with P2P. -/
def State.ptpSend (s0 : State) (n p kind m : Nat) : State :=
  let st := s0.portSt n p
  let t := s0.egress p m
  let early := match Tab.find? (s0.pinst n).sentAt (16 * p + kind) with
    | some a => !s0.ptpAged n kind 1 (m - a)
    | none => false
  let s := s0.mapInst n (fun i => { i with sentAt := Tab.put i.sentAt (16 * p + kind) m })
  if !s0.ptpLive p || !s0.ptpPort n p || early then s0
  else match kind with
    | 0 =>
      if st ≠ 6 ∨ s.ptpTc n then s0
      else
        let a := s.ptpSeq n p 0
        let s1 := a.2.count (pPtp n) 1 1
        if s.ptpTwo n then (s1.ptpOut n p 0 a.1 0 0 []).ptpOut n p 8 a.1 t 0 []
        else s1.ptpOut n p 0 a.1 t 0 []
    | 11 =>
      if st ≠ 6 ∨ s.ptpTc n then s0
      else
        let a := s.ptpSeq n p 11
        let ds := match (s.pinst n).master with
          | some (m, _) => m.take 6 ++ [m.getD 6 0 + 1]
          | none => s.ownDs n
        a.2.ptpOut n p 11 a.1 0 0 ds
    | 1 =>
      if (st ≠ 8 ∧ st ≠ 9) ∨ s.ptpP2p n then s0
      else
        let a := s.ptpSeq n p 1
        (a.2.mapInst n (fun i => { i with dreq := some (a.1, t, s.time.steps) })).ptpOut n p 1 a.1 0 0 []
    | 2 =>
      if !s.ptpP2p n then s0
      else
        let a := s.ptpSeq n p 2
        (a.2.mapInst n (fun i => { i with preq := Tab.put i.preq p { seq := a.1, t1 := t, steps := s.time.steps } })).ptpOut n p 2 a.1 0 0 []
    | _ => s0

/-- ANNOUNCE_TIMEOUT: ann: no Announce for ANN_TMO intervals on a port: what was heard there is forgotten, and the algorithm runs (R356); else
no offset for ANN_TMO Sync intervals: HOLDOVER (R358). One that comes before its time does nothing. -/
def State.ptpTimeout (s : State) (n p : Nat) (ann : Bool) : State :=
  let i := s.pinst n
  if !s.ptpPort n p then s
  else if !ann then
    (if (s.ptpLock n = 1 ∨ s.ptpLock n = 2) ∧ s.ptpAged n 0 (s.annTmo n) (s.time.mac - i.lastOff) then s.setLock n 3 else s)
  else if s.ptpTc n || !s.ptpAged n 11 (s.annTmo n) (s.time.mac - Tab.get 0 i.heard p) || s.portSt n p == 6 then s
  else
    let here := match i.master with | some (_, q) => q == p | none => false
    let s1 := s.mapInst n (fun i => { i with foreign := i.foreign.filter (fun r => r.port != p), heard := Tab.put i.heard p s.time.mac })
    (if here then s1.dropMaster n else s1).ptpDecide n (some p)

/-- A write of PTP[n].CFG0: EN turned on starts the instance with its ports LISTENING; the other changes start it anew too; EN off makes
it unused (Table 13.6). -/
def State.ptpCfg (s : State) (n : Nat) (v : Word) : State :=
  if s.rd (pPtp n) 0x100 = v then s
  else
    let s1 := (s.dropMaster n).wr (pPtp n) 0x100 v
    (List.range 2).foldl (fun a p => a.setPortSt n p (if a.ptpPort n p then 4 else 0))
      (s1.mapInst n (fun i => { seqs := i.seqs, heard := [(0, s.time.mac), (1, s.time.mac)], lastOff := s.time.mac }))

/-- A write of PTP[n].CFG1 or CFG2, from whose fields the algorithm runs (R356). -/
def State.ptpDataset (s : State) (n off : Nat) (v : Word) : State := (s.wr (pPtp n) off v).ptpDecide n none

end Sys2Proof.Machine
end

