-- ==== Sys2Proof/Machine/Csync.lean ====
section
/-! DEFINITION. Csync: beat alignment across a cluster: exchanges, tracking, cluster start, loads of the beat counter, and peer
latencies (13_time_and_cluster.md R360 to R367). Fine time is 2,048 × BEAT + φ. -/
namespace Sys2Proof.Machine

/-- CSYNC.STAT.STATE: 0 SOLO, 1 JOINING, 2 MEASURING, 3 LOADING, 4 ALIGNED, 5 HOLDOVER, 6 ALIGN_LOST, 7 FAILED (Table 13.8). -/
def State.csState (s : State) : Nat := s.rdF pCsync 0x10C 2 0

/-- Set it. -/
def State.setCs (s : State) (v : Nat) : State := s.wrF pCsync 0x10C 2 0 v

/-- CFG.PARENT: the port to the parent; 7 for the root. -/
def State.csParent (s : State) : Nat := s.rdF pCsync 0x100 18 16

/-- A port is trained: ACTIVE or in electrical idle (14_serial_links.md Table 14.10). -/
def State.portUp (s : State) (p : Nat) : Bool := s.portState p == 5 || s.portState p == 6

/-- An exchange still open is discarded and counted (R360). -/
def State.dropReq (s : State) : State :=
  if s.time.req.isSome then (s.count pCsync 1 1).mapTime (fun t => { t with req := none }) else s

/-- A failed JOIN (R364, R365). -/
def State.csFail (s : State) (cause : Nat) : State :=
  (((s.dropReq.setCs 7).flag pCsync 4).recErr pCsync cause 0x108).mapTime (fun t => { t with load := none, startHi := none })

/-- ALIGN_LOST (R362). -/
def State.alignLost (s : State) : State := (s.dropReq.setCs 6).flag pCsync 2

/-- A word of Table 13.2: TYPE, SRC_DEV and the rest. -/
def State.timeFlit (s : State) (type rest : Nat) : BitVec 64 := BitVec.ofNat 64 (type * 2 ^ 60 + s.devnum * 2 ^ 55 + rest % 2 ^ 55)

/-- Send PING to every other member (R367). -/
def State.sendPings (s : State) : State :=
  let mem := (s.rd pCsync 0x104).toNat
  let ds := (maskList 32 mem).filter (fun d => d != s.devnum)
  let q := (s.time.pingSeq + 1) % 65536
  let s1 := (s.wrB pCsync 0x10C 8 ds.isEmpty).mapTime (fun t => { t with pingSeq := q, wait := ds.foldl mset 0 })
  ds.foldl (fun a d => a.unicast d 1 (a.timeFlit 8 (d * 2 ^ 50 + q * 2 ^ 34 + a.beat % 2 ^ 24 * 2 ^ 10))) s1

/-- ALIGNED at a depth (R365, R367): the rotator count starts at 0, and the peers are measured. -/
def State.aligned (s : State) (depth : Nat) : State :=
  let s1 := ((((s.dropReq.setCs 4).wrF pCsync 0x10C 6 4 depth).wr pCsync 0x110 0).flag pCsync 0).mapTime (fun t =>
    { t with recent := [], bad := 0, load := none, startHi := none })
  s1.sendPings

/-- Whether JOIN is refused BUSY (R364): a Crozier that is not IDLE, HALTED or FAULT, a group other than 63 that is not IDLE, or an
enabled context. -/
def State.joinBusy (s : State) : Bool :=
  (List.range 32).any s.active || (List.range 63).any (fun g => s.rdF (pCgrp g) 0x104 2 0 != 0)
    || (List.range 16).any (fun c => s.rdB (pAcq c) 0x104 0)

/-- The cause with which JOIN is refused, if any (R364, R365): checks in the order of the list. -/
def State.joinCause (s : State) : Option Nat :=
  let p := s.csParent
  if s.mode ≠ 2 then some 1
  else if s.joinBusy then some 2
  else if 4 ≤ p ∧ p ≤ 6 then some 3
  else if p < 4 then
    (if !s.portUp p then some 6
    else if !tst (s.rd pCsync 0x104).toNat (s.rdF pNdeor (0x114 + 4 * p) 20 16) then some 3
    else none)
  else if s.rdB pCsync 0x100 8 ∧ s.ptpLock (s.rdF pServo 0x100 4 4) ≠ 2 then some 5
  else none

/-- CSYNC.CMD JOIN (R364, R365). -/
def State.csJoin (s : State) : State :=
  match s.joinCause with
  | some c => s.recErr pCsync c 0x108
  | none =>
    let s1 := ((s.dropReq.wrF pCsync 0x10C 6 4 0).wrB pCsync 0x10C 8 false).mapTime (fun t =>
      { t with sent := none, n := 0, sumD := 0, sumT := 0, startHi := none, load := none, joinAt := s.beat, kids := 0, wait := 0 })
    if s.csParent < 4 then s1.setCs 1
    else if s.rdB pCsync 0x100 8 then (s1.setCs 3).mapTime (fun t => { t with load := some (s.beat + 1, none) })
    else s1.aligned 0

/-- CSYNC.CMD LEAVE (R367): SOLO, in READY; ALIGN_LOST is left by a new cluster start alone (R362). -/
def State.csLeave (s : State) : State :=
  if s.mode ≠ 2 then s.recErr pCsync 1 0x108
  else if s.csState = 6 then s
  else (((s.dropReq.setCs 0).wrF pCsync 0x10C 6 4 0).wrB pCsync 0x10C 8 false).mapTime (fun t =>
    { t with startHi := none, load := none, kids := 0, wait := 0 })

/-- CSYNC.CMD REMEASURE (R367): once ALIGNED, the peers are measured again. -/
def State.csRemeasure (s : State) : State := if s.csState = 4 ∨ s.csState = 5 then s.sendPings else s

/-- A write of CSYNC.CMD with KEY 0x4353; several commands act in the order of their bits. -/
def State.csCmd (s : State) (v : Word) : State :=
  if fld v 31 16 ≠ 0x4353 then s
  else
    let s1 := if bit v 0 then s.csJoin else s
    let s2 := if bit v 1 then s1.csLeave else s1
    if bit v 2 then s2.csRemeasure else s2

/-- n beats have passed since a beat, or there was none. -/
def State.since (s : State) (n : Nat) (b : Option Nat) : Bool := match b with | some x => decide (x + n ≤ s.beat) | none => true

/-- SYNC_REQ_SEND (R360, R362): the child's exchange interval expires at φ in the beat: 64 beats while it measures, 4,096 once ALIGNED
(R362, R365). An exchange still open is lost. -/
def State.syncReqSend (s : State) (phi : Nat) : State :=
  let st := s.csState
  if s.csParent < 4 ∧ s.portUp s.csParent ∧ (st = 1 ∨ st = 2 ∨ st = 4 ∨ st = 5) ∧ s.since (if st < 4 then 64 else 4096) s.time.sent then
    let s1 := s.dropReq
    let q := s1.time.seq
    (s1.mapTime (fun t => { t with sent := some s.beat, req := some (q, 2048 * s.beat + phi), seq := (q + 1) % 65536 })).sendOn s.csParent 0 0 1
      (s1.timeFlit 4 (q * 2 ^ 39))
  else s

/-- SYNC_REQ received on a port at φ in the beat (R360): the reply leaves `turn` fine units later, or not at all where that is too
late. -/
def State.syncReq (s : State) (port phi turn : Nat) (w : BitVec 64) : State :=
  let s1 := s.mapTime (fun t => { t with kids := mset t.kids port })
  if 32767 < turn then s1.count pCsync 3 1
  else
    let a := if s.csState = 4 then 2 ^ 38 else 0
    s1.sendOn port 0 0 1 (s1.timeFlit 5 (nfld w.toNat 54 39 * 2 ^ 39 + a + s.beat % 4096 * 2 ^ 26 + phi * 2 ^ 15 + turn))

/-- A number modulo 2^23 as the nearest to 0. -/
def wrap23 (v : Int) : Int := (v + 2 ^ 22) % 2 ^ 23 - 2 ^ 22

/-- The fine part of a time, in −1,024 to +1,023 (R361, R365). -/
def finePart (v : Int) : Int := (v + 1024) % 2048 - 1024

/-- d and θ of an exchange (R360): d whole, its rounding open (log entry 25), θ modulo 2^23. -/
def State.exchange (s : State) (port t1 t4 : Nat) (w : BitVec 64) : Int × Int :=
  let turn : Int := nfld w.toNat 14 0
  let t2 : Int := 2048 * nfld w.toNat 37 26 + nfld w.toNat 25 15
  let asym := sgn (s.rd pCsync (0x124 + 4 * port)).toNat 16
  (quot 3 (((t4 : Int) - t1) - turn) 2, wrap23 (roundShift ((t1 : Int) + t4 - 2 * t2 - turn + asym) 1))

/-- The rotator moves n units (R361, LCNT[2]). -/
def State.rotate (s : State) (n : Int) : State :=
  if n = 0 then s else (s.count pCsync 2 n.natAbs).mapTime (fun t => { t with rotAt := some s.beat })

/-- MEASURING takes an exchange (R365): after 4,096 the phase is turned to zero, in READY (R361), and the device waits for the parent's
number. Outside READY it goes on measuring (DESIGN CHOICE, log entry 44: R361 lets the rotator make the turn in READY alone, R365 names no mode). -/
def State.measuring (s : State) (d th : Int) : State :=
  let t := s.time
  let r := if t.n = 0 then th else t.ref
  let sd := t.sumD + d
  let st := t.sumT + wrap23 (th - r)
  if t.n + 1 < 4096 ∨ s.mode ≠ 2 then s.mapTime (fun x => { x with n := x.n + 1, ref := r, sumD := sd, sumT := st })
  else
    let e := r + quot 6 st (t.n + 1)
    ((s.mapTime (fun x => { x with n := 0, sumD := 0, sumT := 0, dAvg := quot 5 sd (t.n + 1) })).rotate (finePart e)).setCs 3

/-- TRACK: e, and the net rotator steps after a move by k. -/
def State.track (s : State) (e k : Int) : State :=
  let rot := sgn (s.rdF pCsync 0x110 31 16) 16 + k
  (s.wr pCsync 0x110 (BitVec.ofNat 32 (enc rot 16 * 2 ^ 16 + enc e 16))).rotate k

/-- The average of a list; its rounding is open (log entry 25). -/
def avg (l : List Int) : Int := quot 4 (l.foldl (fun a b => a + b) 0) l.length

/-- ALIGNED takes an exchange (R362); the rotator moves at most one unit per 4,096 beats (R361). -/
def State.tracking (s : State) (th : Int) : State :=
  let l := (th :: s.time.recent).take 16
  let e := avg l
  let bad := if 102 < e.natAbs then s.time.bad + 1 else 0
  let s1 := s.mapTime (fun t => { t with recent := l, bad := bad })
  let s2 := if 31 < e.natAbs then s1.flag pCsync 3 else s1
  if th ≠ finePart th ∨ 16 ≤ bad then (s2.track e 0).alignLost
  else s2.track e (if !s2.since 4096 s2.time.rotAt then 0 else if 0 < e then -1 else if e < 0 then 1 else 0)

/-- HOLDOVER takes an exchange after the link has retrained (R362): the first 16 decide. -/
def State.resync (s : State) (th : Int) : State :=
  let l := th :: s.time.recent
  let s1 := s.mapTime (fun t => { t with recent := l })
  if l.length < 16 then s1
  else
    let e := avg l
    let s2 := s1.track e 0
    if l.all (fun v => v == finePart v) ∧ e.natAbs ≤ 31 then ((s2.setCs 4).flag pCsync 0).mapTime (fun t => { t with bad := 0 })
    else s2.alignLost

/-- SYNC_RESP received on a port at φ in the beat (R360, R362, R365): one of the device's own number ends a JOIN, whether or not it
answers a request. -/
def State.syncResp (s : State) (port phi : Nat) (w : BitVec 64) : State :=
  if 1 ≤ s.csState ∧ s.csState ≤ 3 ∧ nfld w.toNat 59 55 = s.devnum then s.csFail 3
  else match s.time.req with
  | some (q, t1) =>
    if port ≠ s.csParent ∨ q ≠ nfld w.toNat 54 39 then s
    else
      let s0 := s.mapTime (fun t => { t with req := none })
      let x := s.exchange port t1 (2048 * s.beat + phi) w
      let s1 := (s0.count pCsync 0 1).wr pCsync (0x114 + 4 * port) (BitVec.ofNat 32 (enc x.1 24))
      match s.csState with
      | 1 => if tst w.toNat 38 then s1.setCs 2 else s1
      | 2 => s1.measuring x.1 x.2
      | 4 => s1.tracking x.2
      | 5 => s1.resync x.2
      | _ => s1
  | none => s

/-- START_SEND (R365): START_HI in the beat before one whose low 12 bits are 0, START_LO in that beat, on every port that leads to a
child, while ALIGNED. -/
def State.startSend (s : State) : State :=
  let ports := (List.range 4).filter (fun p => tst s.time.kids p && p != s.csParent)
  let B := s.beat + 1
  if s.csState ≠ 4 then s
  else if s.beat % 4096 = 4095 then
    ports.foldl (fun a p => a.sendOn p 0 0 1 (a.timeFlit 6 (a.rdF pCsync 0x10C 6 4 * 2 ^ 52 + B / 2 ^ 32 % 2 ^ 32))) s
  else if s.beat % 4096 = 0 then ports.foldl (fun a p => a.sendOn p 0 0 1 (a.timeFlit 7 (a.beat % 2 ^ 32))) s
  else s

/-- START_HI received on a port (R365). -/
def State.startHi (s : State) (port : Nat) (w : BitVec 64) : State :=
  if s.csState ≠ 3 ∨ port ≠ s.csParent ∨ s.time.load.isSome then s
  else s.mapTime (fun t => { t with startHi := some (nfld w.toNat 31 0, nfld w.toNat 54 52) })

/-- START_LO received on a port (R364, R365): the load is due in the 17th beat after, unless group 63 is not IDLE, when the next pair
is awaited. -/
def State.startLo (s : State) (port : Nat) (w : BitVec 64) : State :=
  match s.time.startHi with
  | some (hi, depth) =>
    if s.csState ≠ 3 ∨ port ≠ s.csParent then s
    else
      let s1 := s.mapTime (fun t => { t with startHi := none })
      if depth = 6 then s1.csFail 4
      else if s.rdF (pCgrp 63) 0x104 2 0 ≠ 0 then s1
      else
        let now := (((hi * 2 ^ 32 + nfld w.toNat 31 0 : Nat) : Int) + s.time.dAvg / 2048).toNat
        s1.mapTime (fun t => { t with load := some (s.beat + 17, some (now + 17)), newDepth := depth + 1 })
  | none => s

/-- A stored beat moved along with a load from old to new. -/
def mv (old new x : Nat) : Nat := x + new - old

/-- Every value of a table changed. -/
def Tab.mapV {α : Type} [DecidableEq α] (d : α) (g : α → α) (t : Tab α) : Tab α :=
  t.foldl (fun u (e : Nat × α) => Tab.set d u e.1 (g e.2)) []

/-- A pass moved along with a load; an accumulator that an ABS rule set follows the new count (R366). -/
def Pass.move (o n : Nat) (p : Pass) : Pass :=
  { p with phi := (((p.phi : Int) + p.absFtw * 32 * ((n : Int) - o)) % 2 ^ 48).toNat, k0 := mv (32 * o) (32 * n) p.k0, kphi := mv (32 * o) (32 * n) p.kphi, underK := mv (32 * o) (32 * n) p.underK }

/-- A player moved along with a load. -/
def Player.move (o n : Nat) (p : Player) : Player :=
  if !p.playing ∧ p.past = 0 then p
  else
    let k := fun (x : Nat) => mv (32 * o) (32 * n) x
    let q := p.toPass.move o n
    let l := p.last.map (Pass.move o n)
    { p with toPass := q, latchK := k p.latchK, last := l, past := k p.past }

/-- The state of the fronds and of the decision path moved along with a load (R366): what lasts a number of beats lasts as long. -/
def State.moveFronds (s : State) (o n : Nat) : State :=
  let k := mv o n
  let shot := fun (h : Shot) => { h with start := k h.start, ended := h.ended.map k }
  let croz := fun (c : Croz) =>
    { c with sPrev := c.sPrev.map k, ready := k c.ready, shots := c.shots.map shot, parBeat := k c.parBeat, forcedTo := k c.forcedTo, haltAt := c.haltAt.map k, endAt := c.endAt.map k, aluAt := c.aluAt.map (fun e => (k e.1, e.2)) }
  let win := fun (w : Win) => { w with issue := k w.issue, ks := mv (24 * o) (24 * n) w.ks }
  let fe := fun (x : Fe) =>
    { x with sws := x.sws.map (fun w => { w with beat := k w.beat }), reqs := x.reqs.map (fun q => (k q.1, q.2)), ovr := x.ovr.map k, rails := x.rails.map (fun (e : Nat × Bool) => (mv (24 * o) (24 * n) e.1, e.2)),
             wins := x.wins.map win, past := x.past.map win, calEnd := if x.calEnd = 0 then 0 else k x.calEnd, swDue := x.swDue.map k, grids := [], toneChg := x.toneChg.map (fun c => (c.1, k c.2.1, c.2.2)) }
  let old := fun (y : OldSlot) => { y with since := k y.since }
  let slot := fun (y : Slot) => { y with since := k y.since, old := y.old.map old }
  let rec_ := fun (r : BusRec) => { r with beat := k r.beat }
  let fl := fun (x : Flight) => { x with issue := k x.issue, dl := k x.dl, ready := x.ready.map k }
  let so := s.sorus
  let sorus := { so with flights := so.flights.map (fun (e : Nat × Flight) => (e.1, fl e.2)), taints := Tab.mapV 0 k so.taints,
                         notices := so.notices.map (fun x => { x with due := k x.due }),
                         resols := so.resols.map (fun r => { r with due := k r.due }),
                         late := so.late.map (fun (e : Nat × List (Nat × List Nat)) => (e.1, e.2.map (fun d => (k d.1, d.2)))),
                         intake := so.intake.map (fun e => (k e.1, e.2)) }
  { s with croz := Tab.mapV {} croz s.croz, fes := Tab.mapV {} fe s.fes, slots := Tab.mapV {} slot s.slots,
           bus := s.bus.map rec_, sorus := sorus, players := Tab.mapV {} (Player.move o n) s.players,
           bounds := s.bounds.map (fun (e : Nat × Nat × Nat) => (e.1, e.2.1, k e.2.2)) }

/-- A capture context moved along with a load. -/
def Acq.move (o n : Nat) (x : Acq) : Acq :=
  let k := mv o n
  { x with first := k x.first, timeFrom := k x.timeFrom, autoFrom := k x.autoFrom,
           met := x.met.map (fun m => { m with t := k m.t, upto := k m.upto }), base := x.base.map (fun e => (k e.1, k e.2)),
           marks := x.marks.map (fun m => (k m.1, m.2)), caps := x.caps.map (fun e => (k e.1, k e.2.1, k e.2.2)),
           sels := x.sels.map (fun e => (k e.1, e.2)), gone := x.gone.map (fun g => (g.1, k g.2)), buf := (x.buf.1, k x.buf.2), stopAt := x.stopAt.map k, trigT := x.trigT.map k,
           capTo := k x.capTo, next := k x.next, items := x.items.map (fun i => (k i.1, i.2)), lost := x.lost.map (fun l => (k l.1, l.2)),
           stage := x.stage.map (fun r => (k r.1, r.2)), linkMark := x.linkMark.map k }

/-- A group moved along with a load: the beats of its own; a commit point that names an absolute time stays. -/
def Group.move (o n : Nat) (timed : Bool) (x : Group) : Group :=
  let k := mv o n
  { x with ready := x.ready.map k, abortAt := x.abortAt.map k,
           dec := if timed then x.dec else x.dec.map k, app := if timed then x.app else x.app.map k }

/-- The state of the other engines moved along with a load (R366). -/
def State.moveRest (s : State) (o n : Nat) : State :=
  let k := mv o n
  let q := fun (x : Queue) => { x with waits := x.waits.map (fun (w : Path × Nat) => (w.1, k w.2)), timer := x.timer.map k }
  let cell := fun (c : Cell) => { c with init := c.init.map k }
  let ev := fun (e : Nat × Nat) => (k e.1, e.2)
  let h := s.hypha
  let hypha := { h with cells := Tab.mapV {} cell h.cells, events := h.events.map ev, carried := h.carried.map ev }
  let pins := { s.pins with clrFrom := k s.pins.clrFrom, spans := s.pins.spans.map (fun (x : Nat × Nat) => (k x.1, k x.2)),
                            forces := s.pins.forces.map (fun (e : Nat × Bool) => (k e.1, e.2)),
                            pipe := s.pins.pipe.map (fun (e : Nat × Nat × List Int) => (k e.1, e.2)),
                            hist := s.pins.hist.map (fun (e : Nat × Nat × Word) => (k e.1, e.2)) }
  let c := s.cal
  let val := fun (e : Nat × CalVal) => (e.1, { e.2 with at_ := k e.2.at_ })
  let cal := { c with due := Tab.mapV 0 k c.due, runs := c.runs.map (fun (e : Nat × CalRun) => (e.1, { e.2 with start := k e.2.start })),
                      slots := Tab.mapV [] (fun (l : List CalSlot) => l.map (fun z => { z with b := k z.b, e := k z.e })) c.slots,
                      pend := c.pend.map val, carry := c.carry.map val, sets := c.sets.map val,
                      decl := Tab.mapV 0 k c.decl, est := c.est.map (fun (e : Nat × Int × Nat) => (e.1, e.2.1, k e.2.2)) }
  let t := s.time
  let time := { t with sels := t.sels.map (fun (x : Nat × Nat) => (k x.1, x.2)), joinAt := k t.joinAt, holdAt := k t.holdAt,
                       seen := t.seen.map (fun (x : Nat × Nat × Nat × Nat) => (x.1, x.2.1, x.2.2.1, k x.2.2.2)),
                       resync := t.resync.map k, held := t.held.map (fun h => { h with a := k h.a, due := h.due.map k }),
                       sent := t.sent.map k, rotAt := t.rotAt.map k }
  let b := s.boot
  let boot := { b with stopAt := b.stopAt.map k, holdAt := b.holdAt.map k, nowBeat := k b.nowBeat, swAt := b.swAt.map k,
                       sw := b.sw.map (fun (x : Nat × Bool × Nat) => (x.1, x.2.1, k x.2.2)) }
  let ring := fun (x : Ring) => { x with reads := x.reads.map (fun (e : Nat × Nat) => (k e.1, e.2)) }
  { s with queues := Tab.mapV {} q s.queues, hypha := hypha, pins := pins, cal := cal, time := time, boot := boot, rings := Tab.mapV {} ring s.rings,
           acqs := Tab.mapV {} (Acq.move o n) s.acqs, hk := { s.hk with fired := Tab.mapV 0 k s.hk.fired },
           therm := { s.therm with fAt := k s.therm.fAt }, trigs := s.trigs.map (fun e => (k e.1, e.2)),
           groups := s.groups.map (fun (e : Nat × Group) => (e.1, e.2.move o n (s.grpKind e.1 == 1 || s.grpKind e.1 == 3))) }

/-- A load of the beat counter (R366): the beat takes a new number, the mapping history is cleared, and FLAGS.LOADED set. -/
def State.loadBeat (s : State) (n : Nat) : State :=
  let m := n % 2 ^ 64
  (({ ((s.moveFronds s.beat m).moveRest s.beat m) with beat := m }).clearMap).flag pClock 4

/-- BEAT_COUNTER_LOAD (R365, R366): the load that is due acts in its beat; the root's waits for group 63 to become IDLE. -/
def State.counterLoad (s : State) : State :=
  match s.time.load with
  | some (b, some v) => if s.csState = 3 ∧ s.beat = b then (s.loadBeat v).aligned s.time.newDepth else s
  | some (b, none) =>
    if s.csState ≠ 3 ∨ s.beat < b ∨ s.rdF (pCgrp 63) 0x104 2 0 ≠ 0 then s
    else match s.ptpOf s.beat with
      | some p => (s.loadBeat (p.s * 10 ^ 9 + p.ns)).aligned 0
      | none => s
  | none => s

/-- PING for this device (R367): answered with FWD, the one-way latency (10 bits; larger ones saturate, log entry 17). -/
def State.ping (s : State) (w : BitVec 64) : State :=
  let src := nfld w.toNat 59 55
  let fwd := (s.beat + 2 ^ 24 - nfld w.toNat 33 10) % 2 ^ 24
  s.unicast src 1 (s.timeFlit 9 (src * 2 ^ 50 + nfld w.toNat 49 34 * 2 ^ 34 + min 1023 fwd * 2 ^ 24 + s.beat % 2 ^ 24))

/-- PONG for this device (R367): PEER_LAT of its sender. -/
def State.pong (s : State) (w : BitVec 64) : State :=
  let src := nfld w.toNat 59 55
  if nfld w.toNat 49 34 ≠ s.time.pingSeq ∨ !tst s.time.wait src then s
  else
    let rev := (s.beat % 2 ^ 24 + 2 ^ 24 - nfld w.toNat 23 0) % 2 ^ 24
    let lat := min 0xFE (max (nfld w.toNat 33 24) rev)
    let s1 := (s.wrF pCsync (0x140 + 4 * (src / 4)) (8 * (src % 4) + 7) (8 * (src % 4)) lat).mapTime (fun t => { t with wait := mclr t.wait src })
    if s1.time.wait = 0 then s1.wrB pCsync 0x10C 8 true else s1

/-- Loss of the parent link (R362); one more in HOLDOVER starts the first 16 exchanges again. -/
def State.parentLoss (s : State) : State :=
  if s.csParent < 4 ∧ s.csState = 4 then
    ((s.dropReq.setCs 5).flag pCsync 1).mapTime (fun t => { t with holdAt := s.beat, recent := [] })
  else if s.csParent < 4 ∧ s.csState = 5 then s.dropReq.mapTime (fun t => { t with recent := [] })
  else s

/-- HOLD_MS (R362): HOLDOVER has lasted TMO.HOLD_MS; 1 ms is 10^6 beats. -/
def State.holdMs (s : State) : State :=
  if s.csState = 5 ∧ s.time.holdAt + s.rdF pCsync 0x134 31 16 * 10 ^ 6 ≤ s.beat then s.alignLost else s

/-- JOIN_MS (R365): a JOIN that has not reached ALIGNED within TMO.JOIN_MS. -/
def State.joinMs (s : State) : State :=
  if 1 ≤ s.csState ∧ s.csState ≤ 3 ∧ s.time.joinAt + s.rdF pCsync 0x134 15 0 * 10 ^ 6 ≤ s.beat then s.csFail 7 else s

/-- Loss of the main clock (R362; 01_architecture.md R34). -/
def State.csUnlock (s : State) : State := if s.csState = 4 ∨ s.csState = 5 then s.alignLost else s

end Sys2Proof.Machine
end

