-- ==== Sys2Proof/Machine/Hold.lean ====
section
/-! DEFINITION. Hold: mode bookkeeping, the boot log, and entry to HOLD (02_modes_power_boot.md R46, R50 to R55, R71 to R74;
07_drive_outputs.md R223; 14_serial_links.md R391). -/
namespace Sys2Proof.Machine

/-- The current mode becomes m, the former one PREV (Table 2.9). -/
def State.setMode (s : State) (m : Nat) : State := (s.wrF pMode 0x100 10 8 s.mode).wrF pMode 0x100 2 0 m

/-- A transition is in progress, towards a target, or none is (R50). -/
def State.setTarget (s : State) (t : Option Nat) : State :=
  (s.mapBoot (fun b => { b with target := t, stopAt := none })).wrB pMode 0x100 14 t.isSome

/-- FAULT_N is low while POR_N is low and in HOLD (R52; 19_electrical_and_package.md R507). -/
def State.faultLow (s : State) : Bool := s.mode == 5 || s.boot.por

/-- SMB_ALERT_N is low in HOLD (14_serial_links.md R394). -/
def State.alertLow (s : State) : Bool := s.mode == 5

/-- The thermal lock (R55). -/
def State.thermLock (s : State) : Bool := s.rdB pMode 0x100 15

/-- Write a record to the boot log (R71, Table 2.6). -/
def State.bootLog (s : State) (outcome step unit cause time : Nat) (detail : Word) : State :=
  let r := s.rdF pBoot 0x108 13 8
  let w := fun (t : Tab Word) (k v : Nat) => Tab.set 0 t (4 * r + k) (BitVec.ofNat 32 v)
  let l := w (w (w (w s.boot.log 0 (s.boot.seq * 2 ^ 16 + outcome * 2 ^ 8 + step)) 1 (unit * 2 ^ 16 + cause)) 2 time) 3 detail.toNat
  (s.mapBoot (fun b => { b with log := l })).wrF pBoot 0x108 13 8 ((r + 1) % 64)

/-- The log and the failure counters are mirrored to flash (R73). -/
def State.mirrorLog (s : State) : State :=
  s.mapBoot (fun b => { b with
    mirror := b.log, mirrorHead := s.rdF pBoot 0x108 13 8, mirrorSeq := b.seq, mirrorCnt := s.rd pBoot 0x11C })

/-- Boot ends at always-on cycle t: RESULT and STEP, the closing record, BOOT_TIME, and the mirror (R67, R71, R73, R74). -/
def State.bootEnd (s : State) (result step outcome unit cause t : Nat) : State :=
  let s1 := ((s.wrF pBoot 0x100 31 28 result).wrF pBoot 0x100 23 19 step).wr pBoot 0x124 (BitVec.ofNat 32 t)
  (s1.bootLog outcome 0 unit cause t (s1.rd pBoot 0x100)).mirrorLog

/-- A broadcast of the device's own: TYPE, its number and a new SEQ (14_serial_links.md Table 14.6, R383). -/
def State.ownCast (s : State) (type : Nat) : State :=
  let n := s.time.bcSeq % 65536
  let s1 := { s with time := { s.time with bcSeq := (n + 1) % 65536 } }
  ((s1.newCast s1.devnum type n).2).broadcast 4 1 (BitVec.ofNat 64 (type * 2 ^ 60 + s.devnum * 2 ^ 55 + n * 2 ^ 39))

/-- Every shot that is in flight becomes INVALID: one not ended, or whose samples may still lie between the issue beat and the
ball (R52; DEDUCED, log entry 8). -/
def State.killShots (s : State) : State :=
  (List.range 32).foldl (fun a f =>
    let c := a.crz f
    if c.shots.isEmpty then a
    else a.setCrz f { c with shots := c.shots.map (fun h =>
      if (match h.ended with | some e => decide (a.beat < e + 24) | none => true) then { h with tags := tagOr h.tags 1 } else h) }) s

/-- A Crozier that entry to HOLD halts: its queued bundles are discarded now, and it halts at its next microword boundary (R52). -/
def State.haltSoon (s : State) (f : Nat) : State :=
  let s1 := (s.setQueue f []).idlePlayers f
  if s1.active f then (s1.setCrz f { s1.crz f with haltAt := some s1.beat }).haltStep f else s1.crzStop f

/-- What entry to HOLD does in every unit (R52; 07_drive_outputs.md R223; 10_sorus_feedback.md R287; 12_hypha_events.md R333;
16_housekeeping_analog.md R427; 15_calibration.md R402, R412; 04_commit_groups.md R125). -/
def State.holdUnits (s : State) : State :=
  let s1 := (List.range 32).foldl (fun a f => a.haltSoon f) s.killShots
  ({ s1 with chains := [] }.sorusHold.hyphaHold.biasClearAll.modeAborts true).calHold.burnCut

/-- The outputs are forced in HOLD: for ABORT_N behind the 12 beats of distribution and the 5 of the DAC core, the samples before them
leaving the pipeline (01_architecture.md R40); for another cause, to which no rule gives a path, at once, in HOLD already too. -/
def State.holdForce (s : State) (cause : Nat) : State := if cause = 5 ∧ s.clockOn then s.forceFrom (s.beat + 17) true else s.forceNow

/-- A device with ABORT_OUT that enters HOLD for another cause than NDEOR_ABORT broadcasts one ABORT flit (R391). -/
def State.abortOut (s : State) (cause : Nat) : State :=
  if s.rdB pNdeor 0x100 1 ∧ cause ≠ 4 then (s.ownCast 3).count pNdeor 4 1 else s

/-- An abort that takes effect: TIMELINE.FLAGS.ABORT and its bit of ABORT_STAT: 0 PIN, 1 DOORBELL with the function, 2 NDEOR
(01_architecture.md Tables 1.9, 1.13). -/
def State.abortStat (s : State) (i fn : Nat) : State :=
  let s1 := (s.wrB pTimeline 0x10C i true).flag pTimeline 1
  if i = 1 then s1.wrF pTimeline 0x10C 12 8 fn else s1

/-- The abort a HOLD cause stands for, if any. -/
def State.abortCause (s : State) (cause : Nat) : State :=
  if cause = 3 then s.abortStat 1 0 else if cause = 4 then s.abortStat 2 0 else if cause = 5 then s.abortStat 0 0 else s

/-- The always-on cycle since entry to BOOT that is now: that of the latest boot event and the beats since, 40 to a cycle; the phase
of the cycle, and the cycles that pass while the beat counter stands, are free (R71; log entry 44). -/
def State.bootTime (s : State) : Nat × State :=
  let d := s.draw
  (s.boot.now + (if s.clockOn then (s.beat - s.boot.nowBeat + d.1.toNat % 40) / 40 else d.1.toNat), d.2)

/-- HOLD ends a boot that no step stopped: the closing record is that of a stopped boot, of the cycle of entry (R67, R71). -/
def State.bootHeld (s : State) : State := s.bootTime.2.bootEnd 3 (s.rdF pBoot 0x100 23 19) 3 0 0 s.bootTime.1

/-- A HOLD cause, by its bit of HOLD_CAUSE (R50 to R53, R55): 0 SW, 1 BOOT_STOP, 2 FAULT, 3 DOORBELL, 4 NDEOR_ABORT, 5 PIN,
6 UNLOCK, 7 THERMAL. PRIMARY follows a higher cause of the beat of entry alone; while the beat counter stands no two causes share a
beat (R53). In DORMANT nothing of the device runs that could be held. -/
def State.enterHold (s : State) (cause : Nat) : State :=
  if s.mode = 0 then s
  else
    let s1 := (s.abortCause cause).wrB pMode 0x108 cause true
    let s2 := if cause = 7 then s1.wrB pMode 0x100 15 true else s1
    if s2.mode = 5 then
      let s3 := if cause = 5 then s2.setTarget none else (s2.setTarget none).forceNow
      if s3.boot.holdNow ∧ s3.boot.holdAt = some s3.beat ∧ s3.rdF pMode 0x108 18 16 < cause then s3.wrF pMode 0x108 18 16 cause else s3
    else
      let s3 := (s2.wrF pMode 0x108 18 16 cause).mapBoot (fun b => { b with
        fromBoot := decide (s.mode = 1), holdAt := if s.clockOn then some s.beat else none, holdNow := true })
      let s4 := if s.mode = 1 ∧ cause ≠ 1 then s3.bootHeld else s3
      let s5 := if s.mode = 4 then s4.holdUnits.svcEnd else s4.holdUnits
      (((s5.holdForce cause).setTarget none).setMode 5).abortOut cause

/-- A command of a beat later than the present one, which the beat counter, standing, does not reach: the beat of entry to HOLD has
passed (R53). -/
def State.past (s : State) (b : Nat) : State := if s.beat < b then s.mapBoot (fun x => { x with holdNow := false }) else s

/-- UNCORRECTABLE_SRAM_ERROR and loss of power-good are fatal faults (R51). -/
def State.fatal (s : State) : State := s.enterHold 2

end Sys2Proof.Machine
end

