-- ==== Sys2Proof/Machine/Links.lean ====
section
/-! DEFINITION. Links: the Ndeor ports: reception and routing of frames, the bulk mailbox, training, electrical idle, test patterns and
error injection (14_serial_links.md R379 to R391). -/
namespace Sys2Proof.Machine

/-- Change the link state. -/
def State.mapLink (s : State) (g : Link → Link) : State := { s with link := g s.link }

/-- PORT_STAT[p].STATE becomes v; a port that is fenced stays so (R386). -/
def State.setPort (s : State) (p v : Nat) : State :=
  if s.portState p = 7 then s else s.wrF pNdeor (0x114 + 4 * p) 10 8 v

/-- MBOX_STAT shows the words that wait and the words unread. -/
def State.showMbox (s : State) : State :=
  (s.wrF pNdeor 0x154 25 16 s.link.inbox.length).wrF pNdeor 0x154 9 0 s.link.out.length

/-- A bulk word arrives for this device; one for which the FIFO of 512 words has no room is lost (R382). -/
def State.bulkIn (s : State) (port : Nat) (w : BitVec 64) : State :=
  if 512 ≤ s.link.inbox.length then s.count pNdeor 3 1
  else (s.mapLink (fun l => { l with inbox := l.inbox ++ [(port, w)] })).showMbox

/-- A word that came on a port has left the receive FIFO: its credit goes back (R382). -/
def State.creditBack (s : State) (p : Nat) : State :=
  if p < 4 then s.sendOn p 0 0 0 (BitVec.ofNat 64 (2 * 2 ^ 60 + 1)) else s

/-- A bulk word of another device goes on where its port is up and has credit, and waits otherwise; without a route it is discarded
(R382, R383). -/
def State.fwdWord (s : State) (x : Nat × Nat × BitVec 64) : State :=
  match s.route x.2.1 with
  | none => (s.unicast x.2.1 3 x.2.2).creditBack x.1
  | some p =>
    let c := Tab.get 0 s.link.credits p
    if c = 0 ∨ !s.portUp p then s.mapLink (fun l => { l with fwd := l.fwd ++ [x] })
    else ((s.mapLink (fun l => { l with credits := Tab.set 0 l.credits p (c - 1) })).sendOn p 1 x.2.1 3 x.2.2).creditBack x.1

/-- The bulk words of other devices go on as far as they can, in the order in which they came (R382). -/
def State.fwdGo (s : State) : State :=
  s.link.fwd.foldl (fun a x => a.fwdWord x) (s.mapLink (fun l => { l with fwd := [] }))

/-- One waiting bulk word leaves, if its port is ACTIVE and has credit; one for this device itself arrives here, and one without a route is
discarded (R382, R383). -/
def State.mboxSend (s : State) : Option State :=
  match s.link.out with
  | [] => none
  | (d, w) :: rest =>
    let t := s.mapLink (fun l => { l with out := rest })
    if d = s.devnum then some (t.bulkIn 4 w)
    else match s.route d with
      | none => some (t.unicast d 3 w)
      | some p =>
        let c := Tab.get 0 s.link.credits p
        if c = 0 ∨ !s.portUp p then none
        else some ((t.mapLink (fun l => { l with credits := Tab.set 0 l.credits p (c - 1) })).sendOn p 1 d 3 w)

/-- Waiting bulk words leave as far as they can, at most n. -/
def State.mboxDrain : Nat → State → State
  | 0, s => s
  | n + 1, s => match s.mboxSend with
    | some t => State.mboxDrain n t
    | none => s

/-- The bulk words that can leave do so, those of other devices first. -/
def State.mboxGo (s : State) : State := (State.mboxDrain s.link.out.length s.fwdGo).showMbox

/-- A write of MBOX_TX (R382, Table 14.10): refused with MBOX_FULL while 512 words wait. -/
def State.mboxTx (s : State) (w : BitVec 64) : State :=
  if 512 ≤ s.link.out.length then s.recErr pNdeor 2 0x148
  else (s.mapLink (fun l => { l with out := l.out ++ [(s.rdF pNdeor 0x140 4 0, w)] })).mboxGo

/-- A read of MBOX_RX_LO: the next received word, which it removes, returning a credit to the port the word came on (R382, R396). -/
def State.mboxRead (s : State) (path : Path) : State :=
  match s.link.inbox with
  | [] => s.answerPair path (pNdeor.reg 0x14C) 0 0
  | (p, w) :: rest =>
    let s1 := (s.mapLink (fun l => { l with inbox := rest })).showMbox
    (s1.creditBack p).answerPair path (pNdeor.reg 0x14C)
      (BitVec.ofNat 32 w.toNat) (BitVec.ofNat 32 (w.toNat / 2 ^ 32))

/-- The four lanes of a port turn to what they transmit from now on. -/
def State.lanesSend (s : State) (p what : Nat) : State := (List.range 4).foldl (fun a l => a.emit (.lane (4 * p + l) what)) s

/-- Each lane of a port sends a flit for the adjacent device (R384, R389). -/
def State.laneFlits (s : State) (p : Nat) (w : Nat → BitVec 64) : State :=
  (List.range 4).foldl (fun a l => a.emit (.flit p 0 0 0 (w l))) s

/-- The lanes of a port transmit TRAIN flits (R384, R385): the SLOT of a frame is a free value, because the slot counters have no stated start
(log entry 5). -/
def State.sendTrain (s : State) (p : Nat) (ack : Bool) : State :=
  let d := s.draw
  d.2.laneFlits p (fun l => BitVec.ofNat 64 (2 ^ 60 + d.1.toNat % 256 * 2 ^ 52 + s.devnum * 2 ^ 47 + p * 2 ^ 45 + (if ack then 2 ^ 44 else 0)
    + (4 * p + l) * 2 ^ 40))

/-- A port leads to the parent or to a child while the device is ALIGNED or in HOLDOVER (R389). -/
def State.treePort (s : State) (p : Nat) : Bool := (s.csState == 4 || s.csState == 5) && (s.csParent == p || tst s.time.kids p)

/-- A port enters electrical idle: each of its lanes sends an EIDLE flit and drives zero differential (R389). -/
def State.portIdle (s : State) (p : Nat) : State := (s.laneFlits p (fun _ => BitVec.ofNat 64 (3 * 2 ^ 60))).setPort p 6

/-- A port becomes ACTIVE, with a credit for every word of the peer's FIFO; bulk words that waited leave (R382, R385; DEDUCED, log
entry 18). With EIDLE = 1 it then enters electrical idle, where the tree does not need it (R389). -/
def State.portActive (s : State) (p : Nat) : State :=
  let s1 := ((s.setPort p 5).mapLink (fun l => { l with credits := Tab.set 0 l.credits p 512 })).mboxGo
  if s1.rdB pNdeor (0x104 + 4 * p) 2 ∧ s1.treePort p = false ∧ s1.portState p = 5 then s1.portIdle p else s1

/-- A port goes DOWN with a cause (R385, R386); 0 leaves the cause. Its parent link is lost where it leads to the parent
(13_time_and_cluster.md R362), and flits that waited for it are lost. -/
def State.portDown (s : State) (p cause : Nat) : State :=
  let was := s.portUp p
  let s1 := s.setPort p 0
  let s2 := if cause = 0 then s1 else s1.wrF pNdeor (0x114 + 4 * p) 7 0 cause
  let s3 := ({ s2 with tx := s2.tx.filter (fun x => x.1 != p) }).mapTime (fun t => { t with kids := mclr t.kids p })
  if was ∧ s.csParent = p then s3.parentLoss else s3

/-- Training starts at EQ (R385, R386): frame lock, signal and queue depth are found anew, and the lanes transmit PRBS31. -/
def State.portTrain (s : State) (p : Nat) : State :=
  if s.portState p = 7 then s
  else
    (List.range 4).foldl (fun a l => (a.wrF (pNlane (4 * p + l)) 0x108 31 24 0).mapLink (fun x =>
      { x with good := Tab.set 0 x.good (4 * p + l) 0, fails := Tab.set 0 x.fails (4 * p + l) 0,
               seen := Tab.set 0 x.seen p 0, acks := Tab.set 0 x.acks p 0 })) (((s.portDown p 0).setPort p 1).lanesSend p 3)

/-- A write of PORT_CTRL[p] (R386, R389, Table 14.10). EN turned on starts training, EN turned off takes the port down (DEDUCED, log
entry 18). -/
def State.portCtrl (s : State) (p : Nat) (v : Word) : State :=
  let off := 0x104 + 4 * p
  if bit v 2 && s.treePort p then s.recErr pNdeor 1 off
  else
    let was := s.rdB pNdeor off 0
    let s1 := s.wr pNdeor off (v &&& 0xD#32)
    let s2 := if was && !bit v 0 then s1.portDown p 0
      else if bit v 0 && (!was || bit v 1) then s1.portTrain p else s1
    if bit v 2 ∧ s2.portState p = 5 then s2.portIdle p else s2

/-- FAST_EXIT (R389): a flit to send, or EIDLE written 0, ends electrical idle: each lane sends its burst, and the flits that waited leave, SYNC
before DECISION before BULK, the oldest first within each (R382). -/
def State.fastExit (s : State) (p : Nat) : State :=
  let wait := s.tx.filter (fun x => x.1 == p)
  if s.portState p ≠ 6 ∨ (wait.isEmpty ∧ s.rdB pNdeor (0x104 + 4 * p) 2) then s
  else
    let s1 := (List.range 4).foldl (fun a l => a.count (pNlane (4 * p + l)) 3 1) (s.setPort p 5)
    let s2 := if wait.isEmpty then s1 else s1.count pNdeor 2 1
    ([1, 2, 3, 0].flatMap (fun c => wait.filter (fun x => x.2.2.2.1 == c))).foldl (fun a x => a.sendOn p x.2.1 x.2.2.1 x.2.2.2.1 x.2.2.2.2)
      { s2.lanesSend p 5 with tx := s2.tx.filter (fun x => x.1 != p) }

/-- Lane fields of STAT: FLOCK, SIGNAL, QDEPTH, SLIP_POS (Table 14.11). -/
def State.flock (s : State) (n : Nat) : Bool := s.rdB (pNlane n) 0x108 31

/-- A lane's frame position moves to pos in slips of one UI (R387, LCNT[2]). -/
def State.slipTo (s : State) (n pos : Nat) : State :=
  let old := s.rdF (pNlane n) 0x108 22 16
  (s.wrF (pNlane n) 0x108 22 16 (pos % 88)).count (pNlane n) 2 ((pos % 88 + 88 - old) % 88)

/-- TRAINING_STATE_DONE of a port (R385): vals: the frame positions found in ALIGN, or the queue depths of DESKEW, by lane; dev: the
peer's DEVNUM of EXCHANGE. A MANUAL lane takes no position by itself, and with one ALIGN ends by RESUME alone (R387); DESKEW needs depths of
at most 48. -/
def State.trainDone (s : State) (p : Nat) (vals : List Nat) (dev : Nat) : State :=
  let lanes := List.range 4
  let val := fun (l : Nat) => vals.getD l 0
  match s.portState p with
  | 1 => ((lanes.foldl (fun a l => a.wrB (pNlane (4 * p + l)) 0x108 30 true) s).setPort p 2).sendTrain p false
  | 2 =>
    let own := lanes.filter (fun l => !s.rdB (pNlane (4 * p + l)) 0x100 4)
    let s1 := own.foldl (fun a l => (a.slipTo (4 * p + l) (val l)).wrB (pNlane (4 * p + l)) 0x108 31 true) s
    if own.length = 4 then s1.setPort p 3 else s1
  | 3 =>
    if lanes.any (fun l => decide (48 < val l)) then s
    else (lanes.foldl (fun a l => a.wrF (pNlane (4 * p + l)) 0x108 29 24 (val l)) s).setPort p 4 |>.sendTrain p false
  | 4 => (s.wrF pNdeor (0x114 + 4 * p) 20 16 dev).portActive p
  | _ => s

/-- TRAINING_TIMEOUT (R385, Table 14.7): alt: no signal in EQ, a failed frequency check in EXCHANGE. An EQ that fails with a signal leaves it
in STAT. -/
def State.trainTimeout (s : State) (p : Nat) (alt : Bool) : State :=
  match s.portState p with
  | 1 => (if alt then s else (List.range 4).foldl (fun a l => a.wrB (pNlane (4 * p + l)) 0x108 30 true) s).portDown p (if alt then 1 else 2)
  | 2 => s.portDown p 3
  | 3 => s.portDown p 4
  | 4 => s.portDown p (if alt then 5 else 6)
  | _ => s

/-- The port of a lane lets PRBS and INJ act: it is DOWN, or the device is in SERVICE (R390). -/
def State.laneTest (s : State) (n : Nat) : Bool := s.portState (n / 4) == 0 || s.mode == 4

/-- SERVICE forces the port of a lane DOWN for a test (R390). -/
def State.laneForce (s : State) (n : Nat) : State := if s.portState (n / 4) = 0 then s else s.portDown (n / 4) 0

/-- CTRL.SLIP (R387). -/
def State.slip (s : State) (n : Nat) : State :=
  ((s.slipTo n (s.rdF (pNlane n) 0x108 22 16 + 1)).wrB (pNlane n) 0x108 31 false).mapLink (fun l => { l with good := Tab.set 0 l.good n 0 })

/-- CTRL.RESUME (R387): training goes on at DESKEW once all four lanes have frame lock. -/
def State.resume (s : State) (n : Nat) : State :=
  if s.portState (n / 4) = 2 ∧ (List.range 4).all (fun l => s.flock (4 * (n / 4) + l)) then s.setPort (n / 4) 3 else s

/-- The taps of a lane's DFE, which adapt while its receiver runs, and its PRBS errors so far, which the checker counts, as they stand: free
values, the errors saturating (R388, R390; log entry 5). -/
def State.laneLive (s : State) (n off : Nat) : State :=
  let p := pNlane n
  if off = 0x110 ∧ !s.rdB p 0x100 8 ∧ s.portState (n / 4) ≠ 0 ∧ s.portState (n / 4) ≠ 7 then
    let d := s.draw
    d.2.wr p 0x110 (BitVec.ofNat 32 (d.1.toNat % 2 ^ 30))
  else if off = 0x10C ∧ s.rdB p 0x100 12 then
    let d := s.draw
    d.2.wr p 0x10C (satInc (s.rd p 0x10C) (d.1.toNat % 2 ^ 32))
  else s

/-- A write of NLANE[n].CTRL (R387, R388, R390, Table 14.11): DFE_FREEZE holds the taps as they are, and the errors counted stay when PRBS_CHK
goes to 0. -/
def State.laneCtrl (s0 : State) (n : Nat) (v : Word) : State :=
  let p := pNlane n
  let s := (if bit v 8 then s0.laneLive n 0x110 else s0) |> fun t => if bit v 12 then t else t.laneLive n 0x10C
  if (bit v 0 && s.portState (n / 4) == 5) || ((bit v 11 || bit v 12) && !s.laneTest n) then s0.recErr p 1 0x100
  else
    let was := s.rdB p 0x100 12
    let gen := s.rdB p 0x100 11
    let s1 := if bit v 11 || bit v 12 then s.laneForce n else s
    let s2 := s1.wr p 0x100 (v &&& 0x31910#32)
    let s3 := if bit v 12 && !was then s2.wr p 0x10C 0 else s2
    let s4 := if bit v 0 then s3.slip n else s3
    let s5 := if bit v 11 then s4.emit (.lane n (fld v 17 16)) else if gen then s4.emit (.lane n 4) else s4
    if bit v 1 then s5.resume n else s5

/-- A write of NLANE[n].INJ (R390): FIRE inverts BURST bits, 1 to 64, of what is sent next. -/
def State.laneInj (s : State) (n : Nat) (v : Word) : State :=
  if !s.laneTest n then s.recErr (pNlane n) 1 0x104
  else
    let s1 := (s.wr (pNlane n) 0x104 (v &&& 0x7F00#32)).laneForce n
    if bit v 0 then s1.emit (.corrupt n (min 64 (max 1 (fld v 14 8)))) else s1

/-- Class and mode of a record TYPE (Table 14.5); none for a reserved type. -/
def recordRoute (type : Nat) : Option (Nat × Nat) :=
  if type = 1 ∨ type = 2 then some (2, 1)
  else if type = 3 ∨ type = 0xC then some (1, 2)
  else if 4 ≤ type ∧ type ≤ 7 then some (1, 0)
  else if 8 ≤ type ∧ type ≤ 0xB then some (1, 1)
  else none

/-- An ABORT flit arrives on a port (R383, R391): it acts and is forwarded once. -/
def State.abortArrives (s : State) (port : Nat) (w : BitVec 64) : State :=
  let c := (s.count pNdeor 5 1).newCast (nfld w.toNat 59 55) 3 (nfld w.toNat 54 39)
  if c.1 then
    let s1 := c.2.broadcast port 1 w
    if s1.rdB pNdeor 0x100 0 then s1.enterHold 4 else s1
  else c.2

/-- A TRAIN flit in EXCHANGE (R385): it names the peer, the lanes acknowledge it from the first on, and 16 frames with ACK make the port
ACTIVE. -/
def State.trainFlit (s : State) (port : Nat) (w : BitVec 64) : State :=
  let s1 := s.wrF pNdeor (0x114 + 4 * port) 20 16 (nfld w.toNat 51 47)
  let s2 := if Tab.get 0 s1.link.seen port = 0 then (s1.mapLink (fun l => { l with seen := Tab.set 0 l.seen port 1 })).sendTrain port true else s1
  if nfld w.toNat 44 44 = 1 then
    let k := Tab.get 0 s2.link.acks port + 1
    let s3 := s2.mapLink (fun l => { l with acks := Tab.set 0 l.acks port k })
    if 16 ≤ k then s3.portActive port else s3
  else s2

/-- A flit of the IDLE class (Table 14.6): TRAIN in EXCHANGE; CREDIT returns credits. -/
def State.idleFlit (s : State) (port : Nat) (w : BitVec 64) : State :=
  match nfld w.toNat 63 60 with
  | 1 => if s.portState port = 4 then s.trainFlit port w else s
  | 2 => (s.mapLink (fun l => { l with credits := Tab.set 0 l.credits port (Tab.get 0 l.credits port + nfld w.toNat 15 0) })).mboxGo
  | _ => s

/-- A record is delivered to this device (Table 14.5). -/
def State.record (s : State) (port phi turn : Nat) (w : BitVec 64) : State :=
  match nfld w.toNat 63 60 with
  | 1 => s.ndeorExport
  | 2 => s.ndeorDecision w
  | 3 => s.abortArrives port w
  | 4 => s.syncReq port phi turn w
  | 5 => s.syncResp port phi w
  | 6 => s.startHi port w
  | 7 => s.startLo port w
  | 8 => s.ping w
  | 9 => s.pong w
  | 10 => s.voteArrives w
  | 11 => s.decideArrives w
  | 12 => s.outcomeArrives port w
  | _ => s

/-- A flit that passed its CRC (R381 to R384). -/
def State.flitIn (s : State) (port mode dst cls phi turn : Nat) (w : BitVec 64) : State :=
  if cls = 0 then (if mode = 0 then s.idleFlit port w else s.count pNdeor 1 1)
  else if !s.portUp port && port != 4 then s
  else if cls = 3 then
    (if mode ≠ 1 then s.count pNdeor 1 1 else if dst = s.devnum then s.bulkIn port w
      else s.mapLink (fun l => { l with fwd := l.fwd ++ [(port, dst, w)] }) |>.mboxGo)
  else if recordRoute (nfld w.toNat 63 60) ≠ some (cls, mode) then s.count pNdeor 1 1
  else if mode = 1 ∧ dst ≠ s.devnum then s.unicast dst cls w
  else s.record port phi turn w

/-- A frame that failed its CRC (R381, R382, R386): sixteen in a row on a lane take the port DOWN. -/
def State.badFrame (s : State) (port lane cls : Nat) : State :=
  let n := 4 * port + lane
  let k := Tab.get 0 s.link.fails n + 1
  let s1 := ((s.wr (pNlane n) 0x114 (satInc (s.rd (pNlane n) 0x114) 1)).count (pNlane n) 1 1).mapLink (fun l =>
    { l with fails := Tab.set 0 l.fails n k, good := Tab.set 0 l.good n 0 })
  let s2 := if cls = 3 then s1.count pNdeor 3 1 else s1
  if 16 ≤ k ∧ s2.portUp port then
    let s3 := s2.portDown port 8
    if s3.rdB pNdeor (0x104 + 4 * port) 3 then s3.portTrain port else s3
  else s2

/-- A frame that passed its CRC counts towards frame lock (R387). -/
def State.goodFrame (s : State) (port lane : Nat) : State :=
  let n := 4 * port + lane
  let k := Tab.get 0 s.link.good n + 1
  let s1 := s.mapLink (fun l => { l with fails := Tab.set 0 l.fails n 0, good := Tab.set 0 l.good n (min 64 k) })
  if 64 ≤ k ∧ s1.portState port = 2 then s1.wrB (pNlane n) 0x108 31 true else s1

/-- Bits [72:0] of a frame (Table 14.4). -/
def frameBody (mode dst cls : Nat) (w : BitVec 64) : Nat := mode * 2 ^ 71 + dst * 2 ^ 66 + cls * 2 ^ 64 + w.toNat

/-- The CRC-15 of the low n bits of v, in the order in which they are sent, bit 0 first: generator 0x4599, initial value 0x7FFF (R380; the
order DEDUCED, log entry 18). -/
def crc15 (v : Nat) : Nat → BitVec 15
  | 0 => 0x7FFF#15
  | n + 1 =>
    let r := crc15 v n
    if r.getLsbD 14 != tst v n then (r <<< 1) ^^^ 0x4599#15 else r <<< 1

/-- The CRC of a frame (R380, Table 14.4). -/
def ndeorCrc (mode dst cls : Nat) (w : BitVec 64) : BitVec 15 := crc15 (frameBody mode dst cls w) 73

/-- The 88 bits of a frame as a flit that is sent occupies a slot with it, before scrambling (R380, Table 14.4). -/
def ndeorFrame (mode dst cls : Nat) (w : BitVec 64) : BitVec 88 :=
  BitVec.ofNat 88 ((ndeorCrc mode dst cls w).toNat * 2 ^ 73 + frameBody mode dst cls w)

/-- NDEOR_FRAME (R380 to R384): a frame arrives on a lane of a port; its CRC holds, or it is discarded. -/
def State.frameIn (s : State) (port lane : Nat) (crc : BitVec 15) (mode dst cls phi turn : Nat) (w : BitVec 64) : State :=
  if s.portState port = 0 ∨ s.portState port = 7 then s
  else
    let s1 := s.count (pNlane (4 * port + lane)) 0 1
    if crc = ndeorCrc mode dst cls w then (s1.goodFrame port lane).flitIn port mode dst cls phi turn w else s1.badFrame port lane cls

end Sys2Proof.Machine
end

