-- ==== Sys2Proof/Machine/Security.lean ====
section
/-! DEFINITION. Security: lifecycle, debug unlock, tamper, scrubs, the host's window on GDDR7, and attestation
(18_tufts_and_security.md R475 to R489; 04_commit_groups.md R114; 14_serial_links.md R392). -/
namespace Sys2Proof.Machine

/-- Change the security island. -/
def State.mapSec (s : State) (g : Sec → Sec) : State := { s with sec := g s.sec }

/-- LC_STAT.STATE: 0 BLANK, 1 PROVISIONED, 2 DEPLOYED, 3 RETURNED. -/
def State.lcState (s : State) : Nat := s.rdF pSec 0x100 1 0

/-- A tuft exists (R470). -/
def State.anyTuft (s : State) : Bool := (List.range 16).any s.tuftEn

/-- The big-endian number a byte list spells. -/
def beNat (l : List Byte) : Nat := l.foldl (fun a b => 256 * a + b.toNat) 0

/-- The P-384 prime, and the coefficient b of the curve y² = x³ − 3x + b (PRESUMED NIST FIPS 186, log entry 13). -/
def p384p : Nat := 2 ^ 384 - 2 ^ 128 - 2 ^ 96 + 2 ^ 32 - 1
def p384b : Nat := 0xb3312fa7e23ee7e4988e056be3f82d19181d9c6efe8141120314088f5013875ac656398d8a2ed19d2a85c8edd3ec2aef

/-- 96 bytes form a valid P-384 point: X then Y, big-endian (Table 18.7). -/
def p384Point (k : List Byte) : Bool :=
  let x := beNat (k.take 48)
  let y := beNat (k.drop 48)
  k.length == 96 && decide (x < p384p) && decide (y < p384p)
    && y * y % p384p == (x * x * x + p384b + 3 * p384p * p384p - 3 * x) % p384p

/-- A span of GDDR7 lies in warden granules that hold data of their own: fitted, and not under scrub. -/
def State.wardenSpan (s : State) (a n : Nat) : Bool :=
  s.spanOwned s a n 0x1F && decide (a + n ≤ s.granules * 2 ^ 28)

/-- Clear key slots: the warden's and every tuft's (R475); what they encrypted is unreadable (log entry 9). -/
def State.dropKeys (s : State) : State :=
  { (List.range 16).foldl (fun a t => a.wrB (pTuft t) 0x10C 30 false) (s.wr pSec 0x114 0) with gddr := [] }

/-- A refused lifecycle command (R487). -/
def State.lcRefuse (s : State) (cause : Nat) : State := s.recErr pSec cause 0x104

/-- A lifecycle command that acts: it starts to burn its fuses (R487). -/
def State.lcStart (s : State) (op : Nat) (key : List Byte) : State :=
  (s.mapSec (fun x => { x with lc := some (op, key) })).count pSec 1 1

/-- A write of SEC.LC_CMD (R487). -/
def State.lcCmd (s : State) (v : Word) : State :=
  let st := s.lcState
  if fld v 31 16 ≠ 0x4C43 then s
  else if (s.mode ≠ 2 ∧ s.mode ≠ 4) ∨ s.sec.lc.isSome then s.lcRefuse 1
  else match fld v 2 0 with
    | 1 =>
      let a := s.rd64 pSec 0x108
      let k := s.gbytes a 96
      if st ≠ 0 then s.lcRefuse 1
      else if s.wardenSpan a 96 && p384Point k then s.lcStart 1 k else s.lcRefuse 2
    | 2 => if st ≠ 1 then s.lcRefuse 1 else if s.anyTuft then s.lcRefuse 3 else s.lcStart 2 []
    | 3 => if st = 3 then s.lcRefuse 1 else if s.anyTuft then s.lcRefuse 3 else s.lcStart 3 []
    | 4 =>
      if st ≠ 1 ∧ st ≠ 2 then s.lcRefuse 1
      else if 64 ≤ s.sec.raises then s.lcRefuse 4
      else ((s.wrF pSec 0x110 15 0 (max (s.rdF pSec 0x110 15 0) (s.rdF pSec 0x110 31 16))).mapSec (fun x =>
        { x with raises := x.raises + 1 })).count pSec 1 1
    | _ => s.lcRefuse 1

/-- LIFECYCLE_TRANSITION_DONE (R487, R488): LC_STAT shows the new state. -/
def State.lcDone (s : State) : State :=
  match s.sec.lc with
  | none => s
  | some (op, key) =>
    let s1 := ((s.wrF pSec 0x100 1 0 op).mapSec (fun x => { x with lc := none }))
    let s2 := match op with
      | 1 => (s1.wrB pSec 0x100 8 true).mapSec (fun x => { x with wardenKey := key })
      | 2 => (s1.wrB pDebug 0x10 16 false).wr pDebug 0x124 0
      | _ => (s1.dropKeys.wrB pSec 0x100 8 false).mapSec (fun x =>
          { x with wardenKey := [], devGone := true, session := none, secure := false })
    s2.flag pSec 2

/-- A new CHALLENGE, which nothing predicts (R488, R489, Table 18.14). -/
def State.newChallenge (s : State) : State :=
  let a := s.draw
  let b := a.2.draw
  (b.2.wr64 pDebug 0x100 a.1.toNat).wr64 pDebug 0x108 b.1.toNat

/-- A failed unlock: its cause, the violation log, and the count (R489, R496). -/
def State.unlockFail (s : State) (path : Path) (cause : Nat) : State :=
  let s1 := s.count pDebug 1 1
  (s1.recErr pDebug cause 0x118).violate path 6 0 (pDebug.reg 0x118) true

/-- The token at TOKEN_LO:TOKEN_HI unlocks this device now (R489, Table 18.8): its header, and its UID and CHALLENGE. -/
def State.tokenBody (s : State) (a : Nat) : Bool :=
  s.gnum (a + 8) 8 == s.rd64 pDebug 0x11C && s.gnum (a + 0x10) 8 == s.rd64 pDebug 0x100 && s.gnum (a + 0x18) 8 == s.rd64 pDebug 0x108

/-- The header and signature checks of a token (R483, R516). -/
def State.tokenSigned (s : State) (a : Nat) : Bool :=
  s.gnum a 4 == 0x4B544451 && s.gnum (a + 4) 2 == 1 && s.sigOk a 0x40 0x1F s.sec.wardenKey

/-- DEBUG.CMD.UNLOCK (R489). Every attempt draws a new CHALLENGE. -/
def State.debugUnlock (s : State) (path : Path) : State :=
  let a := s.rd64 pDebug 0x110
  (if s.lcState ≠ 2 then s.unlockFail path 1
    else if s.anyTuft then s.unlockFail path 3
    else if !s.wardenSpan a 0x140 then s.unlockFail path 2
    else if !s.tokenSigned a then s.sigFail.unlockFail path 2
    else if !s.tokenBody a then s.unlockFail path 2
    else ((((s.wrB pDebug 0x10 16 true).wrF pDebug 0x124 2 0 (s.gnum (a + 0x20) 4)).mapSec (fun x =>
      { x with unlocks := x.unlocks + 1 })).count pDebug 0 1)).newChallenge

/-- DEBUG.CMD.LOCK (R488, Table 18.14). -/
def State.debugLock (s : State) : State := if s.lcState = 2 then s.wrB pDebug 0x10 16 false else s

/-- A write of DEBUG.CMD (R488, R489). -/
def State.debugCmd (s : State) (path : Path) (v : Word) : State :=
  if fld v 31 16 ≠ 0x4447 then s
  else
    let s1 := if bit v 0 then s.debugUnlock path else s
    if bit v 1 then s1.debugLock else s1

/-- TAMPER_ALARM of a source: 0 package mesh, 1 supply glitch, 2 clock glitch (R475, Table 18.10). -/
def State.tamper (s : State) (src : Nat) : State := ((s.wrB pSec 0x118 src true).flag pSec 0).dropKeys.enterHold 2

/-- FROND_SCRUB_END (R474). -/
def State.frondScrubEnd (s : State) (f : Nat) : State := s.wrB pSec 0x11C f false

/-- GRANULE_SCRUB_END (R477, R495). -/
def State.granuleScrubEnd (s : State) (k : Nat) : State :=
  if !s.granScrub k then s
  else (((s.wrB pGranule (0x100 + 4 * (k / 4)) (8 * (k % 4) + 7) false).wrF pGranule 0x180 7 0
    (s.rdF pGranule 0x180 7 0 - 1)).count pGranule 1 1).showTufts

/-- What a BAR2 access reaches: a GDDR7 address in a granule; a granule under scrub; an address where nothing is; or a refusal
with its cause (R479, R480, Table 18.3). -/
inductive Bar2 where
  | mem (a : Nat) | scrub | absent | refused (cause : Nat)
deriving DecidableEq, Repr

/-- The granules of a tuft, in rising order (R480). -/
def State.granList (s : State) (t : Nat) : List Nat := (List.range 128).filter (fun k => s.granOwner k == t)

/-- Where a BAR2 offset of a path leads (R476 to R480, R392). -/
def State.bar2 (s : State) (path : Path) (off : Nat) : Bar2 :=
  if !path.isFunc then .absent
  else match s.ident path with
    | .warden =>
      let k := off / 2 ^ 28
      let own := s.granOwner k
      if s.granules ≤ k then .absent
      else if s.granScrub k then .scrub
      else if own < 16 ∧ !s.rdB (pTuft own) 0x100 30 then .refused 5
      else .mem off
    | .keeper t =>
      match (s.granList t)[off / 2 ^ 28]? with
      | some k => if s.granScrub k then .scrub else .mem (k * 2 ^ 28 + off % 2 ^ 28)
      | none => .refused 3
    | .none => .refused 2

/-- A BAR2 access that reaches no memory (R477, R479, R480). -/
def State.bar2Miss (s : State) (path : Path) (off : Nat) (write : Bool) : Bar2 → State
  | .scrub => s.count pGranule 0 1
  | .refused c => s.violate path c 2 off write
  | _ => s

/-- BAR2_READ of n bytes (R476, R479, R480). -/
def State.bar2Read (s : State) (path : Path) (off n : Nat) : State :=
  let zero := List.replicate n (0 : Byte)
  match s.bar2 path off with
  | .mem a => s.emit (.completion path false (if s.domOn 6 then s.gbytes a n else zero))
  | r => (s.bar2Miss path off false r).emit (.completion path false zero)

/-- Groups, between ARM and their outcome, that hold an image in a granule (R114). -/
def State.holders (s : State) (k : Nat) : List Nat :=
  (List.range 64).filter (fun g => decide (2 ≤ s.grpSt g)
    && (s.grp g).images.any (fun (e : Nat × Nat) => decide (e.1 / 2 ^ 28 ≤ k) && decide (k ≤ (e.1 + e.2 - 1) / 2 ^ 28)))

/-- BAR2_WRITE (R476, R479, R480, R114). -/
def State.bar2Write (s : State) (path : Path) (off : Nat) (bytes : List Byte) : State :=
  match s.bar2 path off with
  | .mem a =>
    let gs := s.holders (a / 2 ^ 28)
    if !gs.isEmpty then gs.foldl (fun t g => t.count (pCgrp g) 4 1) s
    else if s.domOn 6 then s.gput a bytes else s
  | r => s.bar2Miss path off true r

/-- What was read when a GDDR7 error came (R392): its kind, and whether the retry failed too. -/
def State.crcError (s : State) (c : Nat) (kind : CrcKind) (persist : Bool) : State :=
  let s1 := (s.count (pMemch c) 0 1).occur 0x256 1
  if !persist then s1
  else
    let s2 := s1.count (pMemch c) 1 1
    match kind with
    | .ring f r => s2.ringRefillBad f.val r.val
    | .image g k =>
      if s2.rdF (pCgrp g.val) 0x104 2 0 = 2 then s2.setGrp g.val { s2.grp g.val with badRead := some k } else s2
    | .bar2 path n => s2.emit (.completion path true (List.replicate n 0))

/-- The code of an SPDM error response (PRESUMED DSP0274, log entry 14). -/
def spdmInvalid : Nat := 0x01
def spdmUnexpected : Nat := 0x04
def spdmUnspecified : Nat := 0x05
def spdmDecrypt : Nat := 0x06
def spdmVersion : Nat := 0x41

/-- An SPDM request of a version that needs a stage of negotiation: ERROR in RETURNED, for another version than 1.2, and out of
order; otherwise k answers (R486). -/
def State.spdmReq (s : State) (ver stage : Nat) (k : State → State) : State :=
  if !s.powered pSec then s
  else if s.lcState = 3 then s.emit (.spdm (.error spdmUnspecified))
  else if ver ≠ 0x12 then s.emit (.spdm (.error spdmVersion))
  else if s.sec.stage < stage then s.emit (.spdm (.error spdmUnexpected))
  else k s

/-- The capabilities of Table 18.6, as DSP0274 numbers them (PRESUMED, log entry 14): CERT, CHAL, MEAS with signature, ENCRYPT, MAC,
KEY_EX, HBEAT, KEY_UPD. -/
def spdmCaps : Nat := 0x2 + 0x4 + 0x10 + 0x40 + 0x80 + 0x200 + 0x2000 + 0x4000

/-- GET_VERSION: it starts the negotiation anew. -/
def State.spdmGetVersion (s : State) : State :=
  if !s.powered pSec then s
  else if s.lcState = 3 then s.emit (.spdm (.error spdmUnspecified))
  else (s.mapSec (fun x => { x with stage := 1, session := none, secure := false })).emit (.spdm (.version [0x12]))

/-- GET_CAPABILITIES. -/
def State.spdmCapabilities (s : State) (ver : Nat) : State :=
  s.spdmReq ver 1 (fun t => (t.mapSec (fun x => { x with stage := max 2 x.stage })).emit (.spdm (.capabilities spdmCaps)))

/-- NEGOTIATE_ALGORITHMS: bit masks of what the requester offers; a request without one of the supported algorithms fails
(Table 18.6). Bits as DSP0274 numbers them (PRESUMED, log entry 14): ECDSA P-384 bit 7, SHA-384 bit 1, secp384r1 bit 4, AES-256-GCM
bit 1. -/
def State.spdmAlgorithms (s : State) (ver asym hash dhe aead : Nat) : State :=
  s.spdmReq ver 2 (fun t =>
    if tst asym 7 && tst hash 1 && tst dhe 4 && tst aead 1 then
      (t.mapSec (fun x => { x with stage := 3 })).emit (.spdm (.algorithms 0x80 0x2 0x10 0x2))
    else t.emit (.spdm (.error spdmInvalid)))

/-- GET_DIGESTS: slot 0 alone holds a chain. -/
def State.spdmDigests (s : State) (ver : Nat) : State :=
  s.spdmReq ver 3 (fun t => t.emit (.spdm (.digests 1 (Config.sha384 Config.certChain))))

/-- GET_CERTIFICATE: a portion of the chain of slot 0. -/
def State.spdmCertificate (s : State) (ver slot off len : Nat) : State :=
  s.spdmReq ver 3 (fun t =>
    if slot ≠ 0 ∨ Config.certChain.length ≤ off then t.emit (.spdm (.error spdmInvalid))
    else
      let part := (Config.certChain.drop off).take len
      t.emit (.spdm (.certificate 0 part (Config.certChain.length - off - part.length))))

/-- CHALLENGE: the response is signed with the device key. -/
def State.spdmChallenge (s : State) (ver slot : Nat) (nonce : List Byte) : State :=
  s.spdmReq ver 3 (fun t =>
    if slot ≠ 0 then t.emit (.spdm (.error spdmInvalid))
    else t.emit (.spdm (.challengeAuth 0 (Config.deviceSign (nonce ++ Config.sha384 Config.certChain)))))

/-- A byte string as a list of values. -/
def byteVals (l : List Byte) : List Nat := l.map (fun b => b.toNat)

/-- The registers measurement 5 covers: CFG, QUOTA, SQUOTA and PUBKEY of each tuft. -/
def State.tuftWords (s : State) : List Word :=
  (List.range 16).flatMap (fun t =>
    [s.rd (pTuft t) 0x100, s.rd (pTuft t) 0x104, s.rd (pTuft t) 0x108] ++ (List.range 24).map (fun j => s.rd (pTuft t) (0x140 + 4 * j)))

/-- Measurement index i (Table 18.6). -/
def State.measure (s : State) (i : Nat) : Option MeasBlock :=
  let blk := fun (v : List Nat) => some ({ index := i, values := v } : MeasBlock)
  match i with
  | 1 => blk (byteVals s.sec.imgDigest)
  | 2 => blk [s.lcState, s.rdF pSec 0x110 15 0, if s.unlocked then 1 else 0, s.sec.unlocks]
  | 3 => blk [s.rdF pFusebank 0x104 20 20, s.rdF pFusebank 0x104 18 16]
  | 4 => blk (byteVals (s.logBytes pSec 0x140))
  | 5 => blk (byteVals (Config.tuftDigest s.tuftWords))
  | _ => if 16 ≤ i ∧ i < 32 then blk (byteVals (s.logBytes (pTuft (i - 16)) 0x1A0)) else none

/-- The indices Table 18.6 lists. -/
def measIndices : List Nat := [1, 2, 3, 4, 5] ++ (List.range 16).map (fun t => 16 + t)

/-- The bytes of measurement blocks that a signature covers. -/
def measBytes (l : List MeasBlock) : List Byte := l.flatMap (fun m => BitVec.ofNat 8 m.index :: m.values.flatMap (leBytes 4))

/-- GET_MEASUREMENTS of one index, or of all with index 0xFF, signed on request with the requester's nonce. -/
def State.spdmMeasurements (s : State) (ver index : Nat) (sign : Bool) (nonce : List Byte) : State :=
  s.spdmReq ver 3 (fun t =>
    let blocks := if index = 0xFF then measIndices.filterMap t.measure else (t.measure index).toList
    if blocks.isEmpty then t.emit (.spdm (.error spdmInvalid))
    else t.emit (.spdm (.measurements blocks (if sign then some (Config.deviceSign (nonce ++ measBytes blocks)) else none))))

/-- KEY_EXCHANGE opens a session; the response is signed. -/
def State.spdmKeyExchange (s : State) (ver slot sid : Nat) (pub : List Byte) : State :=
  s.spdmReq ver 3 (fun t =>
    if slot ≠ 0 ∨ !p384Point pub then t.emit (.spdm (.error spdmInvalid))
    else (t.mapSec (fun x => { x with session := some sid, secure := false })).emit (.spdm (.keyExchange sid (Config.deviceSign pub))))

/-- FINISH establishes the session where its verification data hold; otherwise the session is lost. -/
def State.spdmFinish (s : State) (ver sid : Nat) (mac : List Byte) : State :=
  s.spdmReq ver 3 (fun t =>
    if t.sec.session ≠ some sid ∨ t.sec.secure then t.emit (.spdm (.error spdmUnexpected))
    else if Config.finishOk sid mac then (t.mapSec (fun x => { x with secure := true })).emit (.spdm (.finish sid))
    else (t.mapSec (fun x => { x with session := none })).emit (.spdm (.error spdmDecrypt)))

/-- A request inside an established session. -/
def State.spdmInSession (s : State) (ver sid : Nat) (k : State → State) : State :=
  s.spdmReq ver 3 (fun t => if t.sec.session = some sid ∧ t.sec.secure then k t else t.emit (.spdm (.error spdmUnexpected)))

/-- HEARTBEAT. -/
def State.spdmHeartbeat (s : State) (ver sid : Nat) : State := s.spdmInSession ver sid (fun t => t.emit (.spdm (.heartbeat sid)))

/-- KEY_UPDATE: operations 1 to 3 of DSP0274 (PRESUMED, log entry 14). -/
def State.spdmKeyUpdate (s : State) (ver sid op : Nat) : State :=
  s.spdmInSession ver sid (fun t => t.emit (.spdm (if 1 ≤ op ∧ op ≤ 3 then .keyUpdate sid op else .error spdmInvalid)))

/-- END_SESSION. -/
def State.spdmEnd (s : State) (ver sid : Nat) : State :=
  s.spdmInSession ver sid (fun t => (t.mapSec (fun x => { x with session := none, secure := false })).emit (.spdm (.endSession sid)))

end Sys2Proof.Machine
end

