-- ==== Sys2Proof/Machine/Modes.lean ====
section
/-! DEFINITION. Modes: mode requests and transitions, power domains, aborts and resets (02_modes_power_boot.md R46 to R65;
01_architecture.md R33, R34, R38 to R40). -/
namespace Sys2Proof.Machine

/-- A refused mode or reset request (R48). -/
def State.modeRefuse (s : State) (cause off : Nat) : State := (s.recErr pMode cause off).flag pMode 0

/-- Table 2.2 lists a transition between two modes that a request starts. -/
def modeListed (m t : Nat) : Bool :=
  [(2, 3), (3, 2), (2, 4), (4, 2), (5, 2), (2, 0), (4, 0), (5, 0)].contains (m, t)

/-- What R54 asks of HOLD before READY: no W1C cause bit, no THERMAL, MAIN_LOCK, ABORT_N high, and an entry not from BOOT. -/
def State.mayLeaveHold (s : State) : Bool :=
  s.rdF pMode 0x108 7 0 == 0 && s.clockOn && !s.pins.abortLow && !s.boot.fromBoot

/-- An enabled window of the monitor that may wake is latched (16_housekeeping_analog.md R432). -/
def State.wakeLatched (s : State) : Bool :=
  (List.range 16).any (fun w => s.rdB pWinmon (0x200 + 0x10 * w) 31 && s.rdB pWinmon (0x200 + 0x10 * w) 27 && s.rdB pWinmon 0x100 w)

/-- A CLUSTER group of the device has voted (04_commit_groups.md R126). -/
def State.anyVoted (s : State) : Bool := (List.range 64).any (fun g => s.rdF (pCgrp g) 0x104 2 0 != 0 && s.grpVoted g)

/-- The conditions of a listed transition (R54, R55, R126; 16_housekeeping_analog.md R432): none while fuses burn (15_calibration.md R402);
a HOLD entered from BOOT is left by a warm reset alone, or, under thermal lock, for DORMANT. -/
def State.modeCond (s : State) (t : Nat) : Bool :=
  s.cal.burn.isNone &&
    (if t = 2 then s.mode != 5 || s.mayLeaveHold
    else if t = 4 then !s.anyVoted
    else if t = 0 then !s.wakeLatched && (s.mode != 5 || !s.boot.fromBoot || s.thermLock)
    else true)

/-- Fronds that are inside a shot: the issue beat of its SHOT_END has not come (R56, R155, R158). -/
def State.shotFronds (s : State) : List Nat :=
  (List.range 32).filter (fun f => (s.crz f).shots.any (fun h => h.ended.isNone))

/-- Whether a slice domain should be on in READY (Table 2.3). -/
def State.sliceWanted (s : State) (d : Nat) : Bool := !s.rdB pPower 0x104 d && !tst s.boot.fencedSlices ((d - 10) / 4)

/-- DOM_GATE takes effect (R62): domains go off in the reverse order, then on (R61). -/
def State.applyGates (s : State) : State :=
  (s.domains (sliceDomsAll.reverse.filter (fun d => !s.sliceWanted d)) false).domains (sliceDomsAll.filter s.sliceWanted) true

/-- READY is entered (R56, R62). -/
def State.toReady (s : State) : State := ((s.setTarget none).setMode 2).applyGates

/-- The stop from RUN ends with the last shot (R56): outputs of the last shot still leave the balls for 24 beats. -/
def State.runStopped (s : State) : State := (s.forceFrom (s.beat + 24) true).toReady

/-- RUN_STOP_COMPLETE (R56). -/
def State.runStopComplete (s : State) : State :=
  if s.mode = 3 ∧ s.boot.target = some 2 ∧ s.shotFronds.isEmpty then s.runStopped else s

/-- A frond's drive outputs are held at CLEAR_CODE. -/
def State.forceFrond (s : State) (f : Nat) : State := s.setCrz f { s.crz f with forced := true }

/-- STOP_TIMEOUT expires (R56): what still runs is halted and forced, and its open shots end; bundles in a queue stay (R162). -/
def State.stopExpired (s : State) : State :=
  let fs := s.shotFronds
  let s1 := fs.foldl (fun a f => ((a.crzHalt f).leaveOpen f).forceFrond f) s
  let new := fs.foldl (fun m f => if (s.crz f).forced then m else mset m f) s1.boot.stopped
  let s2 := s1.mapBoot (fun b => { b with stopped := new })
  (if fs.isEmpty then s2 else s2.flag pMode 1).runStopped

/-- STOP_TIMEOUT (R56): the limit set when the transition began has passed. -/
def State.stopTimeout (s : State) : State :=
  match s.boot.stopAt with
  | some b => if s.mode = 3 ∧ s.boot.target = some 2 ∧ b ≤ s.beat then s.stopExpired else s
  | none => s

/-- A listed transition is accepted (R50, R56); a limit of 0 stops at once. -/
def State.modeStart (s : State) (t : Nat) : State :=
  let s1 := s.setTarget (some t)
  if s.mode = 3 then
    let us := s1.rdF pMode 0x10C 23 0
    let s2 := s1.mapBoot (fun b => { b with stopAt := some (s.beat + 1000 * us) })
    if us = 0 then s2.stopExpired else s2
  else s1

/-- A write of MODE_REQ (R47 to R50, R54, R58; Table 2.10). BUSY shows the transitions of MODE_REQ and MODE_RESET; in BOOT it reads
0, and a request other than for HOLD is one for an unlisted transition, cause 0x01 (DESIGN CHOICE, log entry 44: R50 does not say
whether a boot is a transition in progress). -/
def State.modeReq (s : State) (v : Word) : State :=
  let t := fld v 2 0
  let no := fun (c : Nat) => s.modeRefuse c 0x104
  if fld v 31 16 ≠ 0x4D44 then no 4
  else if t = 5 then (if s.mode = 0 then no 1 else s.enterHold 0)
  else if s.boot.target.isSome then no 2
  else if !modeListed s.mode t then no 1
  else if !s.modeCond t then no 3
  else s.modeStart t

/-- A write of MODE_RESET (R49, R65; Table 2.13). Where several causes hold, the mode is named first, then the lock or the burn, then
BUSY (DESIGN CHOICE, log entry 44: the spec gives no order). -/
def State.modeReset (s : State) (v : Word) : State :=
  let no := fun (c : Nat) => s.modeRefuse c 0x110
  if fld v 31 16 ≠ 0x4D44 then no 4
  else if !bit v 0 then s
  else if s.mode = 0 ∨ s.mode = 1 ∨ s.mode = 3 then no 1
  else if s.thermLock ∨ s.cal.burn.isSome then no 3
  else if s.boot.target.isSome then no 2
  else s.setTarget (some 6)

/-! Resets (R63, Table 2.4). -/

/-- Bits of a register that fuses or the security island hold through every reset. -/
def fuseMask (a : Nat) : Word :=
  if a = pSec.reg 0x100 ∨ a = pSec.reg 0x118 ∨ a = pDebug.reg 0x11C ∨ a = pDebug.reg 0x120 then 0xFFFFFFFF
  else if a = pSec.reg 0x110 ∨ a = pFusebank.reg 0x104 then 0xFFFF else 0

/-- Bits a warm reset or DORMANT keeps: those of the always-on pages too. -/
def warmMask (a : Nat) : Word := if a < 0x3000 then 0xFFFFFFFF else fuseMask a

/-- Bits a pin reset keeps: the boot log's head and failure counters, and the thermal lock. -/
def pinMask (a : Nat) : Word :=
  if a = pBoot.reg 0x108 then 0x3F00 else if a = pBoot.reg 0x11C then 0xFFFFFFFF
  else if a = pMode.reg 0x100 then 0x8000 else if a = pMode.reg 0x108 then 0x80 else fuseMask a

/-- Bits a supply reset keeps. -/
def supplyMask (a : Nat) : Word := if a = pSec.reg 0x118 then 0 else fuseMask a

/-- Registers return to reset except the kept bits. -/
def keepRegs (mask : Nat → Word) (t : Tab Word) : Tab Word :=
  t.filterMap (fun (e : Nat × Word) =>
    let w := (e.2 &&& mask e.1) ||| (regReset e.1 &&& ~~~(mask e.1))
    if w = regReset e.1 then none else some (e.1, w))

/-- A reset of everything but the kept register bits, fuses, the pins and the model's own fields. -/
def State.cleared (s : State) (mask : Nat → Word) (boot : Boot) : State :=
  let cal : Cal := { burnt := s.cal.burnt, good := s.cal.good }
  let sec : Sec := { wardenKey := s.sec.wardenKey, raises := s.sec.raises, devGone := s.sec.devGone }
  let pins : Pins := { abortLow := s.pins.abortLow, clr := s.pins.clr }
  ({ regs := keepRegs mask s.regs, boot := boot, cal := cal, sec := sec, pins := pins, fresh := s.fresh, outbox := s.outbox,
     pending := s.pending } : State).newChallenge

/-- Only the always-on domain is on (Table 2.3): the others have gone off in the reverse order within the transition (R61), which
completes behind them. -/
def State.domainsOff (s : State) : State := (domOrder.reverse.foldl (fun a d => a.wrB pPower 0x100 d false) s).wr pPower 0x100 1

/-- DORMANT, or the clear of a warm reset (R63). -/
def State.warmClear (s : State) : State :=
  (s.cleared warmMask { s.boot with
    target := none, stopAt := none, fromBoot := false, holdAt := none, holdNow := false, stopped := 0, sw := [], swAt := none }).domainsOff.wrB pMode 0x100 14 false

/-- PIN_RESET (R63). -/
def State.pinReset (s0 : State) : State :=
  let s := s0.burnCut
  s.cleared pinMask { seq := s.boot.seq, log := s.boot.log, logValid := s.boot.logValid, mirror := s.boot.mirror,
                      mirrorHead := s.boot.mirrorHead, mirrorSeq := s.boot.mirrorSeq, mirrorCnt := s.boot.mirrorCnt,
                      wakeCount := s.boot.wakeCount }

/-- SUPPLY_RESET (R63, R73): the SRAM copy of the log is lost. A burn it cut short shows so (15_calibration.md R402). -/
def State.supplyReset (s0 : State) : State :=
  let s := s0.burnCut
  let s1 := s.cleared supplyMask { logValid := false, mirror := s.boot.mirror, mirrorHead := s.boot.mirrorHead,
                                   mirrorSeq := s.boot.mirrorSeq, mirrorCnt := s.boot.mirrorCnt }
  match s0.cal.burn with
  | some (_, false) => s1.wrF pFusebank 0x104 27 24 2
  | _ => s1

/-! Faults, aborts and the clock. -/

/-- PGOOD_LOST (R59). -/
def State.pgoodLost (s : State) (d : Nat) : State :=
  if d = 0 ∨ !s.domOn d then s else ((s.wrB pPower 0x100 d false).wrB pPower 0x108 d true).fatal

/-- Ten milliseconds have passed since entry to HOLD (R55); while the beat counter stands no beat shows it, and the command's coming
says so (log entry 44). -/
def State.heldLong (s : State) : Bool :=
  match s.boot.holdAt with
  | some h => decide (h + 10000000 ≤ s.beat) || !s.clockOn
  | none => true

/-- THERMAL_LOCK_POWER_OFF (R55, R61). -/
def State.lockPowerOff (s : State) : State :=
  if s.thermLock ∧ s.mode = 5 ∧ s.heldLong then
    let s1 := (List.range 4).foldl (fun a p => if a.portState p = 0 then a else a.portDown p 0) s
    s1.domains (domOrder.reverse.filter (fun d => decide (10 ≤ d) || d == 4 || d == 5 || d == 6)) false
  else s

/-- UNLOCK (01_architecture.md R33, R34; 13_time_and_cluster.md R362): the beat counter holds, and a Crozier that was to halt at a
later boundary halts in this beat, the last (log entry 44). While the chain is unlocked a loss of REF_CLK is one more UNLOCK.
FABRIC_LOCK, GDDR7_LOCK and HK_LOCK stand where REF_CLK, the source of their PLLs, is lost (DESIGN CHOICE, log entry 44: the spec does not
say that they fall). -/
def State.unlockNow (s : State) (ref : Bool) : State :=
  if !s.clockOn then
    (if ref ∧ s.rdB pTimeline 0x108 0 then ((s.flag pTimeline 0).enterHold 6).wrB pTimeline 0x108 0 false else s)
  else
    let s1 := (s.flag pTimeline 0).csUnlock
    let s2 := (List.range 64).foldl (fun a g =>
      if a.rdF (pCgrp g) 0x104 2 0 ≠ 0 ∧ a.grpVoted g then a.setGrp g { a.grp g with lost := true } else a) s1
    let s3 := (List.range 32).foldl (fun a f => (a.setCrz f { a.crz f with haltAt := none }).crzHalt f) (s2.enterHold 6)
    { ((if ref then s3.wrB pTimeline 0x108 0 false else s3).wrB pTimeline 0x108 1 false).powerFlush.forceNow with flagNow := [] }

/-- MAIN_PLL_RELOCK (01_architecture.md R34, R351): the beat in which the counter stood ends, and the next one begins. -/
def State.relock (s : State) : State :=
  let step := s.rdF pBoot 0x100 23 19
  if s.mode = 5 ∧ !s.clockOn ∧ s.domOn 9 ∧ (step = 0 ∨ 5 < step) then
    (((s.wrF pTimeline 0x108 1 0 3).clearMap).mapTime (fun t => { t with resync := some (s.beat + 1) })).beatTick
  else s

/-- The abort of a tuft (01_architecture.md R39). -/
def State.tuftAbort (s : State) (t fn : Nat) : State :=
  let fs := (List.range 32).filter (fun f => s.frondOwner f == t)
  let s1 := fs.foldl (fun a f =>
    let a1 := (a.crzDrop f).idlePlayers f
    let a2 := { a1 with chains := Tab.cut a1.chains (8 * f) 8 }
    let a3 := ((a2.emptySlots f).clearFrames f 0xFFFF).abandonTo f
    ((a3.forceFrond f).biasClear f).flag (pCrozier f) 9) s
  (s1.tuftAborts t).abortStat 1 fn

/-- A write of the ABORT doorbell by a function (R38, R39, R376): the physical function's aborts every tuft, and HOLD follows, so that a
tuft's commit groups abort with TUFT_ABORT and not with MODE (DESIGN CHOICE, log entry 44: R38 states both effects and not their order). -/
def State.abortBell (s : State) (fn : Fin 32) (v : Word) : State :=
  if v ≠ 0x41420000 then s
  else if fn.val = 0 then (((List.range 16).filter s.tuftOn).foldl (fun a t => a.tuftAbort t 0) s).enterHold 3
  else match s.tuftOf fn.val with
    | some t => s.tuftAbort t fn.val
    | none => (s.violate (.func fn) 4 4 0 true).count pPcie 1 1

/-- The level of ABORT_N (R54). -/
def State.abortLevel (s : State) (low : Bool) : State := { s with pins := { s.pins with abortLow := low } }

/-- HI latches, LO staging latches and QUEUE data latches of a function are cleared (18_tufts_and_security.md R481). -/
def State.clearLatches (s : State) (fn : Fin 32) : State :=
  let c := (Path.func fn).code
  let keep := fun (k : Nat) => k / 2 ^ 26 != c
  let s1 := { s with hiLatch := s.hiLatch.filter (fun (e : Nat × Word) => keep e.1),
                     loStage := s.loStage.filter (fun (e : Nat × Option Word) => keep e.1) }
  s1.queues.foldl (fun a (e : Nat × Queue) =>
    let x := a.queue e.1
    a.setQ e.1 { x with latch := Tab.del x.latch c, waits := x.waits.filter (fun w => w.1 != .func fn),
                        behind := x.behind.filter (fun w => w.1 != .func fn) }) s1

/-- FUNCTION_LEVEL_RESET of a virtual function (R125, R481): what the host set in the function goes too (14_serial_links.md R372, R374). -/
def State.flr (s : State) (fn : Fin 32) : State :=
  if fn.val = 0 then s
  else
    let s0 := (s.pathReset (.func fn)).clearLatches fn
    let s1 := { s0 with pcie := { s0.pcie with
      masked := s0.pcie.masked.filter (fun x => x.1 != fn.val), pend := s0.pcie.pend.filter (fun x => x.1 != fn.val) } }
    match s1.tuftOf fn.val with
    | some t => (List.range 16).foldl (fun a c => if a.owner (pAcq c) = t then a.acqLinkStop c else a) s1
    | none => s1

/-- PCIE_FUNDAMENTAL_RESET (R63, R64, R125, R315): the endpoint's state is cleared and its link goes down. -/
def State.perst (s : State) : State :=
  let s1 := (List.finRange 32).foldl (fun a fn => (a.pathReset (.func fn)).clearLatches fn) s
  let s2 := (List.range 16).foldl (fun a c => a.acqLinkStop c) s1
  { (s2.wr pPcie 0x100 0).wr pPcie 0x104 0 with pcie := {} }

/-- The host sets MSI-X masks and Enable Relaxed Ordering; a pending vector that is masked no longer is sent
(14_serial_links.md R374, R375). -/
def State.hostSetup (s : State) (relaxed : Bool) (masked : List (Nat × Nat)) : State :=
  let now := s.pcie.pend.filter (fun x => !masked.contains x)
  now.reverse.foldl (fun a x => a.msix x.1 x.2)
    { s with pcie := { relaxed := relaxed, masked := masked, pend := s.pcie.pend.filter (fun x => masked.contains x) } }

/-- PCIE_LINK_UP (R63, R315, R373, R398), at a width and speed that the endpoint supports: ×1 to ×16, 2.5 to 32 GT/s (R372), with what the
host has set up (log entry 47). -/
def State.pcieUp (s : State) (width : Nat) (up : PcieUp) : State :=
  if s.domOn 3 ∧ !s.boot.fencedPcie ∧ [1, 2, 4, 8, 16].contains width ∧ 1 ≤ up.speed ∧ up.speed ≤ 5 then
    (List.range 16).foldl (fun a c => a.acqLinkUp c)
      (((s.hostSetup up.relaxed up.masked).wr pPcie 0x100 (BitVec.ofNat 32
        (width % 32 * 2 ^ 16 + up.speed % 8 * 2 ^ 8 + (if up.linkIde then 2 else 0) + 1))).wr pPcie 0x104 up.ideSel)
  else s

/-- A write of POWER.DOM_GATE (R62): gate bits of a slice that holds a tuft's frond stay 0; a write is one refusal and counts once,
however many of its bits are refused (DESIGN CHOICE, log entry 44). -/
def State.domGate (s : State) (v : Word) : State :=
  let owned := fun (k : Nat) => (List.range 8).any (fun i => s.frondOwner (8 * k + i) != 0x1F)
  let want := (List.range 16).map (fun i => (10 + i, bit v (10 + i), owned (i / 4)))
  let w := want.foldl (fun (m : Nat) x => if x.2.1 && !x.2.2 then mset m x.1 else m) 0
  let s1 := s.wr pPower 0x104 (BitVec.ofNat 32 w)
  let s2 := if want.any (fun x => x.2.1 && x.2.2) then s1.recErr pPower 5 0x104 else s1
  if s.mode = 2 then s2.applyGates else s2

/-- A write of BOOT.LOG_CTRL (R72, R73; Table 2.18). -/
def State.logCtrl (s : State) (v : Word) : State :=
  let s1 := if bit v 0 then s.wr pBoot 0x11C 0 else s
  if bit v 1 then s1.mirrorLog else s1

end Sys2Proof.Machine
end

