-- ==== Sys2Proof/Machine/Thermal.lean ====
section
/-! DEFINITION. Thermal: diodes, the thermal model, governing temperatures, bands, thresholds and shot stretching, and counter
snapshots (17_thermal_and_counters.md R453 to R463, R467). Temperatures are in 1/64 °C. -/
namespace Sys2Proof.Machine

/-- The temperature a 16-bit register field holds. -/
def tempOf (w : Word) : Int := sgn (fld w 15 0) 16

/-- Reading and node temperature of diode i. -/
def State.diodeT (s : State) (i : Nat) : Int := tempOf (s.rd pDiode (0x100 + 4 * i))
def State.nodeT (s : State) (n : Nat) : Int := tempOf (s.rd pTherm (0x200 + 4 * n))

/-- A diode counts for maxima: valid, or marked BROKEN since its latest reading (R456). -/
def State.diodeUse (s : State) (i : Nat) : Bool := s.rdB pDiode (0x100 + 4 * i) 31 || tst s.therm.late i

/-- The diodes of die d: 0 to 3 the slices, 4 the Thallus, 5 the housekeeping die (R455). -/
def dieDiodes (d : Nat) : List Nat :=
  if d < 4 then (List.range 6).map (fun k => 6 * d + k) else if d = 4 then (List.range 12).map (fun k => 24 + k) else [36, 37, 38, 39]

/-- The die of a diode. -/
def dieOf (i : Nat) : Nat := if i < 24 then i / 6 else if i < 36 then 4 else 5

/-- Every diode of a die is BROKEN (R457). -/
def State.dieLost (s : State) (d : Nat) : Bool := (dieDiodes d).all (fun i => s.rdB pDiode (0x100 + 4 * i) 30 && !tst s.therm.late i)

/-- The largest of a list of temperatures with their node numbers; the lowest number among equals. -/
def hottest : List (Nat × Int) → Option (Nat × Int)
  | [] => none
  | x :: t => match hottest t with
    | some y => if x.2 < y.2 then some y else some x
    | none => some x

/-- The temperatures Tg is formed from (R458). -/
def State.tgList (s : State) : List (Nat × Int) :=
  (List.range 40).flatMap (fun i =>
    (if s.diodeUse i then [(i, s.diodeT i)] else []) ++ (if s.therm.running then [(i, s.nodeT i)] else []))

/-- The temperatures of a die: valid diodes and their nodes; with every diode BROKEN, its nodes alone (R457, R458). -/
def State.dieT (s : State) (d : Nat) : Option Int :=
  (hottest ((dieDiodes d).flatMap (fun i =>
    if s.dieLost d then (if s.therm.running then [(i, s.nodeT i)] else [])
    else if s.diodeUse i then (i, s.diodeT i) :: (if s.therm.running ∧ d ≠ 5 then [(i, s.nodeT i)] else []) else []))).map (fun x => x.2)

/-- The band of a temperature, from the band before (Table 17.1, R459). -/
def bandOf (old : Nat) (t : Int) : Nat :=
  let up := if 95 * 64 ≤ t then 3 else if 70 * 64 ≤ t then 2 else if 45 * 64 ≤ t then 1 else 0
  let dn := if 93 * 64 ≤ t then 3 else if 68 * 64 ≤ t then 2 else if 43 * 64 ≤ t then 1 else 0
  max up (min old dn)

/-- Set the band in bits [lo + 1:lo] of BAND; a change is flagged and counted (R459). -/
def State.setBand (s : State) (lo new : Nat) : State :=
  if s.rdF pTherm 0x10C (lo + 1) lo = new then s else ((s.wrF pTherm 0x10C (lo + 1) lo new).flag pTherm 3).count pTherm 2 1

/-- The refresh multiplier of a band (Table 17.1). -/
def refreshMult (band : Nat) : Nat := if band = 3 then 4 else if band = 2 then 2 else 1

/-- SLICE_T, THALLUS_T, HK_T and the bands that follow them (R458 to R460). -/
def State.thermBands (s : State) : State :=
  let s1 := (List.range 4).foldl (fun a k =>
    match a.dieT k with
    | none => a
    | some t =>
      let old := a.rdF pTherm 0x10C (2 * k + 1) (2 * k)
      let b := (a.wr pTherm (0x110 + 4 * k) (BitVec.ofNat 32 (enc t 16))).setBand (2 * k) (bandOf old t)
      if bandOf old t = old then b else (List.range 8).foldl (fun c j => c.bandSet (8 * k + j) (bandOf old t)) b) s
  let s2 := match s1.dieT 4 with
    | none => s1
    | some t => (s1.wr pTherm 0x120 (BitVec.ofNat 32 (enc t 16))).setBand 10 (bandOf (s1.rdF pTherm 0x10C 11 10) t)
  match s2.dieT 5 with
  | none => s2
  | some t => s2.wr pTherm 0x124 (BitVec.ofNat 32 (enc t 16))

/-- The stretch factor in the throttle state (R462). -/
def stretchOf (k : Nat) (tg : Int) : Nat := min 0xFFFF (256 + (k * (max 0 (tg - 105 * 64)).toNat + 63) / 64)

/-- Whether thresholds apply yet: from boot step 6 on (02_modes_power_boot.md R69). -/
def State.thermArmed (s : State) : Bool := s.mode != 0 && (s.mode != 1 || decide (6 ≤ s.rdF pBoot 0x100 23 19))

/-- THROT.F changes; the beat domain holds the new value 4 beats later (R462, 01_architecture.md Table 1.4). -/
def State.setStretch (s : State) (f : Nat) : State :=
  if s.rdF pTherm 0x108 31 16 = f then s
  else ({ s with therm := { s.therm with fAt := s.beat + 4, fOld := s.stretch } }).wrF pTherm 0x108 31 16 f

/-- Tg is formed and compared with the thresholds (R458, R461 to R463). -/
def State.thermEval (s : State) : State :=
  match hottest s.tgList with
  | none => s
  | some (src, tg) =>
    let s1 := s.wr pTherm 0x100 (BitVec.ofNat 32 (src * 2 ^ 24 + enc tg 16))
    let s2 := if tempOf (s1.rd pTherm 0x104) < tg then s1.wr pTherm 0x104 (BitVec.ofNat 32 (enc tg 16)) else s1
    let s3 := s2.thermBands
    if !s3.thermArmed then s3
    else
      let warn := s3.rdB pTherm 0x10 16
      let s4 := if !warn ∧ 95 * 64 ≤ tg then ((s3.wrB pTherm 0x10 16 true).flag pTherm 0).count pTherm 0 1
        else if warn ∧ tg < 90 * 64 then s3.wrB pTherm 0x10 16 false else s3
      let thr := s4.rdB pTherm 0x10 17
      let s5 := if !thr ∧ 105 * 64 ≤ tg then ((s4.wrB pTherm 0x10 17 true).flag pTherm 1).count pTherm 1 1
        else if thr ∧ tg < 100 * 64 then s4.wrB pTherm 0x10 17 false else s4
      let f := if s5.rdB pTherm 0x10 17 then stretchOf (s5.rdF pTherm 0x108 7 0) tg else 256
      let s6 := (s5.setStretch f).wrB pTherm 0x10 18 (decide (2048 ≤ f))
      let hot := if 120 * 64 ≤ tg then s6.therm.hot + 1 else 0
      let s7 := { s6 with therm := { s6.therm with hot := hot } }
      if 2 ≤ hot then s7.enterHold 7 else s7

/-- The model starts, seeded from the diodes (R454); the seeds of the other nodes are free values (log entry 5). -/
def State.thermStart (s : State) : State :=
  let s1 := (List.range 40).foldl (fun a i => a.wr pTherm (0x200 + 4 * i) (BitVec.ofNat 32 (a.rdF pDiode (0x100 + 4 * i) 15 0))) s
  let s2 := (List.range 24).foldl (fun (a : State) i =>
    let d := a.draw
    d.2.wr pTherm (0x200 + 4 * (40 + i)) (BitVec.ofNat 32 (d.1.toNat % 65536))) s1
  { s2 with therm := { s2.therm with running := true } }

/-- A sixteenth of the way from a node to its diode; which way a fraction rounds is a free value. -/
def sixteenth (n d : Int) (up : Bool) : Int :=
  let q := (d - n) / 16
  n + q + (if up ∧ (d - n) % 16 ≠ 0 then 1 else 0)

/-- MODEL_STEP (R454, R461): the network gives its node temperatures, which valid diodes correct. -/
def State.modelStep (s : State) (nodes : List Int) : State :=
  if !s.therm.running then s
  else
    let a := s.draw
    let s1 := (List.range 64).foldl (fun (t : State) n =>
      let x := nodes.getD n (t.nodeT n)
      let y := if n < 40 ∧ t.diodeUse n then sixteenth x (t.diodeT n) (tst a.1.toNat n) else x
      t.wr pTherm (0x200 + 4 * n) (BitVec.ofNat 32 (enc (satI 16 y) 16))) a.2
    s1.thermEval

/-- Both deviations of diode i exceed 8 °C (R456); the mean over k neighbours is compared without rounding. -/
def State.deviates (s : State) (i : Nat) : Option Bool :=
  let js := (dieDiodes (dieOf i)).filter (fun j => j != i && s.rdB pDiode (0x100 + 4 * j) 31)
  let k : Int := js.length
  if js.isEmpty then none
  else
    let sum := js.foldl (fun (a : Int) j => a + (s.diodeT j + s.nodeT i - s.nodeT j)) 0
    some (decide (8 * 64 < (s.diodeT i - s.nodeT i).natAbs) && decide (8 * 64 * k < (k * s.diodeT i - sum).natAbs))

/-- DIODE_READING (R455 to R458). -/
def State.diodeReading (s : State) (i : Nat) (t : BitVec 16) : State :=
  if !s.domOn 1 then s
  else
    let r := 0x100 + 4 * i
    let s0 := { s with therm := { s.therm with late := mclr s.therm.late i } }
    let s1 := s0.wrF pDiode r 15 0 t.toNat
    let s2 := if s1.rdB pDiode r 30 then s1
      else
        let v := s1.wrB pDiode r 31 true
        if !v.therm.running then v
        else match v.deviates i with
          | none => v
          | some false => v.wrF pDiode r 17 16 0
          | some true =>
            if v.rdF pDiode r 17 16 < 3 then v.wrF pDiode r 17 16 (v.rdF pDiode r 17 16 + 1)
            else
              let b := (((v.wrB pDiode r 31 false).wrB pDiode r 30 true).flag pTherm 2).count pTherm 3 1
              let c := { b with therm := { b.therm with late := mset b.therm.late i } }
              if (dieDiodes (dieOf i)).all (fun j => c.rdB pDiode (0x100 + 4 * j) 30) then c.flag pTherm 4 else c
    if i = 39 ∧ !s2.therm.running then s2.thermEval else s2

/-- A write of DIODE.CMD (R456, R468). -/
def State.diodeCmd (s : State) (v : Word) : State :=
  if fld v 31 16 ≠ 0x444F then s.recErr pDiode 1 0x1A0
  else
    let i := fld v 13 8
    let r := 0x100 + 4 * i
    if bit v 0 ∧ i < 40 then
      (let s1 := ((s.wrB pDiode r 30 false).wrF pDiode r 17 16 0).wrB pDiode r 31 (s.rdB pDiode r 31 || s.rdB pDiode r 30)
      { s1 with therm := { s1.therm with late := mclr s1.therm.late i } })
    else s

/-- POWER_SAMPLE (R453): the powers of the 26 domains, LSB 10 mW. -/
def State.powerSample (s : State) (p : List (BitVec 16)) : State :=
  let v := fun (d : Nat) => (p.getD d 0).toNat
  let s1 := (List.range 26).foldl (fun a d => a.wr pTherm (0x140 + 4 * d) (BitVec.ofNat 32 (v d))) s
  s1.wr pTherm 0x1A8 (BitVec.ofNat 32 (((List.range 26).foldl (fun n d => n + v d) 0) % 2 ^ 20))

/-- REFRESH_INTERVAL (R460): the temperatures of the GDDR7 devices, none where a read fails. -/
def State.refresh (s : State) (temps : List (Option (BitVec 16))) : State :=
  let t : Int := if temps.isEmpty ∨ temps.any (fun x => x.isNone) then tempOf (s.rd pTherm 0x120)
    else (temps.map (fun x => sgn (x.getD 0).toNat 16)).foldl max (-32768)
  let b := bandOf (s.rdF pTherm 0x10C 9 8) t
  (s.setBand 8 b).wrF pTherm 0x128 2 0 (refreshMult b)

/-- The counters of a page are copied as they stand at the end of the beat before the current one (R467). -/
def State.snapCounters (s : State) (p : Nat) : State :=
  ((List.range 16).foldl (fun a i => a.wr64 (pCnt p) (cntReg i 3) (a.rd64 (pCnt p) (cntReg i 1))) s).wr64 (pCnt p) 0x104 (s.beat - 1)

end Sys2Proof.Machine
end

