-- ==== Sys2Proof/Machine/Boot.lean ====
section
/-! DEFINITION. Boot: the sixteen steps of start-up and the completion of mode transitions (02_modes_power_boot.md R47, R50, R55,
R66 to R74). -/
namespace Sys2Proof.Machine

/-- Lowest bit of a failure counter of FAIL_CNT (Table 2.17): ALT steps and PCIe (7 PCIe stands for step 8), slices, Ndeor ports and
Ethernet ports by unit. -/
def failBit (step unit : Nat) : Nat :=
  if step = 5 then 0 else if step = 7 then 2 else if step = 9 then 4 else if step = 8 then 6
  else if step = 10 ∨ step = 11 then 8 + 2 * unit else if step = 13 then 16 + 2 * unit else 24 + 2 * unit

/-- A failure counter (R72). -/
def State.failCnt (s : State) (step unit : Nat) : Nat := s.rdF pBoot 0x11C (failBit step unit + 1) (failBit step unit)

/-- A failure counter saturates at 3, or returns to 0 (R72). -/
def State.failSet (s : State) (step unit : Nat) (failed : Bool) : State :=
  s.wrF pBoot 0x11C (failBit step unit + 1) (failBit step unit) (if failed then min 3 (s.failCnt step unit + 1) else 0)

/-- The steps with policy ALT and SKIP (Table 2.5). -/
def altStep (n : Nat) : Bool := n == 5 || n == 7 || n == 9
def skipStep (n : Nat) : Bool := n == 8 || n == 10 || n == 11 || n == 13 || n == 14

/-- The step in progress; 0 outside BOOT. -/
def State.bootStep (s : State) : Nat := if s.mode = 1 then s.rdF pBoot 0x100 23 19 else 0

/-- Whether a unit of a SKIP step is fenced (R67). -/
def State.unitFenced (s : State) (step u : Nat) : Bool :=
  match step with
  | 8 => s.boot.fencedPcie
  | 13 => tst s.boot.fencedNdeor u
  | 14 => tst s.boot.fencedEth u
  | _ => tst s.boot.fencedSlices u

/-- The units a SKIP step tests: expected and not fenced (R67). -/
def State.stepUnits (s : State) (step : Nat) : List Nat :=
  let all := match step with
    | 8 => [0]
    | 13 => maskList 4 s.boot.expect
    | 14 => maskList 2 (s.boot.expect / 16)
    | _ => [0, 1, 2, 3]
  all.filter (fun u => !s.unitFenced step u)

/-- A PHY whose step ends without a unit goes off (Table 2.3). -/
def State.phyOff (s : State) (step : Nat) : State :=
  if !(s.stepUnits step).isEmpty then s
  else match step with
    | 8 => s.domains [3] false
    | 13 => s.domains [5] false
    | 14 => s.domains [4] false
    | _ => s

/-- A unit is fenced: its domains go off and boot ends DEGRADED (R67); a port that the timeout of step 13 fences shows it
(14_serial_links.md Table 14.10). -/
def State.fence (s : State) (step u : Nat) (late : Bool := false) : State :=
  let s1 := s.mapBoot (fun b => match step with
    | 8 => { b with fencedPcie := true, degraded := true }
    | 13 => { b with fencedNdeor := mset b.fencedNdeor u, degraded := true }
    | 14 => { b with fencedEth := mset b.fencedEth u, degraded := true }
    | _ => { b with fencedSlices := mset b.fencedSlices u, degraded := true })
  match step with
  | 10 => s1.domains (sliceDoms u).reverse false
  | 11 => s1.domains (sliceDoms u).reverse false
  | 13 => ((s1.portDown u (if late then 7 else 0)).setPort u 7).phyOff 13
  | _ => s1.phyOff step

/-- A unit whose counter reads 2 or more is fenced without a test (R72). -/
def State.fenceForced (s : State) (step u t : Nat) : State := (s.bootLog 5 step u 0x16 t 0).fence step u

/-- The domains a step switches on, in order, for the units it tests but those in bad (Table 2.3, R61). -/
def State.stepDoms (s : State) (n : Nat) (bad : List Nat) : List Nat :=
  let us := (s.stepUnits n).filter (fun u => !bad.contains u)
  match n with
  | 4 => [9]
  | 6 => [1, 2]
  | 7 => [6]
  | 8 => if us.isEmpty then [] else [3]
  | 10 => us.flatMap sliceDoms
  | 12 => [7, 8]
  | 13 => if us.isEmpty then [] else [5]
  | 14 => if us.isEmpty then [] else [4]
  | _ => []

/-- What a step switches on and starts (Tables 2.3, 2.5). -/
def State.stepOn (s : State) (n : Nat) : State :=
  let s1 := s.domains (s.stepDoms n []) true
  match n with
  | 11 => ((s1.stepUnits 11).flatMap (fun k => (List.range 8).map (fun i => 8 * k + i))).foldl (fun a f => a.startRun f true true true) s1
  | 12 => s1.hkCalStart 7
  | 13 => (s1.stepUnits 13).foldl (fun a p => (a.wrB pNdeor (0x104 + 4 * p) 0 true).portTrain p) s1
  | _ => s1

/-- Step n starts at always-on cycle t (R66, R72, R74). -/
def State.startStep (s : State) (n t : Nat) : State :=
  let force := altStep n && decide (2 ≤ s.failCnt n 0)
  let s1 := (s.wrF pBoot 0x100 23 19 n).mapBoot (fun b => { b with
    started := t, now := t, nowBeat := s.beat, forced := force, alt := force, primary := 0, primaryDetail := 0 })
  let us := if n = 8 ∨ n = 10 ∨ n = 13 ∨ n = 14 then (s1.stepUnits n).filter (fun u => decide (2 ≤ s1.failCnt n u)) else []
  (us.foldl (fun a u => a.fenceForced n u t) s1).stepOn n

/-- Entry to BOOT (R47, R66, R74; Table 2.6). -/
def State.enterBoot (s : State) : State :=
  let s1 := (s.mapBoot (fun b => { b with
    seq := (b.seq + 1) % 65536, fencedSlices := 0, fencedPcie := false, fencedNdeor := 0, fencedEth := 0, degraded := false, expect := 0,
    por := false })).wr pBoot 0x100 0
  ((s1.setMode 1).wrB pPower 0x100 0 true).startStep 1 0

/-- DETAIL of a record: a value where Table 2.6 names one for the cause (SRAM_BIST, GDDR7_TRAIN, SLICE_BIST), else 0 (R71). -/
def bootDetail (cause detail : Nat) : Word := if cause = 7 ∨ cause = 8 ∨ cause = 0xE then BitVec.ofNat 32 detail else 0

/-- The latest boot event is of always-on cycle t. -/
def State.bootNow (s : State) (t : Nat) : State := s.mapBoot (fun b => { b with now := t, nowBeat := s.beat })

/-- A step with policy STOP fails, or an alternative does (R67). -/
def State.bootStop (s : State) (step cause t detail : Nat) : State :=
  let s1 := (s.bootNow t).bootLog 3 step 0 cause t (bootDetail cause detail)
  (s1.bootEnd 3 step 3 0 cause t).enterHold 1

/-- READY after step 16 (R47, R67, R74). RESULT stays IN_PROGRESS until the boot ends, DEGRADED too (DESIGN CHOICE, log entry 44:
R67 does not say when it becomes so). -/
def State.bootReady (s : State) (t : Nat) : State :=
  let d := s.boot.degraded
  ((s.bootEnd (if d then 2 else 1) 0 (if d then 6 else 0) 0 0 t).setMode 2).applyGates

/-- The next step starts where a step ends (R66). -/
def State.bootNext (s : State) (step t : Nat) : State := if step = 16 then s.bootReady t else s.startStep (step + 1) t

/-- Boot step 3: a log whose CRC does not hold is restored from the mirror (R73); bad: the CRC of the SRAM copy fails though nothing
the model holds lost it. The records from here on carry the mirror's SEQ + 1, those of this boot before step 3 the number from before the
restore (DESIGN CHOICE, log entry 44: the spec does not say which SEQ such a boot has). -/
def State.restoreLog (s : State) (bad : Bool) : State :=
  if s.boot.logValid && !bad then s
  else
    let b := s.boot
    let s1 := s.mapBoot (fun b => { b with log := b.mirror, seq := (b.mirrorSeq + 1) % 65536, logValid := true })
    ((s1.wrF pBoot 0x108 13 8 b.mirrorHead).wr pBoot 0x11C b.mirrorCnt).wrB pBoot 0x100 18 true

/-- The capacity in GiB that step 7 found. -/
def capacityOf (r : BootRes) : Nat := r.vals.getD 0 16

/-- What a step that passes leaves (R28, R66 to R69, R485; 13_time_and_cluster.md R346; 14_serial_links.md R392, R393, R398; Tables
1.12, 2.5, 2.14). -/
def State.stepDone (s : State) (step : Nat) (r : BootRes) : State :=
  let alt := s.boot.alt
  match step with
  | 2 => s.loadBaseline
  | 3 => s.restoreLog (r.vals.getD 0 0 == 1)
  | 4 => s.wrB pTimeline 0x108 0 true
  | 5 => { (((s.wrF pTimeline 0x108 2 1 3).wrB pTimeline 0x108 8 alt).wrB pBoot 0x100 15 alt) with beat := 0 }
  | 7 =>
    let s1 := ((s.wrB pTimeline 0x108 5 true).wr pMemctl 0x100 (BitVec.ofNat 32 (255 + if alt then 65536 else 0))).wrB pBoot 0x100 16 alt
    (s1.wr pMemctl 0x104 (BitVec.ofNat 32 (capacityOf r % 64))).wrF pCommit 0x110 15 0 (if alt then 560 else 640)
  | 8 =>
    if (s.stepUnits 8).isEmpty then s
    else ((s.wrB pTimeline 0x108 3 true).wrB pBoot 0x100 14 true).pcieUp (r.vals.getD 0 16) { speed := r.vals.getD 1 5 }
  | 9 =>
    ((s.wrF pSec 0x110 31 16 r.version).mapBoot (fun b => { b with expect := r.expect % 64 })).mapSec (fun x => { x with
      imgDigest := r.digest }) |>.wrB pBoot 0x100 17 alt
  | 11 => (s.stepUnits 11).foldl (fun a k => a.wrB pBoot 0x100 k true) s
  | 13 => (s.stepUnits 13).foldl (fun a p => a.wrB pBoot 0x100 (8 + p) true) s
  | 14 =>
    let us := s.stepUnits 14
    if us.isEmpty then s else us.foldl (fun a p => a.wrB pBoot 0x100 (12 + p) true) (s.wrB pTimeline 0x108 4 true)
  | 15 => s.thermStart
  | 16 => s.wrB pSec 0x114 16 true
  | _ => s

/-- A step passes, by its primary method, or by its alternative with the record of that (R67, R71, R72). A PASS_ALT_FORCED record
carries the cause LOG_FORCED (DESIGN CHOICE, log entry 44: R72 names it for FENCED_FORCED alone). -/
def State.stepPass (s : State) (step : Nat) (r : BootRes) : State :=
  let s0 := s.bootNow r.t
  let b := s0.boot
  let s1 :=
    if !altStep step then s0
    else if b.forced then s0.bootLog 4 step 0 0x16 b.started 0
    else if b.alt then s0.bootLog 1 step 0 b.primary r.t (bootDetail b.primary b.primaryDetail)
    else s0.failSet step 0 false
  (s1.stepDone step r).bootNext step r.t

/-- The cause a boot image fails with: its VERSION lies below the floor (R485), or the operand's. -/
def State.stepCause (s : State) (step : Nat) (r : BootRes) : Nat :=
  if step = 9 ∧ r.cause = 0 ∧ r.version < s.rdF pSec 0x110 15 0 then 0x0B else r.cause

/-- Units that a SKIP step finds failing beside those the operand names: self-calibrations that did not pass, and ports that are not
ACTIVE (Table 2.5; 08_readout_front_end.md R252; 14_serial_links.md R385). -/
def State.unitsLost (s : State) (step t : Nat) : List BootUnit :=
  let pass := fun (f : Nat) => s.rdF (pReadout f) 0x11C 31 28 == 1 && s.rdF (pCalf f) 0x108 31 28 == 1
  match step with
  | 11 => ((s.stepUnits 11).filter (fun k => !(List.range 8).all (fun i => pass (8 * k + i)))).map (fun k => { unit := k, cause := 0x0F, t := t })
  | 13 => ((s.stepUnits 13).filter (fun p => !s.portUp p)).map (fun p => { unit := p, cause := 0x11, t := t })
  | _ => []

/-- Every unit a SKIP step tested is counted and, where it failed, logged and fenced (R67, R71, R72). The records of one step stand in
the order of the unit indices (DESIGN CHOICE, log entry 44: the spec gives no order). -/
def State.stepFences (s : State) (step : Nat) (bad : List BootUnit) : State :=
  (s.stepUnits step).foldl (fun a u =>
    match bad.find? (fun x => x.unit == u) with
    | some x => (((a.failSet step u true).bootLog 2 step u x.cause x.t (bootDetail x.cause x.detail))).fence step u (x.cause == 0x15)
    | none => if step = 10 then a else a.failSet step u false) s

/-- The step cannot end yet: a domain of a unit not named as failing is still to be switched on (R61), or calibration of a slice not
named as failing is still under way. -/
def State.stepBusy (s : State) (step : Nat) (bad : List BootUnit) : Bool :=
  if !(s.stepDoms step (bad.map (fun x => x.unit))).all s.domOn then true
  else if step = 11 then
    (s.stepUnits 11).any (fun k => !bad.any (fun x => x.unit == k) && (List.range 8).any (fun i => (s.run? (8 * k + i)).isSome))
  else step == 12 && s.rdB pHk 0x128 31

/-- The timeout of a step, or of one method of it, in always-on cycles of 40 ns (Table 2.5); of step 8, 10 s until PERST_N is high and
100 ms until the link is up. -/
def stepLimit (step : Nat) : Nat :=
  25000 * [0, 5, 5, 20, 20, 2, 20, 200, 10100, 5000, 50, 60, 100, 50, 500, 10, 100].getD step 0

/-- The always-on cycle in which the step, or the method, in progress exceeds its timeout (R66). -/
def State.stepEnd (s : State) : Nat := s.boot.started + stepLimit s.bootStep

/-- Step 8 cannot have passed so (R66): PERST_N rose more than 10 s after the start of the step, or the link came up more than 100 ms
behind it; the third value of the result is the cycle PERST_N rose in, counted from the start of the step. -/
def State.linkLate (s : State) (r : BootRes) : Bool :=
  let rise := r.vals.getD 2 0
  s.bootStep == 8 && !(s.stepUnits 8).isEmpty && !r.units.any (fun x => x.unit == 0)
    && (decide (250000000 < rise) || decide (r.t < s.boot.started + rise) || decide (s.boot.started + rise + 2500000 < r.t))

/-- The housekeeping PLL locks in step 12, unless that is what fails; whether it has where the step exceeds its timeout is free
(R66; 16_housekeeping_analog.md). -/
def State.hkLock (s : State) (step cause : Nat) : State :=
  if step ≠ 12 ∨ cause = 6 then s
  else if cause = 0x15 then s.draw.2.wrB pTimeline 0x108 6 (s.draw.1.toNat % 2 == 1)
  else s.wrB pTimeline 0x108 6 true

/-- Step 7 cannot have passed so: the device accepts 16, 24 or 32 GiB (14_serial_links.md R392). -/
def State.badFit (s : State) (r : BootRes) : Bool := s.bootStep == 7 && capacityOf r != 16 && capacityOf r != 24 && capacityOf r != 32

/-- A boot step ends (R66, R67); one dated before the latest event of the boot, or past the timeout, does not. -/
def State.stepEnds (s0 : State) (r : BootRes) : State :=
  let step := s0.bootStep
  let cause := s0.stepCause step r
  let s := s0.hkLock step cause
  if step = 0 ∨ r.t < s0.boot.now ∨ s0.stepEnd < r.t ∨ s0.linkLate r ∨ (cause = 0 ∧ (s0.stepBusy step r.units || s0.badFit r)) then s0
  else if skipStep step then
    let bad := r.units ++ s.unitsLost step r.t
    (s.stepFences step bad).stepPass step r
  else
    let s1 := if step = 9 ∧ (r.cause = 0x0B ∨ r.cause = 0x0C) then s.sigFail
      else if step = 7 ∧ cause ≠ 0 then s.wrF pMemctl 0x100 7 0 (r.vals.getD 1 0) else s
    if cause = 0 then s.stepPass step r
    else if altStep step ∧ !s.boot.alt then
      ((s1.failSet step 0 true).bootNow r.t).mapBoot (fun b => { b with
        alt := true, primary := cause, primaryDetail := r.detail, started := r.t })
    else s1.bootStop step cause r.t r.detail

/-- A boot step exceeds its timeout, at the cycle in which that passes (R66, R71): cause TIMEOUT; for a SKIP step, in the units that
have not finished. Before that cycle nothing happens. In step 8 it is the cycle named: 100 ms behind PERST_N. -/
def State.stepTimeout (s : State) (t : Nat) (units : List Nat) : State :=
  let e := if s.bootStep = 8 then max (s.boot.started + 2500000) (min t s.stepEnd) else s.stepEnd
  if t < e then s
  else s.stepEnds { t := e, cause := if skipStep s.bootStep then 0 else 0x15, units := units.map (fun u => { unit := u, cause := 0x15, t := e }) }

/-- A wake trigger (R47, R55). -/
def State.wake (s : State) : State :=
  if s.mode ≠ 0 ∨ s.boot.por then s
  else if s.thermLock then s.mapBoot (fun b => { b with wakeCount := b.wakeCount + 1 })
  else s.enterBoot

/-- POWER_ON_RESET (R47): DORMANT, and BOOT where the fuse BOOT_AUTO is set. -/
def State.powerOn (s : State) : State :=
  if s.mode ≠ 0 ∨ !s.boot.por then s
  else
    let s1 := (s.mapBoot (fun b => { b with por := false })).wrB pPower 0x100 0 true
    if Config.bootAuto then s1.wake else s1

/-- Leaving HOLD (07_drive_outputs.md R223): every FLUX page's REST_CODE takes its CLEAR_CODE. -/
def State.leaveHold (s : State) : State :=
  outPages.foldl (fun a p => if p.kind = .flux then (a.wr p 0x108 (a.rd p 0x10C)).wrF p 0x2C 31 16 (a.rdF p 0x2C 31 16 + 1) else a) s

/-- MODE_TRANSITION_DONE (R50, R55, R57, R58; 07_drive_outputs.md R219, R223). -/
def State.modeDone (s : State) : State :=
  match s.boot.target with
  | some 3 =>
    let s1 := ((s.setTarget none).abortRuns.setMode 3).forceFrom (s.beat + 24) false
    ((maskList 32 s1.boot.stopped).foldl (fun a f => a.setCrz f { a.crz f with forced := false, forcedTo := a.beat + 24 }) s1).mapBoot (fun b => { b with stopped := 0 })
  | some 4 => (((s.setTarget none).modeAborts false).setMode 4).forceNow.svcStart
  | some 2 =>
    if s.mode = 3 then s
    else if s.mode = 4 then s.svcEnd.forceNow.toReady
    else s.leaveHold.toReady
  | some 0 => (s.mirrorLog.setMode 0).warmClear
  | some 6 => s.warmClear.enterBoot
  | _ => s

end Sys2Proof.Machine
end

