-- ==== Sys2Proof/Machine/HkRows.lean ====
section
/-! DEFINITION. HkRows: the rows of the housekeeping die but for its calibration (16_housekeeping_analog.md), and CLR_N
(07_drive_outputs.md R220 to R222). h is the housekeeping cycle in which a row happens. -/
namespace Sys2Proof.Machine

/-- STROBE_LOAD (R426): the strobe on wire n arrives. -/
def execStrobeLoad (h : Nat) (n : Fin 8) (s : State) : Host.Outcome State Fault Refusal := .next ((s.hkTo h).strobeLoad n.val)

/-- A window runs through cycles up to the present one with the given inputs, and becomes set in them or not; ph is the synchroniser's phase
wait (R430; 12_hypha_events.md Table 12.2). -/
def State.winEvent (s : State) (w b : Nat) (levels : List (Option Nat)) (ph : Bool) : State :=
  if s.rdB pWinmon (winReg w 0) 31 then
    let r := s.winRun w (s.hk.now + 1 - levels.length) levels
    if r.2 then r.1.winSet w (b + 2 + (if ph then 1 else 0)) else r.1
  else s

/-- WINDOW_BECOMES_SET (R428 to R430): the window sees the given inputs, in units of 2.5 V / 2^24, one per housekeeping
cycle; none for an open input. -/
def execWindowBecomesSet (b h : Nat) (w : Fin 16) (levels : List (Option Nat)) (ph : Bool) (s : State) : Host.Outcome State Fault Refusal :=
  let s1 := (s.at b).hkTo h
  .next (s1.winEvent w.val s1.beat levels ph)

/-- WINMON_RESOLVE (R431): an UNRESOLVED window sees inputs that may resolve it. -/
def execWinmonResolve (b h : Nat) (w : Fin 16) (levels : List (Option Nat)) (ph : Bool) (s : State) : Host.Outcome State Fault Refusal :=
  let s1 := (s.at b).hkTo h
  .next (if s1.rdB pWinmon (winReg w.val 3) 30 then s1.winEvent w.val s1.beat levels ph else s1)

/-- WINMON_ENABLE (R431): a write of WIN[w].CFG. -/
def execWinmonEnable (path : Path) (w : Fin 16) (v : Word) (s : State) : Host.Outcome State Fault Refusal :=
  .next (s.rowWrite path pWinmon (winReg w.val 0) v (fun x t => t.winCfg w.val x))

/-- EXC (R435): a write of a thermometry channel's excitation. -/
def execThermoExc (path : Path) (h : Nat) (c : Fin 16) (v : Word) (s : State) : Host.Outcome State Fault Refusal :=
  .next ((s.hkTo h).rowWrite path pThermo (thReg c.val 0) v (fun x t => t.thExc c.val x))

/-- THERMO_RESULT (R434, R436, R437). -/
def execThermoResult (h : Nat) (c : Fin 16) (m : ThermoMeas) (s : State) : Host.Outcome State Fault Refusal :=
  let s1 := s.hkTo h
  .next (if s1.thReady c.val then s1.thermoResult c.val m else s1)

/-- POLARITY_REVERSAL (R434). -/
def execPolarityReversal (h : Nat) (c : Fin 16) (s : State) : Host.Outcome State Fault Refusal :=
  .next ((s.hkTo h).thReverse c.val)

/-- CONVERSION (R439 to R441): a conversion with unclamped input code x ends, none for an open input. -/
def execHkConversion (h : Nat) (x : Option Int) (s : State) : Host.Outcome State Fault Refusal := .next ((s.hkTo h).conversion x)

/-- A write of HKADC.CMD (R441, Table 16.8). -/
def State.hkadcCmd (s : State) (v : Word) : State := if fld v 31 16 = 0x4843 ∧ bit v 0 then s.injRequest else s

/-- INJ (R441). -/
def execHkInject (path : Path) (h : Nat) (key : BitVec 16) (s : State) : Host.Outcome State Fault Refusal :=
  .next ((s.hkTo h).rowWrite path pHkadc 0x104 (BitVec.ofNat 32 (key.toNat * 65536 + 1)) (fun x t => t.hkadcCmd x))

/-- PERIOD (R445): a period event of TMR[n]. -/
def execTimerPeriod (h : Nat) (n : Fin 4) (s : State) : Host.Outcome State Fault Refusal := .next ((s.hkTo h).timerPeriod n.val)

/-- CLR_N falls at ball beat b and stays low for 4 beats: the drive outputs are forced from b + 24 (R220, R40), every bias
channel becomes CLEARED (R222). -/
def State.clrAssert (s : State) (b : Nat) : State :=
  if s.pins.clr then s
  else
    let s1 := { s with pins := { s.pins with clr := true, clrFrom := b + 24 } }
    outPages.foldl (fun a p => a.flag p 1) s1.biasClearAll

/-- The beat of an edge that a filter of 4 beats reports at beat b: an edge lies at most 24 beats back (R40, R220). -/
def State.edgeAt (s : State) (b : Nat) : Nat := min s.beat (max b (s.beat - 24))

/-- CLR_N_ASSERT (R220). -/
def execClrNAssert (b : Nat) (s : State) : Host.Outcome State Fault Refusal :=
  let s1 := s.at b
  .next (s1.clrAssert (s1.edgeAt b))

/-- CLR_N rises at ball beat b and stays high for 4 beats: forcing ends before b + 24; the forced beats are counted as they pass
(State.passBeats; R220). -/
def State.clrRelease (s : State) (b : Nat) : State :=
  if s.pins.clr then { s with pins := { s.pins with clr := false, spans := (s.pins.clrFrom, b + 23) :: s.pins.spans } } else s

/-- CLR_N_RELEASE (R220). -/
def execClrNRelease (b : Nat) (s : State) : Host.Outcome State Fault Refusal :=
  let s1 := s.at b
  .next (s1.clrRelease (s1.edgeAt b))

end Sys2Proof.Machine
end

