-- ==== Sys2Proof/Machine/HyphaRows.lean ====
section
/-! DEFINITION. HyphaRows: the rows of the event matrix and the load strobes (12_hypha_events.md R329, R334; 07_drive_outputs.md
R216, R217). -/
namespace Sys2Proof.Machine

/-- SWPULSE (R329): a write of HCHAN[p].SWPULSE[j]. -/
def execSwpulse (path : Path) (p : Fin 16) (j : Fin 2) (v : Word) (s : State) : Host.Outcome State Fault Refusal :=
  .next (s.rowWrite path (pHchan p.val) (0x110 + 4 * j.val) v (fun x t => t.swPulse p.val j.val x))

/-- CHANNEL_EVENT (R334). -/
def execChannelEvent (b : Nat) (c : Fin 1024) (s : State) : Host.Outcome State Fault Refusal :=
  let s1 := s.at b
  .next (s1.channelEvent b c.val)

/-- STB_SW (R216, Table 7.15): the strobes fire 4 beats after the write reaches the beat domain, which it does after 4 beats
(Table 1.4). -/
def State.stbSw (s : State) (v : Word) : State := (maskList 8 v.toNat).foldl (fun a n => a.strobe n (s.beat + 8)) s

/-- STB_SW (R216). -/
def execStbSw (path : Path) (v : BitVec 8) (s : State) : Host.Outcome State Fault Refusal :=
  .next (s.rowWrite path pHk 0x120 (v.setWidth 32) (fun x t => t.stbSw x))

/-- LDAC_N (R216, R217): a synchronised falling edge on LDAC_N[k] is detected in beat b. -/
def execLdacN (b : Nat) (k : Fin 4) (s : State) : Host.Outcome State Fault Refusal :=
  let s1 := s.at b
  .next ((s1.strobesOf 1 k.val).foldl (fun a n => a.strobe n s1.beat) s1)

end Sys2Proof.Machine
end

