-- ==== Sys2Proof/Machine/Bus.lean ====
section
/-! DEFINITION. Bus: the accesses of BAR0 (03_register_pages.md R76 to R100): their form, the interconnect's decision, what each
register returns, and what a write of it does. -/
namespace Sys2Proof.Machine

/-! What a register reads as. -/

/-- A front-end change of a frond is pending (08_readout_front_end.md R237, R251). -/
def State.fePending (s : State) (f : Nat) : Bool := (s.fe f).pendingAt s.beat && !s.feBusy f

/-- The read-out tones of a frond with a window that is integrating: the current ball beat holds samples of it
(09_readout_kernels.md Table 9.8). -/
def State.openWins (s : State) (f : Nat) : Nat :=
  (s.fe f).wins.foldl (fun m w => if decide (w.ks / 24 ≤ s.beat) && decide (24 * s.beat < w.ks + 48 * w.len) then mset m w.tone else m) 0

/-- RING[r].STAT: both levels at all times, and the bytes in staging (06_waveform_store.md R193, Table 6.16). -/
def State.ringStat (s : State) (f r : Nat) : Word :=
  let fill := s.ringFill f r
  let w := setBit (s.rd (pWaveform f) (ringReg r 7)) 30 (decide (fill ≤ s.rdF (pWaveform f) (ringReg r 4) 15 0 * 16384))
  setFld (setBit w 29 (decide (s.rdF (pWaveform f) (ringReg r 4) 31 16 * 16384 ≤ fill))) 18 0 (s.stageFill f r s.beat)

/-- The block bits of STATUS that follow from the state at the current beat (05_crozier_sequencer.md Table 5.18;
06_waveform_store.md Table 6.10; 08_readout_front_end.md Table 8.11; 09_readout_kernels.md Table 9.8; 15_calibration.md R423; 10_sorus_feedback.md Table 10.11; 18_tufts_and_security.md Table 18.14). -/
def State.statusNow (s : State) (p : Pg) : Word :=
  let w := s.status p
  match p.kind with
  | .crozier => setBit w 21 (s.issueShot p.i).isSome
  | .waveform => setBit w 24 (s.rdB p 0x100 0)
  | .kernel => setFld w 31 16 (s.openWins p.i)
  | .readout =>
    let x := s.fe p.i
    setFld (setFld (setBit (setBit w 25 ((List.range 16).any (fun t => x.toneWaits t s.beat))) 23 (s.fePending p.i)) 22 20 (x.inputAt s.beat)) 17 16 (x.rangeAt s.beat)
  | .calf => setBit w 30 ((Tab.get [] s.cal.slots p.i).any (fun z => decide (z.b ≤ s.beat) && decide (s.beat ≤ z.e)))
  | .sorus => setBit w 16 (s.sorus.mm.any (fun e => decide (16 ≤ e.2.2) && decide (s.beat ≤ e.2.1 + 1)))
  | .debug => setBit w 16 s.unlocked
  | _ => w

/-- The phase of a calibration run in progress (08_readout_front_end.md Table 8.15; 15_calibration.md Table 15.8). -/
def State.calPhase (s : State) (f : Nat) (adc : Bool) : Nat :=
  match s.run? f with
  | some r => if r.adc = adc then phaseAt (if adc then adcPhases else dacPhases) (s.beat - r.start) else 0
  | none => 0

/-- FE_STAT: whether a change is pending, and the setting requested for the current ball beat (08_readout_front_end.md R237, Table 8.14). -/
def State.feStat (s : State) (f : Nat) : Word :=
  let q := (s.fe f).reqAt s.beat
  BitVec.ofNat 32 ((if s.fePending f then 2 ^ 31 else 0) + q.2 * 2 ^ 24 + q.1 * 2 ^ 16)

/-- A word of a 64-bit value. -/
def half64 (v off lo : Nat) : Word := BitVec.ofNat 32 (if off = lo then v else v / 2 ^ 32)

/-- The next received word of the mailbox, without taking it (14_serial_links.md R382). -/
def State.mboxNext (s : State) : Nat := match s.link.inbox with | (_, w) :: _ => w.toNat | [] => 0

/-- What a register of a powered page returns, without side effect: the stored value, with the fields that follow from the rest of
the state in their place; write-only bits read 0 (00_scope.md Table 0.4). -/
def State.regVal (s : State) (path : Path) (p : Pg) (off : Nat) : Word :=
  let w := s.rd p off &&& ~~~(BitVec.ofNat 32 (regRow p off).wo)
  if off = 0x10 then s.statusNow p
  else if off = 0x1C then s.rd p 0x14
  else match p.kind with
    | .timeline => if off = 0x100 ∨ off = 0x104 then half64 s.beat off 0x100 else w
    | .boot => if 0x10C ≤ off ∧ off < 0x11C then Tab.get 0 s.boot.log (4 * s.rdF p 0x108 5 0 + (off - 0x10C) / 4) else w
    | .violog => if 0x108 ≤ off ∧ off < 0x118 then Tab.get 0 s.violog (4 * s.rdF p 0x104 7 0 + (off - 0x108) / 4) else w
    | .cgrp => if off = 0x104 then setFld w 2 0 (s.grpSt p.i) else w
    | .queue =>
      let x := s.queue p.i
      if off = 0x100 then (if s.rdB p 0x110 8 ∨ x.rd = x.vis then 0 else x.headWord)
      else if off = 0x104 ∨ off = 0x108 then half64 (Tab.get 0 x.latch path.code).toNat off 0x104 else w
    | .slot =>
      if off = 0x138 then
        let f := s.rdF p 0x134 4 0
        if s.frondOwner f = s.owner p then s.rd pSorus (0x200 + 4 * f) else 0
      else w
    | .ndeor => if off = 0x14C ∨ off = 0x150 then half64 s.mboxNext off 0x14C else w
    | .debug => if off = 0x124 ∧ s.lcState ≠ 2 then 7 else w
    | .calf => if off = 0x108 then setFld w 18 16 (s.calPhase p.i false) else w
    | .readout =>
      if off = 0x104 then s.feStat p.i else if off = 0x11C then setFld w 18 16 (s.calPhase p.i true)
      else if off = 0x130 then s.dfirCoef p.i else w
    | .waveform => if 0x200 ≤ off ∧ off < 0x300 ∧ off % 0x20 = 0x1C then s.ringStat p.i ((off - 0x200) / 0x20) else w
    | .kernel => if off = 0x118 ∨ off = 0x11C then half64 (s.wmemRead p.i).toNat off 0x118 else w
    | _ => w

/-- The pending value of RW-C fields in the shadow view; every other field as the active address returns it (R93). -/
def State.viewVal (s : State) (path : Path) (p : Pg) (off : Nat) : Word :=
  match Tab.find? s.shadow (p.reg off) with
  | some v => mergeRwc (p.reg off) (s.regVal path p off) v
  | none => s.regVal path p off

/-- Registers an unpowered page still returns (R84). -/
def heldOff (off : Nat) : Bool := off == 0 || off == 4 || off == 8 || off == 0x10

/-- A read of a dword of the active view, admitted (R95, R96): a LO word latches its HI word; HEAD and MBOX_RX_LO take what they
return. -/
def State.activeRead (s : State) (path : Path) (p : Pg) (off : Nat) : State :=
  if p.kind = .queue ∧ off = 0x100 then s.headRead p.i path
  else if p.kind = .ndeor ∧ off = 0x14C then s.mboxRead path
  else
    let s1 := if p.kind = .nlane then s.laneLive p.i off else s
    match (regRow p off).pair with
    | 1 => s1.answerPair path (p.reg off) (s1.regVal path p off) (s1.regVal path p (off + 4))
    | 2 => s1.answer path [Tab.get 0 s1.hiLatch (latchKey path (p.reg off - 4))]
    | _ => s1.answer path [s1.regVal path p off]

/-- A read of a dword of the shadow view, admitted: no side effect but the shadow latch of a pair (R93, R94, R96). -/
def State.shadowRead (s : State) (path : Path) (p : Pg) (off : Nat) : State :=
  match (regRow p off).pair with
  | 1 => s.answerPair path (p.reg off + 2 ^ 25) (s.viewVal path p off) (s.viewVal path p (off + 4))
  | 2 => s.answer path [Tab.get 0 s.hiLatch (latchKey path (p.reg off - 4 + 2 ^ 25))]
  | _ => s.answer path [s.viewVal path p off]

/-- An offset of a page that is unmapped (R79, R93). -/
def unmappedOff (off : Nat) : Bool := decide (0x30 ≤ off % 0x800) && decide (off % 0x800 < 0x40)

/-- The page and offset an address reaches; none where it is unmapped (R79). -/
def place (a : Nat) : Option (Pg × Nat) :=
  if unmappedOff (a % 0x1000) then none
  else match pageOf a with
    | some p => some (p, a % 0x1000)
    | none => none

/-- The QUEUE page at which an access waits its turn: one that the interconnect admits waits behind a HEAD read that waits at its own
page, other than skip, or behind an earlier write of its requester; one that it refuses is answered at once (R78, R90, R92;
11_acquisition_queues.md R318). -/
def State.heldQueue (s : State) (skip : Option Nat) (path : Path) (a : Nat) (write : Bool) : Option Nat :=
  match place a with
  | some (p, _) =>
    if s.grant path p write = .ok then
      match s.heldBy skip path with
      | some q => some q
      | none =>
        if p.kind = .queue ∧ some p.i ≠ skip ∧ !((s.queue p.i).waits.isEmpty && (s.queue p.i).behind.isEmpty) then some p.i else none
    else none
  | none => none

/-- A read of one dword at an address, in its turn (R79, R84, R90, R93). -/
def State.readNow (s : State) (path : Path) (a : Nat) : State :=
  match place a with
  | none => (s.unmapped path a false).answer path [0]
  | some (p, off) =>
    match s.grant path p false with
    | .foreign => (s.violate path 1 0 a false).answer path [0]
    | .noTuft => (s.violate path 2 0 a false).answer path [0]
    | _ =>
      if !s.powered p && !heldOff (off % 0x800) then s.answer path [0]
      else if off < 0x800 then s.activeRead path p off
      else s.shadowRead path p (off - 0x800)

/-- A read of one dword at an address; skip: the QUEUE page whose accesses take their turns. -/
def State.readDword (s : State) (path : Path) (a : Nat) (skip : Option Nat := none) : State :=
  match s.heldQueue skip path a false with
  | some q => s.putBehind q (path, a, none)
  | none => s.readNow path a

/-! What a write does. -/

/-- What a plain write of a register brings about beside its new value: the clock's increment without the servo
(13_time_and_cluster.md R347), alarms set in the past (R349), and the route of a flux monitor (15_calibration.md R420). -/
def State.afterWrite (s : State) (p : Pg) (off : Nat) : State :=
  match p.kind with
  | .clock =>
    if off = 0x128 ∧ !s.rdB pServo 0x100 0 then s.wr64 pClock 0x12C (s.rd64 pClock 0x124)
    else if 0x154 ≤ off ∧ off ≤ 0x168 then s.alarmLate else s
  | .calf => if off = 0x104 then s.routeSet p.i else s
  | _ => s

/-- RW, W1C and W1S bits of a register take a write (00_scope.md Table 0.4, R11). -/
def plainBits (r : RegRow) (old v : Word) : Word :=
  let rw := BitVec.ofNat 32 r.rw
  (((old &&& ~~~rw) ||| (v &&& rw)) &&& ~~~(v &&& BitVec.ofNat 32 r.w1c)) ||| (v &&& BitVec.ofNat 32 r.w1s)

/-- The bits of a register that are not RW-C take a write at once (R78, R107). -/
def State.plainWrite (s : State) (p : Pg) (off : Nat) (v : Word) : State :=
  let r := regRow p off
  if r.rw = 0 ∧ r.w1c = 0 ∧ r.w1s = 0 then s else (s.wr p off (plainBits r (s.rd p off) v)).afterWrite p off

/-- A write of CTRL (Table 3.9): its RW fields, and CNT_CLR, which also restarts QSTAT.HWM and TMAX (05_crozier_sequencer.md
Table 5.25, 17_thermal_and_counters.md Table 17.4) and clears REGBUS.UNMAPPED_CNT (Table 3.19). -/
def State.ctrlWrite (s : State) (p : Pg) (v : Word) : State :=
  let s1 := s.plainWrite p 0x0C v
  if bit v 0 then
    let s2 := s1.cntClr p
    match p.kind with
    | .crozier => s2.wrF p 0x114 25 16 (s2.rdF p 0x114 9 0)
    | .therm => s2.wrF p 0x104 15 0 0x8000
    | .regbus => s2.wr p 0x100 0
    | _ => s2
  else s1

/-- A write of CNT[p].CMD (R467, R469), which reaches the beat domain in beat b. -/
def State.cntCmd (s : State) (p : Nat) (v : Word) (b : Nat) : State :=
  if fld v 31 16 ≠ 0x434E then s.recErr (pCnt p) 1 0x100
  else if bit v 0 then (s.at (b + 1)).snapCounters p else s

/-- A write of a command register or of one whose writes have rules of their own; none for every other register. STB_SRC names the
event channels that a strobe consumes, and takes their taps at once (12_hypha_events.md R336; log entry 37). -/
def State.special (s : State) (path : Path) (p : Pg) (off : Nat) (v : Word) : Option State :=
  match p.kind with
  | .mode => if off = 0x104 then some (s.modeReq v) else if off = 0x110 then some (s.modeReset v) else none
  | .boot => if off = 0x120 then some (s.logCtrl v) else none
  | .power => if off = 0x104 then some (s.domGate v) else none
  | .sec => if off = 0x104 then some (s.lcCmd v) else none
  | .cgrp => if off = 0x100 then some (s.grpCmd path p.i v) else none
  | .clock => if off = 0x100 then some (s.clockCmd v) else none
  | .ptp =>
    if off = 0x100 then some (s.ptpCfg p.i (v &&& 0xBF8300FF))
    else if off = 0x104 ∨ off = 0x108 then some (s.ptpDataset p.i off v)
    else none
  | .servo => if off = 0x100 then some (s.servoCtrl v) else none
  | .csync => if off = 0x108 then some (s.csCmd v) else none
  | .hchan => if off = 0x110 then some (s.swPulse p.i 0 v) else if off = 0x114 then some (s.swPulse p.i 1 v) else none
  | .queue =>
    if off = 0x10C then some (s.qCmd p.i v) else if off = 0x114 then some (s.tmoWrite p.i v) else if off = 0x13C then some (s.hostRdWrite p 0x138 0x13C v) else none
  | .acq =>
    if off = 0x12C then some (if bit v 0 then s.swTrig p.i else s)
    else if off = 0x158 then some (s.hostRdWrite p 0x154 0x158 v) else none
  | .ndeor => if 0x104 ≤ off ∧ off < 0x114 then some (s.portCtrl ((off - 0x104) / 4) v) else none
  | .nlane => if off = 0x100 then some (s.laneCtrl p.i v) else if off = 0x104 then some (s.laneInj p.i v) else none
  | .debug => if off = 0x118 then some (s.debugCmd path v) else none
  | .fusebank => if off = 0x100 then some (s.fuseCmd v) else none
  | .calf => if off = 0x100 then some (s.calfCmd p.i v) else none
  | .diode => if off = 0x1A0 then some (s.diodeCmd v) else none
  | .cnt => if off = 0x100 then some (s.cntCmd p.i v s.beat) else none
  | .hk =>
    if 0x100 ≤ off ∧ off < 0x120 then some (s.plainWrite p off v).retap
    else if off = 0x120 then some (s.stbSw (v &&& 0xFF)) else if off = 0x124 then some (s.hkCalCmd v) else none
  | .thermo =>
    if 0x104 ≤ off ∧ off < 0x134 then some (s.plainWrite p off v).amonOff
    else if 0x180 ≤ off ∧ (off - 0x180) % 0x60 = 0 ∧ off < 0x780 then some (s.thExc ((off - 0x180) / 0x60) v) else none
  | .winmon =>
    if off = 0x100 then some ((List.range 16).foldl (fun t w => if bit v w then t.winClear w else t) s)
    else if 0x200 ≤ off ∧ off % 0x10 = 0 ∧ off < 0x300 then some (s.winCfg ((off - 0x200) / 0x10) v) else none
  | .hkadc => if off = 0x100 then some (s.plainWrite p off v).adcStart else if off = 0x104 then some (s.hkadcCmd v) else none
  | .crozier => if off = 0x104 then some (s.cmdHalt p.i v) else none
  | .waveform => if 0x200 ≤ off ∧ off < 0x300 ∧ off % 0x20 = 0x14 then some (s.ringWrite p.i ((off - 0x200) / 0x20) v) else none
  | .readout => if off = 0x118 then some (s.adcCmd path p.i v) else none
  | _ => none

/-- A commit-point register of a group that is neither IDLE nor OPEN refuses writes (04_commit_groups.md R104). -/
def State.pointBusy (s : State) (p : Pg) (off : Nat) : Bool :=
  p.kind == .cgrp && isPointReg off && decide (2 ≤ s.rdF p 0x104 2 0)

/-- The HI word of a writable pair is written: HI and the staged LO act in one cycle; without a staged LO the current one is kept
(R97). -/
def State.pairWrite (s0 : State) (path : Path) (p : Pg) (off : Nat) (v : Word) : State :=
  let k := latchKey path (p.reg off - 4)
  let lo := Tab.get none s0.loStage k
  let s := { s0 with loStage := Tab.set none s0.loStage k none }
  let r := regRow p off
  if r.rwc ≠ 0 then
    match lo, s.attached path with
    | some w, some _ => (s.rwcWrite path p (off - 4) w).rwcWrite path p off v
    | _, _ => s.rwcWrite path p off v
  else if p.kind = .ndeor then
    let w := lo.getD (s.rd p (off - 4))
    (s.wr p (off - 4) w).mboxTx (BitVec.ofNat 64 (v.toNat * 2 ^ 32 + w.toNat))
  else
    let s1 := match lo with
      | some w => s.wr p (off - 4) (plainBits (regRow p (off - 4)) (s.rd p (off - 4)) w)
      | none => s
    s1.plainWrite p off v

/-- A write of one dword to a register of the active view, admitted (00_scope.md R10 to R13; R78, R83, R97, R99, R106, R107). The
commit-point registers of CGRP[63] take a write in IDLE as every group's do; the engine sets them again when it serves the group
(R104, R128; DESIGN CHOICE, log entry 44). -/
def State.regWrite (s : State) (path : Path) (p : Pg) (off : Nat) (v : Word) : State :=
  let r := regRow p off
  if off = 0x0C then s.ctrlWrite p v
  else if off = 0x14 then s.flagsClear p (v &&& BitVec.ofNat 32 p.kind.flagMask)
  else if off = 0x18 then s.flagsEn p v
  else if off = 0x1C then s.flagsSet p v
  else if s.pointBusy p off then s.recErr p 0x25 off
  else if r.pair = 1 ∧ (r.rw ≠ 0 ∨ r.rwc ≠ 0 ∨ r.wo ≠ 0) then
    { s with loStage := Tab.set none s.loStage (latchKey path (p.reg off)) (some v) }
  else if r.pair = 2 ∧ (r.rw ≠ 0 ∨ r.rwc ≠ 0 ∨ r.wo ≠ 0) then s.pairWrite path p off v
  else match s.special path p off v with
    | some t => t
    | none => (if r.rwc ≠ 0 then s.rwcWrite path p off v else s).plainWrite p off v

/-- A write of one dword at an address, in its turn (R79, R90, R94). -/
def State.writeNow (s : State) (path : Path) (a : Nat) (v : Word) : State :=
  match place a with
  | none => s.unmapped path a true
  | some (p, off) =>
    s.withWrite path p off (fun t => if off < 0x800 then t.regWrite path p off v else t.recErr p 0x85 off)

/-- A write of one dword at an address; skip: the QUEUE page whose accesses take their turns. -/
def State.writeDword (s : State) (path : Path) (a : Nat) (v : Word) (skip : Option Nat := none) : State :=
  match s.heldQueue skip path a true with
  | some q => s.putBehind q (path, a, some v)
  | none => s.writeNow path a v

/-- The accesses behind a HEAD read that waits no longer take their turns, until one of them is a HEAD read that waits. -/
def State.takeTurns (q : Nat) : Nat → State → State
  | 0, s => s
  | n + 1, s =>
    match (s.queue q).waits, (s.queue q).behind with
    | [], (path, a, v) :: t =>
      let s1 := s.setQ q { s.queue q with behind := t }
      State.takeTurns q n (match v with | none => s1.readDword path a (some q) | some w => s1.writeDword path a w (some q))
    | _, _ => s

/-- The accesses of every QUEUE page that wait for their turn. -/
def State.turns (s : State) : State :=
  s.queues.foldl (fun a (e : Nat × Queue) => State.takeTurns e.1 e.2.behind.length a) s

/-- An access to a register of queue q that the page's earlier accesses let through at once, or that waits behind them. -/
def State.inTurn (s : State) (path : Path) (q off : Nat) (v : Option Word) (k : State → State) : State :=
  match (if s.pathLive path then s.heldQueue none path ((pQueue q).reg off) v.isSome else none) with
  | some n => s.putBehind n (path, (pQueue q).reg off, v)
  | none => k s

/-! Accesses. -/

/-- The form of an access that R77 allows: one or two aligned dwords, all byte enables set. -/
def accessOk (a n : Nat) (be : Bool) : Bool := be && ((n == 1 && a % 4 == 0) || (n == 2 && a % 8 == 0))

/-- An access that breaks R77 is recorded in its page, where its requester may reach it. -/
def State.badAccess (s : State) (path : Path) (a : Nat) (write : Bool) : State :=
  match place a with
  | none => s.unmapped path a write
  | some (p, off) =>
    if write then s.withWrite path p off (fun t => t.recErr p 0x82 off)
    else match s.grant path p false with
      | .foreign => s.violate path 1 0 a false
      | .noTuft => s.violate path 2 0 a false
      | _ => s.recErr p 0x82 off

/-- A write access: its dwords at ascending addresses; one that breaks R77 is dropped whole. -/
def State.busWrite (s : State) (path : Path) (a : Nat) (l : List Word) (be : Bool) : State :=
  if !s.pathLive path then s
  else if accessOk a l.length be then
    match l with
    | [v] => s.writeDword path a v
    | [v, w] => (s.writeDword path a v).writeDword path (a + 4) w
    | _ => s
  else s.badAccess path a true

/-- A read access of n dwords, answered dword by dword; one that breaks R77 returns 0 in every dword. -/
def State.busRead (s : State) (path : Path) (a n : Nat) (be : Bool) : State :=
  if !s.pathLive path then s
  else if accessOk a n be then
    (if n = 1 then s.readDword path a else (s.readDword path a).readDword path (a + 4))
  else (s.badAccess path a false).answer path (List.replicate n 0)

/-- The SMBus answers a register read with a status and the dword, low byte first: 1 for an access that reaches no register or
breaks R77 (14_serial_links.md Table 14.9; DEDUCED, log entry 21). In DORMANT only WAKE and MODE are answered (R394). -/
def State.smbusRead (s : State) (a : Nat) : State :=
  if s.mode = 0 then s.emit (.smbus none)
  else
    let s1 := s.busRead .smbus a 1 true
    match (if a % 4 ≠ 0 ∨ (place a).isNone then s1.outbox else []) with
    | .smbus (some (_ :: l)) :: rest => { s1 with outbox := .smbus (some (1 :: l)) :: rest }
    | _ => s1

/-- A register write over SMBus (R394). -/
def State.smbusWrite (s : State) (a : Nat) (v : Word) : State :=
  if s.mode = 0 then s.emit (.smbus none) else s.busWrite .smbus a [v] true

/-- A JTAG debug instruction that accesses a register (14_serial_links.md R395; 18_tufts_and_security.md R488, Table 18.8): it acts
while debug is unlocked with register access in its scope, and is BYPASS otherwise. -/
def State.jtag (s : State) (a : Nat) (v : Option Word) : State :=
  if s.pathLive .jtag then
    match v with
    | some w => s.busWrite .jtag a [w] true
    | none => s.busRead .jtag a 1 true
  else s.emit .bypass

end Sys2Proof.Machine
end

