-- ==== Sys2Proof/Machine/BusRows.lean ====
section
/-! DEFINITION. BusRows: the rows of the register accesses (03_register_pages.md R76 to R99, 04_commit_groups.md R106, R107;
14_serial_links.md R394, R395). -/
namespace Sys2Proof.Machine

/-- REGISTER_WRITE (R76 to R78, R90): a write access of dwords; be: all byte enables are set. -/
def execRegisterWrite (path : Path) (a : BitVec 25) (v : List Word) (be : Bool) (s : State) : Host.Outcome State Fault Refusal :=
  .next (s.busWrite path a.toNat v be)

/-- LO_READ (R77, R96): a read access of dw dwords. -/
def execLoRead (path : Path) (a : BitVec 25) (dw : Nat) (be : Bool) (s : State) : Host.Outcome State Fault Refusal :=
  .next (s.busRead path a.toNat dw be)

/-- LO_WRITE (R97): a write of the LO word of a pair. -/
def execLoWrite (path : Path) (a : BitVec 25) (v : Word) (s : State) : Host.Outcome State Fault Refusal :=
  .next (s.busWrite path a.toNat [v] true)

/-- HI_WRITE (R97): a write of the HI word of a pair. -/
def execHiWrite (path : Path) (a : BitVec 25) (v : Word) (s : State) : Host.Outcome State Fault Refusal :=
  .next (s.busWrite path a.toNat [v] true)

/-- FLAGS_CLEAR (R99): a write of FLAGS. -/
def execFlagsClear (path : Path) (a : BitVec 25) (v : Word) (s : State) : Host.Outcome State Fault Refusal :=
  .next (s.busWrite path a.toNat [v] true)

/-- FLAGS_SET (R99): a write of FLAGS_SET. -/
def execFlagsSet (path : Path) (a : BitVec 25) (v : Word) (s : State) : Host.Outcome State Fault Refusal :=
  .next (s.busWrite path a.toNat [v] true)

/-- FLAGS_EN_WRITE (R99): a write of FLAGS_EN. -/
def execFlagsEnWrite (path : Path) (a : BitVec 25) (v : Word) (s : State) : Host.Outcome State Fault Refusal :=
  .next (s.busWrite path a.toNat [v] true)

/-- CNT_CLR (R83, Table 3.9): a write of CTRL with CNT_CLR beside the RW fields it holds. -/
def execCntClr (path : Path) (a : BitVec 25) (s : State) : Host.Outcome State Fault Refusal :=
  .next (s.busWrite path a.toNat [s.rdA a.toNat ||| 1] true)

/-- SHADOW_WRITE (R106, R107): a write of a register that holds RW-C fields. -/
def execShadowWrite (path : Path) (a : BitVec 25) (v : Word) (s : State) : Host.Outcome State Fault Refusal :=
  .next (s.busWrite path a.toNat [v] true)

/-- REG_READ (R394): SMBus reads a BAR0 dword. -/
def execSmbusRegRead (a : BitVec 32) (s : State) : Host.Outcome State Fault Refusal :=
  .next (s.smbusRead a.toNat)

/-- REG_WRITE (R394): SMBus writes a BAR0 dword. -/
def execSmbusRegWrite (a : BitVec 32) (v : Word) (s : State) : Host.Outcome State Fault Refusal :=
  .next (s.smbusWrite a.toNat v)

/-- JTAG_DEBUG (R395): a debug instruction that reads a dword, or writes v. -/
def execJtagDebug (a : BitVec 32) (v : Option Word) (s : State) : Host.Outcome State Fault Refusal :=
  .next (s.jtag a.toNat v)

end Sys2Proof.Machine
end

