-- ==== Sys2Proof/Machine/CalRows.lean ====
section
/-! DEFINITION. CalRows: the rows of calibration (15_calibration.md; 08_readout_front_end.md R251, R252;
16_housekeeping_analog.md R444). -/
namespace Sys2Proof.Machine

/-- A command word: a key in its upper half, and command bits. -/
def keyed (key : BitVec 16) (bits : Nat) : Word := BitVec.ofNat 32 (key.toNat * 65536 + bits)

/-- SELFCAL (R251). -/
def execSelfcal (path : Path) (f : Fin 32) (key : BitVec 16) (s : State) : Host.Outcome State Fault Refusal :=
  .next (s.rowWrite path (pReadout f.val) 0x118 (keyed key 1) (fun x t => t.adcCmd path f.val x))

/-- SELFCAL_DONE (R252): the ADC part of a run ends with pairs of estimates. -/
def execSelfcalDone (e : FrondEv) (pairs : List CalPair) (s : State) : Host.Outcome State Fault Refusal :=
  .next ((s.at e.b).adcDone e.f.val pairs)

/-- FULL (R405). -/
def execCalFull (path : Path) (f : Fin 32) (key : BitVec 16) (s : State) : Host.Outcome State Fault Refusal :=
  .next (s.rowWrite path (pCalf f.val) 0x100 (keyed key 1) (fun x t => t.calfCmd f.val x))

/-- DACCAL (R405). -/
def execCalDac (path : Path) (f : Fin 32) (key : BitVec 16) (s : State) : Host.Outcome State Fault Refusal :=
  .next (s.rowWrite path (pCalf f.val) 0x100 (keyed key 2) (fun x t => t.calfCmd f.val x))

/-- DAC_CAL_DONE (R406). -/
def execDacCalDone (e : FrondEv) (pairs : List CalPair) (s : State) : Host.Outcome State Fault Refusal :=
  .next ((s.at e.b).dacDone e.f.val pairs)

/-- ESTIMATE_DONE (R407 to R409). -/
def execEstimateDone (e : FrondEv) (ests : List CalEst) (weak : Bool) (s : State) : Host.Outcome State Fault Refusal :=
  .next ((s.at e.b).estimates e.f.val ests weak)

/-- QUIET_SLOT_DECISION (R411): for a declared or a found slot. -/
def execQuietSlotDecision (e : FrondEv) (found : Bool) (s : State) : Host.Outcome State Fault Refusal :=
  .next ((s.at e.b).slotDecision e.f.val found)

/-- DUE (R413). -/
def execCalDue (e : FrondEv) (s : State) : Host.Outcome State Fault Refusal := .next ((s.at e.b).dueNow e.f.val)

/-- OVERDUE (R413). -/
def execCalOverdue (e : FrondEv) (s : State) : Host.Outcome State Fault Refusal := .next ((s.at e.b).overdue e.f.val)

/-- GROUP63_ROUND (R414). -/
def execGroup63Round (b : Nat) (s : State) : Host.Outcome State Fault Refusal := .next (s.at b).round63

/-- TRIM_TAKE_EFFECT (R415). -/
def execTrimTakeEffect (e : FrondEv) (u : Fin 12) (s : State) : Host.Outcome State Fault Refusal :=
  .next ((s.at e.b).trimEffect e.f.val u.val)

/-- BURN (R402). -/
def execFuseBurn (path : Path) (key : BitVec 16) (s : State) : Host.Outcome State Fault Refusal :=
  .next (s.rowWrite path pFusebank 0x100 (keyed key 1) (fun x t => t.fuseCmd x))

/-- BURN_DONE (R402): ok: the read-back is valid. -/
def execFuseBurnDone (ok : Bool) (s : State) : Host.Outcome State Fault Refusal := .next (s.burnDone ok)

/-- REVOKE (R403). -/
def execFuseRevoke (path : Path) (key : BitVec 16) (g : Fin 8) (s : State) : Host.Outcome State Fault Refusal :=
  .next (s.rowWrite path pFusebank 0x100 (keyed key (256 * g.val + 2)) (fun x t => t.fuseCmd x))

/-- REVOKE_DONE (R403). -/
def execFuseRevokeDone (s : State) : Host.Outcome State Fault Refusal := .next s.revokeDone

/-- HK_CAL_ADC (R444). -/
def execHkCalAdc (path : Path) (h : Nat) (key : BitVec 16) (s : State) : Host.Outcome State Fault Refusal :=
  .next ((s.hkTo h).rowWrite path pHk 0x124 (keyed key 1) (fun x t => t.hkCalCmd x))

/-- HK_CAL_BIAS (R444). -/
def execHkCalBias (path : Path) (h : Nat) (key : BitVec 16) (s : State) : Host.Outcome State Fault Refusal :=
  .next ((s.hkTo h).rowWrite path pHk 0x124 (keyed key 2) (fun x t => t.hkCalCmd x))

/-- HK_CAL_THERMO (R444). -/
def execHkCalThermo (path : Path) (h : Nat) (key : BitVec 16) (s : State) : Host.Outcome State Fault Refusal :=
  .next ((s.hkTo h).rowWrite path pHk 0x124 (keyed key 4) (fun x t => t.hkCalCmd x))

/-- HK_CAL_DONE (R444). -/
def execHkCalDone (b h : Nat) (pairs : List CalPair) (s : State) : Host.Outcome State Fault Refusal :=
  .next (((s.at b).hkTo h).hkCalDone pairs)

end Sys2Proof.Machine
end

