-- ==== Sys2Proof/Machine/ClockRows.lean ====
section
/-! DEFINITION. ClockRows: the rows of the PTP clock (13_time_and_cluster.md R346 to R351, R359). m is the MAC cycle of the
Ethernet domain in which the row happens. -/
namespace Sys2Proof.Machine

/-- SET (R347). -/
def execClockSet (path : Path) (m : Nat) (key : BitVec 16) (s : State) : Host.Outcome State Fault Refusal :=
  .next ((s.macTo m).rowWrite path pClock 0x100 (BitVec.ofNat 32 (key.toNat * 65536 + 2)) (fun x t => t.clockCmd x))

/-- ADJ (R347). -/
def execClockAdj (path : Path) (m : Nat) (key : BitVec 16) (s : State) : Host.Outcome State Fault Refusal :=
  .next ((s.macTo m).rowWrite path pClock 0x100 (BitVec.ofNat 32 (key.toNat * 65536 + 4)) (fun x t => t.clockCmd x))

/-- SNAP (R347). -/
def execClockSnap (path : Path) (m : Nat) (key : BitVec 16) (s : State) : Host.Outcome State Fault Refusal :=
  .next ((s.macTo m).rowWrite path pClock 0x100 (BitVec.ofNat 32 (key.toNat * 65536 + 1)) (fun x t => t.clockCmd x))

/-- ALARM (R349): alarm n in MAC cycle m. -/
def execClockAlarm (m : Nat) (n : Fin 2) (s : State) : Host.Outcome State Fault Refusal := .next ((s.macTo m).alarmFire n.val)

/-- MAPPING_PAIR (R350): beat b, whose low 12 bits are 0, starts ph/64 of a MAC cycle before the start of MAC cycle m. -/
def execMappingPair (b m : Nat) (ph : Fin 64) (s : State) : Host.Outcome State Fault Refusal :=
  .next (((s.at b).macTo m).mapPair ph.val)

end Sys2Proof.Machine
end

