-- ==== Sys2Proof/Machine/CrozierRows.lean ====
section
/-! DEFINITION. CrozierRows: the rows that name an operation of a microword, interrupts and halts (05_crozier_sequencer.md R134 to
R168). -/
namespace Sys2Proof.Machine

/-- An opportunity at the earliest beat from b on at which the costs allow a word (R145). -/
def State.wordAt (s : State) (e : WordEv) : State := s.at (max e.b (s.crz e.f.val).ready)

/-- A running Crozier executes the word at PC where the word holds the named operation; otherwise no such event happens
(log entry 4). -/
def wordRow (e : WordEv) (p : Uw → Bool) (s : State) : Host.Outcome State Fault Refusal :=
  let s1 := s.wordAt e
  .next (if s1.crzState e.f.val = 1 ∧ (s1.crz e.f.val).ready ≤ s1.beat ∧ p (s1.fetch e.f.val) = true
    then s1.word e.f.val e.ecc else s1)

/-- A word with a sequence operation of a given code. -/
def seqRow (e : WordEv) (op : Nat) (s : State) : Host.Outcome State Fault Refusal := wordRow e (fun u => u.op == op) s

/-- A word with an ALU operation of a given code. -/
def aluRow (e : WordEv) (op : Nat) (s : State) : Host.Outcome State Fault Refusal := wordRow e (fun u => u.alu == op) s

/-- A word with a wait mode. -/
def waitRow (e : WordEv) (m : Nat) (s : State) : Host.Outcome State Fault Refusal := wordRow e (fun u => u.wmode == m) s

/-- A paused Crozier in STATE st gets a new opportunity at its word. -/
def resumeRow (e : WordEv) (st : Nat) (s : State) : Host.Outcome State Fault Refusal :=
  let s1 := s.wordAt e
  .next (if s1.crzState e.f.val = st then s1.word e.f.val e.ecc else s1)

/-- A word with SEQ NEXT executes (R144, R145). -/
def execUwNext (e : WordEv) (s : State) : Host.Outcome State Fault Refusal := seqRow e 0 s

/-- A word with SEQ GOTO executes (R144, R145). -/
def execUwGoto (e : WordEv) (s : State) : Host.Outcome State Fault Refusal := seqRow e 1 s

/-- A word with SEQ BRT executes (R144, R145). -/
def execUwBrt (e : WordEv) (s : State) : Host.Outcome State Fault Refusal := seqRow e 2 s

/-- A word with SEQ BRF executes (R144, R145). -/
def execUwBrf (e : WordEv) (s : State) : Host.Outcome State Fault Refusal := seqRow e 3 s

/-- A word with SEQ CALL executes (R144, R145). -/
def execUwCall (e : WordEv) (s : State) : Host.Outcome State Fault Refusal := seqRow e 4 s

/-- A word with SEQ RET executes (R144, R145). -/
def execUwRet (e : WordEv) (s : State) : Host.Outcome State Fault Refusal := seqRow e 5 s

/-- A word with SEQ LOOP executes (R144, R145). -/
def execUwLoop (e : WordEv) (s : State) : Host.Outcome State Fault Refusal := seqRow e 6 s

/-- A word with SEQ DISPATCH executes (R144, R145). -/
def execUwDispatch (e : WordEv) (s : State) : Host.Outcome State Fault Refusal := seqRow e 7 s

/-- A word with SEQ SHOT_BEGIN executes (R144, R145). -/
def execUwShotBegin (e : WordEv) (s : State) : Host.Outcome State Fault Refusal := seqRow e 8 s

/-- A word with SEQ SHOT_END executes (R144, R145). -/
def execUwShotEnd (e : WordEv) (s : State) : Host.Outcome State Fault Refusal := seqRow e 9 s

/-- A word with SEQ SYNC executes (R144, R145). -/
def execUwSync (e : WordEv) (s : State) : Host.Outcome State Fault Refusal := seqRow e 10 s

/-- A word with SEQ HALT executes (R144, R145). -/
def execUwHalt (e : WordEv) (s : State) : Host.Outcome State Fault Refusal := seqRow e 11 s

/-- A word with SEQ WAITEV executes (R144, R145). -/
def execUwWaitev (e : WordEv) (s : State) : Host.Outcome State Fault Refusal := seqRow e 12 s

/-- A word with SEQ IRQ executes (R144, R145). -/
def execUwIrq (e : WordEv) (s : State) : Host.Outcome State Fault Refusal := seqRow e 13 s

/-- A word with ALU MOVI executes (R144, R145). -/
def execAluMovi (e : WordEv) (s : State) : Host.Outcome State Fault Refusal := aluRow e 1 s

/-- A word with ALU ADDI executes (R144, R145). -/
def execAluAddi (e : WordEv) (s : State) : Host.Outcome State Fault Refusal := aluRow e 2 s

/-- A word with ALU SUBI executes (R144, R145). -/
def execAluSubi (e : WordEv) (s : State) : Host.Outcome State Fault Refusal := aluRow e 3 s

/-- A word with ALU MOV executes (R144, R145). -/
def execAluMov (e : WordEv) (s : State) : Host.Outcome State Fault Refusal := aluRow e 4 s

/-- A word with ALU ADD executes (R144, R145). -/
def execAluAdd (e : WordEv) (s : State) : Host.Outcome State Fault Refusal := aluRow e 5 s

/-- A word with ALU SUB executes (R144, R145). -/
def execAluSub (e : WordEv) (s : State) : Host.Outcome State Fault Refusal := aluRow e 6 s

/-- A word with ALU SHL6 executes (R144, R145). -/
def execAluShl6 (e : WordEv) (s : State) : Host.Outcome State Fault Refusal := aluRow e 7 s

/-- A word with ALU LDLC executes (R144, R145). -/
def execAluLdlc (e : WordEv) (s : State) : Host.Outcome State Fault Refusal := aluRow e 8 s

/-- A word with ALU LDLCI executes (R144, R145). -/
def execAluLdlci (e : WordEv) (s : State) : Host.Outcome State Fault Refusal := aluRow e 9 s

/-- A word with ALU RDSLOT executes (R144, R145). -/
def execAluRdslot (e : WordEv) (s : State) : Host.Outcome State Fault Refusal := aluRow e 10 s

/-- A word with ALU RDLC executes (R144, R145). -/
def execAluRdlc (e : WordEv) (s : State) : Host.Outcome State Fault Refusal := aluRow e 11 s

/-- A word with ALU RDSHOT executes (R144, R145). -/
def execAluRdshot (e : WordEv) (s : State) : Host.Outcome State Fault Refusal := aluRow e 12 s

/-- A word with WAIT mode 0 executes (R144, R145). -/
def execWaitAdd (e : WordEv) (s : State) : Host.Outcome State Fault Refusal := waitRow e 0 s

/-- A word with WAIT mode 1 executes (R144, R145). -/
def execWaitParam (e : WordEv) (s : State) : Host.Outcome State Fault Refusal := waitRow e 1 s

/-- A word with WAIT mode 2 executes (R144, R145). -/
def execWaitClamp (e : WordEv) (s : State) : Host.Outcome State Fault Refusal := waitRow e 2 s

/-- A stalled Crozier posts once room returns (R137). -/
def execStallRelease (e : WordEv) (s : State) : Host.Outcome State Fault Refusal := resumeRow e 3 s

/-- A waiting Crozier proceeds in the beat its slot or event resolves (R139, R147). -/
def execWaitResume (e : WordEv) (s : State) : Host.Outcome State Fault Refusal := resumeRow e 4 s

/-- A Crozier held at SHOT_BEGIN resumes when its hold conditions end (R156, R168). -/
def execHoldRelease (e : WordEv) (s : State) : Host.Outcome State Fault Refusal := resumeRow e 2 s

/-- INTERRUPT_ENTRY (R164). -/
def execInterruptEntry (e : FrondEv) (s : State) : Host.Outcome State Fault Refusal :=
  let s1 := s.at (max e.b (s.crz e.f.val).ready)
  .next (if s1.active e.f.val ∧ (s1.faultNow e.f.val (s1.fetch e.f.val)).isNone then
    match s1.irqInput e.f.val with
    | some i => s1.interrupt e.f.val i
    | none => s1
  else s1)

/-- CMD_HALT (R162) by a requester path. -/
def execCmdHalt (path : Path) (e : FrondEv) (key : BitVec 16) (s : State) : Host.Outcome State Fault Refusal :=
  let s1 := s.at e.b
  .next (s1.rowWrite path (pCrozier e.f.val) 0x104 (BitVec.ofNat 32 (key.toNat * 65536 + 1)) (fun x t => t.cmdHalt e.f.val x))

end Sys2Proof.Machine
end

