-- ==== Sys2Proof/Machine/GroupRows.lean ====
section
/-! DEFINITION. GroupRows: the rows of the commit groups and of the decision bus (04_commit_groups.md; 01_architecture.md R19 to
R20, R121). -/
namespace Sys2Proof.Machine

/-- OPEN (R102, R103). -/
def execOpenGroup (path : Path) (g : Fin 64) (key : BitVec 16) (s : State) : Host.Outcome State Fault Refusal :=
  .next (s.rowWrite path (pCgrp g.val) 0x100 (BitVec.ofNat 32 (key.toNat * 65536 + 1)) (fun x t => t.grpCmd path g.val x))

/-- ARM (R103, R111). -/
def execArmGroup (path : Path) (g : Fin 64) (key : BitVec 16) (s : State) : Host.Outcome State Fault Refusal :=
  .next (s.rowWrite path (pCgrp g.val) 0x100 (BitVec.ofNat 32 (key.toNat * 65536 + 2)) (fun x t => t.grpCmd path g.val x))

/-- ABORT (R120). -/
def execAbortGroup (path : Path) (g : Fin 64) (key : BitVec 16) (s : State) : Host.Outcome State Fault Refusal :=
  .next (s.rowWrite path (pCgrp g.val) 0x100 (BitVec.ofNat 32 (key.toNat * 65536 + 3)) (fun x t => t.grpCmd path g.val x))

/-- VALIDATION_COMPLETE (R111 to R114). -/
def execValidationComplete (b : Nat) (g : Fin 64) (s : State) : Host.Outcome State Fault Refusal := .next ((s.at b).validate g.val)

/-- READY_BEAT (R111, R117, R124). -/
def execReadyBeat (b : Nat) (g : Fin 64) (s : State) : Host.Outcome State Fault Refusal := .next ((s.at b).readyBeat g.val)

/-- DECISION_BEAT (R116, R129). -/
def execDecisionBeat (b : Nat) (g : Fin 64) (s : State) : Host.Outcome State Fault Refusal := .next ((s.at b).decisionBeat g.val)

/-- APPLY_BEAT (R121). -/
def execApplyBeat (b : Nat) (g : Fin 64) (s : State) : Host.Outcome State Fault Refusal := .next ((s.at b).applyBeat g.val).turns

/-- EXPIRED (R119). -/
def execGroupExpired (b : Nat) (g : Fin 64) (s : State) : Host.Outcome State Fault Refusal := .next ((s.at b).expire g.val)

/-- VOTE (R129). -/
def execClusterVote (b : Nat) (g : Fin 64) (s : State) : Host.Outcome State Fault Refusal := .next ((s.at b).voteNow g.val)

/-- VOTE_RECEIVED (R129): a VOTE flit for device dst; one for another device is passed on (14_serial_links.md R383). -/
def execVoteReceived (b : Nat) (dst : Fin 32) (w : BitVec 64) (s : State) : Host.Outcome State Fault Refusal :=
  let s1 := s.at b
  .next (if dst.val = s1.devnum then s1.voteArrives w else s1.unicast dst.val 1 w)

/-- DECIDE (R129). -/
def execClusterDecide (b : Nat) (g : Fin 64) (s : State) : Host.Outcome State Fault Refusal := .next ((s.at b).decideNow g.val)

/-- DECIDE_RECEIVED (R129): a DECIDE flit for device dst; one for another device is passed on. -/
def execDecideReceived (b : Nat) (dst : Fin 32) (w : BitVec 64) (s : State) : Host.Outcome State Fault Refusal :=
  let s1 := s.at b
  .next (if dst.val = s1.devnum then s1.decideArrives w else s1.unicast dst.val 1 w)

/-- OUTCOME_LOST (R131): an OUTCOME flit arrives on a port. -/
def execOutcomeLost (b : Nat) (port : Fin 4) (w : BitVec 64) (s : State) : Host.Outcome State Fault Refusal :=
  .next ((s.at b).outcomeArrives port.val w)

/-- DECISION_BUS_RECORD (R19, R275): the record frond f placed in beat r reaches receiver dst, 32 for the central Sorus and the
commit engine; perr: with a parity error (R20). -/
def execDecisionBusRecord (b : Nat) (f : Fin 32) (r : Nat) (dst : Fin 33) (perr : Bool) (s : State) :
    Host.Outcome State Fault Refusal :=
  .next ((s.at b).busRecord f.val r dst.val perr)

/-- BEAT_COUNT_SAMPLE (R121; 01_architecture.md R34): every domain learns the beat count. Every domain of the model holds it exactly but
between a relock and its next sample. -/
def execBeatCountSample (b : Nat) (s : State) : Host.Outcome State Fault Refusal := .next ((s.at b).countSample)

end Sys2Proof.Machine
end

