-- ==== Sys2Proof/Machine/IssueRows.lean ====
section
/-! DEFINITION. IssueRows: the rows of what the bundles of one issue beat do (05_crozier_sequencer.md R142 to R159). -/
namespace Sys2Proof.Machine

/-- XY_START (R150). -/
def execXyStart (e : FrondEv) (s : State) : Host.Outcome State Fault Refusal := .next ((s.at e.b).xyStart e.f.val)

/-- PROBE_START (R150). -/
def execProbeStart (e : FrondEv) (s : State) : Host.Outcome State Fault Refusal := .next ((s.at e.b).probeStart e.f.val)

/-- FLUX_START (R150). -/
def execFluxStart (e : FrondEv) (s : State) : Host.Outcome State Fault Refusal := .next ((s.at e.b).fluxStart e.f.val)

/-- JUMP_REQUEST (R154). -/
def execJumpRequest (e : FrondEv) (s : State) : Host.Outcome State Fault Refusal := .next ((s.at e.b).jumpRequest e.f.val)

/-- READOUT_WINDOW (R142). -/
def execReadoutWindow (e : FrondEv) (s : State) : Host.Outcome State Fault Refusal := .next ((s.at e.b).readoutWindow e.f.val)

/-- EV_PULSE (R143). -/
def execEvPulse (e : FrondEv) (s : State) : Host.Outcome State Fault Refusal := .next ((s.at e.b).evPulse e.f.val)

/-- FRAME_TOGGLE_X (Table 5.6). -/
def execFrameToggleX (e : FrondEv) (s : State) : Host.Outcome State Fault Refusal := .next ((s.at e.b).frameRow e.f.val 1)

/-- FRAME_TOGGLE_Z (Table 5.6). -/
def execFrameToggleZ (e : FrondEv) (s : State) : Host.Outcome State Fault Refusal := .next ((s.at e.b).frameRow e.f.val 2)

/-- FRAME_TOGGLE_XZ (Table 5.6). -/
def execFrameToggleXz (e : FrondEv) (s : State) : Host.Outcome State Fault Refusal := .next ((s.at e.b).frameRow e.f.val 3)

/-- FRAME_CLEAR (Table 5.6). -/
def execFrameClear (e : FrondEv) (s : State) : Host.Outcome State Fault Refusal := .next ((s.at e.b).frameRow e.f.val 4)

/-- FRAME_CLEAR_ALL (Table 5.6). -/
def execFrameClearAll (e : FrondEv) (s : State) : Host.Outcome State Fault Refusal := .next ((s.at e.b).frameRow e.f.val 5)

/-- FRAME_XOR_SLOT (Table 5.6, R146). -/
def execFrameXorSlot (e : FrondEv) (s : State) : Host.Outcome State Fault Refusal := .next ((s.at e.b).frameRow e.f.val 6)

/-- SHOT_END_ISSUE (R158). -/
def execShotEndIssue (e : FrondEv) (s : State) : Host.Outcome State Fault Refusal := .next ((s.at e.b).shotEndIssue e.f.val)

/-- SYNC_ISSUE (R153). -/
def execSyncIssue (e : FrondEv) (s : State) : Host.Outcome State Fault Refusal := .next ((s.at e.b).syncIssue e.f.val)

/-- SHOT_STATUS_ITEM (R159). -/
def execShotStatusItem (e : FrondEv) (s : State) : Host.Outcome State Fault Refusal := .next ((s.at e.b).shotStatus e.f.val)

end Sys2Proof.Machine
end

