-- ==== Sys2Proof/Machine/TimeRows.lean ====
section
/-! DEFINITION. TimeRows: the rows of the 1588 engine, the servo and the cluster's timing (13_time_and_cluster.md R352 to R367). -/
namespace Sys2Proof.Machine

/-- SYNC_MESSAGE (R352, R355, R357). -/
def execSyncMessage (x : PtpMsg) (s : State) : Host.Outcome State Fault Refusal :=
  .next (s.ptpRx 0 x (fun t n => t.ptpSync n x))

/-- FOLLOW_UP (R352). -/
def execFollowUp (x : PtpMsg) (s : State) : Host.Outcome State Fault Refusal :=
  .next (s.ptpRx 8 x (fun t n => t.ptpFollow n x))

/-- DELAY_RESP (R352, R357). -/
def execDelayResp (x : PtpMsg) (s : State) : Host.Outcome State Fault Refusal :=
  .next (s.ptpRx 9 x (fun t n => t.ptpDelayResp n x))

/-- PDELAY_RESP (R352). -/
def execPdelayResp (x : PtpMsg) (s : State) : Host.Outcome State Fault Refusal :=
  .next (s.ptpRx 3 x (fun t n => t.ptpPdelayResp n x))

/-- PDELAY_RESP_FOLLOW_UP (R352). -/
def execPdelayRespFollowUp (x : PtpMsg) (s : State) : Host.Outcome State Fault Refusal :=
  .next (s.ptpRx 10 x (fun t n => t.ptpPdelayFollow n x))

/-- ANNOUNCE (R356). -/
def execAnnounce (x : PtpMsg) (s : State) : Host.Outcome State Fault Refusal :=
  .next (s.ptpRx 11 x (fun t n => t.ptpAnnounce n x))

/-- DELAY_REQ (R352, R355): a transparent clock forwards it, a master answers it. -/
def execDelayReq (x : PtpMsg) (s : State) : Host.Outcome State Fault Refusal :=
  .next (s.ptpRx 1 x (fun t n => t.ptpDelayReq n x))

/-- PDELAY_REQ (R352, R355). -/
def execPdelayReq (x : PtpMsg) (s : State) : Host.Outcome State Fault Refusal :=
  .next (s.ptpRx 2 x (fun t n => t.ptpPdelayReq n x))

/-- SIGNALING (R356): discarded and counted; a transparent clock forwards it (R355). -/
def execSignaling (x : PtpMsg) (s : State) : Host.Outcome State Fault Refusal :=
  .next (s.ptpRx 12 x (fun t n => if t.ptpTc n then t else t.count (pPtp n) 5 1))

/-- A frame is placed in the warden's receive ring of a port, or discarded and counted where the ring is full (14_serial_links.md
R378). -/
def State.ethPlace (s : State) (port : Nat) (bytes : List Byte) (full : Bool) : State :=
  if full then s.count (pEth port) 1 1 else s.emit (.received port bytes)

/-- A Management message that an instance serves is placed. -/
def State.mgmtPlace (s : State) (x : PtpMsg) (raw : List Byte) (full : Bool) : State :=
  if s.ptpLive x.port.val && (List.range 2).any (fun n => s.ptpServes n x) then s.ethPlace x.port.val raw full else s

/-- MANAGEMENT (R356): placed in the warden's receive queue of the port, unless the ring is full (14_serial_links.md R378), flagged and
counted. -/
def execManagement (x : PtpMsg) (raw : List Byte) (full : Bool) (s : State) : Host.Outcome State Fault Refusal :=
  .next ((s.ptpRx 13 x (fun t n => (t.flag (pPtp n) 3).count (pPtp n) 6 1)).mgmtPlace x raw full)

/-- PTP_MESSAGE_TX (R353, R354): a message of instance n leaves on a port in MAC cycle m; its timestamp is fixed 32 cycles before. -/
def execPtpMessageTx (m : Nat) (n port : Fin 2) (kind : Nat) (s : State) : Host.Outcome State Fault Refusal :=
  .next ((s.macFix m).ptpSend n.val port.val kind m)

/-- ANNOUNCE_TIMEOUT (R356, R358): of Announce messages (ann), or of offsets. -/
def execAnnounceTimeout (m : Nat) (n port : Fin 2) (ann : Bool) (s : State) : Host.Outcome State Fault Refusal :=
  .next ((s.macTo m).ptpTimeout n.val port.val ann)

/-- SEL (R359): a write of SERVO.CTRL in MAC cycle m. -/
def execServoSel (path : Path) (m : Nat) (v : Word) (s : State) : Host.Outcome State Fault Refusal :=
  .next ((s.macTo m).rowWrite path pServo 0x100 v (fun x t => t.servoCtrl x))

/-- SYNC_REQ_SEND (R360). -/
def execSyncReqSend (b : Nat) (phi : Fin 2048) (s : State) : Host.Outcome State Fault Refusal :=
  .next ((s.at b).syncReqSend phi.val)

/-- SYNC_REQ (R360); turn: fine units from its arrival to the reply. -/
def execSyncReq (b : Nat) (port : Fin 4) (phi : Fin 2048) (turn : Nat) (w : BitVec 64) (s : State) : Host.Outcome State Fault Refusal :=
  .next ((s.at b).syncReq port.val phi.val turn w)

/-- SYNC_RESP (R360, R362, R365). -/
def execSyncResp (b : Nat) (port : Fin 4) (phi : Fin 2048) (w : BitVec 64) (s : State) : Host.Outcome State Fault Refusal :=
  .next ((s.at b).syncResp port.val phi.val w)

/-- START_SEND (R365). -/
def execStartSend (b : Nat) (s : State) : Host.Outcome State Fault Refusal :=
  .next ((s.at b).startSend)

/-- START_HI (R365). -/
def execStartHi (b : Nat) (port : Fin 4) (w : BitVec 64) (s : State) : Host.Outcome State Fault Refusal :=
  .next ((s.at b).startHi port.val w)

/-- START_LO (R365). -/
def execStartLo (b : Nat) (port : Fin 4) (w : BitVec 64) (s : State) : Host.Outcome State Fault Refusal :=
  .next ((s.at b).startLo port.val w)

/-- BEAT_COUNTER_LOAD (R365, R366). -/
def execBeatCounterLoad (b : Nat) (s : State) : Host.Outcome State Fault Refusal :=
  .next ((s.at b).counterLoad)

/-- PING (R367): for device dst; one for another device is passed on (14_serial_links.md R383). -/
def execCsyncPing (b : Nat) (dst : Fin 32) (w : BitVec 64) (s : State) : Host.Outcome State Fault Refusal :=
  .next (let s1 := s.at b; if dst.val = s1.devnum then s1.ping w else s1.unicast dst.val 1 w)

/-- PONG (R367): for device dst; one for another device is passed on (14_serial_links.md R383). -/
def execCsyncPong (b : Nat) (dst : Fin 32) (w : BitVec 64) (s : State) : Host.Outcome State Fault Refusal :=
  .next (let s1 := s.at b; if dst.val = s1.devnum then s1.pong w else s1.unicast dst.val 1 w)

/-- JOIN (R364, R367). -/
def execCsyncJoin (path : Path) (key : BitVec 16) (s : State) : Host.Outcome State Fault Refusal :=
  .next (s.rowWrite path pCsync 0x108 (keyed key 1) (fun x t => t.csCmd x))

/-- LEAVE (R364, R367). -/
def execCsyncLeave (path : Path) (key : BitVec 16) (s : State) : Host.Outcome State Fault Refusal :=
  .next (s.rowWrite path pCsync 0x108 (keyed key 2) (fun x t => t.csCmd x))

/-- REMEASURE (R364, R367). -/
def execCsyncRemeasure (path : Path) (key : BitVec 16) (s : State) : Host.Outcome State Fault Refusal :=
  .next (s.rowWrite path pCsync 0x108 (keyed key 4) (fun x t => t.csCmd x))

/-- PARENT_LINK_LOSS (R362). -/
def execParentLinkLoss (b : Nat) (s : State) : Host.Outcome State Fault Refusal :=
  .next ((s.at b).parentLoss)

/-- HOLD_MS (R362). -/
def execHoldMs (b : Nat) (s : State) : Host.Outcome State Fault Refusal :=
  .next ((s.at b).holdMs)

/-- JOIN_MS (R365). -/
def execJoinMs (b : Nat) (s : State) : Host.Outcome State Fault Refusal :=
  .next ((s.at b).joinMs)

end Sys2Proof.Machine
end

