-- ==== Sys2Proof/Machine/LinkRows.lean ====
section
/-! DEFINITION. LinkRows: the rows of the Ethernet and Ndeor ports (14_serial_links.md R378 to R391). -/
namespace Sys2Proof.Machine

/-- EtherType of a frame, behind its VLAN tags, at most two (R377). -/
def etherType (bytes : List Byte) : Nat :=
  let at_ := fun (i : Nat) => (bytes.getD i 0).toNat * 256 + (bytes.getD (i + 1) 0).toNat
  let tag := fun (v : Nat) => v == 0x8100 || v == 0x88A8
  if !tag (at_ 12) then at_ 12 else if !tag (at_ 16) then at_ 16 else at_ 20

/-- A frame the MAC accepts, or sends: 64 to 9,216 bytes, the check sequence among them (R377, Table 14.3). -/
def ethLength (bytes : List Byte) : Bool := decide (64 ≤ bytes.length) && decide (bytes.length ≤ 9216)

/-- A frame for the warden's receive ring, by its bytes: neither PAUSE, which is discarded, nor PTP over IEEE 802.3, which goes to the 1588 engine
as the row of its message (R377, R378, Table 13.1). -/
def ethPlain (bytes : List Byte) : Bool := ethLength bytes && etherType bytes != 0x8808 && etherType bytes != 0x88F7

/-- ETH_FRAME_RX (R377, R378): kind 0: a PTP frame, which the 1588 engine takes as the row of its message; 1: addressed to the port or to
broadcast; any other is discarded. -/
def execEthFrameRx (port : Fin 2) (kind : Nat) (bytes : List Byte) (full : Bool) (s : State) : Host.Outcome State Fault Refusal :=
  .next (if kind = 1 ∧ ethPlain bytes ∧ s.ptpLive port.val then s.ethPlace port.val bytes full else s)

/-- ETH_FRAME_TX (R377, R378). -/
def execEthFrameTx (port : Fin 2) (bytes : List Byte) (s : State) : Host.Outcome State Fault Refusal :=
  .next (if ethLength bytes ∧ s.ptpLive port.val then s.emit (.frame port.val bytes) else s)

/-- NDEOR_FRAME (R380 to R384): crc: the CRC it carries; phi: its fine position in the beat; turn: fine units to a reply. -/
def execNdeorFrame (b : Nat) (port lane : Fin 4) (crc : BitVec 15) (mode : Fin 4) (dst : Fin 32) (cls : Fin 4) (phi : Fin 2048) (turn : Nat) (w : BitVec 64) (s : State) : Host.Outcome State Fault Refusal :=
  .next ((s.at b).frameIn port.val lane.val crc mode.val dst.val cls.val phi.val turn w)

/-- TRAINING_STATE_DONE (R385). -/
def execTrainingStateDone (b : Nat) (p : Fin 4) (vals : List Nat) (dev : Fin 32) (s : State) : Host.Outcome State Fault Refusal :=
  .next ((s.at b).trainDone p.val vals dev.val)

/-- TRAINING_TIMEOUT (R385). -/
def execTrainingTimeout (b : Nat) (p : Fin 4) (alt : Bool) (s : State) : Host.Outcome State Fault Refusal :=
  .next ((s.at b).trainTimeout p.val alt)

/-- RETRAIN (R386, R389): a write of PORT_CTRL[p]. -/
def execPortRetrain (path : Path) (p : Fin 4) (v : Word) (s : State) : Host.Outcome State Fault Refusal :=
  .next (s.rowWrite path pNdeor (0x104 + 4 * p.val) v (fun x t => t.portCtrl p.val x))

/-- EIDLE (R386, R389): a write of PORT_CTRL[p]. -/
def execPortEidle (path : Path) (p : Fin 4) (v : Word) (s : State) : Host.Outcome State Fault Refusal :=
  .next (s.rowWrite path pNdeor (0x104 + 4 * p.val) v (fun x t => t.portCtrl p.val x))

/-- FAST_EXIT (R389). -/
def execFastExit (b : Nat) (p : Fin 4) (s : State) : Host.Outcome State Fault Refusal :=
  .next ((s.at b).fastExit p.val)

/-- SLIP (R387, R390): a write of NLANE[n].CTRL. -/
def execLaneSlip (path : Path) (n : Fin 16) (v : Word) (s : State) : Host.Outcome State Fault Refusal :=
  .next (s.rowWrite path (pNlane n.val) 0x100 v (fun x t => t.laneCtrl n.val x))

/-- RESUME (R387, R390): a write of NLANE[n].CTRL. -/
def execLaneResume (path : Path) (n : Fin 16) (v : Word) (s : State) : Host.Outcome State Fault Refusal :=
  .next (s.rowWrite path (pNlane n.val) 0x100 v (fun x t => t.laneCtrl n.val x))

/-- PRBS_CHK (R387, R390): a write of NLANE[n].CTRL. -/
def execPrbsChk (path : Path) (n : Fin 16) (v : Word) (s : State) : Host.Outcome State Fault Refusal :=
  .next (s.rowWrite path (pNlane n.val) 0x100 v (fun x t => t.laneCtrl n.val x))

/-- PRBS_GEN (R387, R390): a write of NLANE[n].CTRL. -/
def execPrbsGen (path : Path) (n : Fin 16) (v : Word) (s : State) : Host.Outcome State Fault Refusal :=
  .next (s.rowWrite path (pNlane n.val) 0x100 v (fun x t => t.laneCtrl n.val x))

/-- INJ_FIRE (R390): a write of NLANE[n].INJ. -/
def execInjFire (path : Path) (n : Fin 16) (v : Word) (s : State) : Host.Outcome State Fault Refusal :=
  .next (s.rowWrite path (pNlane n.val) 0x104 v (fun x t => t.laneInj n.val x))

/-- MBOX_TX (R382): the writes of both words of MBOX_TX. -/
def execMboxTx (path : Path) (w : BitVec 64) (s : State) : Host.Outcome State Fault Refusal :=
  .next ((s.rowTurn path pNdeor 0x144 (some (w.setWidth 32)) (fun t => t)).rowWrite path pNdeor 0x148 ((w >>> 32).setWidth 32) (fun _ t => t.mboxTx w))

/-- MBOX_RX_LO_READ (R396). -/
def execMboxRxLoRead (path : Path) (s : State) : Host.Outcome State Fault Refusal :=
  .next (s.rowRead path pNdeor 0x14C (fun t => t.mboxRead path))

/-- NDEOR_ABORT (R383, R391): an ABORT flit arrives on a port. -/
def execNdeorAbort (b : Nat) (port : Fin 4) (w : BitVec 64) (s : State) : Host.Outcome State Fault Refusal :=
  .next ((s.at b).abortArrives port.val w)

end Sys2Proof.Machine
end

