-- ==== Sys2Proof/Machine/ModeRows.lean ====
section
/-! DEFINITION. ModeRows: the rows of modes, power, boot, resets and aborts (02_modes_power_boot.md; 01_architecture.md R33 to R40). -/
namespace Sys2Proof.Machine

/-- A word of a MODE register: the key, and low bits. -/
def modeWord (key : BitVec 16) (bits : Nat) : Word := keyed key bits

/-- POWER_ON_RESET (R47): the always-on supply has risen, or POR_N is released. -/
def execPowerOnReset (s : State) : Host.Outcome State Fault Refusal :=
  .next (s.powerOn)

/-- PIN_RESET (R63): POR_N low for at least 1 µs. -/
def execPinReset (s : State) : Host.Outcome State Fault Refusal :=
  .next (s.pinReset)

/-- SUPPLY_RESET (R63): the always-on supply falls below its threshold. -/
def execSupplyReset (s : State) : Host.Outcome State Fault Refusal :=
  .next (s.supplyReset)

/-- WAKE_N (R47, R55): WAKE_N low for at least 160 ns. -/
def execWakeN (s : State) : Host.Outcome State Fault Refusal :=
  .next (s.wake)

/-- BOOT_STEP_COMPLETE (R66 to R74): the step in progress, or its method, ends. -/
def execBootStepComplete (b : Nat) (r : BootRes) (s : State) : Host.Outcome State Fault Refusal :=
  .next ((s.at b).stepEnds r)

/-- BOOT_STEP_TIMEOUT (R66): at always-on cycle t; units: those of a SKIP step that have not finished. -/
def execBootStepTimeout (b t : Nat) (units : List Nat) (s : State) : Host.Outcome State Fault Refusal :=
  .next ((s.at b).stepTimeout t units)

/-- MODE_REQ_RUN (R47 to R58): a write of MODE_REQ with TARGET RUN. -/
def execModeReqRun (path : Path) (key : BitVec 16) (s : State) : Host.Outcome State Fault Refusal :=
  .next (s.rowWrite path pMode 0x104 (modeWord key 3) (fun x t => t.modeReq x))

/-- MODE_REQ_READY (R47 to R58): a write of MODE_REQ with TARGET READY. -/
def execModeReqReady (path : Path) (key : BitVec 16) (s : State) : Host.Outcome State Fault Refusal :=
  .next (s.rowWrite path pMode 0x104 (modeWord key 2) (fun x t => t.modeReq x))

/-- MODE_REQ_SERVICE (R47 to R58): a write of MODE_REQ with TARGET SERVICE. -/
def execModeReqService (path : Path) (key : BitVec 16) (s : State) : Host.Outcome State Fault Refusal :=
  .next (s.rowWrite path pMode 0x104 (modeWord key 4) (fun x t => t.modeReq x))

/-- MODE_REQ_DORMANT (R47 to R58): a write of MODE_REQ with TARGET DORMANT. -/
def execModeReqDormant (path : Path) (key : BitVec 16) (s : State) : Host.Outcome State Fault Refusal :=
  .next (s.rowWrite path pMode 0x104 (modeWord key 0) (fun x t => t.modeReq x))

/-- MODE_REQ_HOLD (R47 to R58): a write of MODE_REQ with TARGET HOLD. -/
def execModeReqHold (path : Path) (key : BitVec 16) (s : State) : Host.Outcome State Fault Refusal :=
  .next (s.rowWrite path pMode 0x104 (modeWord key 5) (fun x t => t.modeReq x))

/-- RUN_STOP_COMPLETE (R56): no frond of any tuft is inside a shot. -/
def execRunStopComplete (b : Nat) (s : State) : Host.Outcome State Fault Refusal :=
  .next ((s.at b).runStopComplete)

/-- STOP_TIMEOUT (R56): the limit passes. -/
def execStopTimeout (b : Nat) (s : State) : Host.Outcome State Fault Refusal :=
  .next ((s.at b).stopTimeout)

/-- MODE_TRANSITION_DONE (R50): the transition in progress completes. -/
def execModeTransitionDone (b : Nat) (s : State) : Host.Outcome State Fault Refusal :=
  .next ((s.at b).modeDone)

/-- WARM (R49, R65): a write of MODE_RESET with WARM. -/
def execWarmReset (path : Path) (key : BitVec 16) (s : State) : Host.Outcome State Fault Refusal :=
  .next (s.rowWrite path pMode 0x110 (modeWord key 1) (fun x t => t.modeReset x))

/-- THERMAL_LOCK_POWER_OFF (R55): 10 ms after entry to HOLD under thermal lock. -/
def execThermalLockPowerOff (b : Nat) (s : State) : Host.Outcome State Fault Refusal :=
  .next ((s.at b).lockPowerOff)

/-- PGOOD_LOST (R59): domain d loses power-good. -/
def execPgoodLost (b : Nat) (d : Fin 26) (s : State) : Host.Outcome State Fault Refusal :=
  .next ((s.at b).pgoodLost d.val)

/-- DOM_GATE_WRITE (R62): a write of DOM_GATE. -/
def execDomGateWrite (path : Path) (v : Word) (s : State) : Host.Outcome State Fault Refusal :=
  .next (s.rowWrite path pPower 0x104 v (fun x t => t.domGate x))

/-- CLR_CNT (R72): a write of LOG_CTRL.CLR_CNT. -/
def execClrCnt (path : Path) (s : State) : Host.Outcome State Fault Refusal :=
  .next (s.rowWrite path pBoot 0x120 1 (fun x t => t.logCtrl x))

/-- MIRROR (R73): a write of LOG_CTRL.MIRROR. -/
def execLogMirror (path : Path) (s : State) : Host.Outcome State Fault Refusal :=
  .next (s.rowWrite path pBoot 0x120 2 (fun x t => t.logCtrl x))

/-- PCIE_FUNDAMENTAL_RESET (R63, R64): PERST_N low. -/
def execPcieFundamentalReset (b : Nat) (s : State) : Host.Outcome State Fault Refusal :=
  .next ((s.at b).perst).turns

/-- PCIE_LINK_UP (R63, R315): the link is up at a width and a speed code, with what the host has set up, and bus mastering is enabled. -/
def execPcieLinkUp (b width : Nat) (up : PcieUp) (s : State) : Host.Outcome State Fault Refusal :=
  .next ((s.at b).pcieUp width up)

/-- FUNCTION_LEVEL_RESET (R125, R481): an FLR of a virtual function. -/
def execFunctionLevelReset (b : Nat) (fn : Fin 32) (s : State) : Host.Outcome State Fault Refusal :=
  .next ((s.at b).flr fn).turns

/-- UNLOCK (R33, R34): ref: REF_CLK is lost, else the main PLL chain alone. -/
def execClockUnlock (b : Nat) (ref : Bool) (s : State) : Host.Outcome State Fault Refusal :=
  .next ((s.at b).unlockNow ref)

/-- MAIN_PLL_RELOCK (R34): the main PLL chain locks again. -/
def execMainPllRelock (s : State) : Host.Outcome State Fault Refusal :=
  .next (s.relock)

/-- PF_ABORT_DOORBELL (R38): v: the value written. -/
def execPfAbortDoorbell (b : Nat) (v : Word) (s : State) : Host.Outcome State Fault Refusal :=
  .next ((s.at b).abortBell 0 v)

/-- VF_ABORT_DOORBELL (R39): v: the value written by function fn. -/
def execVfAbortDoorbell (b : Nat) (fn : Fin 32) (v : Word) (s : State) : Host.Outcome State Fault Refusal :=
  .next ((s.at b).abortBell fn v)

/-- ABORT_N (R40, R54): the pin rises at beat b (low is none), or falls and stays low for the beats low names. A pulse shorter than
4 beats is ignored; a longer one enters HOLD behind the phase wait, the synchroniser and the filter, 7 beats after the edge. -/
def execAbortN (b : Nat) (low : Option Nat) (s : State) : Host.Outcome State Fault Refusal :=
  .next (match low with
    | none => (s.at b).abortLevel false
    | some held => if held < 4 then s.at b else ((s.at (b + 7)).abortLevel true).enterHold 5)

/-- UNCORRECTABLE_SRAM_ERROR (R51): an uncorrectable Thallus SRAM error. -/
def execUncorrectableSramError (b : Nat) (s : State) : Host.Outcome State Fault Refusal :=
  .next ((s.at b).fatal)

/-- WAKE (R394): the SMBus command WAKE. -/
def execSmbusWake (s : State) : Host.Outcome State Fault Refusal :=
  .next (s.wake)

/-- MODE (R394): the SMBus command MODE answers THERM_LOCK and CUR. -/
def execSmbusMode (s : State) : Host.Outcome State Fault Refusal :=
  .next (s.emit (.smbus (some [BitVec.ofNat 8 ((if s.thermLock then 128 else 0) + s.mode)])))

end Sys2Proof.Machine
end

