-- ==== Sys2Proof/Machine/QueueRows.lean ====
section
/-! DEFINITION. QueueRows: the rows of the result queues (11_acquisition_queues.md R317 to R321). -/
namespace Sys2Proof.Machine

/-- QUEUE_FIRST_WORD (R317): the first word of the k-th item on its way. -/
def execQueueFirstWord (b k : Nat) (s : State) : Host.Outcome State Fault Refusal := .next ((s.at b).firstWord k).turns

/-- QUEUE_WORD (R317): a later word of the k-th item on its way. -/
def execQueueWord (b k : Nat) (s : State) : Host.Outcome State Fault Refusal := .next ((s.at b).nextWord k).turns

/-- HEAD (R318). -/
def execQueueHead (path : Path) (q : Fin 64) (s : State) : Host.Outcome State Fault Refusal :=
  .next (s.inTurn path q.val 0x100 none (fun u => u.withRead path (pQueue q.val) 0x100 (fun t => t.headRead q.val path)))

/-- HEAD_TIMEOUT (R318). -/
def execHeadTimeout (b : Nat) (q : Fin 64) (s : State) : Host.Outcome State Fault Refusal := .next ((s.at b).headTimeout q.val).turns

/-- DRAIN_COPY (R318). -/
def execDrainCopy (b : Nat) (q : Fin 64) (s : State) : Host.Outcome State Fault Refusal := .next ((s.at b).drainCopy q.val)

/-- DRD (R318), a write of the register or of its doorbell. -/
def execQueueDrd (path : Path) (q : Fin 64) (v : Word) (bell : Bool) (s : State) : Host.Outcome State Fault Refusal :=
  let act := fun (u : State) => u.viaBell path (pQueue q.val) 0x13C v (if bell then some (0x900 + 4 * q.val) else none)
    (fun t => t.hostRdWrite (pQueue q.val) 0x138 0x13C v)
  .next (if bell then act s else s.inTurn path q.val 0x13C (some v) act)

/-- A write of CMD, in its turn, that acts as k. -/
def State.cmdWrite (s : State) (path : Path) (q : Nat) (v : Nat) (k : State → State) : State :=
  s.inTurn path q 0x10C (some (BitVec.ofNat 32 v)) (fun u => u.withWrite path (pQueue q) 0x10C k)

/-- RELEASE (R319). -/
def execQueueRelease (path : Path) (q : Fin 64) (n : BitVec 16) (s : State) : Host.Outcome State Fault Refusal :=
  .next (s.cmdWrite path q.val (n.toNat * 65536 + 8) (fun t => t.qRelease q.val n.toNat))

/-- ALL (R319). -/
def execQueueAll (path : Path) (q : Fin 64) (s : State) : Host.Outcome State Fault Refusal :=
  .next (s.cmdWrite path q.val 16 (fun t => t.qAll q.val))

/-- MARK (R319). -/
def execQueueMark (path : Path) (q : Fin 64) (s : State) : Host.Outcome State Fault Refusal :=
  .next (s.cmdWrite path q.val 2 (fun t => t.qMark q.val))

/-- REWIND (R319). -/
def execQueueRewind (path : Path) (q : Fin 64) (s : State) : Host.Outcome State Fault Refusal :=
  .next (s.cmdWrite path q.val 4 (fun t => t.qRewind q.val))

/-- FLUSH (R321). -/
def execQueueFlush (path : Path) (q : Fin 64) (s : State) : Host.Outcome State Fault Refusal :=
  .next (s.cmdWrite path q.val 1 (fun t => t.flushQ q.val false))

/-- QUEUE_TIMEOUT (R320). -/
def execQueueTimeout (b : Nat) (q : Fin 64) (s : State) : Host.Outcome State Fault Refusal := .next ((s.at b).queueTimeout q.val)

end Sys2Proof.Machine
end

