-- ==== Sys2Proof/Machine/ReadoutRows.lean ====
section
/-! DEFINITION. ReadoutRows: the rows of the front end and the kernels (08_readout_front_end.md, 09_readout_kernels.md). -/
namespace Sys2Proof.Machine

/-- OVR (R233, R236): ball beat b of a frond holds overrange samples. -/
def execAdcOvr (e : OvrEv) (s : State) : Host.Outcome State Fault Refusal :=
  let s1 := s.at e.b
  .next (s1.ovrBeat e.f.val s1.beat (e.rails.map (fun x => (x.1.val, x.2))))

/-- FE_SWITCH (R237, R251): a pending change of range or input, at the first ball beat clear of every window. -/
def execFeSwitch (e : FrondEv) (s : State) : Host.Outcome State Fault Refusal :=
  let s1 := s.at e.b
  .next (s1.feStep e.f.val s1.beat)

/-- TONE_CHANGE (R246): committed registers of tone t take effect once outside every filter span. -/
def execToneChange (e : FrondEv) (t : Fin 16) (s : State) : Host.Outcome State Fault Refusal :=
  let s1 := s.at e.b
  .next (s1.toneStep e.f.val t.val)

/-- One step of the window that integrates on tone t, once its next sample is presented (R244, R245, R259). -/
def State.macStep (s : State) (f t : Nat) (codes : List (BitVec 12)) (ecc : Ecc) : State :=
  match (s.fe f).openWin t with
  | some w =>
    if w.present w.n ≤ s.beat then s.macmin f t w (s.demodSample f t (w.centre w.n) codes) ecc else s
  | none => s

/-- MACMIN (R259): codes are the 192 ADC codes of the filter span; ecc is what the weight read found. -/
def execMacmin (e : FrondEv) (t : Fin 16) (codes : List (BitVec 12)) (ecc : Ecc) (s : State) :
    Host.Outcome State Fault Refusal :=
  .next ((s.at e.b).macStep e.f.val t.val codes ecc)

/-- The window of tone t whose steps are done and whose result word this beat forms, 34 beats after its last ball beat (R264, Table 9.2;
01_architecture.md R43). -/
def State.resultDue (s : State) (f t : Nat) : Option Win :=
  (s.fe f).wins.find? (fun w => decide (w.tone = t) && decide (w.len ≤ w.n) && decide (w.lastBeat + 34 = s.beat))

/-- WINDOW_RESULT (R264). -/
def execWindowResult (e : FrondEv) (t : Fin 16) (s : State) : Host.Outcome State Fault Refusal :=
  let s1 := s.at e.b
  .next (match s1.resultDue e.f.val t.val with | some w => s1.windowResult e.f.val w | none => s1)

/-- A read of WMEM_DATA_LO: the selected word, its upper bits latched for the requester (R271, 03_register_pages.md R96). -/
def State.wmemLo (s : State) (f : Nat) (path : Path) : State :=
  let w := (s.wmemRead f).toNat
  s.answerPair path ((pKernel f).reg 0x118) (BitVec.ofNat 32 w) (BitVec.ofNat 32 (w / 2 ^ 32))

/-- WMEM_DATA_LO_READ (R271). -/
def execWmemDataLoRead (path : Path) (f : Fin 32) (s : State) : Host.Outcome State Fault Refusal :=
  .next (s.rowRead path (pKernel f.val) 0x118 (fun t => t.wmemLo f.val path))

end Sys2Proof.Machine
end

