-- ==== Sys2Proof/Machine/SecurityRows.lean ====
section
/-! DEFINITION. SecurityRows: the rows of the security island, of BAR2 and of attestation (18_tufts_and_security.md; 14_serial_links.md R392). -/
namespace Sys2Proof.Machine

/-- PROVISION (R487): LC_CMD with operation 1. -/
def execLcProvision (path : Path) (key : BitVec 16) (s : State) : Host.Outcome State Fault Refusal :=
  .next (s.rowWrite path pSec 0x104 (keyed key 1) (fun x t => t.lcCmd x))

/-- DEPLOY (R487): LC_CMD with operation 2. -/
def execLcDeploy (path : Path) (key : BitVec 16) (s : State) : Host.Outcome State Fault Refusal :=
  .next (s.rowWrite path pSec 0x104 (keyed key 2) (fun x t => t.lcCmd x))

/-- RETURN (R487): LC_CMD with operation 3. -/
def execLcReturn (path : Path) (key : BitVec 16) (s : State) : Host.Outcome State Fault Refusal :=
  .next (s.rowWrite path pSec 0x104 (keyed key 3) (fun x t => t.lcCmd x))

/-- RAISEFLOOR (R487): LC_CMD with operation 4. -/
def execLcRaiseFloor (path : Path) (key : BitVec 16) (s : State) : Host.Outcome State Fault Refusal :=
  .next (s.rowWrite path pSec 0x104 (keyed key 4) (fun x t => t.lcCmd x))

/-- LIFECYCLE_TRANSITION_DONE (R487). -/
def execLifecycleTransitionDone (s : State) : Host.Outcome State Fault Refusal :=
  .next (s.lcDone)

/-- DEBUG_UNLOCK (R489). -/
def execDebugUnlock (path : Path) (key : BitVec 16) (s : State) : Host.Outcome State Fault Refusal :=
  .next (s.rowWrite path pDebug 0x118 (keyed key 1) (fun x t => t.debugCmd path x))

/-- DEBUG_LOCK (R488). -/
def execDebugLock (path : Path) (key : BitVec 16) (s : State) : Host.Outcome State Fault Refusal :=
  .next (s.rowWrite path pDebug 0x118 (keyed key 2) (fun x t => t.debugCmd path x))

/-- TAMPER_ALARM (R475). -/
def execTamperAlarm (b : Nat) (src : Fin 3) (s : State) : Host.Outcome State Fault Refusal :=
  .next ((s.at b).tamper src.val)

/-- FROND_SCRUB_END (R474). -/
def execFrondScrubEnd (b : Nat) (f : Fin 32) (s : State) : Host.Outcome State Fault Refusal :=
  .next ((s.at b).frondScrubEnd f.val)

/-- GRANULE_SCRUB_END (R477). -/
def execGranuleScrubEnd (b : Nat) (k : Fin 128) (s : State) : Host.Outcome State Fault Refusal :=
  .next ((s.at b).granuleScrubEnd k.val)

/-- GDDR7_CRC_ERROR (R392). -/
def execGddr7CrcError (b : Nat) (c : Fin 8) (kind : CrcKind) (persist : Bool) (s : State) : Host.Outcome State Fault Refusal :=
  .next ((s.at b).crcError c.val kind persist)

/-- BAR2_READ (R476, R479, R480). -/
def execBar2Read (path : Path) (off n : Nat) (s : State) : Host.Outcome State Fault Refusal :=
  .next (s.bar2Read path off n)

/-- BAR2_WRITE (R476, R479, R480; 04_commit_groups.md R114). -/
def execBar2Write (path : Path) (off : Nat) (bytes : List Byte) (s : State) : Host.Outcome State Fault Refusal :=
  .next (s.bar2Write path off bytes)

/-- GET_VERSION (R486). -/
def execGetVersion (s : State) : Host.Outcome State Fault Refusal :=
  .next (s.spdmGetVersion)

/-- GET_CAPABILITIES (R486). -/
def execGetCapabilities (ver : Nat) (s : State) : Host.Outcome State Fault Refusal :=
  .next (s.spdmCapabilities ver)

/-- NEGOTIATE_ALGORITHMS (R486). -/
def execNegotiateAlgorithms (ver asym hash dhe aead : Nat) (s : State) : Host.Outcome State Fault Refusal :=
  .next (s.spdmAlgorithms ver asym hash dhe aead)

/-- GET_DIGESTS (R486). -/
def execGetDigests (ver : Nat) (s : State) : Host.Outcome State Fault Refusal :=
  .next (s.spdmDigests ver)

/-- GET_CERTIFICATE (R486). -/
def execGetCertificate (ver slot off len : Nat) (s : State) : Host.Outcome State Fault Refusal :=
  .next (s.spdmCertificate ver slot off len)

/-- CHALLENGE (R486). -/
def execChallenge (ver slot : Nat) (nonce : List Byte) (s : State) : Host.Outcome State Fault Refusal :=
  .next (s.spdmChallenge ver slot nonce)

/-- GET_MEASUREMENTS (R486). -/
def execGetMeasurements (ver index : Nat) (sign : Bool) (nonce : List Byte) (s : State) : Host.Outcome State Fault Refusal :=
  .next (s.spdmMeasurements ver index sign nonce)

/-- KEY_EXCHANGE (R486). -/
def execKeyExchange (ver slot sid : Nat) (pub : List Byte) (s : State) : Host.Outcome State Fault Refusal :=
  .next (s.spdmKeyExchange ver slot sid pub)

/-- FINISH (R486). -/
def execFinish (ver sid : Nat) (mac : List Byte) (s : State) : Host.Outcome State Fault Refusal :=
  .next (s.spdmFinish ver sid mac)

/-- HEARTBEAT (R486). -/
def execHeartbeat (ver sid : Nat) (s : State) : Host.Outcome State Fault Refusal :=
  .next (s.spdmHeartbeat ver sid)

/-- KEY_UPDATE (R486). -/
def execKeyUpdate (ver sid op : Nat) (s : State) : Host.Outcome State Fault Refusal :=
  .next (s.spdmKeyUpdate ver sid op)

/-- END_SESSION (R486). -/
def execEndSession (ver sid : Nat) (s : State) : Host.Outcome State Fault Refusal :=
  .next (s.spdmEnd ver sid)

end Sys2Proof.Machine
end

