-- ==== Sys2Proof/Machine/SorusRows.lean ====
section
/-! DEFINITION. SorusRows: the rows of the Sorus but for the decision bus (10_sorus_feedback.md R283 to R298, R518). -/
namespace Sys2Proof.Machine

/-- The task number of rule r of SLOT[n] as a Hypha task input (12_hypha_events.md Table 12.3). -/
def ruleTask (n r : Nat) : Nat := 0x118 + 16 * n + r

/-- DEADLINE_PASSED (R283): an EVENT rule could hear its channel while its binding has a tap. -/
def execDeadlinePassed (b : Nat) (n : Fin 64) (r : Fin 16) (s : State) : Host.Outcome State Fault Refusal :=
  let s1 := s.at b
  .next (s1.deadline n.val r.val (s1.hypha.taps.contains (s1.ruleChan n.val r.val, ruleTask n.val r.val)))

/-- ARM_NOTICE (R285); with a parity error the record of the central Sorus is discarded (R20, R518). -/
def execArmNotice (e : FrondEv) (perr : Bool) (s : State) : Host.Outcome State Fault Refusal :=
  .next (if perr then (s.at e.b).portDiscard e.f.val else (s.at e.b).armNotice e.f.val)

/-- SLOT_RESOLUTION (R285, R288); with a parity error the record is discarded (R20, R518). -/
def execSlotResolution (e : FrondEv) (perr : Bool) (s : State) : Host.Outcome State Fault Refusal :=
  .next (if perr then (s.at e.b).portDiscard e.f.val else (s.at e.b).slotResolution e.f.val)

/-- The units whose copies disagree in beat b: that of a command, and those of the commands of the same beat that wait right behind it. -/
def State.mmUnits (s : State) (b unit : Nat) : List Nat :=
  unit :: (s.pending.takeWhile (fun c => match c with | .lockstepDisagreement b' _ _ => b' == b | _ => false)).filterMap
    (fun c => match c with | .lockstepDisagreement _ u _ => some u.val | _ => none)

/-- Device time moves on to beat b, in which units disagree: the decisions in flight there that resolve as the beat begins resolve
MISMATCH (R298). -/
def State.atMM (s : State) (b unit : Nat) : State := ((s.mmUnits b unit).foldl (fun a u => a.markMM u) (s.at (b - 1))).at b

/-- LOCKSTEP_DISAGREEMENT (R298), the first commands of their beat, one for each unit, since decisions resolve as the beat begins (log
entry 46): at unit 0 to 31 a frond's port, 32 the central Sorus; frames lists the frond and qubit of frame bits that disagree. -/
def execLockstepDisagreement (b : Nat) (unit : Fin 33) (frames : List (Fin 32 × Fin 16)) (s : State) :
    Host.Outcome State Fault Refusal :=
  .next ((s.atMM b unit.val).lockstep unit.val (frames.map (fun x => (x.1.val, x.2.val))))

/-- A decision-class record for this device, by its TYPE: an export, or a decision (R294, Table 10.6). -/
def State.decisionRecord (s : State) (w : BitVec 64) : State :=
  match nfld w.toNat 63 60 with
  | 1 => s.ndeorExport
  | 2 => s.ndeorDecision w
  | _ => s

/-- NDEOR_DECISION_RECORD (R294): an export or decision record for device dst; one for another device is passed on
(14_serial_links.md R383); one of another TYPE is discarded and counted (R384). -/
def execNdeorDecisionRecord (b : Nat) (dst : Fin 32) (w : BitVec 64) (s : State) : Host.Outcome State Fault Refusal :=
  let s1 := s.at b
  .next (if nfld w.toNat 63 60 ≠ 1 ∧ nfld w.toNat 63 60 ≠ 2 then s1.count pNdeor 1 1
    else if dst.val = s1.devnum then s1.decisionRecord w else s1.unicast dst.val 2 w)

end Sys2Proof.Machine
end

