-- ==== Sys2Proof/Machine/ThermalRows.lean ====
section
/-! DEFINITION. ThermalRows: the rows of thermal management and the event counters (17_thermal_and_counters.md). -/
namespace Sys2Proof.Machine

/-- POWER_SAMPLE (R453). -/
def execPowerSample (p : List (BitVec 16)) (s : State) : Host.Outcome State Fault Refusal := .next (if s.domOn 1 then s.powerSample p else s)

/-- MODEL_STEP (R454): the node temperatures the network reaches from the latest powers, in 1/64 °C. -/
def execModelStep (b : Nat) (nodes : List Int) (s : State) : Host.Outcome State Fault Refusal := 
  .next (if (s.at b).therm.running then ((s.at b).past b).modelStep nodes else s.at b)

/-- DIODE_READING (R455, R456). -/
def execDiodeReading (b : Nat) (i : Fin 40) (t : BitVec 16) (s : State) : Host.Outcome State Fault Refusal :=
  .next (if (s.at b).domOn 1 then ((s.at b).past b).diodeReading i.val t else s.at b)

/-- READMIT (R456). -/
def execDiodeReadmit (path : Path) (key : BitVec 16) (i : Fin 64) (s : State) : Host.Outcome State Fault Refusal :=
  .next (s.rowWrite path pDiode 0x1A0 (BitVec.ofNat 32 (key.toNat * 65536 + i.val * 256 + 1)) (fun x t => t.diodeCmd x))

/-- COUNTER_SNAP (R467): the command reaches the beat domain in beat b. -/
def execCounterSnap (path : Path) (b : Nat) (p : Fin 16) (key : BitVec 16) (s : State) : Host.Outcome State Fault Refusal :=
  .next (s.rowWrite path (pCnt p.val) 0x100 (BitVec.ofNat 32 (key.toNat * 65536 + 1)) (fun x t => t.cntCmd p.val x b))

/-- REFRESH_INTERVAL (R460). -/
def execRefreshInterval (b : Nat) (temps : List (Option (BitVec 16))) (s : State) : Host.Outcome State Fault Refusal :=
  let s1 := s.at b
  .next (if s1.domOn 6 then s1.refresh temps else s1)

end Sys2Proof.Machine
end

