-- ==== Sys2Proof/Machine/WaveformRows.lean ====
section
/-! DEFINITION. WaveformRows: the rows of the segment players and the rings (06_waveform_store.md R179 to R197). -/
namespace Sys2Proof.Machine

/-- SEGMENT_BOUNDARY (R178, R179): the pass of channel c ends once its boundary beat is reached, unless a start takes the place of
the boundary (R182). -/
def execSegmentBoundary (e : FrondEv) (c : Fin 40) (s : State) : Host.Outcome State Fault Refusal :=
  let s1 := s.at e.b
  let p := s1.player e.f.val c.val
  .next (if p.playing = true ∧ p.bj ≤ s1.beat ∧ s1.cutNow e.f.val c.val (p.k0 + p.len) = false then s1.passBoundary e.f.val c.val else s1)

/-- JUMP_LATCH (R180): at Bj − 6 the player of tone c latches its next entry. -/
def execJumpLatch (e : FrondEv) (c : Fin 32) (s : State) : Host.Outcome State Fault Refusal :=
  let s1 := s.at e.b
  let p := s1.player e.f.val c.val
  .next (if p.playing = true ∧ p.bj ≤ s1.beat + 6 then s1.latchJump e.f.val c.val else s1)

/-- WR (R190): a write of RING[r].WR, or of its doorbell (14_serial_links.md Table 14.2). -/
def execRingWr (path : Path) (f : Fin 32) (r : Fin 8) (v : Word) (bell : Bool) (s : State) :
    Host.Outcome State Fault Refusal :=
  .next (s.viaBell path (pWaveform f.val) (ringReg r.val 5) v
    (if bell then some (0x100 + 0x20 * f.val + 4 * r.val) else none) (fun t => t.ringWrite f.val r.val v))

/-- RING_REFILL (R191). -/
def execRingRefill (e : FrondEv) (r : Fin 8) (s : State) : Host.Outcome State Fault Refusal :=
  .next ((s.at e.b).ringRefill e.f.val r.val)

/-- UNDERRUN (R194, R195) of channel c. -/
def execRingUnderrun (e : FrondEv) (c : Fin 40) (s : State) : Host.Outcome State Fault Refusal :=
  .next ((s.at e.b).ringUnderrun e.f.val c.val)

end Sys2Proof.Machine
end

