-- ==== Sys2Proof/Machine/Dispatch.lean ====
section
/-! DEFINITION. Dispatch: one arm per constructor of Instr, each a direct call of the command's meaning. -/
namespace Sys2Proof.Machine

def exec (i : Instr) (s : State) : Host.Outcome State Fault Refusal :=
  match i with
  | .registerWrite path a v be => Sys2Proof.Machine.execRegisterWrite path a v be s
  | .loRead path a dw be => Sys2Proof.Machine.execLoRead path a dw be s
  | .loWrite path a v => Sys2Proof.Machine.execLoWrite path a v s
  | .hiWrite path a v => Sys2Proof.Machine.execHiWrite path a v s
  | .flagsClear path a v => Sys2Proof.Machine.execFlagsClear path a v s
  | .flagsSet path a v => Sys2Proof.Machine.execFlagsSet path a v s
  | .flagsEnWrite path a v => Sys2Proof.Machine.execFlagsEnWrite path a v s
  | .cntClr path a => Sys2Proof.Machine.execCntClr path a s
  | .shadowWrite path a v => Sys2Proof.Machine.execShadowWrite path a v s
  | .powerOnReset => Sys2Proof.Machine.execPowerOnReset s
  | .pinReset => Sys2Proof.Machine.execPinReset s
  | .supplyReset => Sys2Proof.Machine.execSupplyReset s
  | .wakeN => Sys2Proof.Machine.execWakeN s
  | .bootStepComplete b r => Sys2Proof.Machine.execBootStepComplete b r s
  | .bootStepTimeout b t units => Sys2Proof.Machine.execBootStepTimeout b t units s
  | .modeReqRun path key => Sys2Proof.Machine.execModeReqRun path key s
  | .modeReqReady path key => Sys2Proof.Machine.execModeReqReady path key s
  | .modeReqService path key => Sys2Proof.Machine.execModeReqService path key s
  | .modeReqDormant path key => Sys2Proof.Machine.execModeReqDormant path key s
  | .modeReqHold path key => Sys2Proof.Machine.execModeReqHold path key s
  | .runStopComplete b => Sys2Proof.Machine.execRunStopComplete b s
  | .stopTimeout b => Sys2Proof.Machine.execStopTimeout b s
  | .warmReset path key => Sys2Proof.Machine.execWarmReset path key s
  | .thermalLockPowerOff b => Sys2Proof.Machine.execThermalLockPowerOff b s
  | .pgoodLost b d => Sys2Proof.Machine.execPgoodLost b d s
  | .domGateWrite path v => Sys2Proof.Machine.execDomGateWrite path v s
  | .clrCnt path => Sys2Proof.Machine.execClrCnt path s
  | .logMirror path => Sys2Proof.Machine.execLogMirror path s
  | .pcieFundamentalReset b => Sys2Proof.Machine.execPcieFundamentalReset b s
  | .functionLevelReset b fn => Sys2Proof.Machine.execFunctionLevelReset b fn s
  | .clockUnlock b ref => Sys2Proof.Machine.execClockUnlock b ref s
  | .mainPllRelock => Sys2Proof.Machine.execMainPllRelock s
  | .pfAbortDoorbell b v => Sys2Proof.Machine.execPfAbortDoorbell b v s
  | .vfAbortDoorbell b fn v => Sys2Proof.Machine.execVfAbortDoorbell b fn v s
  | .abortN b low => Sys2Proof.Machine.execAbortN b low s
  | .ndeorAbort b port w => Sys2Proof.Machine.execNdeorAbort b port w s
  | .decisionBusRecord b f r dst perr => Sys2Proof.Machine.execDecisionBusRecord b f r dst perr s
  | .beatCountSample b => Sys2Proof.Machine.execBeatCountSample b s
  | .openGroup path g key => Sys2Proof.Machine.execOpenGroup path g key s
  | .armGroup path g key => Sys2Proof.Machine.execArmGroup path g key s
  | .abortGroup path g key => Sys2Proof.Machine.execAbortGroup path g key s
  | .validationComplete b g => Sys2Proof.Machine.execValidationComplete b g s
  | .readyBeat b g => Sys2Proof.Machine.execReadyBeat b g s
  | .decisionBeat b g => Sys2Proof.Machine.execDecisionBeat b g s
  | .applyBeat b g => Sys2Proof.Machine.execApplyBeat b g s
  | .groupExpired b g => Sys2Proof.Machine.execGroupExpired b g s
  | .clusterVote b g => Sys2Proof.Machine.execClusterVote b g s
  | .voteReceived b dst w => Sys2Proof.Machine.execVoteReceived b dst w s
  | .clusterDecide b g => Sys2Proof.Machine.execClusterDecide b g s
  | .decideReceived b dst w => Sys2Proof.Machine.execDecideReceived b dst w s
  | .outcomeLost b port w => Sys2Proof.Machine.execOutcomeLost b port w s
  | .uwNext e => Sys2Proof.Machine.execUwNext e s
  | .uwGoto e => Sys2Proof.Machine.execUwGoto e s
  | .uwBrt e => Sys2Proof.Machine.execUwBrt e s
  | .uwBrf e => Sys2Proof.Machine.execUwBrf e s
  | .uwCall e => Sys2Proof.Machine.execUwCall e s
  | .uwRet e => Sys2Proof.Machine.execUwRet e s
  | .uwLoop e => Sys2Proof.Machine.execUwLoop e s
  | .uwDispatch e => Sys2Proof.Machine.execUwDispatch e s
  | .uwShotBegin e => Sys2Proof.Machine.execUwShotBegin e s
  | .uwShotEnd e => Sys2Proof.Machine.execUwShotEnd e s
  | .uwSync e => Sys2Proof.Machine.execUwSync e s
  | .uwHalt e => Sys2Proof.Machine.execUwHalt e s
  | .uwWaitev e => Sys2Proof.Machine.execUwWaitev e s
  | .uwIrq e => Sys2Proof.Machine.execUwIrq e s
  | .aluMovi e => Sys2Proof.Machine.execAluMovi e s
  | .aluAddi e => Sys2Proof.Machine.execAluAddi e s
  | .aluSubi e => Sys2Proof.Machine.execAluSubi e s
  | .aluMov e => Sys2Proof.Machine.execAluMov e s
  | .aluAdd e => Sys2Proof.Machine.execAluAdd e s
  | .aluSub e => Sys2Proof.Machine.execAluSub e s
  | .aluShl6 e => Sys2Proof.Machine.execAluShl6 e s
  | .aluLdlc e => Sys2Proof.Machine.execAluLdlc e s
  | .aluLdlci e => Sys2Proof.Machine.execAluLdlci e s
  | .aluRdslot e => Sys2Proof.Machine.execAluRdslot e s
  | .aluRdlc e => Sys2Proof.Machine.execAluRdlc e s
  | .aluRdshot e => Sys2Proof.Machine.execAluRdshot e s
  | .waitAdd e => Sys2Proof.Machine.execWaitAdd e s
  | .waitParam e => Sys2Proof.Machine.execWaitParam e s
  | .waitClamp e => Sys2Proof.Machine.execWaitClamp e s
  | .stallRelease e => Sys2Proof.Machine.execStallRelease e s
  | .waitResume e => Sys2Proof.Machine.execWaitResume e s
  | .holdRelease e => Sys2Proof.Machine.execHoldRelease e s
  | .cmdHalt path e key => Sys2Proof.Machine.execCmdHalt path e key s
  | .interruptEntry e => Sys2Proof.Machine.execInterruptEntry e s
  | .xyStart e => Sys2Proof.Machine.execXyStart e s
  | .probeStart e => Sys2Proof.Machine.execProbeStart e s
  | .fluxStart e => Sys2Proof.Machine.execFluxStart e s
  | .jumpRequest e => Sys2Proof.Machine.execJumpRequest e s
  | .readoutWindow e => Sys2Proof.Machine.execReadoutWindow e s
  | .evPulse e => Sys2Proof.Machine.execEvPulse e s
  | .frameToggleX e => Sys2Proof.Machine.execFrameToggleX e s
  | .frameToggleZ e => Sys2Proof.Machine.execFrameToggleZ e s
  | .frameToggleXz e => Sys2Proof.Machine.execFrameToggleXz e s
  | .frameClear e => Sys2Proof.Machine.execFrameClear e s
  | .frameClearAll e => Sys2Proof.Machine.execFrameClearAll e s
  | .frameXorSlot e => Sys2Proof.Machine.execFrameXorSlot e s
  | .shotEndIssue e => Sys2Proof.Machine.execShotEndIssue e s
  | .syncIssue e => Sys2Proof.Machine.execSyncIssue e s
  | .shotStatusItem e => Sys2Proof.Machine.execShotStatusItem e s
  | .segmentBoundary e c => Sys2Proof.Machine.execSegmentBoundary e c s
  | .jumpLatch e c => Sys2Proof.Machine.execJumpLatch e c s
  | .ringWr path f r v bell => Sys2Proof.Machine.execRingWr path f r v bell s
  | .ringRefill e r => Sys2Proof.Machine.execRingRefill e r s
  | .ringUnderrun e c => Sys2Proof.Machine.execRingUnderrun e c s
  | .stbSw path v => Sys2Proof.Machine.execStbSw path v s
  | .ldacN b k => Sys2Proof.Machine.execLdacN b k s
  | .strobeLoad h n => Sys2Proof.Machine.execStrobeLoad h n s
  | .clrNAssert b => Sys2Proof.Machine.execClrNAssert b s
  | .clrNRelease b => Sys2Proof.Machine.execClrNRelease b s
  | .adcOvr e => Sys2Proof.Machine.execAdcOvr e s
  | .feSwitch e => Sys2Proof.Machine.execFeSwitch e s
  | .toneChange e t => Sys2Proof.Machine.execToneChange e t s
  | .selfcal path f key => Sys2Proof.Machine.execSelfcal path f key s
  | .selfcalDone e pairs => Sys2Proof.Machine.execSelfcalDone e pairs s
  | .macmin e t codes ecc => Sys2Proof.Machine.execMacmin e t codes ecc s
  | .windowResult e t => Sys2Proof.Machine.execWindowResult e t s
  | .wmemDataLoRead path f => Sys2Proof.Machine.execWmemDataLoRead path f s
  | .deadlinePassed b n r => Sys2Proof.Machine.execDeadlinePassed b n r s
  | .armNotice e perr => Sys2Proof.Machine.execArmNotice e perr s
  | .slotResolution e perr => Sys2Proof.Machine.execSlotResolution e perr s
  | .lockstepDisagreement b unit frames => Sys2Proof.Machine.execLockstepDisagreement b unit frames s
  | .ndeorDecisionRecord b dst w => Sys2Proof.Machine.execNdeorDecisionRecord b dst w s
  | .trigIn b k falling held => Sys2Proof.Machine.execTrigIn b k falling held s
  | .timeMatch b c => Sys2Proof.Machine.execTimeMatch b c s
  | .swtrigFire path c => Sys2Proof.Machine.execSwtrigFire path c s
  | .autoTrigger b c => Sys2Proof.Machine.execAutoTrigger b c s
  | .captureEnd b c => Sys2Proof.Machine.execCaptureEnd b c s
  | .holdoffEnd b c => Sys2Proof.Machine.execHoldoffEnd b c s
  | .dataRecord b c raw demod lost => Sys2Proof.Machine.execDataRecord b c raw demod lost s
  | .hostCopy b c => Sys2Proof.Machine.execHostCopy b c s
  | .hostRd path c v bell => Sys2Proof.Machine.execHostRd path c v bell s
  | .queueFirstWord b k => Sys2Proof.Machine.execQueueFirstWord b k s
  | .queueWord b k => Sys2Proof.Machine.execQueueWord b k s
  | .queueHead path q => Sys2Proof.Machine.execQueueHead path q s
  | .headTimeout b q => Sys2Proof.Machine.execHeadTimeout b q s
  | .drainCopy b q => Sys2Proof.Machine.execDrainCopy b q s
  | .queueDrd path q v bell => Sys2Proof.Machine.execQueueDrd path q v bell s
  | .queueRelease path q n => Sys2Proof.Machine.execQueueRelease path q n s
  | .queueAll path q => Sys2Proof.Machine.execQueueAll path q s
  | .queueMark path q => Sys2Proof.Machine.execQueueMark path q s
  | .queueRewind path q => Sys2Proof.Machine.execQueueRewind path q s
  | .queueFlush path q => Sys2Proof.Machine.execQueueFlush path q s
  | .queueTimeout b q => Sys2Proof.Machine.execQueueTimeout b q s
  | .swpulse path p j v => Sys2Proof.Machine.execSwpulse path p j v s
  | .channelEvent b c => Sys2Proof.Machine.execChannelEvent b c s
  | .clockSet path m key => Sys2Proof.Machine.execClockSet path m key s
  | .clockAdj path m key => Sys2Proof.Machine.execClockAdj path m key s
  | .clockSnap path m key => Sys2Proof.Machine.execClockSnap path m key s
  | .clockAlarm m n => Sys2Proof.Machine.execClockAlarm m n s
  | .mappingPair b m ph => Sys2Proof.Machine.execMappingPair b m ph s
  | .syncMessage x => Sys2Proof.Machine.execSyncMessage x s
  | .followUp x => Sys2Proof.Machine.execFollowUp x s
  | .delayReq x => Sys2Proof.Machine.execDelayReq x s
  | .delayResp x => Sys2Proof.Machine.execDelayResp x s
  | .pdelayReq x => Sys2Proof.Machine.execPdelayReq x s
  | .pdelayResp x => Sys2Proof.Machine.execPdelayResp x s
  | .pdelayRespFollowUp x => Sys2Proof.Machine.execPdelayRespFollowUp x s
  | .announce x => Sys2Proof.Machine.execAnnounce x s
  | .signaling x => Sys2Proof.Machine.execSignaling x s
  | .management x raw full => Sys2Proof.Machine.execManagement x raw full s
  | .ptpMessageTx m n port kind => Sys2Proof.Machine.execPtpMessageTx m n port kind s
  | .announceTimeout m n port ann => Sys2Proof.Machine.execAnnounceTimeout m n port ann s
  | .servoSel path m v => Sys2Proof.Machine.execServoSel path m v s
  | .syncReqSend b phi => Sys2Proof.Machine.execSyncReqSend b phi s
  | .syncReq b port phi turn w => Sys2Proof.Machine.execSyncReq b port phi turn w s
  | .syncResp b port phi w => Sys2Proof.Machine.execSyncResp b port phi w s
  | .startSend b => Sys2Proof.Machine.execStartSend b s
  | .startHi b port w => Sys2Proof.Machine.execStartHi b port w s
  | .startLo b port w => Sys2Proof.Machine.execStartLo b port w s
  | .beatCounterLoad b => Sys2Proof.Machine.execBeatCounterLoad b s
  | .csyncPing b dst w => Sys2Proof.Machine.execCsyncPing b dst w s
  | .csyncPong b dst w => Sys2Proof.Machine.execCsyncPong b dst w s
  | .csyncJoin path key => Sys2Proof.Machine.execCsyncJoin path key s
  | .csyncLeave path key => Sys2Proof.Machine.execCsyncLeave path key s
  | .csyncRemeasure path key => Sys2Proof.Machine.execCsyncRemeasure path key s
  | .parentLinkLoss b => Sys2Proof.Machine.execParentLinkLoss b s
  | .holdMs b => Sys2Proof.Machine.execHoldMs b s
  | .joinMs b => Sys2Proof.Machine.execJoinMs b s
  | .ethFrameRx port kind bytes full => Sys2Proof.Machine.execEthFrameRx port kind bytes full s
  | .ethFrameTx port bytes => Sys2Proof.Machine.execEthFrameTx port bytes s
  | .ndeorFrame b port lane ok mode dst cls phi turn w => Sys2Proof.Machine.execNdeorFrame b port lane ok mode dst cls phi turn w s
  | .trainingStateDone b p vals dev => Sys2Proof.Machine.execTrainingStateDone b p vals dev s
  | .trainingTimeout b p alt => Sys2Proof.Machine.execTrainingTimeout b p alt s
  | .portRetrain path p v => Sys2Proof.Machine.execPortRetrain path p v s
  | .portEidle path p v => Sys2Proof.Machine.execPortEidle path p v s
  | .fastExit b p => Sys2Proof.Machine.execFastExit b p s
  | .laneSlip path n v => Sys2Proof.Machine.execLaneSlip path n v s
  | .laneResume path n v => Sys2Proof.Machine.execLaneResume path n v s
  | .prbsChk path n v => Sys2Proof.Machine.execPrbsChk path n v s
  | .prbsGen path n v => Sys2Proof.Machine.execPrbsGen path n v s
  | .injFire path n v => Sys2Proof.Machine.execInjFire path n v s
  | .mboxTx path w => Sys2Proof.Machine.execMboxTx path w s
  | .mboxRxLoRead path => Sys2Proof.Machine.execMboxRxLoRead path s
  | .gddr7CrcError b c kind persist => Sys2Proof.Machine.execGddr7CrcError b c kind persist s
  | .bar2Read path off n => Sys2Proof.Machine.execBar2Read path off n s
  | .bar2Write path off bytes => Sys2Proof.Machine.execBar2Write path off bytes s
  | .smbusRegRead a => Sys2Proof.Machine.execSmbusRegRead a s
  | .smbusRegWrite a v => Sys2Proof.Machine.execSmbusRegWrite a v s
  | .smbusWake => Sys2Proof.Machine.execSmbusWake s
  | .smbusMode => Sys2Proof.Machine.execSmbusMode s
  | .jtagDebug a v => Sys2Proof.Machine.execJtagDebug a v s
  | .calFull path f key => Sys2Proof.Machine.execCalFull path f key s
  | .calDac path f key => Sys2Proof.Machine.execCalDac path f key s
  | .dacCalDone e pairs => Sys2Proof.Machine.execDacCalDone e pairs s
  | .estimateDone e ests weak => Sys2Proof.Machine.execEstimateDone e ests weak s
  | .quietSlotDecision e found => Sys2Proof.Machine.execQuietSlotDecision e found s
  | .calDue e => Sys2Proof.Machine.execCalDue e s
  | .calOverdue e => Sys2Proof.Machine.execCalOverdue e s
  | .group63Round b => Sys2Proof.Machine.execGroup63Round b s
  | .trimTakeEffect e u => Sys2Proof.Machine.execTrimTakeEffect e u s
  | .fuseBurn path key => Sys2Proof.Machine.execFuseBurn path key s
  | .fuseBurnDone ok => Sys2Proof.Machine.execFuseBurnDone ok s
  | .fuseRevoke path key g => Sys2Proof.Machine.execFuseRevoke path key g s
  | .windowBecomesSet b h w levels ph => Sys2Proof.Machine.execWindowBecomesSet b h w levels ph s
  | .winmonEnable path w v => Sys2Proof.Machine.execWinmonEnable path w v s
  | .winmonResolve b h w levels ph => Sys2Proof.Machine.execWinmonResolve b h w levels ph s
  | .thermoExc path h c v => Sys2Proof.Machine.execThermoExc path h c v s
  | .thermoResult h c m => Sys2Proof.Machine.execThermoResult h c m s
  | .hkConversion h x => Sys2Proof.Machine.execHkConversion h x s
  | .hkInject path h key => Sys2Proof.Machine.execHkInject path h key s
  | .hkCalAdc path h key => Sys2Proof.Machine.execHkCalAdc path h key s
  | .hkCalBias path h key => Sys2Proof.Machine.execHkCalBias path h key s
  | .hkCalThermo path h key => Sys2Proof.Machine.execHkCalThermo path h key s
  | .hkCalDone b h pairs => Sys2Proof.Machine.execHkCalDone b h pairs s
  | .timerPeriod h n => Sys2Proof.Machine.execTimerPeriod h n s
  | .powerSample p => Sys2Proof.Machine.execPowerSample p s
  | .modelStep b nodes => Sys2Proof.Machine.execModelStep b nodes s
  | .diodeReading b k t => Sys2Proof.Machine.execDiodeReading b k t s
  | .diodeReadmit path key k => Sys2Proof.Machine.execDiodeReadmit path key k s
  | .counterSnap path b p key => Sys2Proof.Machine.execCounterSnap path b p key s
  | .lcProvision path key => Sys2Proof.Machine.execLcProvision path key s
  | .lcDeploy path key => Sys2Proof.Machine.execLcDeploy path key s
  | .lcReturn path key => Sys2Proof.Machine.execLcReturn path key s
  | .lcRaiseFloor path key => Sys2Proof.Machine.execLcRaiseFloor path key s
  | .debugUnlock path key => Sys2Proof.Machine.execDebugUnlock path key s
  | .debugLock path key => Sys2Proof.Machine.execDebugLock path key s
  | .tamperAlarm b src => Sys2Proof.Machine.execTamperAlarm b src s
  | .frondScrubEnd b f => Sys2Proof.Machine.execFrondScrubEnd b f s
  | .granuleScrubEnd b k => Sys2Proof.Machine.execGranuleScrubEnd b k s
  | .getVersion => Sys2Proof.Machine.execGetVersion s
  | .getCapabilities ver => Sys2Proof.Machine.execGetCapabilities ver s
  | .negotiateAlgorithms ver asym hash dhe aead => Sys2Proof.Machine.execNegotiateAlgorithms ver asym hash dhe aead s
  | .getDigests ver => Sys2Proof.Machine.execGetDigests ver s
  | .getCertificate ver slot off len => Sys2Proof.Machine.execGetCertificate ver slot off len s
  | .challenge ver slot nonce => Sys2Proof.Machine.execChallenge ver slot nonce s
  | .getMeasurements ver index sign nonce => Sys2Proof.Machine.execGetMeasurements ver index sign nonce s
  | .keyExchange ver slot sid pub => Sys2Proof.Machine.execKeyExchange ver slot sid pub s
  | .finish ver sid mac => Sys2Proof.Machine.execFinish ver sid mac s
  | .heartbeat ver sid => Sys2Proof.Machine.execHeartbeat ver sid s
  | .keyUpdate ver sid op => Sys2Proof.Machine.execKeyUpdate ver sid op s
  | .endSession ver sid => Sys2Proof.Machine.execEndSession ver sid s
  | .uncorrectableSramError b => Sys2Proof.Machine.execUncorrectableSramError b s
  | .modeTransitionDone b => Sys2Proof.Machine.execModeTransitionDone b s
  | .pcieLinkUp b width up => Sys2Proof.Machine.execPcieLinkUp b width up s
  | .lifecycleTransitionDone => Sys2Proof.Machine.execLifecycleTransitionDone s
  | .fuseRevokeDone => Sys2Proof.Machine.execFuseRevokeDone s
  | .polarityReversal h c => Sys2Proof.Machine.execPolarityReversal h c s
  | .refreshInterval b temps => Sys2Proof.Machine.execRefreshInterval b temps s

end Sys2Proof.Machine
end

