-- ==== Sys2Proof/Machine/Step.lean ====
section
/-! DEFINITION. Step: one step of the block: the command at the front of the queue, or, on an empty queue, one beat. -/
namespace Sys2Proof.Machine

/-- What the block does by itself: one beat passes while the beat counter runs (01_architecture.md R28; log entry 1). -/
def State.idle (s : State) : State := if s.clockOn then s.at (s.beat + 1) else s

/-- Take the command at the front of the queue and run it with the queue's rest; on an empty queue a beat passes. -/
def step (s : State) : Host.Outcome State Fault Refusal :=
  match s.pending with
  | [] => .next s.idle
  | c :: rest => exec c { s with pending := rest }

/-- The state with the command a word spells at the front of its queue; no word spells one. -/
def State.withFetchWord (s : State) (nbits w : Nat) : State :=
  match decodeTableWord nbits w with
  | some c => { s with pending := c :: s.pending }
  | none => s

end Sys2Proof.Machine
end

