-- ==== Sys2Proof/Safety.lean ====
section
/-! DEFINITION. Safety: the canonical form of the register file and of the memories, and what a safe run is, in the terms the claims
use. -/
namespace Sys2Proof.Machine

/-- The canonical form of GDDR7 (14_serial_links.md R392; log entry 9): addresses strictly rising, and no entry equal to what an
unlisted address reads as. -/
def Memory.wf (m : List Host.Cell) : Bool := Tab.wf (fun _ => 0) m

/-- The register file and every memory that is addressed have their canonical form. -/
def State.canon (s : State) : Bool :=
  Tab.wf regReset s.regs && Memory.wf s.gddr && Tab.wf (fun _ => 0) s.cs && Tab.wf (fun _ => 0) s.descs
    && Tab.wf (fun _ => 0) s.lists && Tab.wf (fun _ => 0) s.sram && Tab.wf (fun _ => 0) s.wmem && Tab.wf (fun _ => 0) s.qmem

/-- A block register: at offset 0x100 or above of its page, the pages of the event counters apart. What lies below are the page's
common header and local counters, which any event may move (03_register_pages.md Table 3.1). -/
def blockReg (a : Nat) : Bool := decide (0x100 ≤ a % 0x1000) && !(decide (0xB02000 ≤ a) && decide (a < 0xB12000))

/-- A write of a path to the registers of a page is admitted (03_register_pages.md R84, R87, R90; 02_modes_power_boot.md
R58): the path is live, the interconnect grants it, the page is not locked, its unit is powered, and no VF reaches a frond page in
SERVICE; and no earlier write of the path still waits (R78). -/
abbrev State.admits (s : State) (path : Path) (p : Pg) : Prop :=
  s.pathLive path = true ∧ s.grant path p true = .ok ∧ s.powered p = true
    ∧ ¬(s.mode = 4 ∧ p.kind.inFrond = true ∧ path.isVf = true) ∧ s.heldBy none path = none

/-- A read of a path may reach the registers of a page (R84, R90). -/
abbrev State.reads (s : State) (path : Path) (p : Pg) : Prop :=
  s.pathLive path = true ∧ (s.grant path p false = .ok ∨ s.grant path p false = .locked) ∧ s.powered p = true

/-- No earlier access makes an access of a path wait: none of the page behind a HEAD read, no write of the path (R78;
11_acquisition_queues.md R318). -/
abbrev State.freePage (s : State) (path : Path) (a : Nat) : Prop := ∀ w : Bool, s.heldQueue none path a w = none

/-- A safe step: the block goes on, and its registers and memories keep their canonical form. -/
def State.safeStep (s : State) : Bool :=
  match step s with
  | .next t => t.canon
  | .fault _ => false
  | .refused _ => false

end Sys2Proof.Machine
end

