-- ==== Sys2Proof/Certificates/Slice0/Obligations.lean ====
section
/-! DEFINITION. The statements about the block, for the provers, and the few terms only they use. -/
open Sys2Proof Sys2Proof.Machine

/-- The commands that may write GDDR7: register accesses (a lifecycle command, a reset, a capture's software trigger), BAR2 writes,
what triggers or ends captures and writes marks and records, commits (at their apply beat, or at the sample that gives a domain its count
again) and resets that zero memory, a relock and a lockstep disagreement, with which a beat passes or ends, and the commands after which
accesses held behind a HEAD read take their turns. -/
def Claims.mayWriteGddr : Instr → Bool
  | .registerWrite .. | .loWrite .. | .hiWrite .. | .flagsClear .. | .flagsSet .. | .flagsEnWrite .. | .cntClr .. | .shadowWrite ..
  | .smbusRegWrite .. | .jtagDebug .. | .bar2Write .. => true
  | .timeMatch .. | .swtrigFire .. | .autoTrigger .. | .trigIn .. | .dataRecord .. | .evPulse .. | .channelEvent ..
  | .windowBecomesSet .. | .winmonResolve .. => true
  | .applyBeat .. | .beatCountSample .. | .pinReset | .supplyReset | .modeTransitionDone .. | .lifecycleTransitionDone | .tamperAlarm .. => true
  | .mainPllRelock | .lockstepDisagreement .. | .pcieFundamentalReset ..
  | .functionLevelReset .. | .queueFirstWord .. | .queueWord .. | .headTimeout .. => true
  | _ => false

/-- The requests for a mode other than HOLD: command and target mode. -/
def Claims.requests (path : Path) : List (Instr × Nat) :=
  [(.modeReqRun path 0x4D44, 3), (.modeReqReady path 0x4D44, 2), (.modeReqService path 0x4D44, 4), (.modeReqDormant path 0x4D44, 0)]

/-- What puts the block into HOLD at beat b: the ABORT doorbell of the physical function, and an uncorrectable SRAM error. -/
abbrev Claims.holds (b : Nat) (c : Instr) : Prop := c = .pfAbortDoorbell b 0x41420000 ∨ c = .uncorrectableSramError b

/-- The CLEAR_CODE of a DAC unit of a frond that acts at the balls in the present beat (07_drive_outputs.md R218). -/
def Claims.clearCode (t : State) (f u : Nat) : Int :=
  if u < 4 then sgn (fld (t.rdBall (unitPage f u) 0x108 t.beat) 13 0) 14 else sgn (fld (t.rdBall (unitPage f u) 0x10C t.beat) 15 0) 16

/-- The block is in HOLD (02_modes_power_boot.md R52, Table 2.1): FAULT_N is low, and every drive output that is powered and not cut off by
its mute switch carries its CLEAR_CODE. -/
abbrev Claims.inHold (t : State) : Prop :=
  t.mode = 5 ∧ t.faultLow = true ∧ (∀ f, t.forced f = true) ∧
    ∀ f u i, t.powered (unitPage f u) = true → t.unitMuted f u = false → t.ballCode f u i = some (Claims.clearCode t f u)

/-- What a tuft abort leaves of a frond of the tuft (01_architecture.md R39): no queued bundle, outputs held at CLEAR_CODE, TUFT_ABORT
flagged, no player playing, every slot EMPTY, and its frames clear. -/
abbrev Claims.frondAborted (t : State) (f : Nat) : Prop :=
  (t.crz f).queue = [] ∧ (t.crz f).forced = true ∧ t.rdB (pCrozier f) 0x14 9 = true ∧ (∀ c, c < 64 → (t.player f c).playing = false) ∧
    (∀ k, k < 16 → (t.slot f k).st = 0) ∧ t.rd pSorus (0x200 + 4 * f) = 0

/-- The rows named after a sequence operation of a microword, with its code (05_crozier_sequencer.md Table 5.2). -/
def Claims.seqOps (e : WordEv) : List (Instr × Nat) :=
  [(.uwNext e, 0), (.uwGoto e, 1), (.uwBrt e, 2), (.uwBrf e, 3), (.uwCall e, 4), (.uwRet e, 5), (.uwLoop e, 6), (.uwDispatch e, 7),
   (.uwShotBegin e, 8), (.uwShotEnd e, 9), (.uwSync e, 10), (.uwHalt e, 11), (.uwWaitev e, 12), (.uwIrq e, 13)]

/-- The rows named after an ALU operation, with its code (Table 5.7). -/
def Claims.aluOps (e : WordEv) : List (Instr × Nat) :=
  [(.aluMovi e, 1), (.aluAddi e, 2), (.aluSubi e, 3), (.aluMov e, 4), (.aluAdd e, 5), (.aluSub e, 6), (.aluShl6 e, 7), (.aluLdlc e, 8),
   (.aluLdlci e, 9), (.aluRdslot e, 10), (.aluRdlc e, 11), (.aluRdshot e, 12)]

/-- The rows named after a wait mode, with its code (Table 5.4). -/
def Claims.waitOps (e : WordEv) : List (Instr × Nat) := [(.waitAdd e, 0), (.waitParam e, 1), (.waitClamp e, 2)]

/-- The rows that give a paused Crozier an opportunity, with the STATE it is paused in (Table 5.18). -/
def Claims.resumes (e : WordEv) : List (Instr × Nat) := [(.holdRelease e, 2), (.stallRelease e, 3), (.waitResume e, 4)]

/-- The word at PC raises no fault, meets no interrupt, need not wait, stall or hold, does not crowd its issue beat, and, at
SHOT_BEGIN, the Crozier is enabled and switches no bank. -/
abbrev Claims.wordFree (u : State) (f : Nat) : Prop :=
  u.wordFault f (u.fetch f) = none ∧ u.irqInput f = none ∧ u.blocked f (u.fetch f) = none ∧
    ((u.fetch f).op = 8 → u.rdB (pCrozier f) 0x100 0 = true ∧ u.rdB (pCrozier f) 0x10 22 = u.rdB (pCrozier f) 0x148 16) ∧
    u.crowds f (u.fetch f) = false

/-- The state in which a word reads its slots and conditions and posts: TC stamped, RUNNING, and a new shot begun. -/
def Claims.readState (u : State) (f : Nat) (w : Uw) : State :=
  let s1 := (u.setTc f (u.stamp f w)).setCrzState f 1
  if w.op = 8 then s1.beginShot f (u.stamp f w) else s1

/-- The loop counter a LOOP word tests: as its own ALU operation leaves it. -/
def Claims.loopCount (u : State) (f : Nat) (w : Uw) : Nat :=
  if w.alu = 8 ∧ w.dst = w.cond then u.par f w.src % 2 ^ 24 else if w.alu = 9 ∧ w.dst = w.cond then w.src + 1 else u.lc f w.cond

/-- Where a word goes next (Table 5.2). -/
def Claims.nextPc (u : State) (f : Nat) (w : Uw) : Nat :=
  let r := Claims.readState u f w
  let next := u.pc f + 1
  match w.op with
  | 1 | 4 => w.target
  | 2 => if r.cond f w.cond (u.par f 0) = .val true then w.target else next
  | 3 => if r.cond f w.cond (u.par f 0) = .val false then w.target else next
  | 5 => (u.crz f).stack.headD 0
  | 6 => if 1 < Claims.loopCount u f w then w.target else next
  | 7 => match (r.slotValue f (w.cond % 16)).1 with
    | some v => w.target + 1 + v
    | none => w.target
  | 11 => u.pc f
  | _ => next

/-- What an ALU operation computes (Table 5.7). -/
def Claims.aluValue (u : State) (f : Nat) (w : Uw) : Nat :=
  let d := u.par f w.dst
  let x := u.par f w.src
  match w.alu with
  | 1 => w.src
  | 2 => d + w.src
  | 3 => d + 2 ^ 32 - w.src
  | 4 => x
  | 5 => d + x
  | 6 => d + 2 ^ 32 - x
  | 7 => d * 64 + w.src
  | 8 => x
  | 9 => w.src + 1
  | 10 => (Claims.readState u f w).rdSlot f (w.src % 16)
  | 11 => u.lc f w.src
  | _ => (u.rd (pCrozier f) 0x118).toNat + (if w.op = 8 then 1 else 0)

/-- The frame rows whose operation needs no slot, with the code (Table 5.6). -/
def Claims.frameOps (e : FrondEv) : List (Instr × Nat) :=
  [(.frameToggleX e, 1), (.frameToggleZ e, 2), (.frameToggleXz e, 3), (.frameClear e, 4), (.frameClearAll e, 5)]

/-- A source of a capture context may make a new trigger at T, the latest beat in which one is met (11_acquisition_queues.md R302, R304,
R308). -/
abbrev Claims.mayTrigger (u : State) (c src T : Nat) : Prop :=
  let v := u.acqStep c
  v.acqLive c = true ∧ v.rdB (pAcq c) 0x110 src = true ∧ v.acqOwns c src = true ∧ v.acqAccepts c T = true ∧
    (∀ m ∈ (v.acq c).met, m.t < T) ∧ (∀ m ∈ (v.acq c).marks, m.1 < T) ∧ (v.acq c).trigT ≠ some T

/-- What a trigger taken at T leaves (Table 11.8, R305, R308): counted, flagged and dated, its mark waiting, and a GATED context
RECORDING. -/
abbrev Claims.triggered (u t : State) (c src T : Nat) (late : Bool) : Prop :=
  t.rd (pAcq c) 0x15C = u.rd (pAcq c) 0x15C + 1 ∧ t.rdB (pAcq c) 0x14 0 = true ∧ t.rd64 (pAcq c) 0x160 = T % 2 ^ 64 ∧
    (t.acq c).trigT = some T ∧ (t.acq c).marks = ((u.acqStep c).acq c).marks ++ [(T, 2 ^ src, late)] ∧
    t.acqState c = (if u.acqGated c = true then 2 else (u.acqStep c).acqState c)

/-- The header of a data record (Table 11.3): KIND, the payload's length, the first beat, FRONDS and TONES as they are captured at it, and
SEQ. -/
def Claims.dataHeader (v : State) (c len first seq : Nat) : List Nat :=
  let sel := v.acqSel c first
  [2 ^ 60 + c * 2 ^ 56 + fld sel.1 9 8 * 2 ^ 54 + v.devField * 2 ^ 43 + len % 2 ^ 32, first,
    sel.2.1.toNat * 2 ^ 32 + fld sel.2.2 15 0, seq % 2 ^ 32, 0, 0, 0, 0]

/-- Instance n alone serves a message, and no instance is the transparent clock (13_time_and_cluster.md R352, R355, R356). -/
abbrev Claims.onlyServes (u : State) (n : Nat) (x : PtpMsg) : Prop :=
  u.ptpServes n x = true ∧ u.ptpServes (1 - n) x = false ∧ u.ptpTc 0 = false ∧ u.ptpTc 1 = false
/-- Device time moves forward only, and stands while the main clock is unlocked. A command that names a beat later than the present one finds the block at that beat, where the main clock is locked and nothing moves by itself meanwhile; a beat that has passed, or any beat while the clock is unlocked, changes nothing. BEAT_COUNT_SAMPLE does no more than let the beat come, unless the clock has relocked since: then the first sample gives the domains their counts, and no page waits for it any more; a page that waits for its domain's edge alone still does. That a command brings the time to its beat is the model's choice (log entry 1). (01_architecture.md, R34, R121, notes/assumptions/1.md) -/
def Obligations.BeatsPass : Prop :=
  ∀ (s : State) (b : Nat),
    ((∀ r, (s.at b).time.resync = some r → (s.at b).beat / 256 * 256 < r) → exec (.beatCountSample b) s = .next (s.at b)) ∧
    (∀ r, (s.at b).time.resync = some r → r ≤ (s.at b).beat / 256 * 256 →
      ∃ t, exec (.beatCountSample b) s = .next t ∧ t.time.resync = none ∧ ∀ h ∈ t.time.held, h.due.isSome = true) ∧
    (s.clockOn = true → s.quiet = true → (s.at b).beat = max s.beat b) ∧
    (s.clockOn = false → s.at b = s) ∧ (b ≤ s.beat → s.at b = s)

/-- DECISION_BUS_RECORD reaches each receiver once, exactly its latency after its beat, and is discarded on a parity error. The record frond f placed in beat r reaches receiver dst in beat r plus the fixed latency: none for the frond itself, 12 for the central units, 24 for another frond. A record that reached it before, or in any other beat, changes nothing. A record with a parity error is discarded by the unit whole. (R19, R20, 01_architecture.md, 10_sorus_feedback.md) -/
def Obligations.BusRecordDelivered : Prop :=
  ∀ (s : State) (b r : Nat) (f : Fin 32) (dst : Fin 33) (x : BusRec),
    (s.at b).bus.find? (fun y => y.frond == f.val && y.beat == r) = some x →
    ((dst.val ∈ x.sent ∨ (s.at b).beat ≠ r + busLat f.val dst.val) → ∀ perr,
      exec (.decisionBusRecord b f r dst perr) s = .next (s.at b)) ∧
    (dst.val ∉ x.sent → (s.at b).beat = r + busLat f.val dst.val → x.sent.length ≠ 32 →
      let bus := (s.at b).bus.map (fun y => if y.frond = f.val ∧ y.beat = r then { y with sent := dst.val :: x.sent } else y)
      exec (.decisionBusRecord b f r dst true) s = .next (State.unitDiscard { s.at b with bus := bus } dst.val x) ∧
      (dst.val ≠ 32 → exec (.decisionBusRecord b f r dst false) s = .next (State.unitRecord { s.at b with bus := bus } dst.val x)))

/-- A wake trigger in DORMANT starts BOOT at step 1, or only counts under thermal lock. WAKE_N and the SMBus command WAKE act in DORMANT alone, once a power-on reset has come. Without a thermal lock the block enters BOOT: MODE_STAT shows BOOT and PREV DORMANT, BOOT_STAT shows step 1 and no result, the boot sequence number advances, and no other register and no byte of GDDR7 changes. With the lock only the wake counter of the boot log advances. In any other mode nothing happens. A power-on reset brings DORMANT with the always-on domain, and boots by itself where the fuse BOOT_AUTO is set. (R47, R55, R394, 02_modes_power_boot.md) -/
def Obligations.WakeBoots : Prop :=
  ∀ (s : State),
    (∀ c, (c = .wakeN ∨ c = .smbusWake) →
      (s.mode = 0 → s.boot.por = false → s.thermLock = false →
        ∃ t, exec c s = .next t ∧ t.mode = 1 ∧ t.rdF pMode 0x100 10 8 = 0 ∧ t.rdF pBoot 0x100 23 19 = 1 ∧ t.rdF pBoot 0x100 31 28 = 0 ∧
          t.boot.seq = (s.boot.seq + 1) % 65536 ∧ t.gddr = s.gddr ∧ t.beat = s.beat ∧
          ∀ a, a ≠ pMode.reg 0x100 → a ≠ pBoot.reg 0x100 → a ≠ pPower.reg 0x100 → t.rdA a = s.rdA a) ∧
      (s.mode = 0 → s.boot.por = false → s.thermLock = true →
        exec c s = .next { s with boot := { s.boot with wakeCount := s.boot.wakeCount + 1 } }) ∧
      (s.mode ≠ 0 → exec c s = .next s)) ∧
    (s.mode = 0 → s.boot.por = true →
      ∃ t, exec .powerOnReset s = .next t ∧ t.boot.por = false ∧
        (Config.bootAuto = false → t.mode = 0) ∧ (Config.bootAuto = true → s.thermLock = false → t.mode = 1 ∧ t.rdF pBoot 0x100 23 19 = 1))

/-- PIN_RESET and SUPPLY_RESET return every register to its reset value but for what each keeps. After either reset the block is in DORMANT: every register outside the DEBUG and FUSEBANK pages holds its reset value except the bits that fuses hold and, after a pin reset, the boot log's head and failure counters, the thermal lock and its cause. Memories, queues, groups and sequencers are empty, the beat counter stands at 0.  The state is one whose registers have their canonical form, which every step keeps (CanonKept). What fuses hold, and that the beat counter restarts at 0, are readings of the model (log entries 3 and 24). (R63, 02_modes_power_boot.md, notes/assumptions/3.md, notes/assumptions/24.md) -/
def Obligations.ResetsClear : Prop :=
  ∀ (s : State), s.canon = true →
    (∃ t, exec .pinReset s = .next t ∧ t.mode = 0 ∧ t.beat = 0 ∧ t.gddr = [] ∧ t.croz = [] ∧ t.queues = [] ∧ t.groups = [] ∧ t.shadow = [] ∧
      t.boot.por = true ∧ t.boot.log = s.boot.log ∧
      ∀ a, a / 0x1000 ≠ pDebug.base / 0x1000 → a / 0x1000 ≠ pFusebank.base / 0x1000 →
        t.rdA a = (s.rdA a &&& pinMask a) ||| (regReset a &&& ~~~(pinMask a))) ∧
    (∃ t, exec .supplyReset s = .next t ∧ t.mode = 0 ∧ t.beat = 0 ∧ t.gddr = [] ∧ t.croz = [] ∧ t.queues = [] ∧ t.groups = [] ∧
      t.shadow = [] ∧ t.boot.por = true ∧ t.boot.logValid = false ∧ t.thermLock = false ∧
      ∀ a, a / 0x1000 ≠ pDebug.base / 0x1000 → a / 0x1000 ≠ pFusebank.base / 0x1000 →
        t.rdA a = (s.rdA a &&& supplyMask a) ||| (regReset a &&& ~~~(supplyMask a)))

/-- A mode request with the key starts a listed transition; a wrong key, an unlisted one or a busy sequencer refuses it. An admitted write of MODE_REQ or MODE_RESET with the key, for a transition that Table 2.2 lists and whose conditions hold, with none in progress, makes that transition the one in progress: BUSY is set, nothing else changes; from RUN the stop begins, limited by STOP_TIMEOUT. A write without the key, of a transition the table does not list, during another, or whose conditions fail is refused with its cause. MODE_REQ with TARGET HOLD enters HOLD at once. (R47, R48, R49, R50, R54, R56, R58, R65, 02_modes_power_boot.md) -/
def Obligations.ModeRequests : Prop :=
  ∀ (s : State) (path : Path), s.admits path pMode →
    (∀ c t, (c, t) ∈ Claims.requests path →
      (s.boot.target = none → modeListed s.mode t = true → s.modeCond t = true → s.mode ≠ 3 →
        exec c s = .next (s.setTarget (some t)) ∧ (s.setTarget (some t)).rdB pMode 0x100 14 = true ∧ (s.setTarget (some t)).mode = s.mode) ∧
      (s.boot.target ≠ none → exec c s = .next (s.modeRefuse 2 0x104)) ∧
      (s.boot.target = none → modeListed s.mode t = false → exec c s = .next (s.modeRefuse 1 0x104)) ∧
      (s.boot.target = none → modeListed s.mode t = true → s.modeCond t = false → exec c s = .next (s.modeRefuse 3 0x104))) ∧
    (s.mode = 3 → s.boot.target = none → s.modeCond 2 = true → s.rdF pMode 0x10C 23 0 ≠ 0 →
      ∃ t, exec (.modeReqReady path 0x4D44) s = .next t ∧ t.boot.target = some 2 ∧
        t.boot.stopAt = some (s.beat + 1000 * s.rdF pMode 0x10C 23 0) ∧ t.mode = 3) ∧
    (∀ key : BitVec 16, key ≠ 0x4D44 →
      exec (.modeReqRun path key) s = .next (s.modeRefuse 4 0x104) ∧ exec (.modeReqHold path key) s = .next (s.modeRefuse 4 0x104) ∧
      exec (.warmReset path key) s = .next (s.modeRefuse 4 0x110)) ∧
    (s.mode ≠ 0 → exec (.modeReqHold path 0x4D44) s = .next (s.enterHold 0)) ∧
    (s.mode = 0 → exec (.modeReqHold path 0x4D44) s = .next (s.modeRefuse 1 0x104)) ∧
    ((s.mode = 2 ∨ s.mode = 4 ∨ s.mode = 5) → s.thermLock = false → s.cal.burn = none → s.boot.target = none →
      exec (.warmReset path 0x4D44) s = .next (s.setTarget (some 6)))

/-- A transition that completes leaves the block in its target mode with BUSY clear. MODE_TRANSITION_DONE enters the mode that the transition in progress leads to: RUN, SERVICE, READY, DORMANT, or BOOT after a warm reset. RUN_STOP_COMPLETE enters READY once no frond is inside a shot: MODE_STAT shows READY and PREV RUN with BUSY clear, and the mode forces the outputs from the ball beat 24 beats later on. STOP_TIMEOUT does the same once its limit has passed, after halting each Crozier that is still inside a shot, which flags MODE.STOP_TIMEOUT; every shot has then ended. Before the limit, or with no stop in progress, either command changes nothing. The state is one whose registers have their canonical form (CanonKept). (R50, R56, R57, R58, R63, 02_modes_power_boot.md) -/
def Obligations.ModeChanges : Prop :=
  ∀ (s : State) (b : Nat), s.canon = true →
    (∀ k, (s.at b).boot.target = some k → (k = 3 ∨ k = 4 ∨ k = 0 ∨ (k = 2 ∧ (s.at b).mode ≠ 3)) →
      ∃ t, exec (.modeTransitionDone b) s = .next t ∧ t.mode = k ∧ t.boot.target = none) ∧
    ((s.at b).boot.target = some 6 → ∃ t, exec (.modeTransitionDone b) s = .next t ∧ t.mode = 1 ∧ t.gddr = [] ∧ t.croz = []) ∧
    ((s.at b).mode = 3 → (s.at b).boot.target = some 2 → (s.at b).shotFronds = [] →
      ∃ t, exec (.runStopComplete b) s = .next t ∧ t = (s.at b).runStopped ∧ t.mode = 2 ∧ t.boot.target = none ∧ t.rdB pMode 0x100 14 = false ∧
        t.rdF pMode 0x100 10 8 = 3 ∧ t.beat = (s.at b).beat ∧ ∀ m, 24 ≤ m → State.modeForced { t with beat := t.beat + m } = true) ∧
    (∀ l, (s.at b).mode = 3 → (s.at b).boot.target = some 2 → (s.at b).boot.stopAt = some l → l ≤ (s.at b).beat →
      ∃ t, exec (.stopTimeout b) s = .next t ∧ t.mode = 2 ∧ t.boot.target = none ∧ t.rdB pMode 0x100 14 = false ∧
        t.rdF pMode 0x100 10 8 = 3 ∧ t.beat = (s.at b).beat ∧ (∀ m, 24 ≤ m → State.modeForced { t with beat := t.beat + m } = true) ∧
        t.shotFronds = [] ∧ ((s.at b).shotFronds ≠ [] → t.rdB pMode 0x14 1 = true) ∧
        ∀ f, f ∈ (s.at b).shotFronds → t.active f = false ∧ ((t.crz f).forced = true ∨ t.crz f = {})) ∧
    ((s.at b).mode ≠ 3 ∨ (s.at b).boot.target ≠ some 2 →
      exec (.runStopComplete b) s = .next (s.at b) ∧ exec (.stopTimeout b) s = .next (s.at b)) ∧
    (∀ l, (s.at b).boot.stopAt = some l → (s.at b).beat < l → exec (.stopTimeout b) s = .next (s.at b))

/-- Every abort, fatal fault and loss of the clock leaves the block in HOLD, with every output forced to CLEAR_CODE. Outside DORMANT, the ABORT doorbell of the physical function with the abort value, an uncorrectable SRAM error, loss of power-good in a domain that is on, an ABORT flit where ABORT_IN is set, loss of the main clock, and ABORT_N held low for 4 beats or more, 7 beats after its edge, end in a next state in HOLD: FAULT_N low, every powered drive output that is not cut off by its mute switch at its CLEAR_CODE; for ABORT_N from 17 beats after that entry on, 24 beats after the edge (R40), or at once where the block was in HOLD with its outputs forced. A loss of the main clock also stops the beat counter. A doorbell write of another value, loss of power-good in a domain that is off, and a low pulse under 4 beats change nothing; ABORT_N high leaves only its level. (R33, R38, R40, R51, R52, R59, R391, 02_modes_power_boot.md) -/
def Obligations.HoldEntered : Prop :=
  ∀ (s : State) (b : Nat),
    ((s.at b).mode ≠ 0 →
      (∀ c, Claims.holds b c → ∃ t, exec c s = .next t ∧ Claims.inHold t) ∧
      (∀ d : Fin 26, d.val ≠ 0 → (s.at b).domOn d.val = true → ∃ t, exec (.pgoodLost b d) s = .next t ∧ Claims.inHold t) ∧
      (∀ (p : Fin 4) (w : BitVec 64), (s.at b).rdB pNdeor 0x100 0 = true →
        ((s.at b).newCast (nfld w.toNat 59 55) 3 (nfld w.toNat 54 39)).1 = true →
        ∃ t, exec (.ndeorAbort b p w) s = .next t ∧ Claims.inHold t) ∧
      (∀ ref : Bool, (s.at b).clockOn = true → ∃ t, exec (.clockUnlock b ref) s = .next t ∧ Claims.inHold t ∧ t.clockOn = false)) ∧
    (∀ n, 4 ≤ n → (s.at (b + 7)).mode ≠ 0 →
      ∃ t, exec (.abortN b (some n)) s = .next t ∧ t.mode = 5 ∧ t.faultLow = true ∧ t.pins.abortLow = true ∧ t.rdB pMode 0x108 5 = true ∧
        ((s.at (b + 7)).mode ≠ 5 → ∀ m, 17 ≤ m → Claims.inHold { t with beat := t.beat + m }) ∧
        ((s.at (b + 7)).mode = 5 → (∀ f, (s.at (b + 7)).forced f = true) → Claims.inHold t)) ∧
    (∀ n, n < 4 → exec (.abortN b (some n)) s = .next (s.at b)) ∧
    exec (.abortN b none) s = .next ((s.at b).abortLevel false) ∧
    (∀ v : Word, v ≠ 0x41420000 → exec (.pfAbortDoorbell b v) s = .next (s.at b)) ∧
    (∀ d : Fin 26, (s.at b).domOn d.val = false → exec (.pgoodLost b d) s = .next (s.at b))

/-- When the main PLL chain locks again the beat counter resumes at its held value plus 1. In HOLD, with the main clock unlocked, its domain on and start-up past step 5, MAIN_PLL_RELOCK lets the beat counter run on from its held value plus 1: the beat in which it stood ends as every beat does. MAIN_LOCK and FABRIC_LOCK show the lock, the mapping history is empty, and no domain has its beat count. Where nothing moves by itself GDDR7 stays as it is. In any other state the command changes nothing. (R34, R351, 01_architecture.md) -/
def Obligations.ClockRelocks : Prop :=
  ∀ s : State,
    (s.mode = 5 → s.clockOn = false → s.domOn 9 = true → (s.rdF pBoot 0x100 23 19 = 0 ∨ 5 < s.rdF pBoot 0x100 23 19) →
      ∃ u : State, exec .mainPllRelock s = .next u.beatTick ∧ u.clockOn = true ∧ u.beat = s.beat ∧ u.time.pairs = [] ∧
        u.time.resync = some (s.beat + 1) ∧ u.gddr = s.gddr ∧ (∀ a, a ≠ pTimeline.reg 0x108 → u.rdA a = s.rdA a) ∧
        u.beatTick.clockOn = true ∧ u.beatTick.beat = s.beat + 1 ∧ u.beatTick.time.pairs = [] ∧ (s.quiet = true → u.beatTick.gddr = s.gddr)) ∧
    (¬(s.mode = 5 ∧ s.clockOn = false ∧ s.domOn 9 = true ∧ (s.rdF pBoot 0x100 23 19 = 0 ∨ 5 < s.rdF pBoot 0x100 23 19)) →
      exec .mainPllRelock s = .next s)

/-- A boot step that passes starts the next one; a STOP step that fails or exceeds its timeout ends in HOLD. For the steps whose policy is STOP and that hold no calibration (1, 2, 3, 4, 6 and 15), BOOT_STEP_COMPLETE with no cause, its domains switched on, starts the step after it at the cycle at which it ended; while a domain of the step is still off it changes nothing; with a cause, and on BOOT_STEP_TIMEOUT, the block enters HOLD. A step result dated before the latest one or past the step's timeout, a timeout before it has passed (in step 8, less than 100 ms after the step's start), and a result outside BOOT change nothing. (R66, R67, 02_modes_power_boot.md) -/
def Obligations.BootSteps : Prop :=
  ∀ (s : State) (b n : Nat) (r : BootRes),
    ((s.at b).mode = 1 → (s.at b).rdF pBoot 0x100 23 19 = n → n ∈ [1, 2, 3, 4, 6, 15] → (s.at b).boot.now ≤ r.t → r.t ≤ (s.at b).stepEnd →
      (r.cause = 0 → (s.at b).stepBusy n r.units = false →
        ∃ t, exec (.bootStepComplete b r) s = .next t ∧ t.rdF pBoot 0x100 23 19 = n + 1 ∧ t.boot.started = r.t) ∧
      (r.cause = 0 → (s.at b).stepBusy n r.units = true → exec (.bootStepComplete b r) s = .next (s.at b)) ∧
      (r.cause ≠ 0 → ∃ t, exec (.bootStepComplete b r) s = .next t ∧ t.mode = 5) ∧
      (∀ x us, (s.at b).stepEnd ≤ x → ∃ t, exec (.bootStepTimeout b x us) s = .next t ∧ t.mode = 5)) ∧
    (∀ x us, x < (s.at b).stepEnd → ((s.at b).bootStep ≠ 8 ∨ x < (s.at b).boot.started + 2500000) →
      exec (.bootStepTimeout b x us) s = .next (s.at b)) ∧
    (((s.at b).mode ≠ 1 ∨ r.t < (s.at b).boot.now ∨ (s.at b).stepEnd < r.t) → exec (.bootStepComplete b r) s = .next (s.at b))

/-- CLR_CNT clears the failure counters, MIRROR copies the log, DOM_GATE takes the gates of slices without an owned frond. Admitted writes of LOG_CTRL clear every failure counter, or copy the log, its head, sequence number and counters to the mirror, and change no other register. An admitted write of DOM_GATE outside READY, with no frond owned by a tuft, stores bits 25 to 10 of the value and changes nothing else. (R62, R72, R73, 02_modes_power_boot.md) -/
def Obligations.BootLogCommands : Prop :=
  ∀ (s : State) (path : Path),
    (s.admits path pBoot → exec (.clrCnt path) s = .next (s.wr pBoot 0x11C 0) ∧
      ∃ t, exec (.logMirror path) s = .next t ∧ t.boot.mirror = s.boot.log ∧ t.boot.mirrorHead = s.rdF pBoot 0x108 13 8 ∧
        t.boot.mirrorSeq = s.boot.seq ∧ t.boot.mirrorCnt = s.rd pBoot 0x11C ∧ t.regs = s.regs) ∧
    (∀ v : Word, s.admits path pPower → s.mode ≠ 2 → (∀ f, f < 32 → s.frondOwner f = 0x1F) →
      ∃ t, exec (.domGateWrite path v) s = .next t ∧ t.rd pPower 0x104 = v &&& 0x03FFFC00 ∧
        ∀ a, a ≠ pPower.reg 0x104 → t.rdA a = s.rdA a)

/-- A fundamental reset takes the PCIe link down, PCIE_LINK_UP shows it up, a function-level reset clears the function's latches. PERST_N low clears PCIE.LINK and PCIE.MASTER before the accesses that wait take their turns. The link comes up with its width and speed in a powered endpoint that is not fenced, at one of the five widths and five speeds; at any other nothing changes. An FLR of a virtual function clears every HI latch and LO staging latch of that function and leaves GDDR7 alone before any waiting access takes its turn; other functions keep theirs. (R63, R64, R315, R481, 02_modes_power_boot.md) -/
def Obligations.LinkResets : Prop :=
  ∀ (s : State) (b : Nat),
    (∃ u : State, exec (.pcieFundamentalReset b) s = .next u.turns ∧ u.rd pPcie 0x100 = 0 ∧ u.rd pPcie 0x104 = 0 ∧
      ((∀ e ∈ u.queues, e.2.behind = []) → u.turns = u)) ∧
    (∀ (w : Nat) (up : PcieUp), w ∉ [1, 2, 4, 8, 16] ∨ up.speed = 0 ∨ 5 < up.speed → exec (.pcieLinkUp b w up) s = .next (s.at b)) ∧
    (∀ (w : Nat) (up : PcieUp), (s.at b).domOn 3 = true → (s.at b).boot.fencedPcie = false → w ∈ [1, 2, 4, 8, 16] → 1 ≤ up.speed → up.speed ≤ 5 →
      ∃ t, exec (.pcieLinkUp b w up) s = .next t ∧ t.rd pPcie 0x100 =
          BitVec.ofNat 32 (w % 32 * 2 ^ 16 + up.speed % 8 * 2 ^ 8 + (if up.linkIde then 2 else 0) + 1) ∧ t.rd pPcie 0x104 = up.ideSel) ∧
    (∀ fn : Fin 32, fn.val ≠ 0 →
      ∃ u : State, exec (.functionLevelReset b fn) s = .next u.turns ∧ u.gddr = (s.at b).gddr ∧
        (∀ k, k / 2 ^ 26 = (Path.func fn).code → Tab.get 0 u.hiLatch k = 0 ∧ Tab.get none u.loStage k = none) ∧
        (∀ k, k / 2 ^ 26 ≠ (Path.func fn).code → Tab.get 0 u.hiLatch k = Tab.get 0 (s.at b).hiLatch k ∧
          Tab.get none u.loStage k = Tab.get none (s.at b).loStage k))

/-- A virtual function's ABORT doorbell aborts its tuft alone; thermal lock ends HOLD with only the domains that R55 keeps. Written with the abort value, the doorbell of a virtual function that has a tuft aborts every frond of the tuft: its queue is empty, its players are idle, its slots EMPTY, its frames clear, its outputs held, TUFT_ABORT flagged. TIMELINE.ABORT_STAT shows DOORBELL and the function; the mode, and the sequencer and players of every other frond, stay as they are. From a function without a tuft it is logged and counted. Any other value changes nothing. Ten milliseconds after entry to HOLD under thermal lock (while the beat counter stands, when the command comes: log entry 44), the power sequencer, at rest, is to switch the slice, GDDR7, Ndeor and Ethernet domains off, one each 50 µs, the first at once, and every other stays as it is (at once, while the beat counter stands); otherwise that command changes nothing. The SMBus command MODE answers THERM_LOCK and the mode. (R38, R39, R55, R376, R394, 01_architecture.md) -/
def Obligations.TuftAborts : Prop :=
  (∀ (s : State) (b : Nat) (fn : Fin 32) (v : Word), fn.val ≠ 0 →
    (v ≠ 0x41420000 → exec (.vfAbortDoorbell b fn v) s = .next (s.at b)) ∧
    (∀ k, (s.at b).tuftOf fn.val = some k →
      ∃ t, exec (.vfAbortDoorbell b fn 0x41420000) s = .next t ∧ t.rdB pTimeline 0x10C 1 = true ∧ t.rdF pTimeline 0x10C 12 8 = fn.val ∧
        t.mode = (s.at b).mode ∧ (∀ f, f < 32 → (s.at b).frondOwner f = k → Claims.frondAborted t f) ∧
        (∀ f, f < 32 → (s.at b).frondOwner f ≠ k → t.crz f = (s.at b).crz f ∧ ∀ c, c < 64 → t.player f c = (s.at b).player f c)) ∧
    ((s.at b).tuftOf fn.val = none →
      exec (.vfAbortDoorbell b fn 0x41420000) s = .next (((s.at b).violate (.func fn) 4 4 0 true).count pPcie 1 1))) ∧
  (∀ (s : State) (b : Nat),
    ((s.at b).thermLock = true → (s.at b).mode = 5 → (s.at b).heldLong = true → (s.at b).boot.sw = [] →
      ∃ t, exec (.thermalLockPowerOff b) s = .next t ∧ t.mode = 5 ∧
        (∀ d, d < 26 → t.domWill d = (if d ∈ [4, 5, 6] ∨ 10 ≤ d then false else (s.at b).domOn d)) ∧
        ((s.at b).clockOn = false → t.boot.sw = []) ∧
        ((s.at b).clockOn = true → (s.at b).boot.swAt = none →
          t.boot.sw.map (fun x => x.2.2) = (List.range t.boot.sw.length).map (fun i => (s.at b).beat + 50000 * (i + 1)))) ∧
    ((s.at b).thermLock = false ∨ (s.at b).mode ≠ 5 ∨ (s.at b).heldLong = false → exec (.thermalLockPowerOff b) s = .next (s.at b))) ∧
  (∀ s : State, exec .smbusMode s = .next (s.emit (.smbus (some [BitVec.ofNat 8 ((if s.thermLock then 128 else 0) + s.mode)]))))

/-- A warm reset asked for in RUN, in DORMANT or under thermal lock is refused with its cause (R65). A write of MODE_RESET.WARM with its key, admitted to the page, is refused in RUN and in DORMANT with ERR_CAUSE 0x01, and in any other mode but BOOT under thermal lock with ERR_CAUSE 0x03: the mode, the sequencer and memory stay as they are. (R65) -/
def Obligations.WarmRefused : Prop :=
  ∀ (s : State) (path : Path), s.admits path pMode →
    (s.mode = 3 ∨ s.mode = 0 → ∃ t, exec (.warmReset path 0x4D44) s = .next t ∧ t.rdF pMode 0x20 15 0 = 1 ∧ t.mode = s.mode ∧
      t.boot = s.boot ∧ t.gddr = s.gddr) ∧
    (s.mode = 2 ∨ s.mode = 4 ∨ s.mode = 5 → s.thermLock = true → ∃ t, exec (.warmReset path 0x4D44) s = .next t ∧
      t.rdF pMode 0x20 15 0 = 3 ∧ t.mode = s.mode ∧ t.boot = s.boot ∧ t.gddr = s.gddr)

/-- A step runs the command at the front of the queue. For every state whose queue of waiting commands begins with c, a step answers what c does to the state with the queue's rest. (00_scope.md, notes/assumptions/1.md) -/
def Obligations.StepRunsFront : Prop :=
  ∀ (s : State) (c : Instr) (rest : List Instr), s.pending = c :: rest → step s = exec c { s with pending := rest }

/-- On an empty queue a beat passes while the beat counter runs, and nothing happens while it stands. With no command waiting, a step answers a next state: one beat later where the main clock is locked, and the same state where it is not. That a step of an idle block is one beat is the model's choice (log entry 1). (01_architecture.md, notes/assumptions/1.md) -/
def Obligations.StepIdles : Prop :=
  ∀ s : State, s.pending = [] →
    (s.clockOn = true → step s = .next (s.at (s.beat + 1))) ∧ (s.clockOn = false → step s = .next s)

/-- No command stops the block: every command, in every state, answers a next state. For every command and every state there is a next state that the command answers: the spec gives every row of its table an effect, and the model neither faults nor refuses any. (00_scope.md, 03_register_pages.md) -/
def Obligations.EveryCommandAnswers : Prop :=
  ∀ (c : Instr) (s : State), ∃ t, exec c s = .next t

/-- Every step keeps the canonical form of the register file and of the memories. From every state whose register file, GDDR7, control stores, descriptor and list tables, sample SRAMs, weight memories and queue memories are in canonical form (keys strictly rising, no entry equal to what an unlisted key reads as), every step that answers a next state answers one with that form. So equal contents are always equal data. The form is the model's own (log entry 9). (03_register_pages.md, 14_serial_links.md, notes/assumptions/9.md) -/
def Obligations.CanonKept : Prop :=
  ∀ s t : State, s.canon = true → step s = .next t → t.canon = true

/-- The register file and the memories are in canonical form after reset. The state after reset lists nothing in any memory and is in canonical form. (02_modes_power_boot.md, notes/assumptions/9.md) -/
def Obligations.ResetCanon : Prop :=
  State.reset.canon = true ∧ State.reset.regs = [] ∧ State.reset.gddr = [] ∧ State.reset.pending = []

/-- Only the named commands write GDDR7; every other command leaves every byte of it as it was. For every command that is none of the named ones (accesses of registers, BAR2 writes, the commands that write records or marks of a capture context or run event tasks, a commit, resets and mode changes that scrub, a lifecycle change, tamper, and the commands after which accesses held behind a HEAD read take their turns), every byte of GDDR7 reads afterwards as it did before, from a state in which time alone writes nothing there; none does in which nothing moves by itself. (11_acquisition_queues.md, 14_serial_links.md, 18_tufts_and_security.md) -/
def Obligations.GddrOnlyBy : Prop :=
  (∀ (c : Instr) (s t : State), Claims.mayWriteGddr c = false → (∀ n, (s.at n).gddr = s.gddr) → exec c s = .next t →
    ∀ a : Nat, Tab.get 0 t.gddr a = Tab.get 0 s.gddr a) ∧
  (∀ s : State, s.quiet = true → ∀ n, (s.at n).gddr = s.gddr)

/-- REGISTER_WRITE stores a register's writable bits and leaves every other register and GDDR7 unchanged. An aligned one-dword write with all byte enables, admitted by the interconnect, to a mapped register that is no half of a pair, holds no RW-C field and has no rule of its own, ends in a next state in which the register has its RW bits from the write, its W1C bits cleared where the write has ones and its W1S bits set where it has ones; every other register, GDDR7 and the beat are unchanged. (R77, R78, R90, 03_register_pages.md) -/
def Obligations.RegisterWriteStores : Prop :=
  ∀ (s : State) (path : Path) (a : BitVec 25) (v : Word) (p : Pg) (off : Nat),
    place a.toNat = some (p, off) → s.freePage path a.toNat → s.admits path p → a.toNat % 4 = 0 → 0x20 ≤ off → off < 0x800 →
    (regRow p off).pair = 0 → (regRow p off).rwc = 0 → s.pointBusy p off = false → s.special path p off v = none →
    ∃ t, exec (.registerWrite path a [v] true) s = .next t ∧
      (∀ x, t.rdA x = if x = a.toNat then plainBits (regRow p off) (s.rdA a.toNat) v else s.rdA x) ∧
      t.gddr = s.gddr ∧ t.beat = s.beat

/-- A write that breaks the access form is dropped whole and recorded with cause ACCESS_SIZE. A write to a mapped page by a requester that may write it, with some byte enable clear, ends in a next state in which ERR_CAUSE of the page holds cause 0x82 with the offset, ERR_COUNT has gone up by one (unless the counters are frozen), and every other register is unchanged. (R77, R85, 03_register_pages.md) -/
def Obligations.RegisterWriteDropped : Prop :=
  ∀ (s : State) (path : Path) (a : BitVec 25) (v : List Word) (p : Pg) (off : Nat),
    place a.toNat = some (p, off) → s.admits path p →
    ∃ t, exec (.registerWrite path a v false) s = .next t ∧
      t.rd p 0x20 = BitVec.ofNat 32 (off / 4 % 1024 * 2 ^ 16 + 0x82) ∧
      t.rd p 0x24 = (if s.rdB p 0x0C 1 then s.rd p 0x24 else satInc (s.rd p 0x24) 1) ∧
      (∀ x, x ≠ p.reg 0x20 → x ≠ p.reg 0x24 → t.rdA x = s.rdA x) ∧ t.gddr = s.gddr

/-- LO_READ returns the LO word and latches the HI word for the requester. A granted read of the LO register of a pair of a powered page returns its bits [31:0] and copies the upper bits into that requester's latch; nothing else changes. A read of HI returns the latch. A two-dword read at the LO address returns both words. A read of LO in the shadow view does the same with the pending value and a latch of its own; one of MBOX_RX_LO takes the word it returns (NdeorFrames). A read of a register that is no half of a pair, queue heads and live lane registers apart, returns its value. A read of an unpowered unit returns 0, of an unmapped address 0 too, and one with some byte enable clear 0 in every dword, recorded with cause ACCESS_SIZE. (R96) -/
def Obligations.PairRead : Prop :=
  ∀ (s : State) (path : Path) (a : BitVec 25) (p : Pg) (off : Nat),
    (place a.toNat = some (p, off) → s.freePage path a.toNat → s.reads path p → a.toNat % 4 = 0 →
      (off < 0x800 → (regRow p off).pair = 1 → ¬(p.kind = .ndeor ∧ off = 0x14C) →
        exec (.loRead path a 1 true) s = .next { s with
                                                  hiLatch := Tab.set 0 s.hiLatch (latchKey path a.toNat) (s.regVal path p (off + 4)),
                                                  outbox := readOut path [s.regVal path p off] :: s.outbox }) ∧
      (off < 0x800 → (regRow p off).pair = 2 →
        exec (.loRead path a 1 true) s = .next (s.emit (readOut path [Tab.get 0 s.hiLatch (latchKey path (a.toNat - 4))]))) ∧
      (a.toNat % 8 = 0 → off < 0x800 → (regRow p off).pair = 1 → ¬(p.kind = .ndeor ∧ off = 0x14C) → (regRow p (off + 4)).pair = 2 →
        place (a.toNat + 4) = some (p, off + 4) → s.freePage path (a.toNat + 4) →
        exec (.loRead path a 2 true) s = .next { s with
          hiLatch := Tab.set 0 s.hiLatch (latchKey path a.toNat) (s.regVal path p (off + 4)),
          outbox := readOut path [s.regVal path p (off + 4)] :: readOut path [s.regVal path p off] :: s.outbox }) ∧
      (0x800 ≤ off → (regRow p (off - 0x800)).pair = 1 →
        exec (.loRead path a 1 true) s = .next { s with
          hiLatch := Tab.set 0 s.hiLatch (latchKey path (p.reg (off - 0x800) + 2 ^ 25)) (s.viewVal path p (off - 0x800 + 4)),
          outbox := readOut path [s.viewVal path p (off - 0x800)] :: s.outbox }) ∧
      (p.kind = .ndeor → off = 0x14C → exec (.loRead path a 1 true) s = .next (s.mboxRead path)) ∧
      (off < 0x800 → (regRow p off).pair = 0 → ¬(p.kind = .queue ∧ off = 0x100) → ¬(p.kind = .nlane ∧ (off = 0x10C ∨ off = 0x110)) →
        exec (.loRead path a 1 true) s = .next (s.emit (readOut path [s.regVal path p off])))) ∧
    (place a.toNat = some (p, off) → s.pathLive path = true → (s.grant path p false = .ok ∨ s.grant path p false = .locked) →
      (s.freePage path a.toNat → a.toNat % 4 = 0 → s.powered p = false → heldOff (off % 0x800) = false →
        exec (.loRead path a 1 true) s = .next (s.emit (readOut path [0]))) ∧
      (∀ dw : Nat, exec (.loRead path a dw false) s = .next ((s.recErr p 0x82 off).emit (readOut path (List.replicate dw 0))))) ∧
    (place a.toNat = none → s.pathLive path = true → a.toNat % 4 = 0 →
      exec (.loRead path a 1 true) s = .next ((s.unmapped path a.toNat false).emit (readOut path [0])))

/-- LO_WRITE goes to the requester's staging latch; HI_WRITE applies HI with the staged LO in one cycle. For a writable RW pair of a page other than CLOCK and NDEOR: an admitted write of LO stages its value for the requester and changes no register; an admitted write of HI puts HI and the staged LO, or the current LO where none is staged, into the two registers at once, empties the staging latch, and changes no other register. (R97, 03_register_pages.md) -/
def Obligations.PairWrite : Prop :=
  ∀ (s : State) (path : Path) (a : BitVec 25) (v : Word) (p : Pg) (off : Nat),
    place a.toNat = some (p, off) → s.freePage path a.toNat → s.admits path p → a.toNat % 4 = 0 → 0x100 ≤ off → off < 0x800 →
    s.pointBusy p off = false → p.kind ≠ .clock → p.kind ≠ .ndeor → p.kind ≠ .calf → (regRow p off).rw ≠ 0 → (regRow p off).rwc = 0 →
    ((regRow p off).pair = 1 →
      exec (.loWrite path a v) s = .next { s with loStage := Tab.set none s.loStage (latchKey path a.toNat) (some v) }) ∧
    ((regRow p off).pair = 2 →
      ∃ t, exec (.hiWrite path a v) s = .next t ∧
        t.rdA a.toNat = plainBits (regRow p off) (s.rdA a.toNat) v ∧
        (∀ w, Tab.get none s.loStage (latchKey path (a.toNat - 4)) = some w →
          t.rdA (a.toNat - 4) = plainBits (regRow p (off - 4)) (s.rdA (a.toNat - 4)) w) ∧
        (Tab.get none s.loStage (latchKey path (a.toNat - 4)) = none → t.rdA (a.toNat - 4) = s.rdA (a.toNat - 4)) ∧
        Tab.get none t.loStage (latchKey path (a.toNat - 4)) = none ∧
        (∀ x, x ≠ a.toNat → x ≠ a.toNat - 4 → t.rdA x = s.rdA x) ∧ t.gddr = s.gddr)

/-- FLAGS_CLEAR, FLAGS_SET and FLAGS_EN_WRITE set the page's flags and send the interrupt where the pending value is left non-zero. An admitted write of FLAGS clears the flags it has ones for, but for those that the present beat itself has set, of FLAGS_SET sets them, and of FLAGS_EN replaces the enables, in each case for the page's flags alone; the result is the state after that write and the interrupt rule of R99. No block register, no event counter page and no memory changes. (R99, R11, 03_register_pages.md) -/
def Obligations.FlagWrites : Prop :=
  ∀ (s : State) (path : Path) (a : BitVec 25) (v : Word) (p : Pg),
    s.freePage path a.toNat → s.admits path p →
    (place a.toNat = some (p, 0x14) → ∃ t, exec (.flagsClear path a v) s = .next t ∧
      t.rd p 0x14 = s.rd p 0x14 &&& ~~~(v &&& BitVec.ofNat 32 p.kind.flagMask &&& ~~~(BitVec.ofNat 32 (s.setNow p))) ∧
      (s.flagNow = [] → t.rd p 0x14 = s.rd p 0x14 &&& ~~~(v &&& BitVec.ofNat 32 p.kind.flagMask)) ∧
      t = (s.wr p 0x14 (s.rd p 0x14 &&& ~~~(v &&& BitVec.ofNat 32 p.kind.flagMask &&& ~~~(BitVec.ofNat 32 (s.setNow p))))).irqAfterWrite p ∧
      ∀ x, blockReg x = true → t.rdA x = s.rdA x) ∧
    (place a.toNat = some (p, 0x1C) → ∃ t, exec (.flagsSet path a v) s = .next t ∧
      t.rd p 0x14 = s.rd p 0x14 ||| (v &&& BitVec.ofNat 32 p.kind.flagMask) ∧
      t = (s.wr p 0x14 (s.rd p 0x14 ||| (v &&& BitVec.ofNat 32 p.kind.flagMask))).irqAfterWrite p ∧
      ∀ x, blockReg x = true → t.rdA x = s.rdA x) ∧
    (place a.toNat = some (p, 0x18) → ∃ t, exec (.flagsEnWrite path a v) s = .next t ∧
      t.rd p 0x18 = v &&& BitVec.ofNat 32 p.kind.flagMask ∧
      t = (s.wr p 0x18 (v &&& BitVec.ofNat 32 p.kind.flagMask)).irqAfterWrite p ∧
      ∀ x, blockReg x = true → t.rdA x = s.rdA x)

/-- The page interrupt is one MSI-X message to CTRL.IRQ_VEC of the owner's function. Where a flag write leaves the pending value of a page non-zero and the page's owner has a function with that vector, unmasked, one MSI-X message to it leaves the device and nothing else changes; a masked vector sets its pending bit, and no message leaves; where the pending value is zero nothing leaves. (R99, R374, 03_register_pages.md) -/
def Obligations.IrqSends : Prop :=
  ∀ (s : State) (p : Pg) (fn : Nat),
    (s.pendingIrq p ≠ 0 → s.irqFunc p = some fn → s.rdF p 0x0C 15 8 < msixVectors fn →
      (s.pcie.masked.contains (fn, s.rdF p 0x0C 15 8) = false →
        s.irqAfterWrite p = { s with outbox := .msix fn (s.rdF p 0x0C 15 8) :: s.outbox }) ∧
      (s.pcie.masked.contains (fn, s.rdF p 0x0C 15 8) = true →
        (s.irqAfterWrite p).outbox = s.outbox ∧ (s.irqAfterWrite p).regs = s.regs ∧
          (fn, s.rdF p 0x0C 15 8) ∈ (s.irqAfterWrite p).pcie.pend)) ∧
    (s.pendingIrq p = 0 → s.irqAfterWrite p = s)

/-- CNT_CLR clears LCNT[0..47] and ERR_COUNT of the page. An admitted write of CTRL with CNT_CLR set ends in a next state in which every local counter of the page reads 0 and ERR_COUNT reads 0; every register of every other page is unchanged, and so is GDDR7. (03_register_pages.md, R88) -/
def Obligations.CntClrClears : Prop :=
  ∀ (s : State) (path : Path) (a : BitVec 25) (p : Pg),
    place a.toNat = some (p, 0x0C) → s.freePage path a.toNat → s.admits path p →
    ∃ t, exec (.cntClr path a) s = .next t ∧ (∀ n, n < 48 → t.rd p (0x40 + 4 * n) = 0) ∧ t.rd p 0x24 = 0 ∧
      (∀ x, x / 0x1000 ≠ a.toNat / 0x1000 → t.rdA x = s.rdA x) ∧ t.gddr = s.gddr

/-- SHADOW_WRITE puts the pending value into the shadow of the path's open group and binds the page to it. An admitted write of a block register whose fields are RW-C, by the warden, attached to group g, to a page that is bound to g or to no group and that no armed group protects: the active register is unchanged, the shadow holds the written RW-C bits, and the page is bound to g. (R106, 04_commit_groups.md) -/
def Obligations.ShadowWriteBinds : Prop :=
  ∀ (s : State) (path : Path) (a : BitVec 25) (v : Word) (p : Pg) (off g : Nat),
    place a.toNat = some (p, off) → s.freePage path a.toNat → s.admits path p → a.toNat % 4 = 0 → 0x100 ≤ off → off < 0x800 →
    (regRow p off).pair = 0 → (regRow p off).rwc ≠ 0 → (regRow p off).rw = 0 → (regRow p off).w1c = 0 → (regRow p off).w1s = 0 →
    s.pointBusy p off = false → s.special path p off v = none → s.ident path = .warden → s.attached path = some g →
    (∀ f, p.ofFrond = some f → s.protected_ g f = false) → (s.boundTo p = some g ∨ s.boundTo p = none) →
    ∃ t, exec (.shadowWrite path a v) s = .next t ∧ t.rdA a.toNat = s.rdA a.toNat ∧
      Tab.find? t.shadow a.toNat = some (v &&& rwcMask a.toNat) ∧ p ∈ (t.grp g).bound ∧
      (∀ x, x ≠ a.toNat → Tab.find? t.shadow x = Tab.find? s.shadow x)

/-- An access to an unmapped address is counted in REGBUS.UNMAPPED_CNT. A write by a live path to an unmapped address is dropped and counted; no register of another page than REGBUS changes. (R79, R100, 03_register_pages.md) -/
def Obligations.UnmappedCounted : Prop :=
  ∀ (s : State) (path : Path) (a : BitVec 25) (v : Word),
    place a.toNat = none → s.pathLive path = true → a.toNat % 4 = 0 →
    ∃ t, exec (.registerWrite path a [v] true) s = .next t ∧ t.rd pRegbus 0x100 = satInc (s.rd pRegbus 0x100) 1 ∧
      (∀ x, x / 0x1000 ≠ 3 → t.rdA x = s.rdA x) ∧ t.gddr = s.gddr

/-- A keeper's write to a foreign page leaves no trace in the page and is entered in the violation log. A write by a virtual function's keeper to a page its tuft does not own ends in a next state in which every register of every page but VIOLOG and the event counters keeps its value (page headers with FLAGS, ERR_CAUSE and counters of other pages included, PCIE's count of interrupts without vector apart), and VIOLOG.HEAD has moved on by one. (R90, R91, R86, 18_tufts_and_security.md) -/
def Obligations.RefusedWriteLogged : Prop :=
  ∀ (s : State) (n : Fin 32) (a : BitVec 25) (v : Word) (p : Pg) (off t : Nat),
    place a.toNat = some (p, off) → a.toNat % 4 = 0 → n.val ≠ 0 → s.tuftOf n.val = some t → s.owner p ≠ t →
    ∃ u, exec (.registerWrite (.func n) a [v] true) s = .next u ∧
      u.rdF pViolog 0x100 7 0 = (s.rdF pViolog 0x100 7 0 + 1) % 256 ∧
      (∀ x, blockReg x = true → x / 0x1000 ≠ 0x101 → u.rdA x = s.rdA x) ∧ u.gddr = s.gddr

/-- SMBus and JTAG reach registers as their rules say: REG_READ, REG_WRITE and JTAG_DEBUG. Outside DORMANT an SMBus register write is the warden's one-dword write, and an SMBus read of a mapped aligned register that is no half of a pair and has no side effect returns status 0 and the dword, low byte first. A JTAG debug instruction is BYPASS while debug is locked; while debug is unlocked with register access in its scope it reads and writes as a one-dword access does. (R394, R395, 14_serial_links.md) -/
def Obligations.SideAccesses : Prop :=
  (∀ (s : State) (a : BitVec 32) (v : Word) (p : Pg) (off : Nat), s.mode ≠ 0 → place a.toNat = some (p, off) → s.freePage .smbus a.toNat →
    s.reads .smbus p → a.toNat % 4 = 0 → off < 0x800 → (regRow p off).pair = 0 → ¬(p.kind = .nlane ∧ (off = 0x10C ∨ off = 0x110)) → ¬(p.kind = .queue ∧ off = 0x100) →
    exec (.smbusRegRead a) s = .next (s.emit (.smbus (some (0 :: leBytes 4 (s.regVal .smbus p off).toNat)))) ∧
    exec (.smbusRegWrite a v) s = .next (s.busWrite .smbus a.toNat [v] true)) ∧
  (∀ (s : State) (a : BitVec 32) (v : Option Word), s.unlocked = false → exec (.jtagDebug a v) s = .next (s.emit .bypass)) ∧
  (∀ (s : State) (a : BitVec 32) (p : Pg) (off : Nat), s.reads .jtag p → place a.toNat = some (p, off) → s.freePage .jtag a.toNat →
    a.toNat % 4 = 0 → off < 0x800 → (regRow p off).pair = 0 → ¬(p.kind = .nlane ∧ (off = 0x10C ∨ off = 0x110)) → ¬(p.kind = .queue ∧ off = 0x100) →
    exec (.jtagDebug a none) s = .next (s.emit (.readData .jtag [s.regVal .jtag p off]))) ∧
  (∀ (s : State) (a : BitVec 32) (w : Word),
    (s.pathLive .jtag = true → exec (.jtagDebug a (some w)) s = .next (s.busWrite .jtag a.toNat [w] true)) ∧
    (s.pathLive .jtag = false → exec (.jtagDebug a (some w)) s = .next (s.emit .bypass)))

/-- OPEN attaches a group to its path, ARM detaches it and starts validation, ABORT frees its pages and shows the cause. An admitted write of CGRP[g].CMD with the key, group 63 apart. OPEN in IDLE, from a path with no group, attaches the path: STATE OPEN, PATH the path, no page bound. ARM in OPEN, with a valid point, detaches it: STATE VALIDATING, PATH 0, its pages ARMED unless it is doomed. ABORT of an OPEN group: STATE IDLE, RESULT ABORTED with cause SW, ERR_CAUSE 0x08, no page bound, and no shadow copy left on its pages; of a group past OPEN that has not voted and has no ABORT on its way: the command reaches the apply stage 4 beats later, and acts there (STATE from its decision beat on, else the abort); of a group that has voted OK: refused with VOTED. A wrong key does nothing; group 63, a wrong state, a second group of a path and a bad point are refused. GDDR7 is untouched. (R102, R103, R120, R127, R128, 04_commit_groups.md) -/
def Obligations.GroupCommands : Prop :=
  ∀ (s : State) (path : Path) (g : Fin 64), s.admits path (pCgrp g.val) →
    (g ≠ 63 → s.rdF (pCgrp g.val) 0x104 2 0 = 0 → s.attached path = none →
      ∃ t, exec (.openGroup path g 0x4347) s = .next t ∧ t.rdF (pCgrp g.val) 0x104 2 0 = 1 ∧ t.rdF (pCgrp g.val) 0x104 21 16 = path.code ∧
        t.rdB (pCgrp g.val) 0x104 4 = false ∧ t.grp g.val = {} ∧ t.rdB pCommit (0x100 + 4 * (g.val / 32)) (g.val % 32) = true ∧
        t.gddr = s.gddr ∧ t.shadow = s.shadow ∧
        ∀ a, a / 0x1000 ≠ 0x200 → a ≠ (pCgrp g.val).reg 0x104 → t.rdA a = s.rdA a) ∧
    (g ≠ 63 → s.rdF (pCgrp g.val) 0x104 2 0 = 1 → s.pointBad g.val = false →
      ∃ t, exec (.armGroup path g 0x4347) s = .next t ∧ t.rdF (pCgrp g.val) 0x104 2 0 = 2 ∧ t.rdF (pCgrp g.val) 0x104 21 16 = 0 ∧
        t.rdB pCommit (0x108 + 4 * (g.val / 32)) (g.val % 32) = true ∧ (t.grp g.val).bound = (s.grp g.val).bound ∧
        (s.rdB (pCgrp g.val) 0x104 4 = false → ∀ p ∈ (s.grp g.val).bound, t.rdF p 0x2C 1 0 = 2) ∧ t.gddr = s.gddr ∧ t.shadow = s.shadow) ∧
    (g ≠ 63 → s.rdF (pCgrp g.val) 0x104 2 0 = 1 →
      ∃ t, exec (.abortGroup path g 0x4347) s = .next t ∧ t.rdF (pCgrp g.val) 0x104 2 0 = 0 ∧ t.rdF (pCgrp g.val) 0x128 1 0 = 2 ∧
        t.rdF (pCgrp g.val) 0x128 15 8 = 8 ∧ t.rdF (pCgrp g.val) 0x20 7 0 = 8 ∧ (t.grp g.val).bound = [] ∧
        (∀ p ∈ (s.grp g.val).bound, t.pageShadow p = []) ∧ t.gddr = s.gddr) ∧
    (g ≠ 63 → 2 ≤ s.rdF (pCgrp g.val) 0x104 2 0 →
      (s.rdB (pCgrp g.val) 0x104 5 = true → exec (.abortGroup path g 0x4347) s = .next (s.grpRefuse g.val 0x24)) ∧
      (s.rdB (pCgrp g.val) 0x104 5 = false → (s.grp g.val).abortAt = none → s.clockOn = true →
        exec (.abortGroup path g 0x4347) s = .next (s.setGrp g.val { s.grp g.val with abortAt := some (s.beat + 4) }))) ∧
    (s.rdB (pCgrp g.val) 0x104 5 = false →
      ((∀ d, (s.grp g.val).dec = some d → s.beat + 4 < d) → s.abortActs g.val (s.beat + 4) = s.abortGrp g.val 8) ∧
      (∀ d, (s.grp g.val).dec = some d → d ≤ s.beat + 4 → s.abortActs g.val (s.beat + 4) = s.grpRefuse g.val 0x20)) ∧
    (∀ key : BitVec 16, key ≠ 0x4347 → g ≠ 63 → exec (.openGroup path g key) s = .next s ∧ exec (.armGroup path g key) s = .next s ∧
      exec (.abortGroup path g key) s = .next s) ∧
    (∀ key : BitVec 16, exec (.openGroup path 63 key) s = .next (s.withWrite path (pCgrp 63) 0x100 (fun t => t.grpRefuse 63 0x22))) ∧
    (g ≠ 63 → s.rdF (pCgrp g.val) 0x104 2 0 ≠ 0 → exec (.openGroup path g 0x4347) s = .next (s.grpRefuse g.val 0x20)) ∧
    (g ≠ 63 → s.rdF (pCgrp g.val) 0x104 2 0 = 0 → s.attached path ≠ none → exec (.openGroup path g 0x4347) s = .next (s.grpRefuse g.val 0x21)) ∧
    (g ≠ 63 → s.rdF (pCgrp g.val) 0x104 2 0 ≠ 1 → exec (.armGroup path g 0x4347) s = .next (s.grpRefuse g.val 0x20)) ∧
    (g ≠ 63 → s.rdF (pCgrp g.val) 0x104 2 0 = 1 → s.pointBad g.val = true → exec (.armGroup path g 0x4347) s = .next (s.grpRefuse g.val 0x23))

/-- A SHOT or SYNC group whose decision beat has not come by DEADLINE aborts with EXPIRED; other kinds ignore DEADLINE. EXPIRED at beat b: where the group, armed and not yet DECIDED, has KIND SHOT or SYNC, DEADLINE is not zero and has come, and no decision beat at or before DEADLINE is fixed, the group aborts (the beat DEADLINE names is the one less than 2^63 beats from the present one): RESULT ABORTED with cause EXPIRED, STATE IDLE. Where DEADLINE is zero or the KIND is TIME or CLUSTER, nothing happens. g is one of the 63 groups that requesters use. (R119) -/
def Obligations.GroupExpires : Prop :=
  ∀ (s : State) (b : Nat) (g : Fin 64), g ≠ 63 →
    ((s.at b).grpKind g.val = 0 ∨ (s.at b).grpKind g.val = 2 →
      (s.at b).rd64 (pCgrp g.val) 0x114 ≠ 0 → (s.at b).absBeat ((s.at b).rd64 (pCgrp g.val) 0x114) ≤ (s.at b).beat →
      ((s.at b).rdF (pCgrp g.val) 0x104 2 0 = 2 ∨ (s.at b).rdF (pCgrp g.val) 0x104 2 0 = 3) → (s.at b).grpSt g.val ≠ 4 →
      (∀ d, ((s.at b).grp g.val).dec = some d → (s.at b).absBeat ((s.at b).rd64 (pCgrp g.val) 0x114) < d) →
      ∃ t, exec (.groupExpired b g) s = .next t ∧ t = (s.at b).abortGrp g.val 0x07 ∧ t.rdF (pCgrp g.val) 0x104 2 0 = 0 ∧
        t.rdF (pCgrp g.val) 0x128 1 0 = 2 ∧ t.rdF (pCgrp g.val) 0x128 15 8 = 0x07 ∧ (t.grp g.val).bound = []) ∧
    ((s.at b).rd64 (pCgrp g.val) 0x114 = 0 ∨ (s.at b).grpKind g.val = 1 ∨ (s.at b).grpKind g.val = 3 →
      exec (.groupExpired b g) s = .next (s.at b)) ∧
    (∀ n : Nat, s.beat < n + 2 ^ 63 → n < s.beat + 2 ^ 63 → s.absBeat n = n)

/-- Validation, the ready beat and the decision beat take an armed group to DECIDED, or abort it with its cause. With u the state at beat b. VALIDATION_COMPLETE: a doomed group aborts with CONFLICT, one that fails ownership with OWNERSHIP, images with SIGNATURE, bandwidth with BANDWIDTH, loops with EVT_LOOP; one that passes all enters ARMED, and its ready beat lies 4 beats on. READY_BEAT: a TIME group fixes D = T - 34 and A = T; it, and a CLUSTER group, aborts with LATE where D lies before R; a SYNC or CLUSTER group waits for its point. A SHOT group takes the latest boundary from R - 12 on, with A 48 beats behind it; between shots, with no boundary on its way, it fixes D = R + 2 and A = R + 36, or waits with the Croziers while the stretch factor is 8 or more; else it waits for the boundary. Out of turn the command changes nothing. DECISION_BEAT: a group whose D has come is DECIDED. (R111, R116, R117, R105, 04_commit_groups.md) -/
def Obligations.GroupDecides : Prop :=
  ∀ (s u : State) (b : Nat) (g : Fin 64), u = s.at b →
    (u.rdF (pCgrp g.val) 0x104 2 0 ≠ 2 ∨ u.scrubWait g.val = true → exec (.validationComplete b g) s = .next u) ∧
    (u.rdF (pCgrp g.val) 0x104 2 0 = 2 → u.scrubWait g.val = false →
      (u.rdB (pCgrp g.val) 0x104 4 = true → exec (.validationComplete b g) s = .next (u.abortGrp g.val 1)) ∧
      (u.rdB (pCgrp g.val) 0x104 4 = false → u.ownershipOk g.val = false → exec (.validationComplete b g) s = .next (u.abortGrp g.val 2)) ∧
      (u.rdB (pCgrp g.val) 0x104 4 = false → u.ownershipOk g.val = true →
        let imgs := u.imageRefs g.val
        let r := State.checkRead (u.owner (pCgrp g.val)) imgs (u.grp g.val).badRead u
        let w := r.1.showClaims g.val
        let bad := bandwidthBad (w.overlayOwn g.val) (w.overlay g.val) (w.rdF pCommit 0x110 15 0) (u.owner (pCgrp g.val)) (!imgs.isEmpty)
        (r.2 = false → exec (.validationComplete b g) s = .next (r.1.abortGrp g.val 3)) ∧
        (r.2 = true → bad = true → exec (.validationComplete b g) s = .next (w.abortGrp g.val 4)) ∧
        (r.2 = true → bad = false → (w.overlay g.val).evtLoop = true → exec (.validationComplete b g) s = .next (w.abortGrp g.val 5)) ∧
        (r.2 = true → bad = false → (w.overlay g.val).evtLoop = false →
          ∃ t, exec (.validationComplete b g) s = .next t ∧ t.rdF (pCgrp g.val) 0x104 2 0 = 3 ∧
            (t.grp g.val).ready = some (w.beat + 4) ∧ (t.grp g.val).bound = (w.grp g.val).bound ∧ t.shadow = w.shadow))) ∧
    (∀ r, (u.grp g.val).ready = some r → u.rdF (pCgrp g.val) 0x104 2 0 = 3 → (u.grp g.val).isReady = false → r ≤ u.beat →
      (u.ownerBusy g.val = true → exec (.readyBeat b g) s = .next (u.abortGrp g.val 2)) ∧
      (u.ownerBusy g.val = false → u.grpKind g.val = 1 → r + 34 ≤ u.grpWhen g.val →
        ∃ t, exec (.readyBeat b g) s = .next t ∧ (t.grp g.val).dec = some (u.grpWhen g.val - 34) ∧ (t.grp g.val).app = some (u.grpWhen g.val) ∧
          (∀ a, t.rdA a = u.rdA a) ∧ t.shadow = u.shadow) ∧
      (u.ownerBusy g.val = false → (u.grpKind g.val = 2 ∨ (u.grpKind g.val = 3 ∧ r + 34 ≤ u.grpWhen g.val)) →
        exec (.readyBeat b g) s = .next (u.setGrp g.val { u.grp g.val with isReady := true })) ∧
      (u.ownerBusy g.val = false → u.grpKind g.val = 0 →
        let v := u.setGrp g.val { u.grp g.val with isReady := true }
        let tf := u.rdF (pCgrp g.val) 0x108 12 8
        let last := (Tab.get (0, 0) u.bounds tf).2
        let held := 2048 ≤ u.stretch ∧ ∃ f, f < 32 ∧ u.frondOwner f = tf ∧ u.active f = true
        let idle := v.betweenShots tf r = true ∧ v.lastBound tf (r - 12) + 12 < r
        ∃ t, exec (.readyBeat b g) s = .next t ∧ (t.grp g.val).isReady = true ∧ (∀ a, t.rdA a = u.rdA a) ∧ t.shadow = u.shadow ∧
          (r ≤ last + 12 → last ≠ 0 → (t.grp g.val).dec = some (last + 14) ∧ (t.grp g.val).app = some (last + 48)) ∧
          (last + 12 < r ∨ last = 0 → idle → ¬held → (t.grp g.val).dec = some (r + 2) ∧ (t.grp g.val).app = some (r + 36)) ∧
          (last + 12 < r ∨ last = 0 → idle → held → t = v.setGrp g.val { v.grp g.val with stretch := true }) ∧
          (last + 12 < r ∨ last = 0 → ¬idle → t = v)) ∧
      (u.ownerBusy g.val = false → (u.grpKind g.val = 1 ∨ u.grpKind g.val = 3) → u.grpWhen g.val < r + 34 →
        ∃ t, exec (.readyBeat b g) s = .next t ∧ t.rdF (pCgrp g.val) 0x128 1 0 = 2 ∧ t.rdF (pCgrp g.val) 0x128 15 8 = 6 ∧
          t.rdF (pCgrp g.val) 0x104 2 0 = 0)) ∧
    ((∀ r, (u.grp g.val).ready = some r → u.rdF (pCgrp g.val) 0x104 2 0 ≠ 3 ∨ (u.grp g.val).isReady = true ∨ u.beat < r) →
      exec (.readyBeat b g) s = .next u) ∧
    (∀ d, u.rdF (pCgrp g.val) 0x104 2 0 = 3 → u.grpKind g.val ≠ 3 → (u.grp g.val).dec = some d → d ≤ u.beat →
      ∃ t, exec (.decisionBeat b g) s = .next t ∧ t.rdF (pCgrp g.val) 0x104 2 0 = 4 ∧ t.shadow = u.shadow ∧ t.groups = u.groups ∧
        ∀ a, g ≠ 63 → a / 0x1000 ≠ 0x200 → a ≠ (pCgrp g.val).reg 0x104 → t.rdA a = u.rdA a)

/-- At A a decided group applies: RESULT shows COMMITTED, APPLY shows A, and the shadow writes are the active registers. APPLY_BEAT at or after A of a group that is DECIDED (and that the main clock was not lost for): the group is IDLE, RESULT reads COMMITTED with cause 0 and APPLY reads A; then accesses that waited take their turns. A swap of pages gives each of their registers that has a shadow entry its value in its RW-C bits and leaves every other register of the block as it was; until BEAT_COUNT_SAMPLE gives a domain its count again after a relock, the pages with fields in the other domains are the ones that wait. The first edge of a page's domain lies in A or, in the GDDR7 and the housekeeping domain, at most 1 or 5 beats later. (R121, R87, 04_commit_groups.md) -/
def Obligations.GroupApplies : Prop :=
  (∀ (s u : State) (b a : Nat) (g : Fin 64), u = s.at b → g ≠ 63 → (u.grp g.val).app = some a → a ≤ u.beat → u.grpSt g.val = 4 →
    (u.grp g.val).lost = false →
    ∃ t, exec (.applyBeat b g) s = .next t.turns ∧ t = (u.decisionBeat g.val).applyGrp g.val a ∧ t.rdF (pCgrp g.val) 0x104 2 0 = 0 ∧
      t.rdF (pCgrp g.val) 0x128 1 0 = 1 ∧ t.rdF (pCgrp g.val) 0x128 15 8 = 0 ∧ t.rd64 (pCgrp g.val) 0x12C = a % 2 ^ 64 ∧
      (t.grp g.val).bound = []) ∧
  (∀ (s : State) (ps : List Pg) (a : Nat), (s.shadow.map Prod.fst).Nodup →
    (∀ v, Tab.find? s.shadow a = some v → (∃ p ∈ ps, p.base ≤ a ∧ a < p.base + 0x800) → (s.swap ps).rdA a = mergeRwc a (s.rdA a) v) ∧
    ((Tab.find? s.shadow a = none ∨ ∀ p ∈ ps, ¬(p.base ≤ a ∧ a < p.base + 0x800)) → (s.swap ps).rdA a = s.rdA a)) ∧
  (∀ (s : State) (ps : List Pg) (p : Pg), p ∈ s.waitPages ps ↔ p ∈ ps ∧ s.time.resync.isSome = true ∧ p.kind.offBeat = true) ∧
  (∀ (k : PageKind) (a : Nat), a ≤ k.edge a ∧ k.edge a ≤ a + (if k = .granule then 1 else if k = .bias ∨ k = .calhk then 5 else 0))

/-- A distributed commit votes at T - L, decides at T - L/2 and ends at T - 34 as the coordinator decided, or splits. With u the state at beat b. VOTE: an armed group sends an OK vote to its coordinator and sets VOTED, or FAIL in ALIGN_LOST; one still validating sends FAIL and aborts with LATE; one that has aborted sends FAIL. A vote that reaches its coordinator and agrees in TXID and T[31:0] counts. DECIDE sends the first of three copies to every device of PMASK, COMMIT where all votes are OK, and each of the next two beats sends another. A copy that reaches a participant is its decision. At D the group is DECIDED after COMMIT, aborts with CLUSTER_VOTE after ABORT and with CLUSTER_LOST after none. OUTCOME LOST for a known commit sets CLUSTER_SPLIT. A flit for another device is passed on. (R129, R131, R118, 04_commit_groups.md, 14_serial_links.md) -/
def Obligations.ClusterProtocol : Prop :=
  ∀ (s u : State) (b : Nat), u = s.at b →
    (∀ g : Fin 64, u.inTx g.val = true → (u.grp g.val).voteSent = false → u.grpWhen g.val ≤ u.beat + u.lead g.val →
      let v := fun ok => ((u.setGrp g.val { u.grp g.val with voteSent := true }).noteTx (u.txid g.val) (u.owner (pCgrp g.val)) (u.grpWhen g.val)).unicast
        (u.coord g.val) 1 (u.commitFlit 0xA (u.txid g.val) ok 0 (u.grpT g.val))
      (u.rdF (pCgrp g.val) 0x104 2 0 = 3 → u.rdF pCsync 0x10C 2 0 ≠ 6 → exec (.clusterVote b g) s = .next ((v true).wrB (pCgrp g.val) 0x104 5 true)) ∧
      ((u.rdF (pCgrp g.val) 0x104 2 0 ≠ 2 ∧ u.rdF (pCgrp g.val) 0x104 2 0 ≠ 3) ∨ (u.rdF (pCgrp g.val) 0x104 2 0 = 3 ∧ u.rdF pCsync 0x10C 2 0 = 6) →
        exec (.clusterVote b g) s = .next (v false)) ∧
      (u.rdF (pCgrp g.val) 0x104 2 0 = 2 → exec (.clusterVote b g) s = .next ((v false).abortGrp g.val 6))) ∧
    (∀ (dst : Fin 32) (w : BitVec 64),
      (dst.val ≠ u.devnum → exec (.voteReceived b dst w) s = .next (u.unicast dst.val 1 w) ∧
        exec (.decideReceived b dst w) s = .next (u.unicast dst.val 1 w)) ∧
      (dst.val = u.devnum → ∃ t, exec (.voteReceived b dst w) s = .next t ∧ (∀ a, t.rdA a = u.rdA a) ∧ t.gddr = u.gddr ∧
        ∀ g : Nat, g < 63 → (u.inTx g = true ∧ u.coord g = u.devnum ∧ u.txid g = nfld w.toNat 54 39 ∧ u.grpT g % 2 ^ 32 = nfld w.toNat 31 0 →
          (t.grp g).votes = if tst w.toNat 38 then mset (u.grp g).votes (nfld w.toNat 59 55) else (u.grp g).votes)) ∧
      (dst.val = u.devnum → ∃ t, exec (.decideReceived b dst w) s = .next t ∧ (∀ a, t.rdA a = u.rdA a) ∧ t.gddr = u.gddr ∧
        ∀ g : Nat, g < 63 → (u.grpKind g = 3 ∧ 2 ≤ u.rdF (pCgrp g) 0x104 2 0 ∧ u.coord g = nfld w.toNat 59 55 ∧ u.txid g = nfld w.toNat 54 39 ∧
          u.grpT g % 2 ^ 32 = nfld w.toNat 31 0 → (t.grp g).decided = some (tst w.toNat 38)))) ∧
    (∀ g : Fin 64, u.inTx g.val = true → u.coord g.val = u.devnum → (u.grp g.val).sentOut = false → u.grpWhen g.val ≤ u.beat + u.lead g.val / 2 →
      let ok := (maskList 32 (u.pmask g.val)).all (fun d => tst (u.grp g.val).votes d) && (u.grp g.val).gone.isNone
      exec (.clusterDecide b g) s = .next ((maskList 32 (u.pmask g.val)).foldl (fun v d =>
        v.unicast d 1 (u.commitFlit 0xB (u.txid g.val) ok 0 (u.grpT g.val)))
        (u.setGrp g.val { u.grp g.val with sentOut := true, decOk := ok, copies := 1 }))) ∧
    (∀ g : Fin 64, ((u.grp g.val).copies = 1 ∨ (u.grp g.val).copies = 2) → (u.grp g.val).abortAt = none → (u.grp g.val).stretch = false →
      u.groupDue g.val = (maskList 32 (u.pmask g.val)).foldl (fun v d =>
        v.unicast d 1 (u.commitFlit 0xB (u.txid g.val) (u.grp g.val).decOk (u.grp g.val).copies (u.grpT g.val)))
        (u.setGrp g.val { u.grp g.val with copies := (u.grp g.val).copies + 1 })) ∧
    (∀ g : Fin 64, g ≠ 63 → u.rdF (pCgrp g.val) 0x104 2 0 = 3 → u.grpKind g.val = 3 → (u.grp g.val).isReady = true → u.grpWhen g.val ≤ u.beat + 34 →
      ((u.grp g.val).decided = some true → ∃ t, exec (.decisionBeat b g) s = .next t ∧ t.rdF (pCgrp g.val) 0x104 2 0 = 4 ∧
        (t.grp g.val).app = some (u.grpWhen g.val)) ∧
      ((u.grp g.val).decided = some false → exec (.decisionBeat b g) s = .next (u.abortGrp g.val 0x0B)) ∧
      ((u.grp g.val).decided = none → exec (.decisionBeat b g) s = .next ((u.lostNow g.val).abortGrp g.val 0x0C))) ∧
    (∀ (port : Fin 4) (w : BitVec 64) (x : Tx), (u.newCast (nfld w.toNat 59 55) 0xC (nfld w.toNat 54 39)).1 = true →
      x ∈ u.txs → x.txid = nfld w.toNat 54 39 → tst w.toNat 38 = true →
      ∃ t, exec (.outcomeLost b port w) s = .next t ∧ t.rdB pCommit 0x14 0 = true)

/-- A microword that may proceed goes to the address its SEQ operation names, moves TC by its wait, and posts its bundle. For each row named after a SEQ operation or a wait mode: where the running Crozier's word at PC holds that operation or mode and nothing stops it (no fault, interrupt, wait, stall, hold or crowded beat), the word executes. PC becomes what Table 5.2 says, STATE is RUNNING, or HALTED after HALT. TC becomes the stamp plus the wait, modulo 2^64; the stamp is TC, raised to e + 3 after a wait or under CLAMP. CALL pushes PC + 1, RET pops, LOOP counts down. A posted bundle joins the end of the queue unless it is late, with the issue beat that the queue's comparison gives, which is its stamp while that lies less than 2^24 beats ahead. SHOT_BEGIN numbers and opens a shot, SHOT_END closes it. (R135, R136, R139, R144, R155, R157, 05_crozier_sequencer.md, notes/assumptions/23.md) -/
def Obligations.WordsRun : Prop :=
  ∀ (s u : State) (e : WordEv) (w : Uw), u = s.wordAt e → e.ecc = .clean → w = u.fetch e.f.val → u.crzState e.f.val = 1 →
    (u.crz e.f.val).ready ≤ u.beat → Claims.wordFree u e.f.val →
    ∀ c k, ((c, k) ∈ Claims.seqOps e ∧ w.op = k ∨ (c, k) ∈ Claims.waitOps e ∧ w.wmode = k) →
    ∃ t, exec c s = .next t ∧ t.pc e.f.val = Claims.nextPc u e.f.val w % 8192 ∧
      t.crzState e.f.val = (if w.op = 11 then 5 else 1) ∧
      t.tc e.f.val = (u.stamp e.f.val w + (if w.wmode = 1 then u.par e.f.val (w.wval % 64) else w.wval)) % 2 ^ 64 ∧
      (w.op ≠ 8 → u.stamp e.f.val w = if (u.crz e.f.val).waited = true ∨ w.wmode = 2 then max (u.tc e.f.val) (u.beat + 3) else u.tc e.f.val) ∧
      (t.crz e.f.val).stack = (if w.op = 4 then (u.pc e.f.val + 1) % 8192 :: (u.crz e.f.val).stack
        else if w.op = 5 then (u.crz e.f.val).stack.tail else (u.crz e.f.val).stack) ∧
      (w.op = 6 → t.lc e.f.val w.cond = Claims.loopCount u e.f.val w - 1) ∧
      (w.posts = true → u.beat + 3 ≤ u.stamp e.f.val w →
        let r := Claims.readState u e.f.val w
        (t.crz e.f.val).queue = (u.crz e.f.val).queue ++
          [{ r.bundleOf e.f.val w (u.queueBeat (u.stamp e.f.val w)) (r.curUid e.f.val) with seq := (u.crz e.f.val).nextSeq }]) ∧
      (u.beat + 3 ≤ u.stamp e.f.val w → u.stamp e.f.val w < u.beat + 3 + 2 ^ 24 → u.queueBeat (u.stamp e.f.val w) = u.stamp e.f.val w) ∧
      (w.posts = false ∨ u.stamp e.f.val w < u.beat + 3 → (t.crz e.f.val).queue = (u.crz e.f.val).queue) ∧
      (w.op = 8 → t.rd (pCrozier e.f.val) 0x118 = u.rd (pCrozier e.f.val) 0x118 + 1 ∧ (t.crz e.f.val).inShot = true ∧
        t.rd64 (pCrozier e.f.val) 0x11C = u.stamp e.f.val w % 2 ^ 64) ∧
      (w.op = 9 → (t.crz e.f.val).inShot = false) ∧
      (w.op = 13 → t.rd (pCrozier e.f.val) 0x164 = BitVec.ofNat 32 (w.target % 256)) ∧ t.beat = u.beat ∧ t.gddr = u.gddr

/-- The ALU operation of a word writes its result to the parameter or loop counter it names, and no other. For each row named after an ALU operation: where the word at PC holds it and may proceed, the word executes, and the destination (P[dst]; LC[dst] for LDLC and LDLCI) holds the result of Table 5.7, modulo 2^32, or 2^24 in a loop counter. Every other parameter register keeps its value. A write to a parameter register in the apply beat of a commit to it is lost. A LOOP on the counter that the same word loads counts it down once more. That RDSLOT reads its slot before the word posts is the model's reading (log entry 23). (R144, R166, 05_crozier_sequencer.md, notes/assumptions/23.md) -/
def Obligations.WordsCompute : Prop :=
  ∀ (s u : State) (e : WordEv) (w : Uw), u = s.wordAt e → e.ecc = .clean → w = u.fetch e.f.val → u.crzState e.f.val = 1 →
    (u.crz e.f.val).ready ≤ u.beat → Claims.wordFree u e.f.val →
    ∀ c k, (c, k) ∈ Claims.aluOps e → w.alu = k →
    ∃ t, exec c s = .next t ∧
      (k ≠ 8 → k ≠ 9 → ¬((u.crz e.f.val).parBeat = u.beat ∧ tst (u.crz e.f.val).parMask w.dst = true) →
        t.par e.f.val w.dst = Claims.aluValue u e.f.val w % 2 ^ 32) ∧
      (k ≠ 8 → k ≠ 9 → (u.crz e.f.val).parBeat = u.beat → tst (u.crz e.f.val).parMask w.dst = true →
        t.par e.f.val w.dst = u.par e.f.val w.dst) ∧
      ((k = 8 ∨ k = 9) → (w.op ≠ 6 ∨ w.cond ≠ w.dst) → t.lc e.f.val w.dst = Claims.aluValue u e.f.val w % 2 ^ 24) ∧
      (∀ p, p < 64 → p ≠ w.dst ∨ k = 8 ∨ k = 9 → t.par e.f.val p = u.par e.f.val p) ∧ t.beat = u.beat ∧ t.gddr = u.gddr

/-- A held, stalled or waiting Crozier goes on when it may; an interrupt enters its handler; a halt command is on its way. HOLD_RELEASE, STALL_RELEASE and WAIT_RESUME run the word of a Crozier paused in STATE HELD, STALLED or WAITING where nothing stops it any longer. INTERRUPT_ENTRY at a boundary whose word raises no fault, with an enabled latched input and room on the stack pushes PC, sets HANDLER and fetches IVEC, and takes the latch. CMD_HALT with the key is due 4 beats after the write, or when an earlier one is; without the key nothing happens. (R137, R156, R162, R164, 05_crozier_sequencer.md) -/
def Obligations.CrozierResumes : Prop :=
  (∀ (s u : State) (e : WordEv), u = s.wordAt e → e.ecc = .clean → Claims.wordFree u e.f.val →
    ∀ c k, (c, k) ∈ Claims.resumes e → u.crzState e.f.val = k →
      ∃ t, exec c s = .next t ∧ t = (u.unpause e.f.val).wordRun e.f.val (u.fetch e.f.val) ∧
        t.crzState e.f.val = (if (u.fetch e.f.val).op = 11 then 5 else 1) ∧ t.beat = u.beat) ∧
  (∀ (s u : State) (e : FrondEv) (i : Nat), u = s.at (max e.b (s.crz e.f.val).ready) → u.active e.f.val = true →
    u.faultNow e.f.val (u.fetch e.f.val) = none → u.irqInput e.f.val = some i → (u.crz e.f.val).stack.length < 16 →
    ∃ t, exec (.interruptEntry e) s = .next t ∧ t.pc e.f.val = u.rdF (pCrozier e.f.val) (0x138 + 4 * i) 12 0 ∧
      (t.crz e.f.val).stack = u.pc e.f.val :: (u.crz e.f.val).stack ∧ t.rdB (pCrozier e.f.val) 0x10 23 = true ∧
      (t.crz e.f.val).evin = mclr (u.crz e.f.val).evin i ∧ t.crzState e.f.val = 1) ∧
  (∀ (s u : State) (path : Path) (e : FrondEv), u = s.at e.b → u.admits path (pCrozier e.f.val) →
    (∃ t, exec (.cmdHalt path e 0x435A) s = .next t ∧
      (t.crz e.f.val).haltAt = some (((u.crz e.f.val).haltAt).getD (u.beat + 4)) ∧ (∀ a, t.rdA a = u.rdA a) ∧ t.gddr = u.gddr) ∧
    (∀ key : BitVec 16, key ≠ 0x435A → exec (.cmdHalt path e key) s = .next u))

/-- At its issue beat a bundle starts its pulses and windows, pulses its events, ends its shot and sends its sync record. With u the frond's state at the issue beat and b the one bundle that issues then, its gates open. XY and probe fields start their tone at DAC sample 32 x issue + OFS, flux fields their channels, a read-out field of one tone opens its window and arms the rules of its results, or is counted where LEN is invalid or the tone integrates. A posted jump request reaches its player, and those of idle tones whose beat this is act as starts. EV bits pulse at ball beat issue + 24; the declared one declares a quiet slot. SHOT_END ends the shot, empties every condition slot (but one that a discarded decision record left INVALID until its rule's next arming notice, R518) and puts a shot-end record on the decision bus; SYNC puts its group there. A settled shot's status item goes to the queue of STATUS_DEST where its owner is the frond's, and the shot is over in any case. (R142, R143, R149, R150, R153, R154, R155, R158, R159, 05_crozier_sequencer.md) -/
def Obligations.BundleIssues : Prop :=
  (∀ (s u : State) (e : FrondEv) (b : Bundle), u = s.at e.b → u.due e.f.val = [b] →
    (b.xy0.en = true → b.xy0.jmp = false → b.xy1.en = false → u.gate e.f.val b.xy0.cond b.cslot (b.issue - 2) = none →
      exec (.xyStart e) s = .next ((u.startTone e.f.val b.xy0.tone (32 * b.issue + b.xy0.ofs) b.xy0.entry b.shot
        (if b.xy0.frame then .sample else .plain) b.seq).issued e.f.val (fun x => { x with xy0 := x.xy0.clear, xy1 := x.xy1.clear }))) ∧
    (b.xy0.en = false → b.xy1.en = true → b.xy1.jmp = false → u.gate e.f.val b.xy1.cond b.cslot (b.issue - 2) = none →
      exec (.xyStart e) s = .next ((u.startTone e.f.val (8 + b.xy1.tone) (32 * b.issue + b.xy1.ofs) b.xy1.entry b.shot
        (if b.xy1.frame then .sample else .plain) b.seq).issued e.f.val (fun x => { x with xy0 := x.xy0.clear, xy1 := x.xy1.clear }))) ∧
    (b.xy0.en = true → b.xy0.jmp = false → b.xy1.en = true → b.xy1.jmp = false → b.xy0.tone ≠ 8 + b.xy1.tone →
      u.gate e.f.val b.xy0.cond b.cslot (b.issue - 2) = none → u.gate e.f.val b.xy1.cond b.cslot (b.issue - 2) = none →
      exec (.xyStart e) s = .next (((u.startTone e.f.val b.xy0.tone (32 * b.issue + b.xy0.ofs) b.xy0.entry b.shot
        (if b.xy0.frame then .sample else .plain) b.seq).startTone e.f.val (8 + b.xy1.tone) (32 * b.issue + b.xy1.ofs) b.xy1.entry b.shot
        (if b.xy1.frame then .sample else .plain) b.seq).issued e.f.val (fun x => { x with xy0 := x.xy0.clear, xy1 := x.xy1.clear }))) ∧
    (b.probe.en = true → b.probe.jmp = false → u.gate e.f.val b.probe.cond b.cslot (b.issue - 2) = none →
      exec (.probeStart e) s = .next ((u.startTone e.f.val (16 + b.probe.tone) (32 * b.issue + b.probe.ofs) b.probe.entry b.shot
        (if b.probe.frame then .sample else .plain) b.seq).issued e.f.val (fun x => { x with probe := x.probe.clear }))) ∧
    (∀ tag, b.xy0.en = true → b.xy0.jmp = false → b.xy1.en = false → u.gate e.f.val b.xy0.cond b.cslot (b.issue - 2) = some tag →
      exec (.xyStart e) s = .next ((u.suppress e.f.val b.shot tag).issued e.f.val (fun x => { x with xy0 := x.xy0.clear, xy1 := x.xy1.clear }))) ∧
    (∀ tag, b.probe.en = true → b.probe.jmp = false → u.gate e.f.val b.probe.cond b.cslot (b.issue - 2) = some tag →
      exec (.probeStart e) s = .next ((u.suppress e.f.val b.shot tag).issued e.f.val (fun x => { x with probe := x.probe.clear }))) ∧
    exec (.fluxStart e) s = .next (((maskList 8 b.fluxMask).foldl (fun a n =>
      a.startFlux e.f.val n (32 * b.issue + 16 * b.fluxOfs) b.fluxSeg b.shot) u).issued e.f.val (fun x => { x with fluxEn := false, fluxMask := 0 })) ∧
    (∀ n, n < 16 → b.roMask = 2 ^ n →
      let num := (((u.crz e.f.val).shots.find? (fun h => h.uid == b.shot)).map (·.num)).getD 0
      let ks := 24 * (u.beat + 24) + b.roOfs
      let len := (u.fe e.f.val).lenAt n ks
      let open_ := (u.fe e.f.val).wins.any (fun w => decide (w.tone = n) && decide (ks < w.ks + 48 * w.len))
      let done := fun (t : State) => t.issued e.f.val (fun x => { x with roEn := false, roMask := 0 })
      (1 ≤ len → len ≤ 4096 → open_ = false → ∃ (o : State) (w : Win), exec (.readoutWindow e) s = .next (done (o.armWindow e.f.val n)) ∧
        o = u.openWindow e.f.val n b.roOfs b.shot num ∧ (o.fe e.f.val).wins = (u.fe e.f.val).wins ++ [w] ∧ w.tone = n ∧ w.ks = ks ∧ w.len = len ∧
        w.issue = u.beat ∧ w.n = 0 ∧ w.accI = 0 ∧ w.accQ = 0) ∧
      (1 ≤ len → len ≤ 4096 → open_ = true → exec (.readoutWindow e) s =
        .next (done (((u.count (pCrozier e.f.val) 4 1).flag (pCrozier e.f.val) 4).notOpened e.f.val n b.shot))) ∧
      (len = 0 ∨ 4096 < len → exec (.readoutWindow e) s = .next (done ((u.count (pReadout e.f.val) 4 1).notOpened e.f.val n b.shot)))) ∧
    (u.rdB (pCalf e.f.val) 0x104 1 = true → tst b.ev (u.rdF (pCalf e.f.val) 0x104 17 16) = true →
      ∃ t, exec (.evPulse e) s = .next t ∧ Tab.find? t.cal.decl e.f.val = some u.beat) ∧
    (u.rdB (pCalf e.f.val) 0x104 1 = false ∨ tst b.ev (u.rdF (pCalf e.f.val) 0x104 17 16) = false →
      exec (.evPulse e) s = .next (((maskList 4 b.ev).foldl (fun a n => (a.srcEvent (u.beat + 24) (4 * e.f.val + n)).acqEv e.f.val n (u.beat + 24))
        u).issued e.f.val (fun x => { x with ev := 0 }))) ∧
    (b.shotEnd = true →
      ∃ t, exec (.shotEndIssue e) s = .next t ∧ (∀ h ∈ (t.crz e.f.val).shots, h.uid = b.shot → h.ended ≠ none) ∧
        (∀ k, k < 16 → (u.slot e.f.val k).lock = false → (t.slot e.f.val k).st = 0) ∧ ∃ r ∈ t.bus, r.frond = e.f.val ∧ r.beat = u.beat ∧ r.shotEnd = true) ∧
    (b.sync = true → ∃ t, exec (.syncIssue e) s = .next t ∧ ∃ r ∈ t.bus, r.frond = e.f.val ∧ r.beat = u.beat ∧ b.grp ∈ r.syncs)) ∧
  (∀ (s u : State) (e : FrondEv), u = s.at e.b →
    (let v := (u.crz e.f.val).handed.foldl (fun a j => a.handJump e.f.val j) (u.setCrz e.f.val { u.crz e.f.val with handed := [] })
     exec (.jumpRequest e) s = .next ((v.idleJumps e.f.val v.beat).foldl (fun a i => a.jumpAsStart e.f.val v.beat i) v)) ∧
    (∀ (v : State) (j : Jump), ∃ x ∈ ((v.handJump e.f.val j).player e.f.val j.chan).jumps, x.entry = j.entry ∧ x.issue = j.issue) ∧
    ((∀ h ∈ (u.crz e.f.val).shots, u.shotSettled e.f.val h = false) → exec (.shotStatusItem e) s = .next u) ∧
    (∀ h, (u.crz e.f.val).shots.find? (fun x => u.shotSettled e.f.val x) = some h →
      (u.rdB (pCrozier e.f.val) 0x168 8 = true → u.owner (pQueue (u.rdF (pCrozier e.f.val) 0x168 5 0)) = u.frondOwner e.f.val →
        ∃ t, exec (.shotStatusItem e) s = .next t ∧ (∀ x ∈ (t.crz e.f.val).shots, x.uid ≠ h.uid) ∧ ∃ w, t.transit = u.transit ++
          [{ q := u.rdF (pCrozier e.f.val) 0x168 5 0, words := [w], len := 1 }] ∧ nfld w.toNat 63 59 = e.f.val ∧ nfld w.toNat 31 0 = h.num % 2 ^ 32) ∧
      (u.rdB (pCrozier e.f.val) 0x168 8 = true → u.owner (pQueue (u.rdF (pCrozier e.f.val) 0x168 5 0)) ≠ u.frondOwner e.f.val →
        ∃ t, exec (.shotStatusItem e) s = .next t ∧ (∀ x ∈ (t.crz e.f.val).shots, x.uid ≠ h.uid) ∧ t.transit = u.transit ∧
          t.rdB (pCrozier e.f.val) 0x14 10 = true) ∧
      (u.rdB (pCrozier e.f.val) 0x168 8 = false →
        ∃ t, exec (.shotStatusItem e) s = .next t ∧ (∀ x ∈ (t.crz e.f.val).shots, x.uid ≠ h.uid) ∧ t.transit = u.transit ∧ t.regs = u.regs)))

/-- A frame operation changes the frame bits of the qubits it names as Table 5.6 says, and no others. With b the one bundle that issues at the beat. FRAME_TOGGLE_X flips the X bit of the qubit's pair in SORUS.FRAME[f], FRAME_TOGGLE_Z the Z bit, FRAME_TOGGLE_XZ both, FRAME_CLEAR clears the pair, FRAME_CLEAR_ALL the frond's register; the pairs of the other qubits keep their value. FRAME_XOR_SLOT, its slot trusted, applies the slot's correction word. FRAME_CLEAR_ALL leaves the pairs of the qubits it lost to later operations of the beat. Other registers of the block and GDDR7 are untouched but for the queue's depth. (R296, R146, R152, 05_crozier_sequencer.md, 10_sorus_feedback.md) -/
def Obligations.FramesChange : Prop :=
  ∀ (s u : State) (e : FrondEv) (b : Bundle), u = s.at e.b → u.due e.f.val = [b] → b.frQubit < 16 →
    (∀ c k, (c, k) ∈ Claims.frameOps e → b.frOp = k → b.frLost = 0 →
      ∃ t, exec c s = .next t ∧
        (k = 1 → t.rdF pSorus (0x200 + 4 * e.f.val) (2 * b.frQubit + 1) (2 * b.frQubit)
          = u.rdF pSorus (0x200 + 4 * e.f.val) (2 * b.frQubit + 1) (2 * b.frQubit) ^^^ 2) ∧
        (k = 2 → t.rdF pSorus (0x200 + 4 * e.f.val) (2 * b.frQubit + 1) (2 * b.frQubit)
          = u.rdF pSorus (0x200 + 4 * e.f.val) (2 * b.frQubit + 1) (2 * b.frQubit) ^^^ 1) ∧
        (k = 3 → t.rdF pSorus (0x200 + 4 * e.f.val) (2 * b.frQubit + 1) (2 * b.frQubit)
          = u.rdF pSorus (0x200 + 4 * e.f.val) (2 * b.frQubit + 1) (2 * b.frQubit) ^^^ 3) ∧
        (k = 4 → t.rdF pSorus (0x200 + 4 * e.f.val) (2 * b.frQubit + 1) (2 * b.frQubit) = 0) ∧
        (k = 5 → t.rd pSorus (0x200 + 4 * e.f.val) = 0) ∧
        (k ≠ 5 → ∀ q, q < 16 → q ≠ b.frQubit → t.rdF pSorus (0x200 + 4 * e.f.val) (2 * q + 1) (2 * q)
          = u.rdF pSorus (0x200 + 4 * e.f.val) (2 * q + 1) (2 * q)) ∧
        (∀ a, blockReg a = true → a ≠ pSorus.reg (0x200 + 4 * e.f.val) → a ≠ (pCrozier e.f.val).reg 0x114 → t.rdA a = u.rdA a) ∧
        t.gddr = u.gddr) ∧
    (b.frOp = 5 → ∃ t, exec (.frameClearAll e) s = .next t ∧ ∀ q, q < 16 →
      t.rdF pSorus (0x200 + 4 * e.f.val) (2 * q + 1) (2 * q)
        = if tst b.frLost q then u.rdF pSorus (0x200 + 4 * e.f.val) (2 * q + 1) (2 * q) else 0) ∧
    (b.frOp = 6 → b.frLost = 0 → ((u.slot e.f.val b.frQubit).view (b.issue - 2)).st = 2 → ((u.slot e.f.val b.frQubit).view (b.issue - 2)).qual = 0 →
      ∃ t, exec (.frameXorSlot e) s = .next t ∧
        t.rd pSorus (0x200 + 4 * e.f.val) = u.rd pSorus (0x200 + 4 * e.f.val) ^^^
          BitVec.ofNat 32 ((u.slot e.f.val b.frQubit).view (b.issue - 2)).word ∧
        (∀ a, blockReg a = true → a ≠ pSorus.reg (0x200 + 4 * e.f.val) → a ≠ (pCrozier e.f.val).reg 0x114 → t.rdA a = u.rdA a) ∧
        t.gddr = u.gddr)

/-- A pass ends by its latched jump, its LINK or idling; ring writes, refills and underruns move the ring as their rules say. With u the state at the beat. SEGMENT_BOUNDARY of a pass without jump requests: with LINK the player goes on with the linked entry at the boundary's sample, without it the player is idle. JUMP_LATCH takes the newest request that names the boundary and whose gate is open. A write of RING.WR, direct or by doorbell, is taken where it is a multiple of 64 and leaves a fill of at most the ring's size, else recorded as refused. RING_REFILL moves RD on by what it read and puts GDDR7's words into the staging blocks, and does nothing where the ring is not enabled, empty, its staging full, or ahead of RESV. UNDERRUN at the first sample that starts in the beat and that staging does not hold marks the pass from that sample on and sets FLAGS.UNDERRUN. (R178, R180, R190, R191, R194, 06_waveform_store.md) -/
def Obligations.PlayersAndRings : Prop :=
  (∀ (s u : State) (e : FrondEv) (c : Fin 40) (p : Player), u = s.at e.b → p = u.player e.f.val c.val → p.playing = true → p.bj ≤ u.beat →
    u.cutNow e.f.val c.val (p.k0 + p.len) = false → p.jumps = [] → p.latched = none →
    ((c.val < 32 → entLinkEn p.ent = false ∨ p.stop = true) →
      ∃ t, exec (.segmentBoundary e c) s = .next t ∧ (t.player e.f.val c.val).playing = false ∧ (t.player e.f.val c.val).kphi = p.k0 + p.len ∧
        (t.player e.f.val c.val).phi = p.phiAt (p.k0 + p.len) ∧ t.gddr = u.gddr) ∧
    (c.val < 32 → entLinkEn p.ent = true → p.stop = false →
      let n := u.listOf e.f.val (entLink p.ent)
      (u.segError e.f.val c.val (u.descOf e.f.val (entSeg n))) = none →
      ∃ t, exec (.segmentBoundary e c) s = .next t ∧ (t.player e.f.val c.val).playing = true ∧
        (t.player e.f.val c.val).entry = entLink p.ent ∧ (t.player e.f.val c.val).k0 = p.k0 + p.len ∧ (t.player e.f.val c.val).ent = n)) ∧
  (∀ (s u : State) (e : FrondEv) (c : Fin 32) (p : Player) (j : Jump), u = s.at e.b → p = u.player e.f.val c.val → p.playing = true →
    p.bj ≤ u.beat + 6 → p.latchK ≠ p.k0 + p.len →
    (p.jumps.filter (fun x => u.names e.f.val c.val x && decide (x.posted + 6 ≤ p.bj))).getLast? = some j →
    u.gate e.f.val j.cond j.slot (p.bj - 6) = none →
    ∃ t, exec (.jumpLatch e c) s = .next t ∧ (t.player e.f.val c.val).latched = some j ∧ (t.player e.f.val c.val).latchK = p.k0 + p.len) ∧
  (∀ (s : State) (path : Path) (f : Fin 32) (r : Fin 8) (v : Word) (bell : Bool), s.admits path (pWaveform f.val) →
    let fill := (v - s.rd (pWaveform f.val) (ringReg r.val 6)).toNat
    (v.toNat % 64 = 0 → fill ≤ s.ringSize f.val r.val → fill < 2 ^ 31 →
      ∃ t, exec (.ringWr path f r v bell) s = .next t ∧ t.rd (pWaveform f.val) (ringReg r.val 5) = v ∧
        (∀ a, blockReg a = true → a ≠ (pWaveform f.val).reg (ringReg r.val 5) → t.rdA a = s.rdA a) ∧ t.gddr = s.gddr) ∧
    (v.toNat % 64 ≠ 0 ∨ s.ringSize f.val r.val < fill ∨ 2 ^ 31 ≤ fill →
      ∃ t, exec (.ringWr path f r v bell) s = .next t ∧ (∀ a, blockReg a = true → t.rdA a = s.rdA a) ∧ t.rdB (pWaveform f.val) 0x14 5 = true ∧
        t.rdF (pWaveform f.val) 0x20 7 0 = if v.toNat % 64 ≠ 0 then 2 else 1)) ∧
  (∀ (s u : State) (e : FrondEv) (r : Fin 8), u = s.at e.b →
    let n := min 256 (u.ringFill e.f.val r.val)
    let rd := (u.rd (pWaveform e.f.val) (ringReg r.val 6)).toNat
    let m := u.rdF (pWaveform e.f.val) (ringReg r.val 3) 8 0 * 1024
    (u.ringOn e.f.val r.val = false ∨ n = 0 ∨ m < u.stageFill e.f.val r.val u.beat + n ∨ (u.ringPaced e.f.val r.val n).1 = false →
      exec (.ringRefill e r) s = .next u) ∧
    (u.ringOn e.f.val r.val = true → n ≠ 0 → u.stageFill e.f.val r.val u.beat + n ≤ m → (u.ringPaced e.f.val r.val n).1 = true →
    ∃ t, exec (.ringRefill e r) s = .next t ∧ t.rd (pWaveform e.f.val) (ringReg r.val 6) = BitVec.ofNat 32 (rd + n) ∧ t.gddr = u.gddr ∧
      ∀ i, i < n / 4 → Tab.get 0 t.sram (e.f.val * 0x100000 + u.rdF (pWaveform e.f.val) (ringReg r.val 3) 27 16 * 256 + (u.ringRd e.f.val r.val + 4 * i) % m / 4) =
        BitVec.ofNat 32 (leNat ((List.range 4).map (fun k =>
          Tab.get 0 u.gddr (u.rd64 (pWaveform e.f.val) (ringReg r.val 0) + (rd + 4 * i + k) % u.ringSize e.f.val r.val)))))) ∧
  (∀ (s u : State) (e : FrondEv) (c : Fin 40) (p : Player) (r : Nat), u = s.at e.b → p = u.player e.f.val c.val → p.playing = true →
    p.under = false → p.ring = some r → r < 8 → ∀ i k, k = p.k0 + i * descSpan p.desc → 32 * u.beat ≤ k → k < 32 * u.beat + 32 →
    i * descSpan p.desc < p.len →
    let held := fun (j : Nat) => ahead (p.ringPos + (j + 1) * descBytes p.desc) (u.rd (pWaveform e.f.val) (ringReg r 6)).toNat = 0 ∧
      u.badByte e.f.val r (p.ringPos + (j + 1) * descBytes p.desc + 2 ^ 32 - 1) = false
    ¬held i → (∀ j, j < i → 32 * u.beat ≤ p.k0 + j * descSpan p.desc → held j) →
    ∃ t, exec (.ringUnderrun e c) s = .next t ∧ (t.player e.f.val c.val).under = true ∧
      (t.player e.f.val c.val).underK = k ∧ t.rdB (pWaveform e.f.val) 0x14 0 = true)

/-- Strobes reach the bias channels they load, CLR_N forces and releases, and events pulse and are delivered. STB_SW and a falling LDAC_N fire the strobes they select, one less than 20 beats after the last on its wire merging with it. STROBE_LOAD, unless CLR_N, HOLD or BOOT forces the bias outputs, loads every staged channel that names the strobe with its CODE. CLR_N low forces the outputs from ball beat b + 24 and clears every bias channel to its CLEAR_CODE; its release ends the span. SWPULSE pulses the channels it names 5 beats after the write. CHANNEL_EVENT delivers a channel's event once. The latencies in beats are the model's reading (log entry 1). (R216, R217, R220, R222, R329, R334, R426, 07_drive_outputs.md, 12_hypha_events.md, 16_housekeeping_analog.md) -/
def Obligations.StrobesAndEvents : Prop :=
  (∀ (s : State) (path : Path) (v : BitVec 8), s.admits path pHk →
    ∃ t, exec (.stbSw path v) s = .next t ∧ (∀ n, n < 8 → tst v.toNat n = true →
      let last := Tab.get 0 s.hk.fired n
      if last ≠ 0 ∧ s.beat + 9 < last + 20 then Tab.get 0 t.hk.fired n = last
      else n ∈ t.hk.strobes ∧ Tab.get 0 t.hk.fired n = s.beat + 9) ∧ (∀ a, blockReg a = true → t.rdA a = s.rdA a) ∧ t.gddr = s.gddr) ∧
  (∀ (s u : State) (b : Nat) (k : Fin 4), u = s.at b →
    ∃ t, exec (.ldacN b k) s = .next t ∧ (∀ n, n ∈ u.strobesOf 1 k.val →
      let last := Tab.get 0 u.hk.fired n
      if last ≠ 0 ∧ u.beat + 1 < last + 20 then Tab.get 0 t.hk.fired n = last
      else n ∈ t.hk.strobes ∧ Tab.get 0 t.hk.fired n = u.beat + 1) ∧
      (∀ a, blockReg a = true → t.rdA a = u.rdA a) ∧ t.gddr = u.gddr) ∧
  (∀ (s u : State) (h : Nat) (n : Fin 8), u = s.hkTo h → n.val ∈ u.hk.strobes → u.biasForced = false →
    ∃ t, exec (.strobeLoad h n) s = .next t ∧ ∀ f k, f < 32 → k < 4 →
      (u.biasLoad f k = n.val → u.rdB (pBias f) (biasReg k 3) 30 = true →
        t.rd (pBias f) (biasReg k 3) = BitVec.ofNat 32 (u.rdF (pBias f) (biasReg k 0) 19 0)) ∧
      (u.biasLoad f k ≠ n.val ∨ u.rdB (pBias f) (biasReg k 3) 30 = false → t.rd (pBias f) (biasReg k 3) = u.rd (pBias f) (biasReg k 3))) ∧
  (∀ (s u : State) (b : Nat), u = s.at b →
    (u.pins.clr = false → ∃ t, exec (.clrNAssert b) s = .next t ∧ t.pins.clr = true ∧ t.pins.clrFrom = u.edgeAt b + 24 ∧
      ∀ f k, f < 32 → k < 4 → t.rd (pBias f) (biasReg k 3) = BitVec.ofNat 32 (2 ^ 31 + u.rdF (pBias f) (biasReg k 2) 19 0)) ∧
    (u.pins.clr = true → ∃ t, exec (.clrNRelease b) s = .next t ∧ t.pins.clr = false ∧
      t.pins.spans = (u.pins.clrFrom, u.edgeAt b + 23) :: u.pins.spans ∧ ∀ a, blockReg a = true → t.rdA a = u.rdA a)) ∧
  (∀ (s : State) (path : Path) (p : Fin 16) (j : Fin 2) (v : Word), s.admits path (pHchan p.val) →
    ∃ t, exec (.swpulse path p j v) s = .next t ∧ t.hypha.events = s.hypha.events ++
      (maskList 32 v.toNat).map (fun i => (s.beat + 5, 1024 + 64 * p.val + 32 * j.val + i)) ∧
      (∀ a, blockReg a = true → t.rdA a = s.rdA a) ∧ t.gddr = s.gddr) ∧
  (∀ (s u : State) (b : Nat) (c : Fin 1024), u = s.at b →
    ((b, c.val) ∈ u.hypha.carried → exec (.channelEvent b c) s =
      .next ((u.mapHypha (fun h => { h with carried := h.carried.erase (b, c.val) })).deliver c.val b)) ∧
    ((b, c.val) ∉ u.hypha.carried → b = u.beat → c.val ∈ u.hyphaNow.1 → c.val ∉ u.hypha.delivered → exec (.channelEvent b c) s =
      .next ((u.mapHypha (fun h => { h with delivered := c.val :: h.delivered })).deliver c.val b)))

/-- Overrange beats, input switches, tone changes, MACMIN steps and window results do what the read-out rules say. With u the state at the beat. An overrange beat that is not blanked is recorded, flagged and pulsed into Hypha 17 beats on, and the codes of its overrange samples are at their rails. A pending change of range or input takes effect at a beat clear of every window and slot. A committed tone change holds from its own first sample on: 24 x (A + 24), or the end of the filter spans of the tone's windows that it would meet; TONE_CHANGE changes no window and no register, and the newest change is what each sample from there on uses. MACMIN adds weight times sample to the window's 48-bit sums, saturating; an uncorrectable weight word counts as 0, marks the window and sets its flag. A due window puts its result on the decision bus in that beat and sends its words to the queue of OUT, where its owner is the frond's. A read of WMEM_DATA_LO, no earlier write of the path waiting, returns the selected word and latches the rest; else it waits behind that write. (R233, R237, R246, R259, R264, R267, R271, 08_readout_front_end.md, 09_readout_kernels.md) -/
def Obligations.ReadoutPath : Prop :=
  (∀ (s u : State) (e : OvrEv), u = s.at e.b →
    ((u.fe e.f.val).blankAt u.beat = false → (u.fe e.f.val).ovr.head? ≠ some u.beat →
      ∃ t, exec (.adcOvr e) s = .next t ∧ (t.fe e.f.val).ovr.head? = some u.beat ∧ t.rdB (pReadout e.f.val) 0x14 0 = true ∧
        t.rd64 (pReadout e.f.val) 0x110 = u.beat % 2 ^ 64 ∧ (u.beat + 17, 0x080 + e.f.val) ∈ t.hypha.events ∧
        ∀ i v code, (e.rails.find? (fun x => x.1 == i)) = some (i, v) →
          (t.fe e.f.val).codeAt (24 * u.beat + i.val) code = if v then 2047 else -2048)) ∧
  (∀ (s u : State) (e : FrondEv), u = s.at e.b →
    ((u.fe e.f.val).pendingAt u.beat = true → (u.fe e.f.val).clear u.beat = true → u.feBusy e.f.val = false → u.inSlot e.f.val u.beat = false →
      ∃ t, exec (.feSwitch e) s = .next t ∧ (t.fe e.f.val).rangeAt u.beat = ((u.fe e.f.val).reqAt u.beat).1 ∧
        (t.fe e.f.val).inputAt u.beat = ((u.fe e.f.val).reqAt u.beat).2 ∧ t.rd64 (pReadout e.f.val) 0x108 = u.beat % 2 ^ 64) ∧
    (∀ (t0 : Fin 16), ∃ t, exec (.toneChange e t0) s = .next t ∧ (t.fe e.f.val).wins = (u.fe e.f.val).wins ∧ (∀ x, t.rdA x = u.rdA x) ∧
      ∀ a d, (u.fe e.f.val).toneChg.find? (fun x => x.1 == t0.val) = some (t0.val, a, d) →
        24 * u.beat < (u.fe e.f.val).toneFrom t0.val a + 201600 →
        ∀ ka, (u.fe e.f.val).toneFrom t0.val a ≤ ka → (t.fe e.f.val).demodAt t0.val ka = d) ∧
    (∀ (t0 : Fin 16) (a : Nat), 24 * (a + 24) ≤ (u.fe e.f.val).toneFrom t0.val a ∧
      ((∀ w ∈ (u.fe e.f.val).past ++ (u.fe e.f.val).wins, w.tone = t0.val →
          24 * (a + 24) + 71 < w.ks ∨ w.ks + 48 * w.len + 73 ≤ 24 * (a + 24)) → (u.fe e.f.val).toneFrom t0.val a = 24 * (a + 24))) ∧
    (∀ (t0 : Fin 16) (codes : List (BitVec 12)) (ecc : Ecc) (w : Win), (u.fe e.f.val).openWin t0.val = some w → w.present w.n ≤ u.beat →
      let d := u.demodSample e.f.val t0.val (w.centre w.n) codes
      let m := if ecc = .bad then 0 else (Tab.get 0 u.wmem (wkey e.f.val t0.val (fld (w.cfg.getD 0 0) 14 0 + w.n))).toNat
      ∃ t, exec (.macmin e t0 codes ecc) s = .next t ∧ (ecc = .bad → t.rdB (pKernel e.f.val) 0x14 3 = true) ∧
        ∃ x ∈ (t.fe e.f.val).wins, x.tone = t0.val ∧ x.n = w.n + 1 ∧ x.bad = (w.bad || decide (ecc = .bad)) ∧
        (w.ovfI = none → x.accI = satI 48 (w.accI + (sgn (nfld m 35 18) 18 * d.1 - sgn (nfld m 17 0) 18 * d.2))) ∧
        (w.ovfQ = none → x.accQ = satI 48 (w.accQ + (sgn (nfld m 35 18) 18 * d.2 + sgn (nfld m 17 0) 18 * d.1))) ∧
        (w.ovfI ≠ none → x.accI = w.accI) ∧ (w.ovfQ ≠ none → x.accQ = w.accQ)) ∧
    (∀ (t0 : Fin 16) (w : Win), u.resultDue e.f.val t0.val = some w →
      ∃ t, exec (.windowResult e t0) s = .next t ∧ (∃ r ∈ t.bus, r.frond = e.f.val ∧ r.beat = u.beat ∧ ∃ x ∈ r.results, x.tone = w.tone ∧
          x.issue = w.issue ∧ x.o = w.ovr) ∧
        (let out := w.cfg.getD 7 0
        (bit out 8 = true → u.owner (pQueue (fld out 5 0)) = u.frondOwner e.f.val → ∃ i, t.transit = u.transit ++ [i] ∧ i.q = fld out 5 0 ∧
          i.len = min (fld out 7 6 + 1) 3 ∧ ∃ marks, i.words.head? = some (resultWord w.out w.tone marks)) ∧
        (bit out 8 = false → t.transit = u.transit)))) ∧
  (∀ (s : State) (path : Path) (f : Fin 32), s.reads path (pKernel f.val) →
    (∀ q, s.heldBy none path = some q → s.grant path (pKernel f.val) false = .ok →
      exec (.wmemDataLoRead path f) s = .next (s.putBehind q (path, (pKernel f.val).reg 0x118, none))) ∧
    (s.heldBy none path = none → exec (.wmemDataLoRead path f) s = .next (s.answerPair path ((pKernel f.val).reg 0x118) (BitVec.ofNat 32 (s.wmemRead f.val).toNat)
      (BitVec.ofNat 32 ((s.wmemRead f.val).toNat / 2 ^ 32)))))

/-- Decisions end: LATE at their deadline, at their slot 13 beats after they resolve, MISMATCH on disagreement, or by a peer's record. With u the state at the beat. A decision without its inputs, or its peer's record, resolves once its deadline has passed: LATE, or for an EVENT rule TRUSTED with value 0 where the channel is its owner's, could be heard and no record was lost, else INVALID; the rule has none in flight, RESULT shows the quality, and a central decision takes effect at its slot 13 beats later. An arm notice makes the slot PENDING, a resolution RESOLVED with value and quality, while the shot of the decision lasts and no discarded record holds the slot INVALID. A record with a parity error is lost and INVALID. A disagreement ends every decision at the unit and is recorded. A peer's decision record decides a waiting EXTERNAL rule 3 beats later, or arms and resolves one with XARM; one after D finds it LATE; it is discarded in HOLD. (R279, R280, R283, R285, R287, R292, R294, R298, R518, 10_sorus_feedback.md) -/
def Obligations.SorusResolves : Prop :=
  (∀ (s u : State) (b : Nat) (n : Fin 64) (r : Fin 16) (x : Flight), u = s.at b → u.flight n.val r.val = some x → x.dl < u.beat →
    (x.ready = none ∨ (u.ruleKind n.val r.val = 3 ∧ x.out = none ∧ x.valid = true)) →
    let q := if u.ruleKind n.val r.val = 4 then
      (if u.owner (pHchan (u.rdF (pSlot n.val) (ruleReg r.val 1) 21 12 / 64)) = u.ruleOwner n.val ∧ u.hypha.taps.contains (u.ruleChan n.val r.val, ruleTask n.val r.val) = true ∧ x.taint = false then 0 else 3) else 1
    ∃ t, exec (.deadlinePassed b n r) s = .next t ∧ t.flight n.val r.val = none ∧
      t.rd (pSlot n.val) (ruleReg r.val 5) = BitVec.ofNat 32 (q * 2 ^ 30 + x.round * 2 ^ 20) ∧
      t.rd (pSlot n.val) (ruleReg r.val 6) = 0 ∧ t.gddr = u.gddr ∧
      (u.ruleAtPort n.val r.val = false → u.ruleLocal n.val r.val = true → ∃ z ∈ t.sorus.resols, z.due = u.beat + 13 ∧
        z.frond = u.ruleDF n.val r.val ∧ z.rule = 16 * n.val + r.val ∧ z.qual = q ∧ z.value = 0)) ∧
  (∀ (s u : State) (e : FrondEv) (x : Notice), u = s.at e.b →
    u.sorus.notices.filter (fun y => y.due == u.beat && y.frond == e.f.val) = [x] → u.ruleFeeds (x.rule / 16) (x.rule % 16) = true →
    u.shotLasts (u.ruleDF (x.rule / 16) (x.rule % 16)) x.shot = true →
    ∃ t, exec (.armNotice e false) s = .next t ∧
      (t.slot (u.ruleDF (x.rule / 16) (x.rule % 16)) (u.ruleDS (x.rule / 16) (x.rule % 16))).st = 1 ∧
      (t.slot (u.ruleDF (x.rule / 16) (x.rule % 16)) (u.ruleDS (x.rule / 16) (x.rule % 16))).lock = false ∧ x ∉ t.sorus.notices) ∧
  (∀ (s u : State) (e : FrondEv) (x : Resol), u = s.at e.b →
    u.sorus.resols.filter (fun y => y.due == u.beat && y.frond == e.f.val) = [x] → u.ruleFeeds (x.rule / 16) (x.rule % 16) = true →
    u.shotLasts (u.ruleDF (x.rule / 16) (x.rule % 16)) x.shot = true →
    (u.slot (u.ruleDF (x.rule / 16) (x.rule % 16)) (u.ruleDS (x.rule / 16) (x.rule % 16))).lock = false →
    ∃ t, exec (.slotResolution e false) s = .next t ∧ x ∉ t.sorus.resols ∧
      (t.slot (u.ruleDF (x.rule / 16) (x.rule % 16)) (u.ruleDS (x.rule / 16) (x.rule % 16))).st = 2 ∧
      (t.slot (u.ruleDF (x.rule / 16) (x.rule % 16)) (u.ruleDS (x.rule / 16) (x.rule % 16))).value = x.value ∧
      (t.slot (u.ruleDF (x.rule / 16) (x.rule % 16)) (u.ruleDS (x.rule / 16) (x.rule % 16))).qual = x.qual) ∧
  (∀ (s u : State) (e : FrondEv), u = s.at e.b →
    ∃ t, exec (.armNotice e true) s = .next t ∧ exec (.slotResolution e true) s = .next t ∧
      t.rd pTimeline 0x110 = satInc (u.rd pTimeline 0x110) 1 ∧
      ∀ k n r, k < 16 → u.writerOf e.f.val k = some (n, r) → u.ruleAtPort n r = false → u.ruleFeeds n r = true →
        (t.slot e.f.val k).st = 2 ∧ (t.slot e.f.val k).qual = 3 ∧ (t.slot e.f.val k).lock = true) ∧
  (∀ (s u : State) (b : Nat) (unit : Fin 33) (frames : List (Fin 32 × Fin 16)), u = s.atMM b unit.val →
    ∃ t, exec (.lockstepDisagreement b unit frames) s = .next t ∧
      t.rd pSorus 0x100 = BitVec.ofNat 32 (unit.val * 2 ^ 20 + u.beat % 2 ^ 20) ∧ t.rdB pSorus 0x14 0 = true ∧
      (∀ x ∈ u.rulesAt unit.val, t.flight x.1 x.2 = none) ∧
      ∀ x ∈ frames, t.rdF pSorus (0x200 + 4 * x.1.val) (2 * x.2.val + 1) (2 * x.2.val) = 0) ∧
  (∀ (s u : State) (b : Nat) (dst : Fin 32) (w : BitVec 64), u = s.at b →
    (dst.val ≠ u.devnum → (nfld w.toNat 63 60 = 1 ∨ nfld w.toNat 63 60 = 2) → exec (.ndeorDecisionRecord b dst w) s = .next (u.unicast dst.val 2 w)) ∧
    (dst.val = u.devnum → u.mode = 5 → (nfld w.toNat 63 60 = 1 ∨ nfld w.toNat 63 60 = 2) → exec (.ndeorDecisionRecord b dst w) s = .next u) ∧
    (dst.val = u.devnum → u.mode ≠ 5 → nfld w.toNat 63 60 = 1 → exec (.ndeorDecisionRecord b dst w) s = .next u.extDiscard) ∧
    (nfld w.toNat 63 60 ≠ 1 → nfld w.toNat 63 60 ≠ 2 → exec (.ndeorDecisionRecord b dst w) s = .next (u.count pNdeor 1 1)) ∧
    (dst.val = u.devnum → u.mode ≠ 5 → nfld w.toNat 63 60 = 2 → u.ruleOn (nfld w.toNat 54 49) (nfld w.toNat 48 45) = true →
      u.ruleKind (nfld w.toNat 54 49) (nfld w.toNat 48 45) = 3 →
      u.rdB (pSlot (nfld w.toNat 54 49)) (ruleReg (nfld w.toNat 48 45) 1) 22 = true →
      nfld w.toNat 59 55 = u.ruleSF (nfld w.toNat 54 49) (nfld w.toNat 48 45) →
      exec (.ndeorDecisionRecord b dst w) s =
        .next (u.mapSorus (fun o => { o with intake := o.intake ++ [(u.beat + 3, w, false)] }))) ∧
    (∀ x, dst.val = u.devnum → u.mode ≠ 5 → nfld w.toNat 63 60 = 2 → u.ruleOn (nfld w.toNat 54 49) (nfld w.toNat 48 45) = true →
      u.ruleKind (nfld w.toNat 54 49) (nfld w.toNat 48 45) = 3 →
      u.rdB (pSlot (nfld w.toNat 54 49)) (ruleReg (nfld w.toNat 48 45) 1) 22 = false →
      u.flight (nfld w.toNat 54 49) (nfld w.toNat 48 45) = some x →
      nfld w.toNat 59 55 = u.rdF (pSlot (nfld w.toNat 54 49)) (ruleReg (nfld w.toNat 48 45) 4) 30 26 →
      nfld w.toNat 44 37 = x.round → x.ready = none → (x.sentOut = true ∨ u.ruleFwd (nfld w.toNat 54 49) (nfld w.toNat 48 45) = false) →
      (x.dl < u.beat → ∃ t, exec (.ndeorDecisionRecord b dst w) s = .next t ∧ t.flight (nfld w.toNat 54 49) (nfld w.toNat 48 45) = none ∧
        t.rd (pSlot (nfld w.toNat 54 49)) (ruleReg (nfld w.toNat 48 45) 5) = BitVec.ofNat 32 (2 ^ 30 + x.round * 2 ^ 20)) ∧
      (u.beat ≤ x.dl → ∃ t y, exec (.ndeorDecisionRecord b dst w) s = .next t ∧ t.flight (nfld w.toNat 54 49) (nfld w.toNat 48 45) = some y ∧
        y.ready = some (u.beat + 3) ∧ y.out = some (nfld w.toNat 36 35, if nfld w.toNat 36 35 = 0 then nfld w.toNat 34 33 else 0,
          if nfld w.toNat 36 35 = 0 then nfld w.toNat 31 0 else 0))))

/-- Trigger sources, captures, records and host rings of a capture context do what R302 to R315 say. With u the state at the beat. A source that may make a trigger at T does: the trigger is counted, flagged and dated, and a GATED context captures. TRIG_IN, TIME_MATCH, SWTRIG (4 beats after its write, as the context is then) and AUTO are such sources, with the T that Table 11.1 gives them. CAPTURE_END and HOLDOFF_END take the context to HOLDOFF and ARMED. DATA_RECORD, with no mark or gap to write first, writes a header of 64 bytes and the padded payload, both as KIND, FRONDS and TONES held at its first beat and without the beats that found the elastic buffer full, into the capture ring at CAP_WR, writes nothing outside the ring, and stages the record of a HOST context; a record of items that holds none is left out. HOST_COPY puts the next record into the host ring and writes HOST_WR back, or stops the context where it does not fit. HOST_RD is taken where it is a multiple of 64 and does not pass HOST_WR. (R302, R303, R305, R308, R313, R314, R315, 11_acquisition_queues.md) -/
def Obligations.Acquisition : Prop :=
  (∀ (u : State) (c : Fin 16) (src T : Nat) (late : Bool), src < 10 → Claims.mayTrigger u c.val src T →
    Claims.triggered u (u.trigger c.val src T late) c.val src T late) ∧
  (∀ (s u : State) (b : Nat), u = s.at b →
    (∀ (i : Fin 4) (falling : Bool) (held : Nat), falling = u.rdB pTrig (0x100 + 4 * i.val) 8 → u.rdF pTrig (0x100 + 4 * i.val) 3 0 ≤ held →
      exec (.trigIn b i falling held) s = .next ((List.range 16).foldl (fun a c =>
        a.trigger c i.val (u.beat - 3 - u.rdF pTrig (0x100 + 4 * i.val) 3 0) false) ((u.count pTrig i.val 1).srcEvent u.beat (0x0A0 + i.val)))) ∧
    (∀ c : Fin 16, u.acqLive c.val = true → u.rdB (pAcq c.val) 0x110 7 = true → (u.acq c.val).timeDone = false → (u.acq c.val).timeFrom ≤ u.beat →
      let m := u.rd64 (pAcq c.val) 0x124
      m ≤ u.beat → u.beat < m + 2 ^ 63 → m < 2 ^ 63 →
      ((u.acq c.val).timeFrom ≤ m → exec (.timeMatch b c) s =
        .next ((u.setAcq c.val { u.acq c.val with timeDone := true }).trigger c.val 7 m false)) ∧
      (m < (u.acq c.val).timeFrom → exec (.timeMatch b c) s =
        .next ((u.setAcq c.val { u.acq c.val with timeDone := true }).trigger c.val 7 (u.acq c.val).timeFrom true))) ∧
    (∀ c : Fin 16,
      let v := u.acqStep c.val
      let T := (v.acq c.val).autoFrom + v.rdF (pAcq c.val) 0x120 23 0
      v.acqLive c.val = true → v.rdB (pAcq c.val) 0x110 9 = true → T ≤ v.beat → exec (.autoTrigger b c) s = .next (v.trigger c.val 9 T false)) ∧
    (∀ c : Fin 16, u.acqState c.val = 2 → (u.acq c.val).capTo ≤ u.beat →
      ∃ t, exec (.captureEnd b c) s = .next t ∧ t.acqState c.val = 3 ∧ t.acqs = u.acqs ∧ t.gddr = u.gddr ∧
        ∀ a, a ≠ (pAcq c.val).reg 0x100 → t.rdA a = u.rdA a) ∧
    (∀ c : Fin 16, u.acqState c.val = 3 → (u.acq c.val).capTo + u.rdF (pAcq c.val) 0x11C 23 0 ≤ u.beat →
      ∃ t, exec (.holdoffEnd b c) s = .next t ∧ t.acqState c.val = 1 ∧ t.gddr = u.gddr ∧
        ∀ a, a ≠ (pAcq c.val).reg 0x100 → t.rdA a = u.rdA a) ∧
    (∀ (c : Fin 16) (raw : List (List (BitVec 12))) (demod : List DemodUnit) (lost : List Nat),
      let v := u.acqStep c.val
      let x := v.acq c.val
      let full := v.capFull c.val (v.recFrom c.val) (v.recEnd c.val) demod
      let kind := fld (v.acqSel c.val (v.recFrom c.val)).1 9 8
      let pay := v.payload c.val (v.recFrom c.val) (v.recEnd c.val) raw demod full.1
      let bytes := (Claims.dataHeader v c.val pay.1.length (v.recFrom c.val) x.seq).flatMap (leBytes 8) ++ pad64 pay.1
      let base := v.rd64 (pAcq c.val) 0x130
      let size := ringBytes (v.rdF (pAcq c.val) 0x138 27 24)
      let w := (v.rd (pAcq c.val) 0x13C).toNat
      v.acqLive c.val = true → x.stopAt = none → v.recFrom c.val < v.recEnd c.val → v.recEnd c.val + 26 ≤ v.beat → x.marks = [] →
      x.lost = none → pay.2 = 0 →
      (kind < 2 ∨ pay.1 ≠ [] →
        ∃ t, exec (.dataRecord b c raw demod lost) s = .next t ∧ (t.acq c.val).next = v.recEnd c.val ∧ (t.acq c.val).seq = x.seq + 1 ∧ (t.acq c.val).buf = full.2 ∧
          t.rd (pAcq c.val) 0x13C = v.rd (pAcq c.val) 0x13C + BitVec.ofNat 32 (64 + (pad64 pay.1).length) ∧
          (bytes.length ≤ size → ∀ i, i < bytes.length → Tab.get 0 t.gddr (base + (w + i) % size) = bytes.getD i 0) ∧
          (∀ a, a < base ∨ base + size ≤ a → Tab.get 0 t.gddr a = Tab.get 0 v.gddr a) ∧
          (t.acq c.val).stage = if bit (v.acqCtl c.val) 4 then x.stage ++ [(v.recFrom c.val, w, bytes.length)] else x.stage) ∧
      (2 ≤ kind → pay.1 = [] →
        ∃ t, exec (.dataRecord b c raw demod lost) s = .next t ∧ (t.acq c.val).next = v.recEnd c.val ∧ (t.acq c.val).seq = x.seq ∧
          t.gddr = v.gddr ∧ t.rd (pAcq c.val) 0x13C = v.rd (pAcq c.val) 0x13C)) ∧
    (∀ (c : Fin 16) (fb w n : Nat) (l : List (Nat × Nat × Nat)), (u.acq c.val).stage = (fb, w, n) :: l → u.rdB pPcie 0x100 0 = true →
      let room := hostRoom (ringBytes (u.rdF (pAcq c.val) 0x148 27 24)) (u.rd (pAcq c.val) 0x154) (u.rd (pAcq c.val) 0x158)
      let bytes := (List.range n).map (fun i =>
        Tab.get 0 u.gddr (u.rd64 (pAcq c.val) 0x130 + (w + i) % ringBytes (u.rdF (pAcq c.val) 0x138 27 24)))
      (n + 64 ≤ room → ∃ t, exec (.hostCopy b c) s = .next t ∧ t = (u.setAcq c.val { u.acq c.val with stage := l }).hostPut c.val bytes ∧
        t.rd (pAcq c.val) 0x154 = u.rd (pAcq c.val) 0x154 + BitVec.ofNat 32 n ∧
        (t.acq c.val).stage = l ∧ t.gddr = u.gddr) ∧
      (room < n + 64 → exec (.hostCopy b c) s = .next ((u.acqStop c.val 1).overflowMark c.val (u.acq c.val).firstLost)))) ∧
  (∀ (s : State) (path : Path) (c : Fin 16), s.admits path (pAcq c.val) →
    exec (.swtrigFire path c) s = .next { s with trigs := s.trigs ++ [(s.beat + 4, 8, c.val)] } ∧
    (∀ (u : State) (T : Nat), u.trigs.filter (fun e => decide (e.1 ≤ u.beat)) = [(T, 8, c.val)] →
      u.trigsDue = State.trigger { u with trigs := u.trigs.filter (fun e => decide (u.beat < e.1)) } c.val 8 T false) ∧
    (∀ (v : Word) (bell : Bool),
      let room := (s.rd (pAcq c.val) 0x154 - s.rd (pAcq c.val) 0x158).toNat
      (v.toNat % 64 = 0 → (v - s.rd (pAcq c.val) 0x158).toNat ≤ room →
        ∃ t, exec (.hostRd path c v bell) s = .next t ∧ t.rd (pAcq c.val) 0x158 = v ∧ t.gddr = s.gddr ∧
          ∀ a, a ≠ (pAcq c.val).reg 0x158 → t.rdA a = s.rdA a) ∧
      (v.toNat % 64 ≠ 0 ∨ room < (v - s.rd (pAcq c.val) 0x158).toNat →
        exec (.hostRd path c v bell) s = .next (s.recErr (pAcq c.val) 1 0x158))))

/-- Items enter a result queue whole or not at all; HEAD, the drain and the commands move RD, REL and the mark as R317 to R321 say. With u the state at the beat. The first word of an item that fits allocates all of it and lands; one that does not fit is dropped, flagged and counted. A later word lands in its place. A HEAD read takes the word at RD for its requester or waits; a wait of 2000 beats ends empty. The drain engine copies the item at RD and releases it. Commands, with no access waiting before them: RELEASE and ALL move REL past items read, MARK marks the item at RD, REWIND returns RD to the mark, FLUSH of whole items empties the queue, one that meets a partial item discards from its start and sets FLUSH_TRUNC. The timer fires after TIMEOUT. DRD is taken where it is valid and else refused. (R317, R318, R319, R320, R321, R325, 11_acquisition_queues.md) -/
def Obligations.ResultQueues : Prop :=
  (∀ (s u : State) (b k q len : Nat) (w : BitVec 64) (ws : List (BitVec 64)), u = s.at b →
    (u.transit[k]? = some ⟨q, w :: ws, len, none⟩ →
      ((u.queue q).alloc + len ≤ (u.queue q).rel + u.qcap q →
        ∃ t : State, exec (.queueFirstWord b k) s = .next t.turns ∧ (t.queue q).alloc = (u.queue q).alloc + len ∧
          Tab.get 0 t.qmem (65536 * q + (u.queue q).alloc % u.qcap q) = w) ∧
      ((u.queue q).rel + u.qcap q < (u.queue q).alloc + len →
        ∃ t : State, exec (.queueFirstWord b k) s = .next t.turns ∧ t.queues = u.queues ∧ t.qmem = u.qmem ∧ t.rdB (pQueue q) 0x14 1 = true)) ∧
    (∀ start, u.transit[k]? = some ⟨q, w :: ws, len, some (some start)⟩ →
      ∃ t : State, exec (.queueWord b k) s = .next t.turns ∧
        Tab.get 0 t.qmem (65536 * q + (start + (len - (ws.length + 1))) % u.qcap q) = w ∧ (t.queue q).alloc = (u.queue q).alloc)) ∧
  (∀ (s : State) (path : Path) (q : Fin 64), s.reads path (pQueue q.val) → s.freePage path ((pQueue q.val).reg 0x100) →
    s.rdB (pQueue q.val) 0x110 8 = false →
    ((s.queue q.val).rd ≠ (s.queue q.val).vis → ∃ t, exec (.queueHead path q) s = .next t ∧ (t.queue q.val).rd = (s.queue q.val).rd + 1 ∧
      Tab.get 0 (t.queue q.val).latch path.code = Tab.get 0 s.qmem (65536 * q.val + (s.queue q.val).rd % s.qcap q.val) ∧
      t.outbox = readOut path [(s.queue q.val).headWord] :: s.outbox ∧ (t.queue q.val).rel = (s.queue q.val).rel) ∧
    ((s.queue q.val).rd = (s.queue q.val).vis → ∃ t, exec (.queueHead path q) s = .next t ∧
      (t.queue q.val).waits = (s.queue q.val).waits ++ [(path, s.beat)] ∧ t.outbox = s.outbox)) ∧
  (∀ (s u : State) (b b0 : Nat) (q : Fin 64) (path : Path) (l : List (Path × Nat)), u = s.at b → (u.queue q.val).waits = (path, b0) :: l →
    b0 + 2000 ≤ u.beat → ∃ t : State, exec (.headTimeout b q) s = .next t.turns ∧ (t.queue q.val).waits = l ∧
      Tab.get 0 (t.queue q.val).latch path.code = 0 ∧ readOut path [0] ∈ t.outbox) ∧
  (∀ (s u : State) (b : Nat) (q : Fin 64) (i : QItem), u = s.at b → (u.queue q.val).itemAt (u.queue q.val).rd = some i →
    u.rdB pPcie 0x100 0 = true → u.rdB (pQueue q.val) 0x110 8 = true → (u.queue q.val).rd ≠ (u.queue q.val).vis →
    8 * (i.len + 1) ≤ hostRoom (ringBytes (u.rdF (pQueue q.val) 0x12C 27 24)) (u.rd (pQueue q.val) 0x138) (u.rd (pQueue q.val) 0x13C) →
    ∃ t, exec (.drainCopy b q) s = .next t ∧ t.rd (pQueue q.val) 0x138 = u.rd (pQueue q.val) 0x138 + BitVec.ofNat 32 (8 * (i.len + 1)) ∧
      (t.queue q.val).rel = i.start + i.len ∧ (t.queue q.val).rd = i.start + i.len ∧ (t.queue q.val).seq = (u.queue q.val).seq + 1) ∧
  (∀ (s : State) (path : Path) (q : Fin 64), s.admits path (pQueue q.val) → s.freePage path ((pQueue q.val).reg 0x10C) →
    let x := s.queue q.val
    (∀ n : BitVec 16, ∃ t, exec (.queueRelease path q n) s = .next t ∧ (t.queue q.val).rel = relEnd x.rd n.toNat x.rel x.items ∧
      (t.queue q.val).rd = x.rd ∧ (t.queue q.val).alloc = x.alloc ∧ t.qmem = s.qmem) ∧
    (∃ t, exec (.queueAll path q) s = .next t ∧ (t.queue q.val).rel = relEnd x.rd x.items.length x.rel x.items ∧ (t.queue q.val).rd = x.rd) ∧
    (∃ t, exec (.queueMark path q) s = .next t ∧ (t.queue q.val).mark = some (((x.itemAt x.rd).map (·.start)).getD x.rd) ∧
      (t.queue q.val).rd = x.rd ∧ (t.queue q.val).rel = x.rel) ∧
    (∀ m, x.mark = some m → ∃ t, exec (.queueRewind path q) s = .next t ∧ (t.queue q.val).rd = m ∧ (t.queue q.val).rel = x.rel) ∧
    (x.mark = none → exec (.queueRewind path q) s = .next (s.recErr (pQueue q.val) 1 0x10C)) ∧
    ((∀ i ∈ x.items, i.len ≤ i.got) → ∃ t, exec (.queueFlush path q) s = .next t ∧ (t.queue q.val).rel = x.alloc ∧
      (t.queue q.val).rd = x.alloc ∧ (t.queue q.val).vis = x.alloc ∧ (t.queue q.val).items = [] ∧ (t.queue q.val).mark = none) ∧
    (∀ (i : QItem) (l : List QItem), x.items.dropWhile (fun i => decide (i.len ≤ i.got)) = i :: l →
      ∃ t, exec (.queueFlush path q) s = .next t ∧ (t.queue q.val).rel = i.start ∧ (t.queue q.val).rd = i.start ∧
        (t.queue q.val).vis = i.start ∧ (t.queue q.val).alloc = x.alloc ∧ (t.queue q.val).mark = none ∧
        (∀ z ∈ (t.queue q.val).items, z.disc = true) ∧ t.rdB (pQueue q.val) 0x14 2 = true) ∧
    (∀ (v : Word) (bell : Bool), v.toNat % 64 = 0 →
      (v - s.rd (pQueue q.val) 0x13C).toNat ≤ (s.rd (pQueue q.val) 0x138 - s.rd (pQueue q.val) 0x13C).toNat →
      ∃ t, exec (.queueDrd path q v bell) s = .next t ∧ t.rd (pQueue q.val) 0x13C = v ∧
        ∀ a, a ≠ (pQueue q.val).reg 0x13C → t.rdA a = s.rdA a) ∧
    (∀ (v : Word) (bell : Bool), v.toNat % 64 ≠ 0 ∨
      (s.rd (pQueue q.val) 0x138 - s.rd (pQueue q.val) 0x13C).toNat < (v - s.rd (pQueue q.val) 0x13C).toNat →
      exec (.queueDrd path q v bell) s = .next (s.recErr (pQueue q.val) 1 0x13C))) ∧
  (∀ (s u : State) (b b0 : Nat) (q : Fin 64), u = s.at b → (u.queue q.val).timer = some b0 → u.rdF (pQueue q.val) 0x114 15 0 ≠ 0 →
    b0 + 1000 * u.rdF (pQueue q.val) 0x114 15 0 ≤ u.beat →
    ∃ t, exec (.queueTimeout b q) s = .next t ∧ (t.queue q.val).timer = none ∧ t.rdB (pQueue q.val) 0x14 0 = true ∧
      (u.beat + 6, 0x0B4 + q.val) ∈ t.hypha.events)

/-- The PTP clock steps, snaps and fires its alarms as R346 to R351 say; SEL and EN of SERVO.CTRL act at their write. With u the state in the MAC cycle of the command and the write admitted: SET loads S and NS from SET_S and SET_NS and clears FRAC; ADJ adds ADJ_NS (magnitudes of 10^9 and above act as 999,999,999); both set FLAGS.STEP, clear the mapping history, and undo a servo step made in the same cycle; SNAP copies clock and latest mapping pair; a wrong KEY only records cause KEY. An alarm whose time is reached clears EN and sets its flag, and ALARM_LATE where it was late. A mapping pair is kept, 64 at most. A write of SERVO.CTRL takes SEL, and EN = 0 returns INCR to INCR_NOM. (R346, R347, R348, R349, R350, R351, R359, 13_time_and_cluster.md) -/
def Obligations.PtpClock : Prop :=
  (∀ (s u : State) (path : Path) (m : Nat), u = s.macTo m → u.admits path pClock →
    (∃ t, exec (.clockSet path m 0x544D) s = .next t ∧
      t.time.ptp = ⟨(u.rd pClock 0x114).toNat + 2 ^ 32 * u.rdF pClock 0x118 15 0, min 999999999 (u.rd pClock 0x11C).toNat, 0⟩ ∧
      t.time.pairs = [] ∧ t.time.steps = u.time.steps + 1 ∧ t.rdB pClock 0x14 0 = true ∧ t.gddr = u.gddr) ∧
    (∃ t, exec (.clockAdj path m 0x544D) s = .next t ∧
      (t.time.ptp.total : Int) =
        (u.dropStep.time.ptp.total + clampI (-999999999) 999999999 (u.rd pClock 0x120).toInt * 2 ^ 32) % (2 ^ 48 * 10 ^ 9 * 2 ^ 32) ∧
      t.time.pairs = [] ∧ t.time.steps = u.time.steps + 1 ∧ t.rdB pClock 0x14 0 = true ∧ t.gddr = u.gddr) ∧
    (∃ t, exec (.clockSnap path m 0x544D) s = .next t ∧ t.rd64 pClock 0x104 = u.time.ptp.s % 2 ^ 64 ∧
      t.rd pClock 0x10C = BitVec.ofNat 32 u.time.ptp.ns ∧ t.rd pClock 0x110 = BitVec.ofNat 32 u.time.ptp.frac ∧
      (∀ b q l, u.time.pairs = (b, q) :: l → t.rd64 pClock 0x170 = b % 2 ^ 64 ∧
        t.rd pClock 0x180 = BitVec.ofNat 32 (PtpTime.ofTotal q).ns) ∧ t.time = u.time ∧ t.gddr = u.gddr) ∧
    ∀ key, key ≠ 0x544D → ∀ c ∈ [Instr.clockSet path m key, .clockAdj path m key, .clockSnap path m key],
      exec c s = .next (u.recErr pClock 1 0x100)) ∧
  (∀ (s u : State) (m : Nat) (n : Fin 2), u = s.macTo m →
    (u.alarmOn n.val = true → u.time.ptp.atOrAfter (u.alarmTime n.val) = true → ∃ t, exec (.clockAlarm m n) s = .next t ∧
      t.alarmOn n.val = false ∧ t.alarmTime n.val = u.alarmTime n.val ∧ t.rdB pClock 0x14 (1 + n.val) = true ∧
      ((if n.val = 0 then u.time.late0 else u.time.late1) = true → t.rdB pClock 0x14 3 = true) ∧ t.time = u.time ∧ t.gddr = u.gddr) ∧
    (u.alarmOn n.val = false ∨ u.time.ptp.atOrAfter (u.alarmTime n.val) = false → exec (.clockAlarm m n) s = .next u)) ∧
  (∀ (s u : State) (b m : Nat) (ph : Fin 64), u = (s.at b).macTo m → u.beat % 4096 = 0 → ∃ t, exec (.mappingPair b m ph) s = .next t ∧
    t.time.pairs = (u.beat, (u.time.ptp.add (-(quot 7 (u.incr * ph.val : Nat) 64))).total) :: u.time.pairs.take 63 ∧
    t.time.ptp = u.time.ptp ∧ t.gddr = u.gddr ∧ ∀ a, t.rdA a = u.rdA a) ∧
  (∀ (s u : State) (path : Path) (m : Nat) (v : Word), u = s.macTo m → u.admits path pServo →
    ∃ t, exec (.servoSel path m v) s = .next t ∧ t.rd pServo 0x100 = v &&& 0x111#32 ∧
      t.rd64 pClock 0x12C = (if bit v 0 = true then u.rd64 pClock 0x12C else u.rd64 pClock 0x124) ∧ t.time.ptp = u.time.ptp ∧
      t.time.selMac = some u.time.mac ∧ t.gddr = u.gddr)

/-- What a received or sent message of the 1588 engine does to the instance that serves it (R352 to R356, R358). With u the state in the MAC cycle of a multicast message of a port whose engine runs, served by instance n alone, which is no transparent clock: Sync is counted, and a two-step one of the selected master is held for its Follow_Up, which makes the pair (t1, t2) of it; Delay_Req at an end-to-end master port is answered over its transport with its ingress timestamp; Delay_Resp and the peer-delay responses end their exchanges; Pdelay_Req is answered with P2P, in one step or two; the second Announce in time of the one sender of a slave-only instance selects it; Signaling is counted; Management is placed, flagged and counted. A unicast message does nothing. A transparent clock passes a general message on as it is, and a Delay_Req with its residence time. No earlier than its interval, a Sync leaves a master port in one step with its timestamp, fixed 32 MAC cycles before, or in two; Announce, Delay_Req and Pdelay_Req leave likewise. In its time a timeout of Announce drops the master of the port; one of offsets enters HOLDOVER. The rounding of a half is left open (log entry 25); selection follows IEEE 1588 (log entry 16). (R352, R353, R354, R355, R356, R357, R358, 13_time_and_cluster.md) -/
def Obligations.PtpMessages : Prop :=
  (∀ (s u : State) (x : PtpMsg) (n : Fin 2), u = s.macTo x.m → u.ptpLive x.port.val = true → x.multi = true → Claims.onlyServes u n.val x →
    let p := x.port.val
    (u.fromMaster n.val x = true → x.twoStep = true → ∃ t, exec (.syncMessage x) s = .next t ∧
      (t.pinst n.val).sync = some (x.seq, u.ingress x, x.corr, u.time.steps) ∧ (t.pinst n.val).pair = (u.pinst n.val).pair ∧ t.gddr = u.gddr) ∧
    (∀ t2 c st, (u.pinst n.val).sync = some (x.seq, t2, c, st) → u.fromMaster n.val x = true →
      ∃ t, exec (.followUp x) s = .next t ∧ (t.pinst n.val).sync = none ∧
        ((t.pinst n.val).pair.map fun q => (q.t1, q.t2, q.steps)) = some (x.ts + x.corr + c, t2, st) ∧ t.gddr = u.gddr) ∧
    (u.portSt n.val p = 6 → u.ptpP2p n.val = false → ∃ t, exec (.delayReq x) s = .next t ∧
      .ptp p x.tr.val (ptpDst x.tr.val 9) 9 x.domain x.seq (u.ingress x) x.corr [] ∈ t.outbox ∧ t.time = u.time ∧ t.gddr = u.gddr) ∧
    (∀ t3 pr, (u.pinst n.val).dreq = some (x.seq, t3, u.time.steps) → (u.pinst n.val).pair = some pr → pr.steps = u.time.steps →
      x.mine = true → u.fromMaster n.val x = true → u.ptpP2p n.val = false → ∃ t, exec (.delayResp x) s = .next t ∧
        (t.pinst n.val).dreq = none ∧
        Tab.find? (t.pinst n.val).delays p = some (half ((pr.t2 - pr.t1) + (x.ts - x.corr - t3))) ∧ t.gddr = u.gddr) ∧
    (u.ptpP2p n.val = true →
      let t3 := (u.macFix x.mo).egress p x.mo
      (u.ptpTwo n.val = false → ∃ t, exec (.pdelayReq x) s = .next t ∧
        .ptp p x.tr.val (ptpDst x.tr.val 3) 3 x.domain x.seq 0 (x.corr + (t3 - u.ingress x)) [] ∈ t.outbox ∧ t.gddr = u.gddr) ∧
      (u.ptpTwo n.val = true → ∃ t, exec (.pdelayReq x) s = .next t ∧
        .ptp p x.tr.val (ptpDst x.tr.val 3) 3 x.domain x.seq (u.ingress x) x.corr [] ∈ t.outbox ∧
        .ptp p x.tr.val (ptpDst x.tr.val 10) 10 x.domain x.seq t3 0 [] ∈ t.outbox ∧ t.gddr = u.gddr)) ∧
    (∀ q, Tab.find? (u.pinst n.val).preq p = some q → q.seq = x.seq → x.mine = true →
      (x.twoStep = true → ∃ t, exec (.pdelayResp x) s = .next t ∧
        Tab.find? (t.pinst n.val).preq p = some { q with resp := some (x.ts, u.ingress x - x.corr) } ∧ t.gddr = u.gddr) ∧
      (x.twoStep = false → q.steps = u.time.steps → ∃ t, exec (.pdelayResp x) s = .next t ∧
        Tab.find? (t.pinst n.val).delays p = some (half (u.ingress x - x.corr - q.t1)) ∧ t.gddr = u.gddr) ∧
      (∀ t2 t4, q.resp = some (t2, t4) → q.steps = u.time.steps → ∃ t, exec (.pdelayRespFollowUp x) s = .next t ∧
        Tab.find? (t.pinst n.val).delays p = some (half ((t4 - q.t1) - (x.ts - t2) - x.corr)) ∧ t.gddr = u.gddr)) ∧
    ((u.pinst n.val).master = none → u.ptpSlaveOnly n.val = true → (x.ds.getLast?).getD 0 < 255 →
      ((u.pinst n.val).foreign = [] → ∃ t, exec (.announce x) s = .next t ∧ (t.pinst n.val).master = none ∧ t.gddr = u.gddr) ∧
      (∀ r, (u.pinst n.val).foreign = [r] → r.port = p → r.ds.getLast? = some x.src →
        128 * (u.time.mac - r.last) ≤ 390625000 * 4 * 2 ^ u.ptpLog n.val 11 → ∃ t, exec (.announce x) s = .next t ∧
          (t.pinst n.val).master = some (x.ds ++ [x.src], p) ∧ t.portSt n.val p = 8 ∧ t.ptpLock n.val = 1 ∧ t.gddr = u.gddr)) ∧
    (∃ t, exec (.signaling x) s = .next t ∧
      (u.rdB (pPtp n.val) 0x0C 1 = false → t.rd (pPtp n.val) 0x54 = satInc (u.rd (pPtp n.val) 0x54) 1) ∧ t.time = u.time ∧ t.outbox = u.outbox ∧ t.gddr = u.gddr) ∧
    (∀ raw, ∃ t, exec (.management x raw false) s = .next t ∧ .received p raw ∈ t.outbox ∧ t.rdB (pPtp n.val) 0x14 3 = true ∧ t.gddr = u.gddr)) ∧
  (∀ (s : State) (x : PtpMsg), x.multi = false → ∀ c ∈ [Instr.syncMessage x, .followUp x, .delayReq x, .delayResp x, .pdelayReq x, .pdelayResp x,
      .pdelayRespFollowUp x, .announce x, .signaling x], exec c s = .next (s.macTo x.m)) ∧
  (∀ (s u : State) (x : PtpMsg) (n : Fin 2), u = s.macTo x.m → u.ptpLive x.port.val = true → u.ptpLive (1 - x.port.val) = true → x.multi = true →
    u.ptpTc n.val = true → u.ptpServes n.val x = true → u.ptpServes (1 - n.val) x = false →
    (∃ t, exec (.announce x) s = .next t ∧ .ptpPass (1 - x.port.val) 11 x ∈ t.outbox) ∧
    (∃ t, exec (.signaling x) s = .next t ∧ .ptpPass (1 - x.port.val) 12 x ∈ t.outbox) ∧
    (u.ptpP2p n.val = false → u.portSt n.val x.port.val ≠ 6 →
      let corr := x.corr + ((u.macFix x.mo).egress (1 - x.port.val) x.mo - u.ingress x) + 0
      ∃ t, exec (.delayReq x) s = .next t ∧
        .ptpPass (1 - x.port.val) 1 { x with corr := corr, csum := if x.tr = 0 then x.csum else csumFor x.csum x.corr corr } ∈ t.outbox)) ∧
  (∀ (s r : State) (m : Nat) (n p : Fin 2) (kind : Nat), r = s.macFix m → r.ptpLive p.val = true → r.ptpPort n.val p.val = true →
    let seq := Tab.get 0 (r.pinst n.val).seqs (16 * p.val + kind)
    let out := fun (k : Nat) (ts : Int) (ds : List Nat) =>
      Output.ptp p.val (r.ptpTr n.val) (ptpDst (r.ptpTr n.val) k) k (r.ptpDomain n.val) seq ts 0 ds
    (∀ a, Tab.find? (r.pinst n.val).sentAt (16 * p.val + kind) = some a → r.ptpAged n.val kind 1 (m - a) = false →
      exec (.ptpMessageTx m n p kind) s = .next r) ∧
    ((∀ a, Tab.find? (r.pinst n.val).sentAt (16 * p.val + kind) = some a → r.ptpAged n.val kind 1 (m - a) = true) →
      (kind = 0 → r.portSt n.val p.val = 6 → r.ptpTc n.val = false → ∃ t, exec (.ptpMessageTx m n p kind) s = .next t ∧
        (r.ptpTwo n.val = false → out 0 (r.egress p.val m) [] ∈ t.outbox) ∧
        (r.ptpTwo n.val = true → out 0 0 [] ∈ t.outbox ∧ out 8 (r.egress p.val m) [] ∈ t.outbox) ∧ t.gddr = r.gddr) ∧
      (kind = 11 → r.portSt n.val p.val = 6 → r.ptpTc n.val = false → (r.pinst n.val).master = none →
        ∃ t, exec (.ptpMessageTx m n p kind) s = .next t ∧ out 11 0 (r.ownDs n.val) ∈ t.outbox ∧ t.gddr = r.gddr) ∧
      (kind = 1 → r.portSt n.val p.val = 8 ∨ r.portSt n.val p.val = 9 → r.ptpP2p n.val = false → ∃ t, exec (.ptpMessageTx m n p kind) s = .next t ∧
        out 1 0 [] ∈ t.outbox ∧ (t.pinst n.val).dreq = some (seq, r.egress p.val m, r.time.steps) ∧ t.gddr = r.gddr) ∧
      (kind = 2 → r.ptpP2p n.val = true → ∃ t, exec (.ptpMessageTx m n p kind) s = .next t ∧ out 2 0 [] ∈ t.outbox ∧
        Tab.find? (t.pinst n.val).preq p.val = some { seq := seq, t1 := r.egress p.val m, steps := r.time.steps } ∧ t.gddr = r.gddr))) ∧
  (∀ (s u : State) (m : Nat) (n p : Fin 2), u = s.macTo m → u.ptpPort n.val p.val = true →
    let age := u.time.mac - Tab.get 0 (u.pinst n.val).heard p.val
    let still := u.time.mac - (u.pinst n.val).lastOff
    (u.ptpAged n.val 11 (u.annTmo n.val) age = false → exec (.announceTimeout m n p true) s = .next u) ∧
    (u.ptpAged n.val 0 (u.annTmo n.val) still = false → exec (.announceTimeout m n p false) s = .next u) ∧
    (∀ ds, (u.pinst n.val).master = some (ds, p.val) → u.ptpAged n.val 11 (u.annTmo n.val) age = true → u.ptpTc n.val = false →
      u.portSt n.val p.val ≠ 6 → (∀ r ∈ (u.pinst n.val).foreign, r.port = p.val) → ∃ t, exec (.announceTimeout m n p true) s = .next t ∧
        (t.pinst n.val).master = none ∧ t.ptpLock n.val = 0 ∧ t.portSt n.val p.val = (if u.ptpSlaveOnly n.val = true then 4 else 6) ∧ t.gddr = u.gddr) ∧
    (u.ptpLock n.val = 1 ∨ u.ptpLock n.val = 2 → u.ptpAged n.val 0 (u.annTmo n.val) still = true →
      ∃ t, exec (.announceTimeout m n p false) s = .next t ∧ t.ptpLock n.val = 3 ∧ t.rdB (pPtp n.val) 0x14 2 = true ∧ t.gddr = u.gddr))

/-- A child measures its parent, loads the beat count of START and tracks; peers are measured by PING and PONG (R360 to R367). With u the state at the beat. SYNC_REQ leaves on an ACTIVE parent port in states JOINING, MEASURING, ALIGNED and HOLDOVER, no earlier than 64 beats after the last, or 4,096 once ALIGNED; a parent answers with the time of arrival and its turn; a response in JOINING from an ALIGNED parent leads to MEASURING; START_HI and START_LO set a load 17 beats after; the load due gives the beat its number, clears the mapping history and is ALIGNED. START leaves on the ports to the children. PING and PONG for another device are passed on; a PING is answered. JOIN outside READY is refused and, without a parent or TIME, is ALIGNED at depth 0; LEAVE gives SOLO, but in ALIGN_LOST; REMEASURE sends PINGs; a wrong KEY does nothing. A response of the own number fails a JOIN. Loss of the parent link enters HOLDOVER, and in HOLDOVER starts its exchanges anew; HOLD_MS enters ALIGN_LOST; JOIN_MS fails the JOIN. The rounding of a delay is left open (log entry 25). (R360, R361, R362, R364, R365, R366, R367, R368, 13_time_and_cluster.md) -/
def Obligations.ClusterTiming : Prop :=
  (∀ (s u : State) (b : Nat), u = s.at b →
    (∀ phi : Fin 2048, u.csParent < 4 → u.portState u.csParent = 5 → u.csState = 1 ∨ u.csState = 2 ∨ u.csState = 4 ∨ u.csState = 5 →
      (u.since (if u.csState < 4 then 64 else 4096) u.time.sent = false → exec (.syncReqSend b phi) s = .next u) ∧
      (u.since (if u.csState < 4 then 64 else 4096) u.time.sent = true →
      ∃ t, exec (.syncReqSend b phi) s = .next t ∧ t.time.sent = some u.beat ∧ t.time.req = some (u.time.seq, 2048 * u.beat + phi.val) ∧
        t.time.seq = (u.time.seq + 1) % 65536 ∧ .flit u.csParent 0 0 1 (u.timeFlit 4 (u.time.seq * 2 ^ 39)) ∈ t.outbox ∧ t.gddr = u.gddr)) ∧
    (∀ (port : Fin 4) (phi : Fin 2048) (turn : Nat) (w : BitVec 64), u.portState port.val = 5 →
      (turn ≤ 32767 → ∃ t, exec (.syncReq b port phi turn w) s = .next t ∧
        .flit port.val 0 0 1 (u.timeFlit 5 (nfld w.toNat 54 39 * 2 ^ 39 + (if u.csState = 4 then 2 ^ 38 else 0) +
          u.beat % 4096 * 2 ^ 26 + phi.val * 2 ^ 15 + turn)) ∈ t.outbox ∧ (∀ a, t.rdA a = u.rdA a) ∧ t.gddr = u.gddr) ∧
      (32767 < turn → ∃ t, exec (.syncReq b port phi turn w) s = .next t ∧ t.outbox = u.outbox ∧
        (u.rdB pCsync 0x0C 1 = false → t.rd pCsync 0x4C = satInc (u.rd pCsync 0x4C) 1))) ∧
    (∀ (port : Fin 4) (phi : Fin 2048) (w : BitVec 64) (t1 : Nat), u.csState = 1 → port.val = u.csParent →
      u.time.req = some (nfld w.toNat 54 39, t1) → nfld w.toNat 59 55 ≠ u.devnum → tst w.toNat 38 = true →
      ∃ t, exec (.syncResp b port phi w) s = .next t ∧ t.csState = 2 ∧ t.time.req = none ∧
        t.rd pCsync (0x114 + 4 * port.val) = BitVec.ofNat 32
          (enc (quot 3 (2048 * (u.beat : Int) + phi.val - t1 - nfld w.toNat 14 0) 2) 24) ∧ t.gddr = u.gddr) ∧
    (∀ (port : Fin 4) (phi : Fin 2048) (w : BitVec 64), 1 ≤ u.csState → u.csState ≤ 3 → nfld w.toNat 59 55 = u.devnum →
      ∃ t, exec (.syncResp b port phi w) s = .next t ∧ t.csState = 7 ∧ t.rdB pCsync 0x14 4 = true ∧ t.gddr = u.gddr) ∧
    (∀ (port : Fin 4) (w : BitVec 64), u.csState = 3 → port.val = u.csParent → u.time.load = none →
      (∃ t, exec (.startHi b port w) s = .next t ∧ t.time.startHi = some (nfld w.toNat 31 0, nfld w.toNat 54 52) ∧
        (∀ a, t.rdA a = u.rdA a) ∧ t.gddr = u.gddr) ∧
      ∀ hi depth, u.time.startHi = some (hi, depth) → depth ≠ 6 → u.rdF (pCgrp 63) 0x104 2 0 = 0 →
        ∃ t, exec (.startLo b port w) s = .next t ∧ t.time.startHi = none ∧ t.time.newDepth = depth + 1 ∧
          t.time.load = some (u.beat + 17, some ((((hi * 2 ^ 32 + nfld w.toNat 31 0 : Nat) : Int) + u.time.dAvg / 2048).toNat + 17)) ∧
          (∀ a, t.rdA a = u.rdA a) ∧ t.gddr = u.gddr) ∧
    (∀ v, u.csState = 3 → u.time.load = some (u.beat, some v) → u.time.newDepth < 8 → ∃ t, exec (.beatCounterLoad b) s = .next t ∧
      t.beat = v % 2 ^ 64 ∧ t.csState = 4 ∧ t.rdF pCsync 0x10C 6 4 = u.time.newDepth ∧ t.time.pairs = [] ∧ t.time.load = none ∧
      t.rdB pClock 0x14 4 = true ∧ t.rdB pCsync 0x14 0 = true ∧ t.gddr = u.gddr) ∧
    (∀ port : Fin 4, u.csState = 4 → tst u.time.kids port.val = true → port.val ≠ u.csParent → u.portState port.val = 5 →
      (u.beat % 4096 = 4095 → ∃ t, exec (.startSend b) s = .next t ∧
        .flit port.val 0 0 1 (u.timeFlit 6 (u.rdF pCsync 0x10C 6 4 * 2 ^ 52 + (u.beat + 1) / 2 ^ 32 % 2 ^ 32)) ∈ t.outbox ∧ t.gddr = u.gddr) ∧
      (u.beat % 4096 = 0 → ∃ t, exec (.startSend b) s = .next t ∧
        .flit port.val 0 0 1 (u.timeFlit 7 (u.beat % 2 ^ 32)) ∈ t.outbox ∧ t.gddr = u.gddr)) ∧
    (∀ (dst : Fin 32) (w : BitVec 64),
      (dst.val ≠ u.devnum → ∀ c ∈ [Instr.csyncPing b dst w, .csyncPong b dst w], ∀ p, u.route dst.val = some p → u.portState p = 5 →
        ∃ t, exec c s = .next t ∧ t.outbox = .flit p 1 dst.val 1 w :: u.outbox ∧ t.time = u.time ∧ t.gddr = u.gddr) ∧
      (dst.val = u.devnum →
        (∀ p, u.route (nfld w.toNat 59 55) = some p → nfld w.toNat 59 55 ≠ u.devnum → u.portState p = 5 →
          ∃ t, exec (.csyncPing b dst w) s = .next t ∧ t.outbox = .flit p 1 (nfld w.toNat 59 55) 1
            (u.timeFlit 9 (nfld w.toNat 59 55 * 2 ^ 50 + nfld w.toNat 49 34 * 2 ^ 34 +
              min 1023 ((u.beat + 2 ^ 24 - nfld w.toNat 33 10) % 2 ^ 24) * 2 ^ 24 + u.beat % 2 ^ 24)) :: u.outbox ∧ t.gddr = u.gddr) ∧
        (nfld w.toNat 49 34 = u.time.pingSeq → tst u.time.wait (nfld w.toNat 59 55) = true →
          ∃ t, exec (.csyncPong b dst w) s = .next t ∧ tst t.time.wait (nfld w.toNat 59 55) = false ∧
            t.rdF pCsync (0x140 + 4 * (nfld w.toNat 59 55 / 4)) (8 * (nfld w.toNat 59 55 % 4) + 7) (8 * (nfld w.toNat 59 55 % 4)) =
              min 0xFE (max (nfld w.toNat 33 24) ((u.beat % 2 ^ 24 + 2 ^ 24 - nfld w.toNat 23 0) % 2 ^ 24)) ∧ t.gddr = u.gddr))) ∧
    (u.csState = 4 → u.csParent < 4 → ∃ t, exec (.parentLinkLoss b) s = .next t ∧ t.csState = 5 ∧ t.time.holdAt = u.beat ∧
      t.rdB pCsync 0x14 1 = true ∧ t.gddr = u.gddr) ∧
    (u.csState = 5 → u.csParent < 4 → ∃ t, exec (.parentLinkLoss b) s = .next t ∧ t.csState = 5 ∧ t.time.recent = [] ∧ t.time.req = none ∧
      t.time.holdAt = u.time.holdAt ∧ t.gddr = u.gddr) ∧
    (u.csState = 5 → u.time.holdAt + u.rdF pCsync 0x134 31 16 * 10 ^ 6 ≤ u.beat → ∃ t, exec (.holdMs b) s = .next t ∧ t.csState = 6 ∧
      t.rdB pCsync 0x14 2 = true ∧ t.gddr = u.gddr) ∧
    (1 ≤ u.csState → u.csState ≤ 3 → u.time.joinAt + u.rdF pCsync 0x134 15 0 * 10 ^ 6 ≤ u.beat → ∃ t, exec (.joinMs b) s = .next t ∧
      t.csState = 7 ∧ t.rdB pCsync 0x14 4 = true ∧ t.gddr = u.gddr)) ∧
  (∀ (s : State) (path : Path), s.admits path pCsync →
    (s.mode ≠ 2 → ∀ c ∈ [Instr.csyncJoin path 0x4353, .csyncLeave path 0x4353], exec c s = .next (s.recErr pCsync 1 0x108)) ∧
    (s.joinCause = none → s.csParent = 7 → s.rdB pCsync 0x100 8 = false → ∃ t, exec (.csyncJoin path 0x4353) s = .next t ∧ t.csState = 4 ∧
      t.rdF pCsync 0x10C 6 4 = 0 ∧ t.rd pCsync 0x110 = 0 ∧ t.rdB pCsync 0x14 0 = true ∧ t.beat = s.beat ∧ t.gddr = s.gddr) ∧
    (s.mode = 2 → s.csState = 6 → exec (.csyncLeave path 0x4353) s = .next s) ∧
    (s.mode = 2 → s.csState ≠ 6 → ∃ t, exec (.csyncLeave path 0x4353) s = .next t ∧ t.csState = 0 ∧ t.time.load = none ∧ t.time.req = none ∧ t.beat = s.beat ∧ t.gddr = s.gddr ∧
      ∀ a, a ≠ pCsync.reg 0x10C → a ≠ pCsync.reg 0x44 → t.rdA a = s.rdA a) ∧
    (s.csState = 4 ∨ s.csState = 5 → ∃ t, exec (.csyncRemeasure path 0x4353) s = .next t ∧ t.time.pingSeq = (s.time.pingSeq + 1) % 65536 ∧
      t.csState = s.csState ∧ t.beat = s.beat ∧ t.gddr = s.gddr) ∧
    ∀ key, key ≠ 0x4353 → ∀ c ∈ [Instr.csyncJoin path key, .csyncLeave path key, .csyncRemeasure path key], exec c s = .next s)

/-- Ethernet frames and the host window on GDDR7 (R378, R392, R476 to R480). On a port whose engine runs, a frame of 64 to 9,216 bytes addressed to it, neither PAUSE nor PTP, is placed in the warden's ring, or counted where the ring is full, and a frame of such length of the warden leaves; any other frame does nothing. A BAR2 read of a readable place answers its bytes, of any other place zeros; a write stores its bytes there and nothing else, but counts for each group that holds an image of the granule and stores nothing; a refused access is logged with its cause, and one to a granule under scrub is counted. A GDDR7 error corrected by the retry is counted; a persistent one is counted in LCNT[1] and gives zeros to a BAR2 read and marks the group's image. Bytes are never changed by an error. (R378, R392, R114, R476, R477, R479, R480, 14_serial_links.md, 18_tufts_and_security.md) -/
def Obligations.FramesAndMemory : Prop :=
  (∀ (s : State) (port : Fin 2) (bytes : List Byte), s.ptpLive port.val = true →
    (∀ kind full, kind ≠ 1 ∨ ethPlain bytes = false → exec (.ethFrameRx port kind bytes full) s = .next s) ∧
    (ethLength bytes = false → exec (.ethFrameTx port bytes) s = .next s) ∧
    (ethPlain bytes = true → ∃ t, exec (.ethFrameRx port 1 bytes false) s = .next t ∧ t.outbox = .received port.val bytes :: s.outbox ∧ t.regs = s.regs ∧ t.gddr = s.gddr) ∧
    (ethPlain bytes = true → s.rdB (pEth port.val) 0x0C 1 = false → ∃ t, exec (.ethFrameRx port 1 bytes true) s = .next t ∧ t.outbox = s.outbox ∧
      t.rd (pEth port.val) 0x44 = satInc (s.rd (pEth port.val) 0x44) 1 ∧ t.gddr = s.gddr) ∧
    (ethLength bytes = true → ∃ t, exec (.ethFrameTx port bytes) s = .next t ∧ t.outbox = .frame port.val bytes :: s.outbox ∧ t.regs = s.regs ∧ t.gddr = s.gddr)) ∧
  (∀ (s : State) (path : Path) (off n : Nat) (bytes : List Byte),
    (∀ a, s.bar2 path off = .mem a → s.domOn 6 = true →
      (∃ t, exec (.bar2Read path off n) s = .next t ∧
        t.outbox = .completion path false ((List.range n).map fun i => Tab.get 0 s.gddr (a + i)) :: s.outbox ∧ t.regs = s.regs ∧ t.gddr = s.gddr) ∧
      ((∀ g, g < 64 → g ∉ s.holders (a / 2 ^ 28)) → ∃ t, exec (.bar2Write path off bytes) s = .next t ∧
        (∀ k (h : k < bytes.length), Tab.get 0 t.gddr (a + k) = bytes[k]) ∧
        (∀ x, x < a ∨ a + bytes.length ≤ x → Tab.get 0 t.gddr x = Tab.get 0 s.gddr x) ∧ t.regs = s.regs ∧ t.outbox = s.outbox) ∧
      (∀ g, g ∈ s.holders (a / 2 ^ 28) → s.rdB (pCgrp g) 0x0C 1 = false → ∃ t, exec (.bar2Write path off bytes) s = .next t ∧
        t.rd (pCgrp g) 0x50 = satInc (s.rd (pCgrp g) 0x50) 1 ∧ t.gddr = s.gddr)) ∧
    (s.bar2 path off = .absent ∨ s.bar2 path off = .scrub ∨ (∃ c, s.bar2 path off = .refused c) →
      (∃ t, exec (.bar2Read path off n) s = .next t ∧ t.outbox.head? = some (.completion path false (List.replicate n 0)) ∧ t.gddr = s.gddr) ∧
      (∃ t, exec (.bar2Write path off bytes) s = .next t ∧ t.gddr = s.gddr ∧
        (s.bar2 path off = .scrub → s.rdB pGranule 0x0C 1 = false → t.rd pGranule 0x40 = satInc (s.rd pGranule 0x40) 1))) ∧
    (∀ c, s.bar2 path off = .refused c → exec (.bar2Write path off bytes) s = .next (s.violate path c 2 off true))) ∧
  (∀ (s u : State) (b : Nat) (c : Fin 8) (kind : CrcKind), u = s.at b → u.rdB (pMemch c.val) 0x0C 1 = false →
    (∃ t, exec (.gddr7CrcError b c kind false) s = .next t ∧ t.rd (pMemch c.val) 0x40 = satInc (u.rd (pMemch c.val) 0x40) 1 ∧
      t.rd (pMemch c.val) 0x44 = u.rd (pMemch c.val) 0x44 ∧ t.gddr = u.gddr) ∧
    (∃ t, exec (.gddr7CrcError b c kind true) s = .next t ∧ t.rd (pMemch c.val) 0x44 = satInc (u.rd (pMemch c.val) 0x44) 1 ∧ t.gddr = u.gddr ∧
      (∀ path n, kind = .bar2 path n → t.outbox.head? = some (.completion path true (List.replicate n 0))) ∧
      (∀ g k, kind = .image g k → u.rdF (pCgrp g.val) 0x104 2 0 = 2 → (t.grp g.val).badRead = some k)))

/-- A frame on a Ndeor port is delivered, passed on, discarded or counted, and the mailbox sends and receives bulk words (R381 to R386). With u the state at the beat: a port DOWN or FENCED takes no frame. On an ACTIVE port, a UNICAST flit for another device, of its class, leaves on the routed port; a bulk word for another device does with a credit of that port, its own credit going back, and waits without one; a bulk word for this device waits in its FIFO; a flit whose class or mode its TYPE does not allow is discarded and counted. A frame that fails its CRC is counted, and the sixteenth in a row takes the port DOWN with cause CRC_LOSS where it does not retrain by itself. A write of MBOX_TX sends the word, a credit less, or holds it while the port is not up, and is refused while 512 wait; one to the own device arrives. A read of MBOX_RX_LO, in its turn behind waiting writes of its path, takes the oldest word and returns a credit. (R381, R382, R383, R384, R386, R396, 14_serial_links.md) -/
def Obligations.NdeorFrames : Prop :=
  (∀ (s u : State) (b : Nat) (port lane mode cls : Fin 4) (dst : Fin 32) (crc : BitVec 15) (phi : Fin 2048) (turn : Nat) (w : BitVec 64), u = s.at b →
    let c := Instr.ndeorFrame b port lane crc mode dst cls phi turn w
    let ok := crc == ndeorCrc mode.val dst.val cls.val w
    let n := 4 * port.val + lane.val
    (u.portState port.val = 0 ∨ u.portState port.val = 7 → exec c s = .next u) ∧
    (u.portState port.val = 5 → ok = true → mode = 1 → dst.val ≠ u.devnum → ∀ p, u.route dst.val = some p → u.portState p = 5 →
      (recordRoute (nfld w.toNat 63 60) = some (cls.val, 1) → cls ≠ 3 → ∃ t, exec c s = .next t ∧
        t.outbox = .flit p 1 dst.val cls.val w :: u.outbox ∧ Tab.get 0 t.link.fails n = 0 ∧ t.gddr = u.gddr) ∧
      (cls = 3 → u.link.fwd = [] → u.link.out = [] →
        (0 < Tab.get 0 u.link.credits p → ∃ t, exec c s = .next t ∧ t.link.fwd = [] ∧ Tab.get 0 t.link.credits p = Tab.get 0 u.link.credits p - 1 ∧
          t.outbox = .flit port.val 0 0 0 (BitVec.ofNat 64 (2 * 2 ^ 60 + 1)) :: .flit p 1 dst.val 3 w :: u.outbox ∧ t.gddr = u.gddr) ∧
        (Tab.get 0 u.link.credits p = 0 → ∃ t, exec c s = .next t ∧ t.link.fwd = [(port.val, dst.val, w)] ∧ t.outbox = u.outbox ∧ t.gddr = u.gddr))) ∧
    (u.portState port.val = 5 → ok = true → mode = 1 → cls = 3 → dst.val = u.devnum → u.link.inbox.length < 512 → ∃ t, exec c s = .next t ∧
      t.link.inbox = u.link.inbox ++ [(port.val, w)] ∧ t.outbox = u.outbox ∧ t.gddr = u.gddr) ∧
    (u.portState port.val = 5 → ok = true → cls = 1 ∨ cls = 2 → recordRoute (nfld w.toNat 63 60) ≠ some (cls.val, mode.val) →
      u.rdB pNdeor 0x0C 1 = false → ∃ t, exec c s = .next t ∧ t.rd pNdeor 0x44 = satInc (u.rd pNdeor 0x44) 1 ∧ t.outbox = u.outbox ∧ t.gddr = u.gddr) ∧
    (u.portState port.val = 5 → ok = false → ∃ t, exec c s = .next t ∧
      t.rd (pNlane n) 0x114 = satInc (u.rd (pNlane n) 0x114) 1 ∧ t.gddr = u.gddr ∧
      (Tab.get 0 u.link.fails n < 15 → t.portState port.val = 5 ∧ Tab.get 0 t.link.fails n = Tab.get 0 u.link.fails n + 1 ∧ t.outbox = u.outbox) ∧
      (15 ≤ Tab.get 0 u.link.fails n → u.rdB pNdeor (0x104 + 4 * port.val) 3 = false →
        t.portState port.val = 0 ∧ t.rdF pNdeor (0x114 + 4 * port.val) 7 0 = 8))) ∧
  (∀ (s : State) (path : Path) (w : BitVec 64), s.admits path pNdeor →
    (512 ≤ s.link.out.length → exec (.mboxTx path w) s = .next (s.recErr pNdeor 2 0x148)) ∧
    (s.rdF pNdeor 0x140 4 0 = s.devnum → s.link.out = [] → s.link.fwd = [] → s.link.inbox.length < 512 → ∃ t, exec (.mboxTx path w) s = .next t ∧
      t.link.inbox = s.link.inbox ++ [(4, w)] ∧ t.link.out = [] ∧ t.outbox = s.outbox ∧ t.gddr = s.gddr) ∧
    (∀ d p, d = s.rdF pNdeor 0x140 4 0 → d ≠ s.devnum → s.route d = some p → s.link.out = [] → s.link.fwd = [] →
      (s.portState p = 5 → 0 < Tab.get 0 s.link.credits p → ∃ t, exec (.mboxTx path w) s = .next t ∧
        t.outbox = .flit p 1 d 3 w :: s.outbox ∧ t.link.out = [] ∧ Tab.get 0 t.link.credits p = Tab.get 0 s.link.credits p - 1 ∧ t.gddr = s.gddr) ∧
      (s.portUp p = false → ∃ t, exec (.mboxTx path w) s = .next t ∧ t.link.out = [(d, w)] ∧ t.outbox = s.outbox ∧
        t.rdF pNdeor 0x154 9 0 = 1 ∧ t.gddr = s.gddr))) ∧
  (∀ (s : State) (path : Path), s.reads path pNdeor →
    (∀ q, s.heldBy none path = some q → s.grant path pNdeor false = .ok →
      exec (.mboxRxLoRead path) s = .next (s.putBehind q (path, pNdeor.reg 0x14C, none))) ∧
    (s.heldBy none path = none → s.link.inbox = [] → ∃ t, exec (.mboxRxLoRead path) s = .next t ∧ t.outbox = readOut path [0] :: s.outbox ∧ t.link = s.link ∧ t.regs = s.regs) ∧
    (∀ p w l, s.heldBy none path = none → s.link.inbox = (p, w) :: l → ∃ t, exec (.mboxRxLoRead path) s = .next t ∧ t.link.inbox = l ∧
      t.outbox.head? = some (readOut path [BitVec.ofNat 32 w.toNat]) ∧
      Tab.get 0 t.hiLatch (latchKey path (pNdeor.reg 0x14C)) = BitVec.ofNat 32 (w.toNat / 2 ^ 32) ∧
      (p < 4 → s.portState p = 5 → .flit p 0 0 0 (BitVec.ofNat 64 (2 * 2 ^ 60 + 1)) ∈ t.outbox) ∧ t.gddr = s.gddr))

/-- A port trains state by state, falls to its cause, idles and wakes, and its lanes slip, resume and send test patterns (R385 to R390). With u the state at the beat: EQ, ALIGN, DESKEW and EXCHANGE end in the next state, ACTIVE after the last; a state beyond its limit takes the port DOWN with the cause of Table 14.7. Writes of PORT_CTRL: RETRAIN starts at EQ, EIDLE sends an EIDLE flit on each lane and idles, refused on a port of the timing tree. ACTIVE with EIDLE set, a port outside the timing tree idles at once. In EQ the lanes then send TRAIN flits. A fast exit sends its burst and what waited. SLIP moves the frame position by one modulo 88 and clears FLOCK, refused on a port that is ACTIVE; RESUME continues at DESKEW once all lanes have lock; PRBS_CHK from 0 clears the error count; PRBS_GEN, PRBS_CHK and INJ need a port that is DOWN, or SERVICE, which takes it DOWN. (R385, R386, R387, R388, R389, R390, R397, 14_serial_links.md) -/
def Obligations.NdeorPorts : Prop :=
  (∀ (s u : State) (b : Nat) (p : Fin 4) (vals : List Nat) (dev : Fin 32) (alt : Bool), u = s.at b →
    (u.portState p.val = 1 → ∃ t, exec (.trainingStateDone b p vals dev) s = .next t ∧ t.portState p.val = 2 ∧
      (∃ slot, slot < 256 ∧ ∀ l, l < 4 → t.rdB (pNlane (4 * p.val + l)) 0x108 30 = true ∧
        .flit p.val 0 0 0 (BitVec.ofNat 64 (2 ^ 60 + slot * 2 ^ 52 + u.devnum * 2 ^ 47 + p.val * 2 ^ 45 + (4 * p.val + l) * 2 ^ 40)) ∈ t.outbox) ∧ t.gddr = u.gddr) ∧
    (u.portState p.val = 2 → (∀ l, l < 4 → u.rdB (pNlane (4 * p.val + l)) 0x100 4 = false) → ∃ t, exec (.trainingStateDone b p vals dev) s = .next t ∧
      t.portState p.val = 3 ∧ (∀ l, l < 4 → t.flock (4 * p.val + l) = true ∧
        t.rdF (pNlane (4 * p.val + l)) 0x108 22 16 = vals.getD l 0 % 88) ∧ t.gddr = u.gddr) ∧
    (u.portState p.val = 3 → (∀ l, l < 4 → vals.getD l 0 ≤ 48) → ∃ t, exec (.trainingStateDone b p vals dev) s = .next t ∧
      t.portState p.val = 4 ∧ (∀ l, l < 4 → t.rdF (pNlane (4 * p.val + l)) 0x108 29 24 = vals.getD l 0) ∧ t.gddr = u.gddr) ∧
    (u.portState p.val = 4 → u.link.out = [] → u.link.fwd = [] → ∃ t, exec (.trainingStateDone b p vals dev) s = .next t ∧
      t.portState p.val = (if u.rdB pNdeor (0x104 + 4 * p.val) 2 = true ∧ u.treePort p.val = false then 6 else 5) ∧ t.rdF pNdeor (0x114 + 4 * p.val) 20 16 = dev.val ∧ Tab.get 0 t.link.credits p.val = 512 ∧ t.gddr = u.gddr) ∧
    (∀ k cause, (k, cause) ∈ [(1, if alt = true then 1 else 2), (2, 3), (3, 4), (4, if alt = true then 5 else 6)] → u.portState p.val = k →
      ∃ t, exec (.trainingTimeout b p alt) s = .next t ∧ t.portState p.val = 0 ∧ t.rdF pNdeor (0x114 + 4 * p.val) 7 0 = cause ∧ t.gddr = u.gddr) ∧
    (u.portState p.val = 6 → (∃ x ∈ u.tx, x.1 = p.val) ∨ u.rdB pNdeor (0x104 + 4 * p.val) 2 = false → ∃ t, exec (.fastExit b p) s = .next t ∧
      t.portState p.val = 5 ∧ t.tx = u.tx.filter (fun x => x.1 != p.val) ∧
      (∀ l, l < 4 → .lane (4 * p.val + l) 5 ∈ t.outbox) ∧
      (∀ x ∈ u.tx, x.1 = p.val → x.2.2.2.1 < 4 → .flit p.val x.2.1 x.2.2.1 x.2.2.2.1 x.2.2.2.2 ∈ t.outbox) ∧ t.gddr = u.gddr)) ∧
  (∀ (s : State) (path : Path) (p : Fin 4) (v : Word), s.admits path pNdeor →
    (bit v 2 = true → s.treePort p.val = true → ∀ c ∈ [Instr.portEidle path p v, .portRetrain path p v],
      exec c s = .next (s.recErr pNdeor 1 (0x104 + 4 * p.val))) ∧
    (bit v 0 = true → bit v 1 = true → bit v 2 = false → s.portState p.val ≠ 7 → ∃ t, exec (.portRetrain path p v) s = .next t ∧
      t.portState p.val = 1 ∧ t.rd pNdeor (0x104 + 4 * p.val) = v &&& 0xD#32 ∧ (∀ l, l < 4 → t.flock (4 * p.val + l) = false) ∧ t.gddr = s.gddr) ∧
    (bit v 0 = true → bit v 1 = false → bit v 2 = true → s.treePort p.val = false → s.rdB pNdeor (0x104 + 4 * p.val) 0 = true →
      s.portState p.val = 5 → ∃ t, exec (.portEidle path p v) s = .next t ∧ t.portState p.val = 6 ∧
        t.outbox = List.replicate 4 (.flit p.val 0 0 0 (BitVec.ofNat 64 (3 * 2 ^ 60))) ++ s.outbox ∧ t.rd pNdeor (0x104 + 4 * p.val) = v &&& 0xD#32 ∧ t.gddr = s.gddr)) ∧
  (∀ (s : State) (path : Path) (n : Fin 16) (v : Word), s.admits path (pNlane n.val) →
    let cs := [Instr.laneSlip path n v, .laneResume path n v, .prbsGen path n v, .prbsChk path n v]
    ((bit v 0 = true ∧ s.portState (n.val / 4) = 5) ∨ ((bit v 11 = true ∨ bit v 12 = true) ∧ s.laneTest n.val = false) →
      ∀ c ∈ cs, exec c s = .next (s.recErr (pNlane n.val) 1 0x100)) ∧
    (bit v 0 = true → bit v 1 = false → bit v 11 = false → bit v 12 = false → s.portState (n.val / 4) ≠ 5 → ∃ t,
      exec (.laneSlip path n v) s = .next t ∧ t.rdF (pNlane n.val) 0x108 22 16 = (s.rdF (pNlane n.val) 0x108 22 16 + 1) % 88 ∧
      t.flock n.val = false ∧ t.rd (pNlane n.val) 0x100 = v &&& 0x31910#32 ∧ t.gddr = s.gddr) ∧
    (bit v 0 = false → bit v 1 = true → bit v 11 = false → bit v 12 = false → s.portState (n.val / 4) = 2 →
      (∀ l, l < 4 → s.flock (4 * (n.val / 4) + l) = true) → ∃ t, exec (.laneResume path n v) s = .next t ∧ t.portState (n.val / 4) = 3 ∧ t.gddr = s.gddr) ∧
    (bit v 0 = false → bit v 1 = false → s.laneTest n.val = true → s.portState (n.val / 4) ≠ 7 →
      (bit v 12 = true → ∃ t, exec (.prbsChk path n v) s = .next t ∧ t.rd (pNlane n.val) 0x100 = v &&& 0x31910#32 ∧
        t.portState (n.val / 4) = 0 ∧
        t.rd (pNlane n.val) 0x10C = (if s.rdB (pNlane n.val) 0x100 12 = true then s.rd (pNlane n.val) 0x10C else 0) ∧ t.gddr = s.gddr) ∧
      (bit v 11 = true → ∃ t, exec (.prbsGen path n v) s = .next t ∧ t.rd (pNlane n.val) 0x100 = v &&& 0x31910#32 ∧
        t.portState (n.val / 4) = 0 ∧ t.outbox.head? = some (.lane n.val (fld v 17 16)) ∧ t.gddr = s.gddr)) ∧
    ( (s.laneTest n.val = false → exec (.injFire path n v) s = .next (s.recErr (pNlane n.val) 1 0x104)) ∧
      (s.laneTest n.val = true → s.portState (n.val / 4) ≠ 7 → ∃ t, exec (.injFire path n v) s = .next t ∧ t.portState (n.val / 4) = 0 ∧
        t.rd (pNlane n.val) 0x104 = v &&& 0x7F00#32 ∧ t.gddr = s.gddr ∧
        (bit v 0 = true → t.outbox.head? = some (.corrupt n.val (min 64 (max 1 (fld v 14 8)))) ∧ t.gddr = s.gddr))))

/-- Calibration commands start runs, runs end with results and pairs of estimates are judged (R250 to R252, R405 to R409). With the write admitted: SELFCAL, of the warden, starts the ADC part of a frond, FULL both parts and DACCAL the DAC part, or is refused with the cause MODE or CAL_BUSY; another KEY does nothing. With u the state at the beat: the ADC part of a run lasts 18 ms and the DAC part 6 ms, and a result comes in no other beat; it measures every quantity of the part; the ADC part of a run alone ends with RESULT 1 and its flag, or, on the first phase whose value breaches its field, with RESULT phase + 1 and its flag; a full run goes on with its DAC part; the DAC part likewise. A background estimate counts once 2^22 samples of each sub-converter, none of them of the first of its pair, or 16,384 measured beats of a DAC unit, are taken. The first of a pair waits; the second is accepted within the limits of R407 and waits for group 63. (R250, R251, R252, R404, R405, R406, R407, R408, R409, 15_calibration.md) -/
def Obligations.CalibrationRuns : Prop :=
  (∀ (s : State) (path : Path) (f : Fin 32),
    (s.admits path (pReadout f.val) →
      (∀ key, key ≠ 0x4144 → exec (.selfcal path f key) s = .next s) ∧
      (s.ident path ≠ .warden → exec (.selfcal path f 0x4144) s = .next (s.recErr (pReadout f.val) 3 0x118)) ∧
      (s.ident path = .warden →
        (∀ c, s.calRefused f.val = some c → exec (.selfcal path f 0x4144) s = .next (s.recErr (pReadout f.val) c 0x118)) ∧
        (s.calRefused f.val = none → ∃ t, exec (.selfcal path f 0x4144) s = .next t ∧
          t.run? f.val = some { adc := true, dac := false, start := s.beat } ∧ t.rdB (pReadout f.val) 0x10 24 = true ∧
          (t.fe f.val).calEnd = s.beat + 18000000 ∧ t.beat = s.beat ∧ t.gddr = s.gddr))) ∧
    (s.admits path (pCalf f.val) →
      (∀ key, key ≠ 0x4346 → ∀ c ∈ [Instr.calFull path f key, .calDac path f key], exec c s = .next s) ∧
      (∀ c, s.calRefused f.val = some c → ∀ i ∈ [Instr.calFull path f 0x4346, .calDac path f 0x4346],
        exec i s = .next (s.recErr (pCalf f.val) c 0x100)) ∧
      (s.calRefused f.val = none →
        (∃ t, exec (.calFull path f 0x4346) s = .next t ∧ t.run? f.val = some { adc := true, dac := true, start := s.beat, full := true } ∧
          t.rdB (pReadout f.val) 0x10 24 = true ∧ t.rdB (pCalf f.val) 0x10 29 = true ∧ t.gddr = s.gddr) ∧
        (∃ t, exec (.calDac path f 0x4346) s = .next t ∧ t.run? f.val = some { adc := false, dac := true, start := s.beat } ∧
          t.rdB (pCalf f.val) 0x10 29 = true ∧ t.gddr = s.gddr)))) ∧
  (∀ (s u : State) (e : FrondEv) (pairs : List CalPair) (r : CalRun), u = s.at e.b → u.run? e.f.val = some r →
    (r.adc = true → u.beat ≠ r.start + 18000000 → exec (.selfcalDone e pairs) s = .next u) ∧
    (r.adc = false → r.dac = true → u.beat ≠ r.start + 6000000 → exec (.dacCalDone e pairs) s = .next u) ∧
    (r.adc = true → u.beat = r.start + 18000000 →
      (breach (u.measured true pairs).1 = none → ∃ t, exec (.selfcalDone e pairs) s = .next t ∧
        t.rdF (pReadout e.f.val) 0x11C 31 28 = 1 ∧ t.rdF (pReadout e.f.val) 0x11C 15 0 = u.runUs r ∧ t.rdB (pReadout e.f.val) 0x14 3 = true ∧
        (if r.dac = true then ∃ bad, t.run? e.f.val = some { r with adc := false, start := u.beat, rejected := bad } else t.run? e.f.val = none) ∧
        t.gddr = u.gddr) ∧
      (∀ ph, ph < 15 → breach (u.measured true pairs).1 = some ph → ∃ t, exec (.selfcalDone e pairs) s = .next t ∧
        t.rdF (pReadout e.f.val) 0x11C 31 28 = ph + 1 ∧ t.rdB (pReadout e.f.val) 0x14 4 = true ∧ t.run? e.f.val = none ∧
        t.cal.pend = u.cal.pend ∧ t.gddr = u.gddr)) ∧
    (r.adc = false → r.dac = true → u.beat = r.start + 6000000 →
      let l := (u.measured false pairs).1
      (breach (l.filter (fun x => x.1.trim)) = none → ∃ t, exec (.dacCalDone e pairs) s = .next t ∧
        t.rdF (pCalf e.f.val) 0x108 31 28 = 1 ∧ t.rdF (pCalf e.f.val) 0x108 15 0 = u.runUs r ∧ t.rdB (pCalf e.f.val) 0x14 4 = true ∧
        t.run? e.f.val = none ∧ t.gddr = u.gddr) ∧
      (∀ ph, ph < 15 → breach (l.filter (fun x => x.1.trim)) = some ph → ∃ t, exec (.dacCalDone e pairs) s = .next t ∧
        t.rdF (pCalf e.f.val) 0x108 31 28 = ph + 1 ∧ t.rdB (pCalf e.f.val) 0x14 5 = true ∧ t.run? e.f.val = none ∧
        t.cal.pend = u.cal.pend ∧ t.gddr = u.gddr))) ∧
  (∀ (s u : State) (e : FrondEv) (x : CalEst) (q : Quant), u = s.at e.b → u.bgOn e.f.val = true → quantOf x.off x.lo = some q → q.bg = true →
    let k := quantKey (pCalf e.f.val) x.off x.lo
    let g := u.gather e.f.val
    (g.estimateReady e.f.val q x = false → exec (.estimateDone e [x] false) s = .next g) ∧
    (q.unit = 0 → (g.estimateReady e.f.val q x = true ↔ x.start + 2796203 ≤ u.beat ∧
      ∀ a b0, Tab.find? u.cal.est k = some (a, b0) → b0 + 2796203 ≤ x.start)) ∧
    (q.unit ≠ 0 → (g.estimateReady e.f.val q x = true ↔ 16384 ≤ Tab.get 0 g.cal.meas (16 * e.f.val + q.unit)) ∧
      (g.estimateReady e.f.val q x = true → ∃ t, exec (.estimateDone e [x] false) s = .next t ∧ Tab.get 0 t.cal.meas (16 * e.f.val + q.unit) = 0)) ∧
    (g.estimateReady e.f.val q x = true → Tab.find? u.cal.est k = none → ∃ t, exec (.estimateDone e [x] false) s = .next t ∧ Tab.find? t.cal.est k = some (x.v, x.start) ∧
      t.cal.pend = u.cal.pend ∧ t.gddr = u.gddr) ∧
    (∀ a b0, g.estimateReady e.f.val q x = true → Tab.find? u.cal.est k = some (a, b0) → ∃ t, exec (.estimateDone e [x] false) s = .next t ∧ Tab.find? t.cal.est k = none ∧
      t.gddr = u.gddr ∧
      (if u.pairOk (pCalf e.f.val) q { off := x.off, lo := x.lo, a := a, b := x.v } = true then
        Tab.find? t.cal.pend k = some { value := enc (roundShift (a + x.v) 1) q.width, src := 2, temp := u.sliceT e.f.val,
                                            at_ := u.beat, band := u.sliceBand e.f.val }
      else t.cal.pend = u.cal.pend ∧
        t.rdF (pCalf e.f.val) (0x30C + 0x10 * q.unit) 23 16 = min 255 (u.rdF (pCalf e.f.val) (0x30C + 0x10 * q.unit) 23 16 + 1))))

/-- Quiet slots, DUE fronds, the rounds of group 63, trims that take effect and the field bank (R402, R403, R410 to R415, R420). With u the state at the beat: a quiet slot that arises and is free is claimed for a DAC unit 32 beats ahead, else counted as refused. A frond whose slice left FULL_TEMP by more than DTEMP becomes DUE and is flagged; DUE for longer than DUE_TMO flags the page. In RUN a round carries the pending values of the next owner into group 63, which leaves IDLE; with nothing pending nothing happens. A committed trim takes effect at a quiet ball beat from A + 24 on. BURN in SERVICE takes the first unused generation, with its causes of refusal; its read-back makes it valid or not; REVOKE burns the revoke fuse of a used generation. Another KEY does nothing. (R402, R403, R409, R410, R411, R413, R414, R415, R420, 15_calibration.md) -/
def Obligations.CalibrationRounds : Prop :=
  (∀ (s u : State) (e : FrondEv) (found : Bool), u = s.at e.b → u.bgOn e.f.val = true →
    let f := e.f.val
    let c := u.rd (pCalf f) 0x104
    let n := max 64 (fld c 31 20)
    let l := Tab.get [] (u.gather f).cal.slots f
    (u.mode = 4 → (∀ y ∈ l, y.e < u.beat + 32) → u.run? f = none → ∃ t z, exec (.quietSlotDecision e found) s = .next t ∧
      Tab.get [] t.cal.slots f = z :: l ∧ z.b = u.beat + 32 ∧ z.e = u.beat + 31 + n ∧ 1 ≤ z.unit ∧ z.unit ≤ 11 ∧ t.gddr = u.gddr) ∧
    (u.mode = 3 → (∀ y ∈ l, y.e < u.beat + 32) → u.run? f = none →
      (if found = true then bit c 2 = true ∧ u.captured f = false else bit c 1 = true ∧ Tab.find? u.cal.decl f = some u.beat) →
      (u.beat + 31 + n ≤ u.tc f + 23 → u.windowsClear f (u.beat + 32) (u.beat + 31 + n) = true → (u.fe f).pendingAt u.beat = false →
        ∀ v, u.slotUnit f (u.beat + 32) (u.beat + 31 + n) false = some v → ∃ t, exec (.quietSlotDecision e found) s = .next t ∧
          Tab.get [] t.cal.slots f = { b := u.beat + 32, e := u.beat + 31 + n, unit := v } :: l ∧ t.gddr = u.gddr) ∧
      (u.tc f + 23 < u.beat + 31 + n ∨ u.windowsClear f (u.beat + 32) (u.beat + 31 + n) = false ∨
        (u.fe f).pendingAt u.beat = true ∨ u.slotUnit f (u.beat + 32) (u.beat + 31 + n) false = none → ∃ t, exec (.quietSlotDecision e found) s = .next t ∧
          t.cal.slots = (u.gather f).cal.slots ∧
          (u.rdB (pCalf f) 0x0C 1 = false → t.rd (pCalf f) 0x50 = satInc (u.rd (pCalf f) 0x50) 1) ∧ t.gddr = u.gddr))) ∧
  (∀ (s u : State) (e : FrondEv), u = s.at e.b →
    let f := e.f.val
    (u.rdB pCal 0x100 1 = true → u.rdB pCal 0x114 f = false →
      u.rdF pCal 0x104 15 0 < (sgn (u.sliceT f) 16 - sgn (u.rdF (pCalf f) 0x110 15 0) 16).natAbs → ∃ t, exec (.calDue e) s = .next t ∧
        t.rdB pCal 0x114 f = true ∧ t.rdB (pCalf f) 0x14 3 = true ∧ Tab.find? t.cal.due f = some (u.beat + 1) ∧ t.gddr = u.gddr) ∧
    (∀ d, Tab.find? u.cal.due f = some d → d - 1 + 1000000 * u.rdF pCal 0x10C 15 0 ≤ u.beat → ∃ t, exec (.calOverdue e) s = .next t ∧
      t.rdB pCal 0x14 0 = true ∧ t.cal = u.cal ∧ t.gddr = u.gddr) ∧
    (∀ v : Fin 12, u.rdB (pCalf f) 0x10C v.val = true → u.rd64 (pCalf f) (0x304 + 0x10 * v.val) + 24 ≤ u.beat →
      u.unitQuiet f v.val u.beat = true → ∃ t, exec (.trimTakeEffect e v) s = .next t ∧ t.rdB (pCalf f) 0x10C v.val = false ∧
        (∀ off, off < 0x1000 → calUnit off = v.val → t.trim (pCalf f) off = t.rd (pCalf f) off) ∧
        (∀ off, off ≠ 0x10C → off < 0x1000 → t.rd (pCalf f) off = u.rd (pCalf f) off) ∧ t.gddr = u.gddr)) ∧
  (∀ (s u : State) (b : Nat), u = s.at b →
    (u.may63 = false → exec (.group63Round b) s = .next u) ∧
    (u.mode = 3 → (∀ o, o < 17 → u.pend63 o = []) → exec (.group63Round b) s = .next u) ∧
    (∀ o, u.may63 = true → u.mode = 3 → ((List.range 17).map (fun i => (u.cal.last + 1 + i) % 17)).find? (fun o => !(u.pend63 o).isEmpty) = some o →
      (∀ p ∈ u.pend63 o, u.deferred63 p = false) → ∃ t, exec (.group63Round b) s = .next t ∧ t.cal.last = o ∧
        t.rdF (pCgrp 63) 0x104 2 0 ≠ 0 ∧ t.cal.carry = u.cal.pend.filter (fun x =>
          (u.pend63 o).any (fun p => decide (p.base ≤ x.1 / 32) && decide (x.1 / 32 < p.base + 0x1000))) ∧ (∀ p ∈ u.pend63 o, ∀ off lo, off < 0x1000 → lo < 32 → Tab.find? t.cal.pend (quantKey p off lo) = none) ∧
        t.gddr = u.gddr)) ∧
  (∀ (s : State) (path : Path) (g : Fin 8), s.admits path pFusebank →
    (∀ key, key ≠ 0x4642 → ∀ c ∈ [Instr.fuseBurn path key, .fuseRevoke path key g], exec c s = .next s) ∧
    (s.mode ≠ 4 → ∀ c ∈ [Instr.fuseBurn path 0x4642, .fuseRevoke path 0x4642 g], exec c s = .next (s.recErr pFusebank 1 0x100)) ∧
    (s.mode = 4 → s.rdB pFusebank 0x104 31 = true → exec (.fuseRevoke path 0x4642 g) s = .next (s.recErr pFusebank 4 0x100)) ∧
    (s.mode = 4 → (∀ k, k < 8 → s.rdB pFusebank 0x104 k = true) → exec (.fuseBurn path 0x4642) s = .next (s.recErr pFusebank 2 0x100)) ∧
    (s.mode = 4 → s.rdB pFusebank 0x104 g.val = false → s.rdB pCal 0x110 31 = true → s.rdB pFusebank 0x104 31 = true →
      exec (.fuseBurn path 0x4642) s = .next (s.recErr pFusebank 4 0x100)) ∧
    (s.mode = 4 → s.rdB pFusebank 0x104 31 = false →
      (s.rdB pFusebank 0x104 g.val = false ∨ s.rdB pFusebank 0x104 (8 + g.val) = true →
        exec (.fuseRevoke path 0x4642 g) s = .next (s.recErr pFusebank 5 0x100)) ∧
      (s.rdB pFusebank 0x104 g.val = true → s.rdB pFusebank 0x104 (8 + g.val) = false → ∃ t, exec (.fuseRevoke path 0x4642 g) s = .next t ∧
        t.cal.burn = some (g.val, true) ∧ t.rdB pFusebank 0x104 31 = true ∧ t.rdB pFusebank 0x104 (8 + g.val) = false ∧ t.gddr = s.gddr) ∧
      ((∀ k, k < g.val → s.rdB pFusebank 0x104 k = true) → s.rdB pFusebank 0x104 g.val = false →
        (s.rdB pCal 0x110 31 = false → exec (.fuseBurn path 0x4642) s = .next (s.recErr pFusebank 3 0x100)) ∧
        (s.rdB pCal 0x110 31 = true → ∃ t, exec (.fuseBurn path 0x4642) s = .next t ∧ t.cal.burn = some (g.val, false) ∧
          t.rdB pFusebank 0x104 g.val = true ∧ t.rdB pFusebank 0x104 31 = true ∧ t.cal.good = s.cal.good ∧ t.gddr = s.gddr)))) ∧
  (∀ (s : State) (g : Nat), g < 8 →
    (∀ ok, s.cal.burn = some (g, false) → ∃ t, exec (.fuseBurnDone ok) s = .next t ∧ t.cal.burn = none ∧ t.rdB pFusebank 0x104 31 = false ∧
      t.rdF pFusebank 0x104 27 24 = (if ok = true then 1 else 3) ∧ tst t.cal.good g = (ok || tst s.cal.good g) ∧ t.gddr = s.gddr) ∧
    (s.cal.burn = some (g, true) → ∃ t, exec .fuseRevokeDone s = .next t ∧ t.cal.burn = none ∧ t.rdB pFusebank 0x104 31 = false ∧
      t.rdB pFusebank 0x104 (8 + g) = true ∧ t.gddr = s.gddr ∧ ∀ a, a ≠ pFusebank.reg 0x104 → t.rdA a = s.rdA a))

/-- Windows enable, resolve and become set; thermometry restarts, reverses and publishes (R428 to R438). With the write admitted, a window turned on is UNRESOLVED with its initial level. With u the state in the housekeeping cycle: an UNRESOLVED window whose input lies outside both bands in its first cycle resolves without an edge, and in LEVEL mode latches where its output is 1; a resolved one, unfiltered, whose input rises above its upper band sets its latch, and its flag where the latch was clear and not cleared in this cycle. Every window of one input sees one level in a cycle; a driven HK_AIN has the test level. A new excitation marks the channel stale and restarts it; a positive phase that ends reverses; a result that is ready is published with its fault, or with the ratio of sense voltage and current and the polynomial of R437. (R428, R429, R430, R431, R433, R434, R435, R436, R437, R449, 16_housekeeping_analog.md) -/
def Obligations.WindowsAndThermometry : Prop :=
  (∀ (s : State) (path : Path) (w : Fin 16) (v : Word), s.admits path pWinmon →
    (s.rdB pWinmon (winReg w.val 0) 31 = false → bit v 31 = true → ∃ t, exec (.winmonEnable path w v) s = .next t ∧
      t.rd pWinmon (winReg w.val 0) = v &&& 0xFF30FF1F#32 ∧ t.rdB pWinmon (winReg w.val 3) 30 = true ∧
      t.rdB pWinmon (winReg w.val 3) 31 = bit v 29 ∧ (t.winSt w.val).first = true ∧ t.rd pWinmon 0x100 = s.rd pWinmon 0x100 ∧ t.gddr = s.gddr) ∧
    (s.rdB pWinmon (winReg w.val 0) 31 = true ∨ bit v 31 = false → ∃ t, exec (.winmonEnable path w v) s = .next t ∧
      t.rd pWinmon (winReg w.val 0) = v &&& 0xFF30FF1F#32 ∧ t.hk = s.hk ∧ t.gddr = s.gddr ∧
      ∀ a, a ≠ pWinmon.reg (winReg w.val 0) → t.rdA a = s.rdA a)) ∧
  (∀ (s u : State) (b h : Nat) (w : Fin 16) (x9 : Option Nat) (ph : Bool), u = (s.at b).hkTo h →
    let c := winReg w.val 0
    let i := u.rdF pWinmon c 4 0
    let v := (u.ainLevel i u.hk.now x9).1
    let x := u.winSt w.val
    let up := comparator (u.rdF pWinmon (winReg w.val 1) 27 16) (u.rdF pWinmon (winReg w.val 2) 3 0) v
    let dn := comparator (u.rdF pWinmon (winReg w.val 1) 11 0) (u.rdF pWinmon (winReg w.val 2) 3 0) v
    (∀ e, u.hk.ain.find? (fun e => e.1 == u.hk.now && e.2.1 == i) = some e → v = e.2.2) ∧
    (u.hk.ain.find? (fun e => e.1 == u.hk.now && e.2.1 == i) = none → (∀ y, x9 = some y → v = y) ∧
      (x9 = none → u.rdB pHkadc 0x110 31 = true → u.rdF pHkadc 0x110 20 16 = i → v = u.rdF pHkadc 0x110 9 0 * 2 ^ 14)) ∧
    (u.rdB pWinmon (winReg w.val 3) 30 = false → exec (.winmonResolve b h w [x9] ph) s = .next u) ∧
    (u.rdB pWinmon c 31 = false → exec (.windowBecomesSet b h w [x9] ph) s = .next u) ∧
    (u.rdB pWinmon c 31 = true →
      (∀ hi lo, u.rdB pWinmon (winReg w.val 3) 30 = true → x.hiKnown = false → x.first = true → up = some hi → dn = some (!lo) →
        ∃ t, exec (.winmonResolve b h w [x9] ph) s = .next t ∧ t.rdB pWinmon (winReg w.val 3) 30 = false ∧
          t.rdB pWinmon (winReg w.val 3) 31 = (if u.rdB pWinmon c 30 = true then !hi && !lo else hi || lo) ∧
          t.gddr = u.gddr ∧
          (u.rdB pWinmon c 28 = false → t.rd pWinmon 0x100 = u.rd pWinmon 0x100 ∧ t.outbox = u.outbox) ∧
          (u.rdB pWinmon c 28 = true → t.rdB pWinmon (winReg w.val 3) 31 = true → t.rdB pWinmon 0x100 w.val = true)) ∧
      (x.hiKnown = true → x.loKnown = true → x.out = false → up = some true → u.rdB pWinmon c 30 = false → u.rdB pWinmon c 28 = false →
        u.rdF pWinmon c 21 20 = 0 → u.rdF pWinmon c 15 8 ≤ x.div → ∃ t, exec (.windowBecomesSet b h w [x9] ph) s = .next t ∧
          t.rdB pWinmon 0x100 w.val = true ∧ t.rdB pWinmon (winReg w.val 3) 31 = true ∧
          (u.rdB pWinmon 0x100 w.val = false → x.clrAt ≠ u.hk.now + 1 → t.rdB pWinmon 0x14 w.val = true)))) ∧
  (∀ (s u : State) (path : Path) (h : Nat) (c : Fin 16), u = s.hkTo h →
    (∀ v : Word, u.admits path pThermo →
      (v &&& 0xF70003FF#32 = u.rd pThermo (thReg c.val 0) → exec (.thermoExc path h c v) s = .next u) ∧
      (v &&& 0xF70003FF#32 ≠ u.rd pThermo (thReg c.val 0) → ∃ t, exec (.thermoExc path h c v) s = .next t ∧
        t.rd pThermo (thReg c.val 0) = v &&& 0xF70003FF#32 ∧ t.rdB pThermo (thReg c.val 4) 30 = true ∧
        Tab.get ({} : Thermo) t.hk.thermo c.val = { restart := u.hk.now, neg := false } ∧ t.gddr = u.gddr)) ∧
    (u.rdB pThermo (thReg c.val 0) 29 = true → (Tab.get ({} : Thermo) u.hk.thermo c.val).neg = false →
      (Tab.get ({} : Thermo) u.hk.thermo c.val).restart + u.thPhase c.val ≤ u.hk.now →
      u.rdF pThermo (thReg c.val 0) 31 30 = 1 ∨ u.rdF pThermo (thReg c.val 0) 31 30 = 2 → ∃ t, exec (.polarityReversal h c) s = .next t ∧
        Tab.get ({} : Thermo) t.hk.thermo c.val = { restart := u.hk.now, neg := true } ∧ t.regs = u.regs ∧ t.gddr = u.gddr) ∧
    (∀ m : ThermoMeas, (u.thReady c.val = false → exec (.thermoResult h c m) s = .next u) ∧
      (u.thReady c.val = true → u.rdF pThermo (thReg c.val 0) 31 30 = 1 →
        (m.limit = true → ∃ t, exec (.thermoResult h c m) s = .next t ∧ t.rdB pThermo (thReg c.val 4) 31 = true ∧
          t.rdB pThermo (thReg c.val 4) 30 = false ∧ t.rdB pThermo (thReg c.val 4) 29 = true ∧ t.rdF pThermo (thReg c.val 4) 28 27 = 1 ∧
          t.rd pThermo (thReg c.val 5) = 0 ∧ t.rdB pThermo 0x14 c.val = true ∧ t.gddr = u.gddr) ∧
        (m.limit = false → (u.thSense c.val m).natAbs < u.rdF pThermo (thReg c.val 2) 15 0 * 200000 → ∃ t, exec (.thermoResult h c m) s = .next t ∧
          t.rdB pThermo (thReg c.val 4) 29 = true ∧ t.rdF pThermo (thReg c.val 4) 28 27 = 2 ∧ t.rd pThermo (thReg c.val 5) = 0 ∧ t.gddr = u.gddr) ∧
        (m.limit = false → u.rdF pThermo (thReg c.val 2) 15 0 * 200000 ≤ (u.thSense c.val m).natAbs → ∃ t, exec (.thermoResult h c m) s = .next t ∧
          t.rdB pThermo (thReg c.val 4) 31 = true ∧ t.rdF pThermo (thReg c.val 4) 30 27 = 0 ∧ t.rd pThermo (thReg c.val 5) = u.thR c.val m ∧
          (m.current ≠ 0 → u.thR c.val m = BitVec.ofNat 32 (thRatio (u.thSense c.val m).natAbs m.current)) ∧
          t.rd pThermo (thReg c.val 3) = (if u.rdB pThermo (thReg c.val 0) 28 = true then 0
            else BitVec.ofNat 32 ((u.wrF pThermo 0x100 15 0 m.tfe.toNat).thPoly c.val (u.thR c.val m).toNat)) ∧ t.gddr = u.gddr))))

/-- The housekeeping ADC converts, takes injected requests and calibrates; timers fire (R439 to R447). With u the state in the housekeeping cycle: a conversion of the sequence that is discarded counts down, one that is kept adds its clamped code; the last of an injected average publishes it with its flag. INJ with its KEY requests a conversion, which an idle converter begins at once and one that calibrates holds, or is dropped with its flag while one is under way; another KEY does nothing. A calibration command with its KEY starts its parts: the converter calibrates, the banks whose channels are all CLEARED are taken, every thermometry channel goes stale; it is refused BUSY during a calibration or while group 63 is not IDLE. No end comes before the parts have had their time; the end clears the busy state, and an accepted value waits for group 63. A timer event is flagged and clears the latches of the windows it releases that did not set in the same cycle. (R439, R440, R441, R442, R444, R445, R447, 16_housekeeping_analog.md) -/
def Obligations.HousekeepingConverter : Prop :=
  (∀ (s u : State) (h : Nat) (x9 : Option Int), u = s.hkTo h →
    let x := (u.adcInput (u.rdF pHkadc u.adcCfg 21 16) x9).1
    (u.adcState = 3 → exec (.hkConversion h x9) s = .next u) ∧
    (u.adcState = 1 → u.rdB pHkadc 0x100 31 = true → u.hk.adc.inj = false → 0 ≤ x → x ≤ 65535 →
      (u.hk.adc.left ≠ 0 → ∃ t, exec (.hkConversion h x9) s = .next t ∧ t.hk.adc = { u.hk.adc with left := u.hk.adc.left - 1 } ∧
        t.adcState = 1 ∧ t.gddr = u.gddr) ∧
      (u.hk.adc.left = 0 → u.hk.adc.n + 1 ≠ 2 ^ u.rdF pHkadc (0x180 + 4 * u.rdF pHkadc 0x118 20 16) 10 8 → ∃ t,
        exec (.hkConversion h x9) s = .next t ∧ t.hk.adc = { u.hk.adc with n := u.hk.adc.n + 1, sum := u.hk.adc.sum + x.toNat } ∧
        t.adcState = 1 ∧ t.gddr = u.gddr)) ∧
    (u.adcState = 2 → u.hk.adc.left = 0 → u.hk.adc.n + 1 = 2 ^ u.rdF pHkadc 0x108 10 8 → ∃ t, exec (.hkConversion h x9) s = .next t ∧
      t.rd pHkadc 0x10C = BitVec.ofNat 32 (2 ^ 31 + (if u.hk.adc.ovr = true ∨ clampI 0 65535 x ≠ x then 2 ^ 30 else 0) +
        adcAvg (u.hk.adc.sum + (clampI 0 65535 x).toNat) (u.rdF pHkadc 0x108 10 8)) ∧ t.rdB pHkadc 0x14 1 = true ∧ t.gddr = u.gddr)) ∧
  (∀ (s u : State) (path : Path) (h : Nat), u = s.hkTo h → u.admits path pHkadc →
    (∀ key, key ≠ 0x4843 → exec (.hkInject path h key) s = .next u) ∧
    (u.adcState = 0 → u.hk.adc.inj = false → ∃ t, exec (.hkInject path h 0x4843) s = .next t ∧ t.adcState = 2 ∧
      t.hk.adc.left = u.rdF pHkadc 0x108 3 0 ∧ t.hk.adc.n = 0 ∧ t.hk.adc.sum = 0 ∧ t.gddr = u.gddr) ∧
    (u.adcState = 3 → u.hk.adc.held = false → ∃ t, exec (.hkInject path h 0x4843) s = .next t ∧ t.hk.adc = { u.hk.adc with held := true } ∧
      t.regs = u.regs ∧ t.gddr = u.gddr) ∧
    (u.adcState = 1 → u.hk.adc.inj = false → ∃ t, exec (.hkInject path h 0x4843) s = .next t ∧
      t.hk.adc = { u.hk.adc with inj := true } ∧ t.regs = u.regs ∧ t.gddr = u.gddr) ∧
    (u.adcState = 2 ∨ (u.adcState ≠ 3 ∧ u.hk.adc.inj = true) ∨ (u.adcState = 3 ∧ u.hk.adc.held = true) → ∃ t, exec (.hkInject path h 0x4843) s = .next t ∧ t.hk = u.hk ∧
      t.rdB pHkadc 0x14 2 = true ∧ t.gddr = u.gddr)) ∧
  (∀ (s u : State) (path : Path) (h : Nat), u = s.hkTo h → u.admits path pHk →
    (∀ key, key ≠ 0x484B → ∀ c ∈ [Instr.hkCalAdc path h key, .hkCalBias path h key, .hkCalThermo path h key], exec c s = .next u) ∧
    (u.rdB pHk 0x128 31 = true ∨ u.idle63 = false →
      ∀ c ∈ [Instr.hkCalAdc path h 0x484B, .hkCalBias path h 0x484B, .hkCalThermo path h 0x484B], exec c s = .next (u.recErr pHk 2 0x124)) ∧
    (u.rdB pHk 0x128 31 = false → u.idle63 = true →
      (u.adcState ≠ 2 → u.hk.adc.inj = false → ∃ t, exec (.hkCalAdc path h 0x484B) s = .next t ∧ t.hk.parts = 1 ∧ t.adcState = 3 ∧
        t.rdB pHk 0x128 31 = true ∧ t.gddr = u.gddr) ∧
      (u.adcState = 2 ∨ u.hk.adc.inj = true → ∃ t, exec (.hkCalAdc path h 0x484B) s = .next t ∧ t.hk.parts = 1 ∧ t.hk.adc.calWait = true ∧
        t.adcState = u.adcState ∧ t.rdB pHk 0x128 31 = true ∧ t.gddr = u.gddr) ∧
      (∃ t, exec (.hkCalBias path h 0x484B) s = .next t ∧ t.hk.parts = 2 ∧ (∀ j, j < 16 → tst t.hk.banks j = u.bankClear j) ∧
        t.rdB pHk 0x128 31 = true ∧ t.rdF pHk 0x128 15 0 = 65535 - t.hk.banks ∧ t.gddr = u.gddr) ∧
      (∃ t, exec (.hkCalThermo path h 0x484B) s = .next t ∧ t.hk.parts = 4 ∧ (∀ c, c < 16 → t.rdB pThermo (thReg c 4) 30 = true) ∧
        t.rdB pHk 0x128 31 = true ∧ t.gddr = u.gddr))) ∧
  (∀ (s u : State) (b h : Nat) (x : CalPair), u = (s.at b).hkTo h → u.rdB pHk 0x128 31 = true →
    (u.hkCalOver = false → exec (.hkCalDone b h [x]) s = .next u) ∧ (u.hkCalOver = true → ∃ t, exec (.hkCalDone b h [x]) s = .next t ∧
    t.rdB pHk 0x128 31 = false ∧ t.hk.parts = 0 ∧ t.hk.banks = 0 ∧ t.gddr = u.gddr ∧
    (∀ q, hkQuantOf x.off x.lo = some q → tst u.hk.parts q.unit = true → (q.unit = 1 → tst u.hk.banks ((x.off - 0x140) / 4) = true) →
      u.may63 = false → u.pairOk pCalhk q x = true → Tab.find? t.cal.pend (quantKey pCalhk x.off x.lo) =
        some { value := enc (roundShift (x.a + x.b) 1) q.width, src := 1, temp := u.rdF pTherm 0x124 15 0,
               at_ := u.beat }))) ∧
  (∀ (s u : State) (h : Nat) (n : Fin 4), u = s.hkTo h →
    ((Tab.get ({} : Tmr) u.hk.tmrs n.val).due = 0 → exec (.timerPeriod h n) s = .next u) ∧
    ((Tab.get ({} : Tmr) u.hk.tmrs n.val).due ≠ 0 → ∃ t, exec (.timerPeriod h n) s = .next t ∧
      (Tab.get ({} : Tmr) t.hk.tmrs n.val).due = (Tab.get ({} : Tmr) u.hk.tmrs n.val).due - 1 ∧ t.rdB pTimer 0x14 (4 * n.val) = true ∧
      (∀ w, w < 16 → t.rdB pWinmon 0x100 w =
        (u.rdB pWinmon 0x100 w && !(u.rdB pWinmon (winReg w 0) 26 && u.rdF pWinmon (winReg w 0) 25 24 == n.val &&
          (u.winSt w).setAt != u.hk.now + 1))) ∧ t.gddr = u.gddr))

/-- Power samples, the thermal model, diodes, refresh and counter snapshots (R453 to R460, R467). Powers are shown per domain with their total. With u the state at the beat: a model step writes the node temperatures, each corrected by a sixteenth towards a usable diode (which way the fraction rounds is free, log entry 5). A diode reading is shown and makes the diode valid before the model runs; the fourth deviation in a row makes it BROKEN with its flag. READMIT clears BROKEN and the count; a wrong KEY is recorded. A snapshot copies the sixteen counters of a page as they stand at the end of the beat, with that beat. The refresh multiplier follows the band of the hottest memory device, or of the Thallus where a read fails. (R453, R454, R455, R456, R457, R458, R459, R460, R464, R467, 17_thermal_and_counters.md) -/
def Obligations.ThermalAndCounters : Prop :=
  (∀ (s : State) (p : List (BitVec 16)),
    (s.domOn 1 = false → exec (.powerSample p) s = .next s) ∧
    (s.domOn 1 = true → ∃ t, exec (.powerSample p) s = .next t ∧
      (∀ d, d < 26 → t.rd pTherm (0x140 + 4 * d) = BitVec.ofNat 32 (p.getD d 0).toNat) ∧
      t.rd pTherm 0x1A8 = BitVec.ofNat 32 (((List.range 26).foldl (fun n d => n + (p.getD d 0).toNat) 0) % 2 ^ 20) ∧
      (∀ a, a < pTherm.reg 0x140 ∨ pTherm.reg 0x1A8 < a → t.rdA a = s.rdA a) ∧ t.gddr = s.gddr)) ∧
  (∀ (s u : State) (b : Nat), u = s.at b →
    (∀ nodes, (u.therm.running = false → exec (.modelStep b nodes) s = .next u) ∧
      (u.therm.running = true → u.therm.hot = 0 → ∃ t, exec (.modelStep b nodes) s = .next t ∧ t.fresh = u.fresh + 1 ∧
        (∀ n, n < 64 → 40 ≤ n ∨ u.diodeUse n = false → t.nodeT n = satI 16 (nodes.getD n (u.nodeT n))) ∧
        (∀ n, n < 40 → u.diodeUse n = true → ∃ up, t.nodeT n = satI 16 (sixteenth (nodes.getD n (u.nodeT n)) (u.diodeT n) up)) ∧
        t.gddr = u.gddr)) ∧
    (∀ (i : Fin 40) (x : BitVec 16),
      let r := 0x100 + 4 * i.val
      let v := ({ u with therm := { u.therm with late := mclr u.therm.late i.val } }).wrF pDiode r 15 0 x.toNat
      (u.domOn 1 = false → exec (.diodeReading b i x) s = .next u) ∧
      (u.domOn 1 = true → u.rdB pDiode r 30 = false → u.therm.running = false → i.val ≠ 39 → ∃ t, exec (.diodeReading b i x) s = .next t ∧
        t.diodeT i.val = x.toInt ∧ t.rdB pDiode r 31 = true ∧ (∀ a, a ≠ pDiode.reg r → t.rdA a = u.rdA a) ∧ t.gddr = u.gddr) ∧
      (u.domOn 1 = true → u.rdB pDiode r 30 = false → u.therm.running = true → (v.wrB pDiode r 31 true).deviates i.val = some true →
        ∃ t, exec (.diodeReading b i x) s = .next t ∧ t.diodeT i.val = x.toInt ∧ t.gddr = u.gddr ∧
          (if u.rdF pDiode r 17 16 = 3 then t.rdB pDiode r 30 = true ∧ t.rdB pDiode r 31 = false ∧ t.rdB pTherm 0x14 2 = true
          else t.rdB pDiode r 30 = false ∧ t.rdF pDiode r 17 16 = u.rdF pDiode r 17 16 + 1))) ∧
    (∀ temps : List (Option (BitVec 16)), (u.domOn 6 = false → exec (.refreshInterval b temps) s = .next u) ∧
      (u.domOn 6 = true → ∃ t, exec (.refreshInterval b temps) s = .next t ∧ t.gddr = u.gddr ∧
        t.rdF pTherm 0x10C 9 8 = bandOf (u.rdF pTherm 0x10C 9 8) (if temps = [] ∨ none ∈ temps then tempOf (u.rd pTherm 0x120)
          else (temps.map (fun x => sgn (x.getD 0).toNat 16)).foldl max (-32768)) ∧
        t.rdF pTherm 0x128 2 0 = refreshMult (t.rdF pTherm 0x10C 9 8)))) ∧
  (∀ (s : State) (path : Path), s.admits path pDiode → ∀ i : Fin 64,
    (∀ key, key ≠ 0x444F → exec (.diodeReadmit path key i) s = .next (s.recErr pDiode 1 0x1A0)) ∧
    (i.val < 40 → ∃ t, exec (.diodeReadmit path 0x444F i) s = .next t ∧ t.rdB pDiode (0x100 + 4 * i.val) 30 = false ∧
      t.rdF pDiode (0x100 + 4 * i.val) 17 16 = 0 ∧ t.diodeT i.val = s.diodeT i.val ∧
      (∀ a, a ≠ pDiode.reg (0x100 + 4 * i.val) → t.rdA a = s.rdA a) ∧ t.gddr = s.gddr)) ∧
  (∀ (s u : State) (path : Path) (b : Nat) (p : Fin 16), s.admits path (pCnt p.val) → u = s.at (b + 1) →
    (∀ key, key ≠ 0x434E → exec (.counterSnap path b p key) s = .next (s.recErr (pCnt p.val) 1 0x100)) ∧
    ∃ t, exec (.counterSnap path b p 0x434E) s = .next t ∧
      (∀ i, i < 16 → t.rd64 (pCnt p.val) (cntReg i 3) = u.rd64 (pCnt p.val) (cntReg i 1) ∧
        t.rd64 (pCnt p.val) (cntReg i 1) = u.rd64 (pCnt p.val) (cntReg i 1)) ∧
      t.rd64 (pCnt p.val) 0x104 = (u.beat - 1) % 2 ^ 64 ∧ t.gddr = u.gddr)

/-- Lifecycle commands are refused or burn, their end shows the new state, and a token unlocks debug (R475, R487 to R489). With the write admitted: outside READY and SERVICE, or during a burn (the model's reading, log entry 13), each lifecycle command is refused LIFECYCLE; PROVISION needs BLANK and a valid key in a warden granule, DEPLOY needs PROVISIONED and no tuft, RETURN any state but RETURNED and no tuft; each that acts starts its burn. RAISEFLOOR raises the floor to the loaded version, at most 64 times. Another KEY does nothing. The end of the burn shows the new state; DEPLOY locks debug; RETURN erases the keys. A valid token unlocks, with its permissions and a count; a failure is counted and recorded with its cause, and every attempt draws a new CHALLENGE. LOCK locks in DEPLOYED. (R475, R483, R487, R488, R489, 18_tufts_and_security.md) -/
def Obligations.LifecycleAndDebug : Prop :=
  (∀ (s : State) (path : Path), s.admits path pSec →
    let cmds := fun (key : BitVec 16) => [Instr.lcProvision path key, .lcDeploy path key, .lcReturn path key, .lcRaiseFloor path key]
    (∀ key, key ≠ 0x4C43 → ∀ c ∈ cmds key, exec c s = .next s) ∧
    ((s.mode ≠ 2 ∧ s.mode ≠ 4) ∨ s.sec.lc.isSome = true → ∀ c ∈ cmds 0x4C43, exec c s = .next (s.recErr pSec 1 0x104)) ∧
    (s.mode = 2 ∨ s.mode = 4 → s.sec.lc = none →
      let a := s.rd64 pSec 0x108
      let k := s.gbytes a 96
      (s.lcState ≠ 0 → exec (.lcProvision path 0x4C43) s = .next (s.recErr pSec 1 0x104)) ∧
      (s.lcState = 0 → (s.wardenSpan a 96 = false ∨ p384Point k = false →
          exec (.lcProvision path 0x4C43) s = .next (s.recErr pSec 2 0x104)) ∧
        (s.wardenSpan a 96 = true → p384Point k = true → ∃ t, exec (.lcProvision path 0x4C43) s = .next t ∧ t.sec.lc = some (1, k) ∧
          t.lcState = 0 ∧ t.gddr = s.gddr)) ∧
      (s.lcState ≠ 1 → exec (.lcDeploy path 0x4C43) s = .next (s.recErr pSec 1 0x104)) ∧
      (s.lcState = 1 → (s.anyTuft = true → exec (.lcDeploy path 0x4C43) s = .next (s.recErr pSec 3 0x104)) ∧
        (s.anyTuft = false → ∃ t, exec (.lcDeploy path 0x4C43) s = .next t ∧ t.sec.lc = some (2, []) ∧ t.lcState = 1 ∧ t.gddr = s.gddr)) ∧
      (s.lcState = 3 → exec (.lcReturn path 0x4C43) s = .next (s.recErr pSec 1 0x104)) ∧
      (s.lcState ≠ 3 → (s.anyTuft = true → exec (.lcReturn path 0x4C43) s = .next (s.recErr pSec 3 0x104)) ∧
        (s.anyTuft = false → ∃ t, exec (.lcReturn path 0x4C43) s = .next t ∧ t.sec.lc = some (3, []) ∧ t.lcState = s.lcState ∧ t.gddr = s.gddr)) ∧
      (s.lcState = 1 ∨ s.lcState = 2 → (64 ≤ s.sec.raises → exec (.lcRaiseFloor path 0x4C43) s = .next (s.recErr pSec 4 0x104)) ∧
        (s.sec.raises < 64 → ∃ t, exec (.lcRaiseFloor path 0x4C43) s = .next t ∧ t.sec.raises = s.sec.raises + 1 ∧
          t.rdF pSec 0x110 15 0 = max (s.rdF pSec 0x110 15 0) (s.rdF pSec 0x110 31 16) ∧ t.gddr = s.gddr)))) ∧
  (∀ (s : State) (op : Nat) (key : List Byte), s.sec.lc = some (op, key) → op = 1 ∨ op = 2 ∨ op = 3 →
    ∃ t, exec .lifecycleTransitionDone s = .next t ∧ t.lcState = op ∧ t.sec.lc = none ∧ t.rdB pSec 0x14 2 = true ∧
      (op = 1 → t.sec.wardenKey = key ∧ t.gddr = s.gddr) ∧ (op = 2 → t.rdB pDebug 0x10 16 = false ∧ t.gddr = s.gddr) ∧
      (op = 3 → t.sec.wardenKey = [] ∧ t.sec.session = none ∧ t.gddr = [] ∧ t.rd pSec 0x114 = 0)) ∧
  (∀ (s : State) (path : Path), s.admits path pDebug →
    let a := s.rd64 pDebug 0x110
    (∀ key, key ≠ 0x4447 → ∀ c ∈ [Instr.debugUnlock path key, .debugLock path key], exec c s = .next s) ∧
    (s.lcState = 2 → (∃ t, exec (.debugLock path 0x4447) s = .next t ∧ t.rdB pDebug 0x10 16 = false ∧
        (∀ x, x ≠ pDebug.reg 0x10 → t.rdA x = s.rdA x) ∧ t.gddr = s.gddr) ∧
      (s.anyTuft = false → s.wardenSpan a 0x140 = true → s.tokenSigned a = true → s.tokenBody a = true →
        ∃ t, exec (.debugUnlock path 0x4447) s = .next t ∧ t.rdB pDebug 0x10 16 = true ∧ t.rdF pDebug 0x124 2 0 = s.gnum (a + 0x20) 4 % 8 ∧
          t.sec.unlocks = s.sec.unlocks + 1 ∧ t.rd64 pDebug 0x100 = (Config.freeWord s.fresh).toNat ∧
          t.rd64 pDebug 0x108 = (Config.freeWord (s.fresh + 1)).toNat ∧ t.gddr = s.gddr)) ∧
    (s.lcState ≠ 2 → exec (.debugLock path 0x4447) s = .next s) ∧
    (s.lcState ≠ 2 ∨ s.anyTuft = true ∨ s.wardenSpan a 0x140 = false ∨ s.tokenBody a = false → ∃ t, exec (.debugUnlock path 0x4447) s = .next t ∧
      t.rdB pDebug 0x10 16 = s.rdB pDebug 0x10 16 ∧ t.sec.unlocks = s.sec.unlocks ∧ t.gddr = s.gddr ∧
      (s.rdB pDebug 0x0C 1 = false → t.rd pDebug 0x44 = satInc (s.rd pDebug 0x44) 1) ∧
      t.rdF pDebug 0x20 7 0 = (if s.lcState ≠ 2 then 1 else if s.anyTuft = true then 3 else 2)))

/-- A tamper alarm clears the key slots and enters HOLD; the ends of scrubs clear their marks (R474, R475, R477). With u the state at the beat: a tamper alarm records its source, sets its flag, clears the warden's and every tuft's key slot, and enters HOLD from READY, RUN and SERVICE. The end of the scrub of a frond clears its bit alone. The end of the scrub of a granule clears its mark, counts it down and counts it in LCNT[1]; without a scrub nothing happens. No scrub end changes what memory reads. (R474, R475, R477, R495, 18_tufts_and_security.md) -/
def Obligations.TamperAndScrub : Prop :=
  (∀ (s u : State) (b : Nat) (src : Fin 3), u = s.at b → u.mode = 2 ∨ u.mode = 3 ∨ u.mode = 4 → ∃ t, exec (.tamperAlarm b src) s = .next t ∧
    t.rdB pSec 0x118 src.val = true ∧ t.rdB pSec 0x14 0 = true ∧ t.rd pSec 0x114 = 0 ∧ (∀ n, n < 16 → t.rdB (pTuft n) 0x10C 30 = false) ∧
    t.mode = 5) ∧
  (∀ (s u : State) (b : Nat) (f : Fin 32), u = s.at b → ∃ t, exec (.frondScrubEnd b f) s = .next t ∧ t.rdB pSec 0x11C f.val = false ∧
    (∀ k, k < 32 → k ≠ f.val → t.rdB pSec 0x11C k = u.rdB pSec 0x11C k) ∧ (∀ a, a ≠ pSec.reg 0x11C → t.rdA a = u.rdA a) ∧ t.gddr = u.gddr) ∧
  (∀ (s u : State) (b : Nat) (k : Fin 128), u = s.at b →
    (u.granScrub k.val = false → exec (.granuleScrubEnd b k) s = .next u) ∧
    (u.granScrub k.val = true → ∃ t, exec (.granuleScrubEnd b k) s = .next t ∧ t.granScrub k.val = false ∧
      t.granOwner k.val = u.granOwner k.val ∧ t.rdF pGranule 0x180 7 0 = u.rdF pGranule 0x180 7 0 - 1 ∧
      (u.rdB pGranule 0x0C 1 = false → t.rd pGranule 0x44 = satInc (u.rd pGranule 0x44) 1) ∧ t.gddr = u.gddr))

/-- Each request of attestation answers as the stage of negotiation, the version and the lifecycle state allow (R486). With the security page powered. In RETURNED every request is answered by an error. Otherwise GET_VERSION starts the negotiation; the other requests of another version than 1.2, or before their stage, are answered by an error; capabilities, algorithms (only the offered set of Table 18.6), digests, certificates of slot 0, signed challenges and measurements, and a key exchange with a valid point answer; FINISH with valid data establishes the session; HEARTBEAT, KEY_UPDATE and END_SESSION answer inside it alone. No request changes a register or memory. The codes are DSP0274's (PRESUMED, log entry 14). (R486, 18_tufts_and_security.md) -/
def Obligations.Attestation : Prop :=
  ∀ (s : State) (ver slot off len index sid op asym hash dhe aead : Nat) (nonce pub mac : List Byte) (sign : Bool), s.powered pSec = true →
    let staged : List (Nat × Instr) := [(1, .getCapabilities ver), (2, .negotiateAlgorithms ver asym hash dhe aead), (3, .getDigests ver),
      (3, .getCertificate ver slot off len), (3, .challenge ver slot nonce), (3, .getMeasurements ver index sign nonce),
      (3, .keyExchange ver slot sid pub), (3, .finish ver sid mac), (3, .heartbeat ver sid), (3, .keyUpdate ver sid op), (3, .endSession ver sid)]
    let answers := fun (c : Instr) (o : SpdmRsp) => ∃ t, exec c s = .next t ∧ t.outbox = .spdm o :: s.outbox ∧ t.regs = s.regs ∧ t.gddr = s.gddr
    (s.lcState = 3 → ∀ c ∈ Instr.getVersion :: staged.map (·.2), answers c (.error spdmUnspecified)) ∧
    (s.lcState ≠ 3 →
      (answers .getVersion (.version [0x12]) ∧ ∃ t, exec .getVersion s = .next t ∧ t.sec.stage = 1 ∧ t.sec.session = none) ∧
      (ver ≠ 0x12 → ∀ x ∈ staged, answers x.2 (.error spdmVersion)) ∧
      (ver = 0x12 →
        (∀ x ∈ staged, s.sec.stage < x.1 → answers x.2 (.error spdmUnexpected)) ∧
        (1 ≤ s.sec.stage → answers (.getCapabilities ver) (.capabilities spdmCaps)) ∧
        (2 ≤ s.sec.stage →
          (tst asym 7 = true → tst hash 1 = true → tst dhe 4 = true → tst aead 1 = true →
            answers (.negotiateAlgorithms ver asym hash dhe aead) (.algorithms 0x80 0x2 0x10 0x2) ∧
            ∃ t, exec (.negotiateAlgorithms ver asym hash dhe aead) s = .next t ∧ t.sec.stage = 3) ∧
          (tst asym 7 = false ∨ tst hash 1 = false ∨ tst dhe 4 = false ∨ tst aead 1 = false →
            answers (.negotiateAlgorithms ver asym hash dhe aead) (.error spdmInvalid))) ∧
        (3 ≤ s.sec.stage →
          answers (.getDigests ver) (.digests 1 (Config.sha384 Config.certChain)) ∧
          (slot = 0 → off < Config.certChain.length → answers (.getCertificate ver slot off len)
            (.certificate 0 ((Config.certChain.drop off).take len) (Config.certChain.length - off - min len (Config.certChain.length - off)))) ∧
          (slot = 0 → answers (.challenge ver slot nonce) (.challengeAuth 0 (Config.deviceSign (nonce ++ Config.sha384 Config.certChain)))) ∧
          (slot ≠ 0 → ∀ c ∈ [Instr.getCertificate ver slot off len, .challenge ver slot nonce, .keyExchange ver slot sid pub],
            answers c (.error spdmInvalid)) ∧
          (∀ m, index ≠ 0xFF → s.measure index = some m → answers (.getMeasurements ver index sign nonce)
            (.measurements [m] (if sign = true then some (Config.deviceSign (nonce ++ measBytes [m])) else none))) ∧
          (slot = 0 → p384Point pub = true → answers (.keyExchange ver slot sid pub) (.keyExchange sid (Config.deviceSign pub)) ∧
            ∃ t, exec (.keyExchange ver slot sid pub) s = .next t ∧ t.sec.session = some sid ∧ t.sec.secure = false) ∧
          (s.sec.session = some sid → s.sec.secure = false →
            (Config.finishOk sid mac = true → answers (.finish ver sid mac) (.finish sid) ∧
              ∃ t, exec (.finish ver sid mac) s = .next t ∧ t.sec.session = some sid ∧ t.sec.secure = true) ∧
            (Config.finishOk sid mac = false → ∃ t, exec (.finish ver sid mac) s = .next t ∧ t.sec.session = none)) ∧
          (s.sec.session = some sid → s.sec.secure = true → answers (.heartbeat ver sid) (.heartbeat sid) ∧
            (1 ≤ op → op ≤ 3 → answers (.keyUpdate ver sid op) (.keyUpdate sid op)) ∧
            answers (.endSession ver sid) (.endSession sid) ∧
            ∃ t, exec (.endSession ver sid) s = .next t ∧ t.sec.session = none ∧ t.sec.secure = false) ∧
          (s.sec.session ≠ some sid ∨ s.sec.secure = false →
            ∀ c ∈ [Instr.heartbeat ver sid, .keyUpdate ver sid op, .endSession ver sid], answers c (.error spdmUnexpected)))))
end

