-- ==== Sys2Proof/Laws/State.lean ====
section
/-! SUPPORT. Laws of State: what each plain update leaves in each field, one lemma per field, true by computation; and that the
shared operations over flags and counters touch nothing but registers and the messages that leave. -/
namespace Sys2Proof.Machine

@[simp] theorem State.wrA_beat (s : State) (a : Nat) (v : Word) : (s.wrA a v).beat = s.beat := rfl
@[simp] theorem State.wrA_regs (s : State) (a : Nat) (v : Word) : (s.wrA a v).regs = Tab.set (regReset a) s.regs a v := rfl
@[simp] theorem State.wrA_shadow (s : State) (a : Nat) (v : Word) : (s.wrA a v).shadow = s.shadow := rfl
@[simp] theorem State.wrA_hiLatch (s : State) (a : Nat) (v : Word) : (s.wrA a v).hiLatch = s.hiLatch := rfl
@[simp] theorem State.wrA_loStage (s : State) (a : Nat) (v : Word) : (s.wrA a v).loStage = s.loStage := rfl
@[simp] theorem State.wrA_violog (s : State) (a : Nat) (v : Word) : (s.wrA a v).violog = s.violog := rfl
@[simp] theorem State.wrA_groups (s : State) (a : Nat) (v : Word) : (s.wrA a v).groups = s.groups := rfl
@[simp] theorem State.wrA_bounds (s : State) (a : Nat) (v : Word) : (s.wrA a v).bounds = s.bounds := rfl
@[simp] theorem State.wrA_txs (s : State) (a : Nat) (v : Word) : (s.wrA a v).txs = s.txs := rfl
@[simp] theorem State.wrA_splits (s : State) (a : Nat) (v : Word) : (s.wrA a v).splits = s.splits := rfl
@[simp] theorem State.wrA_boot (s : State) (a : Nat) (v : Word) : (s.wrA a v).boot = s.boot := rfl
@[simp] theorem State.wrA_croz (s : State) (a : Nat) (v : Word) : (s.wrA a v).croz = s.croz := rfl
@[simp] theorem State.wrA_cs (s : State) (a : Nat) (v : Word) : (s.wrA a v).cs = s.cs := rfl
@[simp] theorem State.wrA_players (s : State) (a : Nat) (v : Word) : (s.wrA a v).players = s.players := rfl
@[simp] theorem State.wrA_chains (s : State) (a : Nat) (v : Word) : (s.wrA a v).chains = s.chains := rfl
@[simp] theorem State.wrA_pins (s : State) (a : Nat) (v : Word) : (s.wrA a v).pins = s.pins := rfl
@[simp] theorem State.wrA_rings (s : State) (a : Nat) (v : Word) : (s.wrA a v).rings = s.rings := rfl
@[simp] theorem State.wrA_descs (s : State) (a : Nat) (v : Word) : (s.wrA a v).descs = s.descs := rfl
@[simp] theorem State.wrA_lists (s : State) (a : Nat) (v : Word) : (s.wrA a v).lists = s.lists := rfl
@[simp] theorem State.wrA_sram (s : State) (a : Nat) (v : Word) : (s.wrA a v).sram = s.sram := rfl
@[simp] theorem State.wrA_sec (s : State) (a : Nat) (v : Word) : (s.wrA a v).sec = s.sec := rfl
@[simp] theorem State.wrA_gddr (s : State) (a : Nat) (v : Word) : (s.wrA a v).gddr = s.gddr := rfl
@[simp] theorem State.wrA_fes (s : State) (a : Nat) (v : Word) : (s.wrA a v).fes = s.fes := rfl
@[simp] theorem State.wrA_wmem (s : State) (a : Nat) (v : Word) : (s.wrA a v).wmem = s.wmem := rfl
@[simp] theorem State.wrA_bus (s : State) (a : Nat) (v : Word) : (s.wrA a v).bus = s.bus := rfl
@[simp] theorem State.wrA_sorus (s : State) (a : Nat) (v : Word) : (s.wrA a v).sorus = s.sorus := rfl
@[simp] theorem State.wrA_slots (s : State) (a : Nat) (v : Word) : (s.wrA a v).slots = s.slots := rfl
@[simp] theorem State.wrA_acqs (s : State) (a : Nat) (v : Word) : (s.wrA a v).acqs = s.acqs := rfl
@[simp] theorem State.wrA_queues (s : State) (a : Nat) (v : Word) : (s.wrA a v).queues = s.queues := rfl
@[simp] theorem State.wrA_qmem (s : State) (a : Nat) (v : Word) : (s.wrA a v).qmem = s.qmem := rfl
@[simp] theorem State.wrA_transit (s : State) (a : Nat) (v : Word) : (s.wrA a v).transit = s.transit := rfl
@[simp] theorem State.wrA_hypha (s : State) (a : Nat) (v : Word) : (s.wrA a v).hypha = s.hypha := rfl
@[simp] theorem State.wrA_hk (s : State) (a : Nat) (v : Word) : (s.wrA a v).hk = s.hk := rfl
@[simp] theorem State.wrA_time (s : State) (a : Nat) (v : Word) : (s.wrA a v).time = s.time := rfl
@[simp] theorem State.wrA_cal (s : State) (a : Nat) (v : Word) : (s.wrA a v).cal = s.cal := rfl
@[simp] theorem State.wrA_therm (s : State) (a : Nat) (v : Word) : (s.wrA a v).therm = s.therm := rfl
@[simp] theorem State.wrA_link (s : State) (a : Nat) (v : Word) : (s.wrA a v).link = s.link := rfl
@[simp] theorem State.wrA_tx (s : State) (a : Nat) (v : Word) : (s.wrA a v).tx = s.tx := rfl
@[simp] theorem State.wrA_pcie (s : State) (a : Nat) (v : Word) : (s.wrA a v).pcie = s.pcie := rfl
@[simp] theorem State.wrA_ticking (s : State) (a : Nat) (v : Word) : (s.wrA a v).ticking = s.ticking := rfl
@[simp] theorem State.wrA_flagNow (s : State) (a : Nat) (v : Word) : (s.wrA a v).flagNow = s.flagNow := rfl
@[simp] theorem State.wrA_trigs (s : State) (a : Nat) (v : Word) : (s.wrA a v).trigs = s.trigs := rfl
@[simp] theorem State.wrA_fresh (s : State) (a : Nat) (v : Word) : (s.wrA a v).fresh = s.fresh := rfl
@[simp] theorem State.wrA_outbox (s : State) (a : Nat) (v : Word) : (s.wrA a v).outbox = s.outbox := rfl
@[simp] theorem State.wrA_pending (s : State) (a : Nat) (v : Word) : (s.wrA a v).pending = s.pending := rfl

@[simp] theorem State.wr_beat (s : State) (p : Pg) (off : Nat) (v : Word) : (s.wr p off v).beat = s.beat := rfl
@[simp] theorem State.wr_shadow (s : State) (p : Pg) (off : Nat) (v : Word) : (s.wr p off v).shadow = s.shadow := rfl
@[simp] theorem State.wr_hiLatch (s : State) (p : Pg) (off : Nat) (v : Word) : (s.wr p off v).hiLatch = s.hiLatch := rfl
@[simp] theorem State.wr_loStage (s : State) (p : Pg) (off : Nat) (v : Word) : (s.wr p off v).loStage = s.loStage := rfl
@[simp] theorem State.wr_violog (s : State) (p : Pg) (off : Nat) (v : Word) : (s.wr p off v).violog = s.violog := rfl
@[simp] theorem State.wr_groups (s : State) (p : Pg) (off : Nat) (v : Word) : (s.wr p off v).groups = s.groups := rfl
@[simp] theorem State.wr_bounds (s : State) (p : Pg) (off : Nat) (v : Word) : (s.wr p off v).bounds = s.bounds := rfl
@[simp] theorem State.wr_txs (s : State) (p : Pg) (off : Nat) (v : Word) : (s.wr p off v).txs = s.txs := rfl
@[simp] theorem State.wr_splits (s : State) (p : Pg) (off : Nat) (v : Word) : (s.wr p off v).splits = s.splits := rfl
@[simp] theorem State.wr_boot (s : State) (p : Pg) (off : Nat) (v : Word) : (s.wr p off v).boot = s.boot := rfl
@[simp] theorem State.wr_croz (s : State) (p : Pg) (off : Nat) (v : Word) : (s.wr p off v).croz = s.croz := rfl
@[simp] theorem State.wr_cs (s : State) (p : Pg) (off : Nat) (v : Word) : (s.wr p off v).cs = s.cs := rfl
@[simp] theorem State.wr_players (s : State) (p : Pg) (off : Nat) (v : Word) : (s.wr p off v).players = s.players := rfl
@[simp] theorem State.wr_chains (s : State) (p : Pg) (off : Nat) (v : Word) : (s.wr p off v).chains = s.chains := rfl
@[simp] theorem State.wr_pins (s : State) (p : Pg) (off : Nat) (v : Word) : (s.wr p off v).pins = s.pins := rfl
@[simp] theorem State.wr_rings (s : State) (p : Pg) (off : Nat) (v : Word) : (s.wr p off v).rings = s.rings := rfl
@[simp] theorem State.wr_descs (s : State) (p : Pg) (off : Nat) (v : Word) : (s.wr p off v).descs = s.descs := rfl
@[simp] theorem State.wr_lists (s : State) (p : Pg) (off : Nat) (v : Word) : (s.wr p off v).lists = s.lists := rfl
@[simp] theorem State.wr_sram (s : State) (p : Pg) (off : Nat) (v : Word) : (s.wr p off v).sram = s.sram := rfl
@[simp] theorem State.wr_sec (s : State) (p : Pg) (off : Nat) (v : Word) : (s.wr p off v).sec = s.sec := rfl
@[simp] theorem State.wr_gddr (s : State) (p : Pg) (off : Nat) (v : Word) : (s.wr p off v).gddr = s.gddr := rfl
@[simp] theorem State.wr_fes (s : State) (p : Pg) (off : Nat) (v : Word) : (s.wr p off v).fes = s.fes := rfl
@[simp] theorem State.wr_wmem (s : State) (p : Pg) (off : Nat) (v : Word) : (s.wr p off v).wmem = s.wmem := rfl
@[simp] theorem State.wr_bus (s : State) (p : Pg) (off : Nat) (v : Word) : (s.wr p off v).bus = s.bus := rfl
@[simp] theorem State.wr_sorus (s : State) (p : Pg) (off : Nat) (v : Word) : (s.wr p off v).sorus = s.sorus := rfl
@[simp] theorem State.wr_slots (s : State) (p : Pg) (off : Nat) (v : Word) : (s.wr p off v).slots = s.slots := rfl
@[simp] theorem State.wr_acqs (s : State) (p : Pg) (off : Nat) (v : Word) : (s.wr p off v).acqs = s.acqs := rfl
@[simp] theorem State.wr_queues (s : State) (p : Pg) (off : Nat) (v : Word) : (s.wr p off v).queues = s.queues := rfl
@[simp] theorem State.wr_qmem (s : State) (p : Pg) (off : Nat) (v : Word) : (s.wr p off v).qmem = s.qmem := rfl
@[simp] theorem State.wr_transit (s : State) (p : Pg) (off : Nat) (v : Word) : (s.wr p off v).transit = s.transit := rfl
@[simp] theorem State.wr_hypha (s : State) (p : Pg) (off : Nat) (v : Word) : (s.wr p off v).hypha = s.hypha := rfl
@[simp] theorem State.wr_hk (s : State) (p : Pg) (off : Nat) (v : Word) : (s.wr p off v).hk = s.hk := rfl
@[simp] theorem State.wr_time (s : State) (p : Pg) (off : Nat) (v : Word) : (s.wr p off v).time = s.time := rfl
@[simp] theorem State.wr_cal (s : State) (p : Pg) (off : Nat) (v : Word) : (s.wr p off v).cal = s.cal := rfl
@[simp] theorem State.wr_therm (s : State) (p : Pg) (off : Nat) (v : Word) : (s.wr p off v).therm = s.therm := rfl
@[simp] theorem State.wr_link (s : State) (p : Pg) (off : Nat) (v : Word) : (s.wr p off v).link = s.link := rfl
@[simp] theorem State.wr_tx (s : State) (p : Pg) (off : Nat) (v : Word) : (s.wr p off v).tx = s.tx := rfl
@[simp] theorem State.wr_pcie (s : State) (p : Pg) (off : Nat) (v : Word) : (s.wr p off v).pcie = s.pcie := rfl
@[simp] theorem State.wr_ticking (s : State) (p : Pg) (off : Nat) (v : Word) : (s.wr p off v).ticking = s.ticking := rfl
@[simp] theorem State.wr_flagNow (s : State) (p : Pg) (off : Nat) (v : Word) : (s.wr p off v).flagNow = s.flagNow := rfl
@[simp] theorem State.wr_trigs (s : State) (p : Pg) (off : Nat) (v : Word) : (s.wr p off v).trigs = s.trigs := rfl
@[simp] theorem State.wr_fresh (s : State) (p : Pg) (off : Nat) (v : Word) : (s.wr p off v).fresh = s.fresh := rfl
@[simp] theorem State.wr_outbox (s : State) (p : Pg) (off : Nat) (v : Word) : (s.wr p off v).outbox = s.outbox := rfl
@[simp] theorem State.wr_pending (s : State) (p : Pg) (off : Nat) (v : Word) : (s.wr p off v).pending = s.pending := rfl

@[simp] theorem State.wrF_beat (s : State) (p : Pg) (off hi lo v : Nat) : (s.wrF p off hi lo v).beat = s.beat := rfl
@[simp] theorem State.wrF_shadow (s : State) (p : Pg) (off hi lo v : Nat) : (s.wrF p off hi lo v).shadow = s.shadow := rfl
@[simp] theorem State.wrF_hiLatch (s : State) (p : Pg) (off hi lo v : Nat) : (s.wrF p off hi lo v).hiLatch = s.hiLatch := rfl
@[simp] theorem State.wrF_loStage (s : State) (p : Pg) (off hi lo v : Nat) : (s.wrF p off hi lo v).loStage = s.loStage := rfl
@[simp] theorem State.wrF_violog (s : State) (p : Pg) (off hi lo v : Nat) : (s.wrF p off hi lo v).violog = s.violog := rfl
@[simp] theorem State.wrF_groups (s : State) (p : Pg) (off hi lo v : Nat) : (s.wrF p off hi lo v).groups = s.groups := rfl
@[simp] theorem State.wrF_bounds (s : State) (p : Pg) (off hi lo v : Nat) : (s.wrF p off hi lo v).bounds = s.bounds := rfl
@[simp] theorem State.wrF_txs (s : State) (p : Pg) (off hi lo v : Nat) : (s.wrF p off hi lo v).txs = s.txs := rfl
@[simp] theorem State.wrF_splits (s : State) (p : Pg) (off hi lo v : Nat) : (s.wrF p off hi lo v).splits = s.splits := rfl
@[simp] theorem State.wrF_boot (s : State) (p : Pg) (off hi lo v : Nat) : (s.wrF p off hi lo v).boot = s.boot := rfl
@[simp] theorem State.wrF_croz (s : State) (p : Pg) (off hi lo v : Nat) : (s.wrF p off hi lo v).croz = s.croz := rfl
@[simp] theorem State.wrF_cs (s : State) (p : Pg) (off hi lo v : Nat) : (s.wrF p off hi lo v).cs = s.cs := rfl
@[simp] theorem State.wrF_players (s : State) (p : Pg) (off hi lo v : Nat) : (s.wrF p off hi lo v).players = s.players := rfl
@[simp] theorem State.wrF_chains (s : State) (p : Pg) (off hi lo v : Nat) : (s.wrF p off hi lo v).chains = s.chains := rfl
@[simp] theorem State.wrF_pins (s : State) (p : Pg) (off hi lo v : Nat) : (s.wrF p off hi lo v).pins = s.pins := rfl
@[simp] theorem State.wrF_rings (s : State) (p : Pg) (off hi lo v : Nat) : (s.wrF p off hi lo v).rings = s.rings := rfl
@[simp] theorem State.wrF_descs (s : State) (p : Pg) (off hi lo v : Nat) : (s.wrF p off hi lo v).descs = s.descs := rfl
@[simp] theorem State.wrF_lists (s : State) (p : Pg) (off hi lo v : Nat) : (s.wrF p off hi lo v).lists = s.lists := rfl
@[simp] theorem State.wrF_sram (s : State) (p : Pg) (off hi lo v : Nat) : (s.wrF p off hi lo v).sram = s.sram := rfl
@[simp] theorem State.wrF_sec (s : State) (p : Pg) (off hi lo v : Nat) : (s.wrF p off hi lo v).sec = s.sec := rfl
@[simp] theorem State.wrF_gddr (s : State) (p : Pg) (off hi lo v : Nat) : (s.wrF p off hi lo v).gddr = s.gddr := rfl
@[simp] theorem State.wrF_fes (s : State) (p : Pg) (off hi lo v : Nat) : (s.wrF p off hi lo v).fes = s.fes := rfl
@[simp] theorem State.wrF_wmem (s : State) (p : Pg) (off hi lo v : Nat) : (s.wrF p off hi lo v).wmem = s.wmem := rfl
@[simp] theorem State.wrF_bus (s : State) (p : Pg) (off hi lo v : Nat) : (s.wrF p off hi lo v).bus = s.bus := rfl
@[simp] theorem State.wrF_sorus (s : State) (p : Pg) (off hi lo v : Nat) : (s.wrF p off hi lo v).sorus = s.sorus := rfl
@[simp] theorem State.wrF_slots (s : State) (p : Pg) (off hi lo v : Nat) : (s.wrF p off hi lo v).slots = s.slots := rfl
@[simp] theorem State.wrF_acqs (s : State) (p : Pg) (off hi lo v : Nat) : (s.wrF p off hi lo v).acqs = s.acqs := rfl
@[simp] theorem State.wrF_queues (s : State) (p : Pg) (off hi lo v : Nat) : (s.wrF p off hi lo v).queues = s.queues := rfl
@[simp] theorem State.wrF_qmem (s : State) (p : Pg) (off hi lo v : Nat) : (s.wrF p off hi lo v).qmem = s.qmem := rfl
@[simp] theorem State.wrF_transit (s : State) (p : Pg) (off hi lo v : Nat) : (s.wrF p off hi lo v).transit = s.transit := rfl
@[simp] theorem State.wrF_hypha (s : State) (p : Pg) (off hi lo v : Nat) : (s.wrF p off hi lo v).hypha = s.hypha := rfl
@[simp] theorem State.wrF_hk (s : State) (p : Pg) (off hi lo v : Nat) : (s.wrF p off hi lo v).hk = s.hk := rfl
@[simp] theorem State.wrF_time (s : State) (p : Pg) (off hi lo v : Nat) : (s.wrF p off hi lo v).time = s.time := rfl
@[simp] theorem State.wrF_cal (s : State) (p : Pg) (off hi lo v : Nat) : (s.wrF p off hi lo v).cal = s.cal := rfl
@[simp] theorem State.wrF_therm (s : State) (p : Pg) (off hi lo v : Nat) : (s.wrF p off hi lo v).therm = s.therm := rfl
@[simp] theorem State.wrF_link (s : State) (p : Pg) (off hi lo v : Nat) : (s.wrF p off hi lo v).link = s.link := rfl
@[simp] theorem State.wrF_tx (s : State) (p : Pg) (off hi lo v : Nat) : (s.wrF p off hi lo v).tx = s.tx := rfl
@[simp] theorem State.wrF_pcie (s : State) (p : Pg) (off hi lo v : Nat) : (s.wrF p off hi lo v).pcie = s.pcie := rfl
@[simp] theorem State.wrF_ticking (s : State) (p : Pg) (off hi lo v : Nat) : (s.wrF p off hi lo v).ticking = s.ticking := rfl
@[simp] theorem State.wrF_flagNow (s : State) (p : Pg) (off hi lo v : Nat) : (s.wrF p off hi lo v).flagNow = s.flagNow := rfl
@[simp] theorem State.wrF_trigs (s : State) (p : Pg) (off hi lo v : Nat) : (s.wrF p off hi lo v).trigs = s.trigs := rfl
@[simp] theorem State.wrF_fresh (s : State) (p : Pg) (off hi lo v : Nat) : (s.wrF p off hi lo v).fresh = s.fresh := rfl
@[simp] theorem State.wrF_outbox (s : State) (p : Pg) (off hi lo v : Nat) : (s.wrF p off hi lo v).outbox = s.outbox := rfl
@[simp] theorem State.wrF_pending (s : State) (p : Pg) (off hi lo v : Nat) : (s.wrF p off hi lo v).pending = s.pending := rfl

@[simp] theorem State.wrB_beat (s : State) (p : Pg) (off i : Nat) (b : Bool) : (s.wrB p off i b).beat = s.beat := rfl
@[simp] theorem State.wrB_shadow (s : State) (p : Pg) (off i : Nat) (b : Bool) : (s.wrB p off i b).shadow = s.shadow := rfl
@[simp] theorem State.wrB_hiLatch (s : State) (p : Pg) (off i : Nat) (b : Bool) : (s.wrB p off i b).hiLatch = s.hiLatch := rfl
@[simp] theorem State.wrB_loStage (s : State) (p : Pg) (off i : Nat) (b : Bool) : (s.wrB p off i b).loStage = s.loStage := rfl
@[simp] theorem State.wrB_violog (s : State) (p : Pg) (off i : Nat) (b : Bool) : (s.wrB p off i b).violog = s.violog := rfl
@[simp] theorem State.wrB_groups (s : State) (p : Pg) (off i : Nat) (b : Bool) : (s.wrB p off i b).groups = s.groups := rfl
@[simp] theorem State.wrB_bounds (s : State) (p : Pg) (off i : Nat) (b : Bool) : (s.wrB p off i b).bounds = s.bounds := rfl
@[simp] theorem State.wrB_txs (s : State) (p : Pg) (off i : Nat) (b : Bool) : (s.wrB p off i b).txs = s.txs := rfl
@[simp] theorem State.wrB_splits (s : State) (p : Pg) (off i : Nat) (b : Bool) : (s.wrB p off i b).splits = s.splits := rfl
@[simp] theorem State.wrB_boot (s : State) (p : Pg) (off i : Nat) (b : Bool) : (s.wrB p off i b).boot = s.boot := rfl
@[simp] theorem State.wrB_croz (s : State) (p : Pg) (off i : Nat) (b : Bool) : (s.wrB p off i b).croz = s.croz := rfl
@[simp] theorem State.wrB_cs (s : State) (p : Pg) (off i : Nat) (b : Bool) : (s.wrB p off i b).cs = s.cs := rfl
@[simp] theorem State.wrB_players (s : State) (p : Pg) (off i : Nat) (b : Bool) : (s.wrB p off i b).players = s.players := rfl
@[simp] theorem State.wrB_chains (s : State) (p : Pg) (off i : Nat) (b : Bool) : (s.wrB p off i b).chains = s.chains := rfl
@[simp] theorem State.wrB_pins (s : State) (p : Pg) (off i : Nat) (b : Bool) : (s.wrB p off i b).pins = s.pins := rfl
@[simp] theorem State.wrB_rings (s : State) (p : Pg) (off i : Nat) (b : Bool) : (s.wrB p off i b).rings = s.rings := rfl
@[simp] theorem State.wrB_descs (s : State) (p : Pg) (off i : Nat) (b : Bool) : (s.wrB p off i b).descs = s.descs := rfl
@[simp] theorem State.wrB_lists (s : State) (p : Pg) (off i : Nat) (b : Bool) : (s.wrB p off i b).lists = s.lists := rfl
@[simp] theorem State.wrB_sram (s : State) (p : Pg) (off i : Nat) (b : Bool) : (s.wrB p off i b).sram = s.sram := rfl
@[simp] theorem State.wrB_sec (s : State) (p : Pg) (off i : Nat) (b : Bool) : (s.wrB p off i b).sec = s.sec := rfl
@[simp] theorem State.wrB_gddr (s : State) (p : Pg) (off i : Nat) (b : Bool) : (s.wrB p off i b).gddr = s.gddr := rfl
@[simp] theorem State.wrB_fes (s : State) (p : Pg) (off i : Nat) (b : Bool) : (s.wrB p off i b).fes = s.fes := rfl
@[simp] theorem State.wrB_wmem (s : State) (p : Pg) (off i : Nat) (b : Bool) : (s.wrB p off i b).wmem = s.wmem := rfl
@[simp] theorem State.wrB_bus (s : State) (p : Pg) (off i : Nat) (b : Bool) : (s.wrB p off i b).bus = s.bus := rfl
@[simp] theorem State.wrB_sorus (s : State) (p : Pg) (off i : Nat) (b : Bool) : (s.wrB p off i b).sorus = s.sorus := rfl
@[simp] theorem State.wrB_slots (s : State) (p : Pg) (off i : Nat) (b : Bool) : (s.wrB p off i b).slots = s.slots := rfl
@[simp] theorem State.wrB_acqs (s : State) (p : Pg) (off i : Nat) (b : Bool) : (s.wrB p off i b).acqs = s.acqs := rfl
@[simp] theorem State.wrB_queues (s : State) (p : Pg) (off i : Nat) (b : Bool) : (s.wrB p off i b).queues = s.queues := rfl
@[simp] theorem State.wrB_qmem (s : State) (p : Pg) (off i : Nat) (b : Bool) : (s.wrB p off i b).qmem = s.qmem := rfl
@[simp] theorem State.wrB_transit (s : State) (p : Pg) (off i : Nat) (b : Bool) : (s.wrB p off i b).transit = s.transit := rfl
@[simp] theorem State.wrB_hypha (s : State) (p : Pg) (off i : Nat) (b : Bool) : (s.wrB p off i b).hypha = s.hypha := rfl
@[simp] theorem State.wrB_hk (s : State) (p : Pg) (off i : Nat) (b : Bool) : (s.wrB p off i b).hk = s.hk := rfl
@[simp] theorem State.wrB_time (s : State) (p : Pg) (off i : Nat) (b : Bool) : (s.wrB p off i b).time = s.time := rfl
@[simp] theorem State.wrB_cal (s : State) (p : Pg) (off i : Nat) (b : Bool) : (s.wrB p off i b).cal = s.cal := rfl
@[simp] theorem State.wrB_therm (s : State) (p : Pg) (off i : Nat) (b : Bool) : (s.wrB p off i b).therm = s.therm := rfl
@[simp] theorem State.wrB_link (s : State) (p : Pg) (off i : Nat) (b : Bool) : (s.wrB p off i b).link = s.link := rfl
@[simp] theorem State.wrB_tx (s : State) (p : Pg) (off i : Nat) (b : Bool) : (s.wrB p off i b).tx = s.tx := rfl
@[simp] theorem State.wrB_pcie (s : State) (p : Pg) (off i : Nat) (b : Bool) : (s.wrB p off i b).pcie = s.pcie := rfl
@[simp] theorem State.wrB_ticking (s : State) (p : Pg) (off i : Nat) (b : Bool) : (s.wrB p off i b).ticking = s.ticking := rfl
@[simp] theorem State.wrB_flagNow (s : State) (p : Pg) (off i : Nat) (b : Bool) : (s.wrB p off i b).flagNow = s.flagNow := rfl
@[simp] theorem State.wrB_trigs (s : State) (p : Pg) (off i : Nat) (b : Bool) : (s.wrB p off i b).trigs = s.trigs := rfl
@[simp] theorem State.wrB_fresh (s : State) (p : Pg) (off i : Nat) (b : Bool) : (s.wrB p off i b).fresh = s.fresh := rfl
@[simp] theorem State.wrB_outbox (s : State) (p : Pg) (off i : Nat) (b : Bool) : (s.wrB p off i b).outbox = s.outbox := rfl
@[simp] theorem State.wrB_pending (s : State) (p : Pg) (off i : Nat) (b : Bool) : (s.wrB p off i b).pending = s.pending := rfl

@[simp] theorem State.wr64_beat (s : State) (p : Pg) (off v : Nat) : (s.wr64 p off v).beat = s.beat := rfl
@[simp] theorem State.wr64_shadow (s : State) (p : Pg) (off v : Nat) : (s.wr64 p off v).shadow = s.shadow := rfl
@[simp] theorem State.wr64_hiLatch (s : State) (p : Pg) (off v : Nat) : (s.wr64 p off v).hiLatch = s.hiLatch := rfl
@[simp] theorem State.wr64_loStage (s : State) (p : Pg) (off v : Nat) : (s.wr64 p off v).loStage = s.loStage := rfl
@[simp] theorem State.wr64_violog (s : State) (p : Pg) (off v : Nat) : (s.wr64 p off v).violog = s.violog := rfl
@[simp] theorem State.wr64_groups (s : State) (p : Pg) (off v : Nat) : (s.wr64 p off v).groups = s.groups := rfl
@[simp] theorem State.wr64_bounds (s : State) (p : Pg) (off v : Nat) : (s.wr64 p off v).bounds = s.bounds := rfl
@[simp] theorem State.wr64_txs (s : State) (p : Pg) (off v : Nat) : (s.wr64 p off v).txs = s.txs := rfl
@[simp] theorem State.wr64_splits (s : State) (p : Pg) (off v : Nat) : (s.wr64 p off v).splits = s.splits := rfl
@[simp] theorem State.wr64_boot (s : State) (p : Pg) (off v : Nat) : (s.wr64 p off v).boot = s.boot := rfl
@[simp] theorem State.wr64_croz (s : State) (p : Pg) (off v : Nat) : (s.wr64 p off v).croz = s.croz := rfl
@[simp] theorem State.wr64_cs (s : State) (p : Pg) (off v : Nat) : (s.wr64 p off v).cs = s.cs := rfl
@[simp] theorem State.wr64_players (s : State) (p : Pg) (off v : Nat) : (s.wr64 p off v).players = s.players := rfl
@[simp] theorem State.wr64_chains (s : State) (p : Pg) (off v : Nat) : (s.wr64 p off v).chains = s.chains := rfl
@[simp] theorem State.wr64_pins (s : State) (p : Pg) (off v : Nat) : (s.wr64 p off v).pins = s.pins := rfl
@[simp] theorem State.wr64_rings (s : State) (p : Pg) (off v : Nat) : (s.wr64 p off v).rings = s.rings := rfl
@[simp] theorem State.wr64_descs (s : State) (p : Pg) (off v : Nat) : (s.wr64 p off v).descs = s.descs := rfl
@[simp] theorem State.wr64_lists (s : State) (p : Pg) (off v : Nat) : (s.wr64 p off v).lists = s.lists := rfl
@[simp] theorem State.wr64_sram (s : State) (p : Pg) (off v : Nat) : (s.wr64 p off v).sram = s.sram := rfl
@[simp] theorem State.wr64_sec (s : State) (p : Pg) (off v : Nat) : (s.wr64 p off v).sec = s.sec := rfl
@[simp] theorem State.wr64_gddr (s : State) (p : Pg) (off v : Nat) : (s.wr64 p off v).gddr = s.gddr := rfl
@[simp] theorem State.wr64_fes (s : State) (p : Pg) (off v : Nat) : (s.wr64 p off v).fes = s.fes := rfl
@[simp] theorem State.wr64_wmem (s : State) (p : Pg) (off v : Nat) : (s.wr64 p off v).wmem = s.wmem := rfl
@[simp] theorem State.wr64_bus (s : State) (p : Pg) (off v : Nat) : (s.wr64 p off v).bus = s.bus := rfl
@[simp] theorem State.wr64_sorus (s : State) (p : Pg) (off v : Nat) : (s.wr64 p off v).sorus = s.sorus := rfl
@[simp] theorem State.wr64_slots (s : State) (p : Pg) (off v : Nat) : (s.wr64 p off v).slots = s.slots := rfl
@[simp] theorem State.wr64_acqs (s : State) (p : Pg) (off v : Nat) : (s.wr64 p off v).acqs = s.acqs := rfl
@[simp] theorem State.wr64_queues (s : State) (p : Pg) (off v : Nat) : (s.wr64 p off v).queues = s.queues := rfl
@[simp] theorem State.wr64_qmem (s : State) (p : Pg) (off v : Nat) : (s.wr64 p off v).qmem = s.qmem := rfl
@[simp] theorem State.wr64_transit (s : State) (p : Pg) (off v : Nat) : (s.wr64 p off v).transit = s.transit := rfl
@[simp] theorem State.wr64_hypha (s : State) (p : Pg) (off v : Nat) : (s.wr64 p off v).hypha = s.hypha := rfl
@[simp] theorem State.wr64_hk (s : State) (p : Pg) (off v : Nat) : (s.wr64 p off v).hk = s.hk := rfl
@[simp] theorem State.wr64_time (s : State) (p : Pg) (off v : Nat) : (s.wr64 p off v).time = s.time := rfl
@[simp] theorem State.wr64_cal (s : State) (p : Pg) (off v : Nat) : (s.wr64 p off v).cal = s.cal := rfl
@[simp] theorem State.wr64_therm (s : State) (p : Pg) (off v : Nat) : (s.wr64 p off v).therm = s.therm := rfl
@[simp] theorem State.wr64_link (s : State) (p : Pg) (off v : Nat) : (s.wr64 p off v).link = s.link := rfl
@[simp] theorem State.wr64_tx (s : State) (p : Pg) (off v : Nat) : (s.wr64 p off v).tx = s.tx := rfl
@[simp] theorem State.wr64_pcie (s : State) (p : Pg) (off v : Nat) : (s.wr64 p off v).pcie = s.pcie := rfl
@[simp] theorem State.wr64_ticking (s : State) (p : Pg) (off v : Nat) : (s.wr64 p off v).ticking = s.ticking := rfl
@[simp] theorem State.wr64_flagNow (s : State) (p : Pg) (off v : Nat) : (s.wr64 p off v).flagNow = s.flagNow := rfl
@[simp] theorem State.wr64_trigs (s : State) (p : Pg) (off v : Nat) : (s.wr64 p off v).trigs = s.trigs := rfl
@[simp] theorem State.wr64_fresh (s : State) (p : Pg) (off v : Nat) : (s.wr64 p off v).fresh = s.fresh := rfl
@[simp] theorem State.wr64_outbox (s : State) (p : Pg) (off v : Nat) : (s.wr64 p off v).outbox = s.outbox := rfl
@[simp] theorem State.wr64_pending (s : State) (p : Pg) (off v : Nat) : (s.wr64 p off v).pending = s.pending := rfl

@[simp] theorem State.resetRange_beat (s : State) (p : Pg) (lo hi : Nat) : (s.resetRange p lo hi).beat = s.beat := rfl
@[simp] theorem State.resetRange_shadow (s : State) (p : Pg) (lo hi : Nat) : (s.resetRange p lo hi).shadow = s.shadow := rfl
@[simp] theorem State.resetRange_hiLatch (s : State) (p : Pg) (lo hi : Nat) : (s.resetRange p lo hi).hiLatch = s.hiLatch := rfl
@[simp] theorem State.resetRange_loStage (s : State) (p : Pg) (lo hi : Nat) : (s.resetRange p lo hi).loStage = s.loStage := rfl
@[simp] theorem State.resetRange_violog (s : State) (p : Pg) (lo hi : Nat) : (s.resetRange p lo hi).violog = s.violog := rfl
@[simp] theorem State.resetRange_groups (s : State) (p : Pg) (lo hi : Nat) : (s.resetRange p lo hi).groups = s.groups := rfl
@[simp] theorem State.resetRange_bounds (s : State) (p : Pg) (lo hi : Nat) : (s.resetRange p lo hi).bounds = s.bounds := rfl
@[simp] theorem State.resetRange_txs (s : State) (p : Pg) (lo hi : Nat) : (s.resetRange p lo hi).txs = s.txs := rfl
@[simp] theorem State.resetRange_splits (s : State) (p : Pg) (lo hi : Nat) : (s.resetRange p lo hi).splits = s.splits := rfl
@[simp] theorem State.resetRange_boot (s : State) (p : Pg) (lo hi : Nat) : (s.resetRange p lo hi).boot = s.boot := rfl
@[simp] theorem State.resetRange_croz (s : State) (p : Pg) (lo hi : Nat) : (s.resetRange p lo hi).croz = s.croz := rfl
@[simp] theorem State.resetRange_cs (s : State) (p : Pg) (lo hi : Nat) : (s.resetRange p lo hi).cs = s.cs := rfl
@[simp] theorem State.resetRange_players (s : State) (p : Pg) (lo hi : Nat) : (s.resetRange p lo hi).players = s.players := rfl
@[simp] theorem State.resetRange_chains (s : State) (p : Pg) (lo hi : Nat) : (s.resetRange p lo hi).chains = s.chains := rfl
@[simp] theorem State.resetRange_pins (s : State) (p : Pg) (lo hi : Nat) : (s.resetRange p lo hi).pins = s.pins := rfl
@[simp] theorem State.resetRange_rings (s : State) (p : Pg) (lo hi : Nat) : (s.resetRange p lo hi).rings = s.rings := rfl
@[simp] theorem State.resetRange_descs (s : State) (p : Pg) (lo hi : Nat) : (s.resetRange p lo hi).descs = s.descs := rfl
@[simp] theorem State.resetRange_lists (s : State) (p : Pg) (lo hi : Nat) : (s.resetRange p lo hi).lists = s.lists := rfl
@[simp] theorem State.resetRange_sram (s : State) (p : Pg) (lo hi : Nat) : (s.resetRange p lo hi).sram = s.sram := rfl
@[simp] theorem State.resetRange_sec (s : State) (p : Pg) (lo hi : Nat) : (s.resetRange p lo hi).sec = s.sec := rfl
@[simp] theorem State.resetRange_gddr (s : State) (p : Pg) (lo hi : Nat) : (s.resetRange p lo hi).gddr = s.gddr := rfl
@[simp] theorem State.resetRange_fes (s : State) (p : Pg) (lo hi : Nat) : (s.resetRange p lo hi).fes = s.fes := rfl
@[simp] theorem State.resetRange_wmem (s : State) (p : Pg) (lo hi : Nat) : (s.resetRange p lo hi).wmem = s.wmem := rfl
@[simp] theorem State.resetRange_bus (s : State) (p : Pg) (lo hi : Nat) : (s.resetRange p lo hi).bus = s.bus := rfl
@[simp] theorem State.resetRange_sorus (s : State) (p : Pg) (lo hi : Nat) : (s.resetRange p lo hi).sorus = s.sorus := rfl
@[simp] theorem State.resetRange_slots (s : State) (p : Pg) (lo hi : Nat) : (s.resetRange p lo hi).slots = s.slots := rfl
@[simp] theorem State.resetRange_acqs (s : State) (p : Pg) (lo hi : Nat) : (s.resetRange p lo hi).acqs = s.acqs := rfl
@[simp] theorem State.resetRange_queues (s : State) (p : Pg) (lo hi : Nat) : (s.resetRange p lo hi).queues = s.queues := rfl
@[simp] theorem State.resetRange_qmem (s : State) (p : Pg) (lo hi : Nat) : (s.resetRange p lo hi).qmem = s.qmem := rfl
@[simp] theorem State.resetRange_transit (s : State) (p : Pg) (lo hi : Nat) : (s.resetRange p lo hi).transit = s.transit := rfl
@[simp] theorem State.resetRange_hypha (s : State) (p : Pg) (lo hi : Nat) : (s.resetRange p lo hi).hypha = s.hypha := rfl
@[simp] theorem State.resetRange_hk (s : State) (p : Pg) (lo hi : Nat) : (s.resetRange p lo hi).hk = s.hk := rfl
@[simp] theorem State.resetRange_time (s : State) (p : Pg) (lo hi : Nat) : (s.resetRange p lo hi).time = s.time := rfl
@[simp] theorem State.resetRange_cal (s : State) (p : Pg) (lo hi : Nat) : (s.resetRange p lo hi).cal = s.cal := rfl
@[simp] theorem State.resetRange_therm (s : State) (p : Pg) (lo hi : Nat) : (s.resetRange p lo hi).therm = s.therm := rfl
@[simp] theorem State.resetRange_link (s : State) (p : Pg) (lo hi : Nat) : (s.resetRange p lo hi).link = s.link := rfl
@[simp] theorem State.resetRange_tx (s : State) (p : Pg) (lo hi : Nat) : (s.resetRange p lo hi).tx = s.tx := rfl
@[simp] theorem State.resetRange_pcie (s : State) (p : Pg) (lo hi : Nat) : (s.resetRange p lo hi).pcie = s.pcie := rfl
@[simp] theorem State.resetRange_ticking (s : State) (p : Pg) (lo hi : Nat) : (s.resetRange p lo hi).ticking = s.ticking := rfl
@[simp] theorem State.resetRange_flagNow (s : State) (p : Pg) (lo hi : Nat) : (s.resetRange p lo hi).flagNow = s.flagNow := rfl
@[simp] theorem State.resetRange_trigs (s : State) (p : Pg) (lo hi : Nat) : (s.resetRange p lo hi).trigs = s.trigs := rfl
@[simp] theorem State.resetRange_fresh (s : State) (p : Pg) (lo hi : Nat) : (s.resetRange p lo hi).fresh = s.fresh := rfl
@[simp] theorem State.resetRange_outbox (s : State) (p : Pg) (lo hi : Nat) : (s.resetRange p lo hi).outbox = s.outbox := rfl
@[simp] theorem State.resetRange_pending (s : State) (p : Pg) (lo hi : Nat) : (s.resetRange p lo hi).pending = s.pending := rfl

@[simp] theorem State.emit_beat (s : State) (o : Output) : (s.emit o).beat = s.beat := rfl
@[simp] theorem State.emit_regs (s : State) (o : Output) : (s.emit o).regs = s.regs := rfl
@[simp] theorem State.emit_shadow (s : State) (o : Output) : (s.emit o).shadow = s.shadow := rfl
@[simp] theorem State.emit_hiLatch (s : State) (o : Output) : (s.emit o).hiLatch = s.hiLatch := rfl
@[simp] theorem State.emit_loStage (s : State) (o : Output) : (s.emit o).loStage = s.loStage := rfl
@[simp] theorem State.emit_violog (s : State) (o : Output) : (s.emit o).violog = s.violog := rfl
@[simp] theorem State.emit_groups (s : State) (o : Output) : (s.emit o).groups = s.groups := rfl
@[simp] theorem State.emit_bounds (s : State) (o : Output) : (s.emit o).bounds = s.bounds := rfl
@[simp] theorem State.emit_txs (s : State) (o : Output) : (s.emit o).txs = s.txs := rfl
@[simp] theorem State.emit_splits (s : State) (o : Output) : (s.emit o).splits = s.splits := rfl
@[simp] theorem State.emit_boot (s : State) (o : Output) : (s.emit o).boot = s.boot := rfl
@[simp] theorem State.emit_croz (s : State) (o : Output) : (s.emit o).croz = s.croz := rfl
@[simp] theorem State.emit_cs (s : State) (o : Output) : (s.emit o).cs = s.cs := rfl
@[simp] theorem State.emit_players (s : State) (o : Output) : (s.emit o).players = s.players := rfl
@[simp] theorem State.emit_chains (s : State) (o : Output) : (s.emit o).chains = s.chains := rfl
@[simp] theorem State.emit_pins (s : State) (o : Output) : (s.emit o).pins = s.pins := rfl
@[simp] theorem State.emit_rings (s : State) (o : Output) : (s.emit o).rings = s.rings := rfl
@[simp] theorem State.emit_descs (s : State) (o : Output) : (s.emit o).descs = s.descs := rfl
@[simp] theorem State.emit_lists (s : State) (o : Output) : (s.emit o).lists = s.lists := rfl
@[simp] theorem State.emit_sram (s : State) (o : Output) : (s.emit o).sram = s.sram := rfl
@[simp] theorem State.emit_sec (s : State) (o : Output) : (s.emit o).sec = s.sec := rfl
@[simp] theorem State.emit_gddr (s : State) (o : Output) : (s.emit o).gddr = s.gddr := rfl
@[simp] theorem State.emit_fes (s : State) (o : Output) : (s.emit o).fes = s.fes := rfl
@[simp] theorem State.emit_wmem (s : State) (o : Output) : (s.emit o).wmem = s.wmem := rfl
@[simp] theorem State.emit_bus (s : State) (o : Output) : (s.emit o).bus = s.bus := rfl
@[simp] theorem State.emit_sorus (s : State) (o : Output) : (s.emit o).sorus = s.sorus := rfl
@[simp] theorem State.emit_slots (s : State) (o : Output) : (s.emit o).slots = s.slots := rfl
@[simp] theorem State.emit_acqs (s : State) (o : Output) : (s.emit o).acqs = s.acqs := rfl
@[simp] theorem State.emit_queues (s : State) (o : Output) : (s.emit o).queues = s.queues := rfl
@[simp] theorem State.emit_qmem (s : State) (o : Output) : (s.emit o).qmem = s.qmem := rfl
@[simp] theorem State.emit_transit (s : State) (o : Output) : (s.emit o).transit = s.transit := rfl
@[simp] theorem State.emit_hypha (s : State) (o : Output) : (s.emit o).hypha = s.hypha := rfl
@[simp] theorem State.emit_hk (s : State) (o : Output) : (s.emit o).hk = s.hk := rfl
@[simp] theorem State.emit_time (s : State) (o : Output) : (s.emit o).time = s.time := rfl
@[simp] theorem State.emit_cal (s : State) (o : Output) : (s.emit o).cal = s.cal := rfl
@[simp] theorem State.emit_therm (s : State) (o : Output) : (s.emit o).therm = s.therm := rfl
@[simp] theorem State.emit_link (s : State) (o : Output) : (s.emit o).link = s.link := rfl
@[simp] theorem State.emit_tx (s : State) (o : Output) : (s.emit o).tx = s.tx := rfl
@[simp] theorem State.emit_pcie (s : State) (o : Output) : (s.emit o).pcie = s.pcie := rfl
@[simp] theorem State.emit_ticking (s : State) (o : Output) : (s.emit o).ticking = s.ticking := rfl
@[simp] theorem State.emit_flagNow (s : State) (o : Output) : (s.emit o).flagNow = s.flagNow := rfl
@[simp] theorem State.emit_trigs (s : State) (o : Output) : (s.emit o).trigs = s.trigs := rfl
@[simp] theorem State.emit_fresh (s : State) (o : Output) : (s.emit o).fresh = s.fresh := rfl
@[simp] theorem State.emit_outbox (s : State) (o : Output) : (s.emit o).outbox = o :: s.outbox := rfl
@[simp] theorem State.emit_pending (s : State) (o : Output) : (s.emit o).pending = s.pending := rfl

@[simp] theorem State.mapCal_beat (s : State) (g : Cal → Cal) : (s.mapCal g).beat = s.beat := rfl
@[simp] theorem State.mapCal_regs (s : State) (g : Cal → Cal) : (s.mapCal g).regs = s.regs := rfl
@[simp] theorem State.mapCal_shadow (s : State) (g : Cal → Cal) : (s.mapCal g).shadow = s.shadow := rfl
@[simp] theorem State.mapCal_hiLatch (s : State) (g : Cal → Cal) : (s.mapCal g).hiLatch = s.hiLatch := rfl
@[simp] theorem State.mapCal_loStage (s : State) (g : Cal → Cal) : (s.mapCal g).loStage = s.loStage := rfl
@[simp] theorem State.mapCal_violog (s : State) (g : Cal → Cal) : (s.mapCal g).violog = s.violog := rfl
@[simp] theorem State.mapCal_groups (s : State) (g : Cal → Cal) : (s.mapCal g).groups = s.groups := rfl
@[simp] theorem State.mapCal_bounds (s : State) (g : Cal → Cal) : (s.mapCal g).bounds = s.bounds := rfl
@[simp] theorem State.mapCal_txs (s : State) (g : Cal → Cal) : (s.mapCal g).txs = s.txs := rfl
@[simp] theorem State.mapCal_splits (s : State) (g : Cal → Cal) : (s.mapCal g).splits = s.splits := rfl
@[simp] theorem State.mapCal_boot (s : State) (g : Cal → Cal) : (s.mapCal g).boot = s.boot := rfl
@[simp] theorem State.mapCal_croz (s : State) (g : Cal → Cal) : (s.mapCal g).croz = s.croz := rfl
@[simp] theorem State.mapCal_cs (s : State) (g : Cal → Cal) : (s.mapCal g).cs = s.cs := rfl
@[simp] theorem State.mapCal_players (s : State) (g : Cal → Cal) : (s.mapCal g).players = s.players := rfl
@[simp] theorem State.mapCal_chains (s : State) (g : Cal → Cal) : (s.mapCal g).chains = s.chains := rfl
@[simp] theorem State.mapCal_pins (s : State) (g : Cal → Cal) : (s.mapCal g).pins = s.pins := rfl
@[simp] theorem State.mapCal_rings (s : State) (g : Cal → Cal) : (s.mapCal g).rings = s.rings := rfl
@[simp] theorem State.mapCal_descs (s : State) (g : Cal → Cal) : (s.mapCal g).descs = s.descs := rfl
@[simp] theorem State.mapCal_lists (s : State) (g : Cal → Cal) : (s.mapCal g).lists = s.lists := rfl
@[simp] theorem State.mapCal_sram (s : State) (g : Cal → Cal) : (s.mapCal g).sram = s.sram := rfl
@[simp] theorem State.mapCal_sec (s : State) (g : Cal → Cal) : (s.mapCal g).sec = s.sec := rfl
@[simp] theorem State.mapCal_gddr (s : State) (g : Cal → Cal) : (s.mapCal g).gddr = s.gddr := rfl
@[simp] theorem State.mapCal_fes (s : State) (g : Cal → Cal) : (s.mapCal g).fes = s.fes := rfl
@[simp] theorem State.mapCal_wmem (s : State) (g : Cal → Cal) : (s.mapCal g).wmem = s.wmem := rfl
@[simp] theorem State.mapCal_bus (s : State) (g : Cal → Cal) : (s.mapCal g).bus = s.bus := rfl
@[simp] theorem State.mapCal_sorus (s : State) (g : Cal → Cal) : (s.mapCal g).sorus = s.sorus := rfl
@[simp] theorem State.mapCal_slots (s : State) (g : Cal → Cal) : (s.mapCal g).slots = s.slots := rfl
@[simp] theorem State.mapCal_acqs (s : State) (g : Cal → Cal) : (s.mapCal g).acqs = s.acqs := rfl
@[simp] theorem State.mapCal_queues (s : State) (g : Cal → Cal) : (s.mapCal g).queues = s.queues := rfl
@[simp] theorem State.mapCal_qmem (s : State) (g : Cal → Cal) : (s.mapCal g).qmem = s.qmem := rfl
@[simp] theorem State.mapCal_transit (s : State) (g : Cal → Cal) : (s.mapCal g).transit = s.transit := rfl
@[simp] theorem State.mapCal_hypha (s : State) (g : Cal → Cal) : (s.mapCal g).hypha = s.hypha := rfl
@[simp] theorem State.mapCal_hk (s : State) (g : Cal → Cal) : (s.mapCal g).hk = s.hk := rfl
@[simp] theorem State.mapCal_time (s : State) (g : Cal → Cal) : (s.mapCal g).time = s.time := rfl
@[simp] theorem State.mapCal_cal (s : State) (g : Cal → Cal) : (s.mapCal g).cal = g s.cal := rfl
@[simp] theorem State.mapCal_therm (s : State) (g : Cal → Cal) : (s.mapCal g).therm = s.therm := rfl
@[simp] theorem State.mapCal_link (s : State) (g : Cal → Cal) : (s.mapCal g).link = s.link := rfl
@[simp] theorem State.mapCal_tx (s : State) (g : Cal → Cal) : (s.mapCal g).tx = s.tx := rfl
@[simp] theorem State.mapCal_pcie (s : State) (g : Cal → Cal) : (s.mapCal g).pcie = s.pcie := rfl
@[simp] theorem State.mapCal_ticking (s : State) (g : Cal → Cal) : (s.mapCal g).ticking = s.ticking := rfl
@[simp] theorem State.mapCal_flagNow (s : State) (g : Cal → Cal) : (s.mapCal g).flagNow = s.flagNow := rfl
@[simp] theorem State.mapCal_trigs (s : State) (g : Cal → Cal) : (s.mapCal g).trigs = s.trigs := rfl
@[simp] theorem State.mapCal_fresh (s : State) (g : Cal → Cal) : (s.mapCal g).fresh = s.fresh := rfl
@[simp] theorem State.mapCal_outbox (s : State) (g : Cal → Cal) : (s.mapCal g).outbox = s.outbox := rfl
@[simp] theorem State.mapCal_pending (s : State) (g : Cal → Cal) : (s.mapCal g).pending = s.pending := rfl

@[simp] theorem State.mapTime_beat (s : State) (g : TimeSt → TimeSt) : (s.mapTime g).beat = s.beat := rfl
@[simp] theorem State.mapTime_regs (s : State) (g : TimeSt → TimeSt) : (s.mapTime g).regs = s.regs := rfl
@[simp] theorem State.mapTime_shadow (s : State) (g : TimeSt → TimeSt) : (s.mapTime g).shadow = s.shadow := rfl
@[simp] theorem State.mapTime_hiLatch (s : State) (g : TimeSt → TimeSt) : (s.mapTime g).hiLatch = s.hiLatch := rfl
@[simp] theorem State.mapTime_loStage (s : State) (g : TimeSt → TimeSt) : (s.mapTime g).loStage = s.loStage := rfl
@[simp] theorem State.mapTime_violog (s : State) (g : TimeSt → TimeSt) : (s.mapTime g).violog = s.violog := rfl
@[simp] theorem State.mapTime_groups (s : State) (g : TimeSt → TimeSt) : (s.mapTime g).groups = s.groups := rfl
@[simp] theorem State.mapTime_bounds (s : State) (g : TimeSt → TimeSt) : (s.mapTime g).bounds = s.bounds := rfl
@[simp] theorem State.mapTime_txs (s : State) (g : TimeSt → TimeSt) : (s.mapTime g).txs = s.txs := rfl
@[simp] theorem State.mapTime_splits (s : State) (g : TimeSt → TimeSt) : (s.mapTime g).splits = s.splits := rfl
@[simp] theorem State.mapTime_boot (s : State) (g : TimeSt → TimeSt) : (s.mapTime g).boot = s.boot := rfl
@[simp] theorem State.mapTime_croz (s : State) (g : TimeSt → TimeSt) : (s.mapTime g).croz = s.croz := rfl
@[simp] theorem State.mapTime_cs (s : State) (g : TimeSt → TimeSt) : (s.mapTime g).cs = s.cs := rfl
@[simp] theorem State.mapTime_players (s : State) (g : TimeSt → TimeSt) : (s.mapTime g).players = s.players := rfl
@[simp] theorem State.mapTime_chains (s : State) (g : TimeSt → TimeSt) : (s.mapTime g).chains = s.chains := rfl
@[simp] theorem State.mapTime_pins (s : State) (g : TimeSt → TimeSt) : (s.mapTime g).pins = s.pins := rfl
@[simp] theorem State.mapTime_rings (s : State) (g : TimeSt → TimeSt) : (s.mapTime g).rings = s.rings := rfl
@[simp] theorem State.mapTime_descs (s : State) (g : TimeSt → TimeSt) : (s.mapTime g).descs = s.descs := rfl
@[simp] theorem State.mapTime_lists (s : State) (g : TimeSt → TimeSt) : (s.mapTime g).lists = s.lists := rfl
@[simp] theorem State.mapTime_sram (s : State) (g : TimeSt → TimeSt) : (s.mapTime g).sram = s.sram := rfl
@[simp] theorem State.mapTime_sec (s : State) (g : TimeSt → TimeSt) : (s.mapTime g).sec = s.sec := rfl
@[simp] theorem State.mapTime_gddr (s : State) (g : TimeSt → TimeSt) : (s.mapTime g).gddr = s.gddr := rfl
@[simp] theorem State.mapTime_fes (s : State) (g : TimeSt → TimeSt) : (s.mapTime g).fes = s.fes := rfl
@[simp] theorem State.mapTime_wmem (s : State) (g : TimeSt → TimeSt) : (s.mapTime g).wmem = s.wmem := rfl
@[simp] theorem State.mapTime_bus (s : State) (g : TimeSt → TimeSt) : (s.mapTime g).bus = s.bus := rfl
@[simp] theorem State.mapTime_sorus (s : State) (g : TimeSt → TimeSt) : (s.mapTime g).sorus = s.sorus := rfl
@[simp] theorem State.mapTime_slots (s : State) (g : TimeSt → TimeSt) : (s.mapTime g).slots = s.slots := rfl
@[simp] theorem State.mapTime_acqs (s : State) (g : TimeSt → TimeSt) : (s.mapTime g).acqs = s.acqs := rfl
@[simp] theorem State.mapTime_queues (s : State) (g : TimeSt → TimeSt) : (s.mapTime g).queues = s.queues := rfl
@[simp] theorem State.mapTime_qmem (s : State) (g : TimeSt → TimeSt) : (s.mapTime g).qmem = s.qmem := rfl
@[simp] theorem State.mapTime_transit (s : State) (g : TimeSt → TimeSt) : (s.mapTime g).transit = s.transit := rfl
@[simp] theorem State.mapTime_hypha (s : State) (g : TimeSt → TimeSt) : (s.mapTime g).hypha = s.hypha := rfl
@[simp] theorem State.mapTime_hk (s : State) (g : TimeSt → TimeSt) : (s.mapTime g).hk = s.hk := rfl
@[simp] theorem State.mapTime_time (s : State) (g : TimeSt → TimeSt) : (s.mapTime g).time = g s.time := rfl
@[simp] theorem State.mapTime_cal (s : State) (g : TimeSt → TimeSt) : (s.mapTime g).cal = s.cal := rfl
@[simp] theorem State.mapTime_therm (s : State) (g : TimeSt → TimeSt) : (s.mapTime g).therm = s.therm := rfl
@[simp] theorem State.mapTime_link (s : State) (g : TimeSt → TimeSt) : (s.mapTime g).link = s.link := rfl
@[simp] theorem State.mapTime_tx (s : State) (g : TimeSt → TimeSt) : (s.mapTime g).tx = s.tx := rfl
@[simp] theorem State.mapTime_pcie (s : State) (g : TimeSt → TimeSt) : (s.mapTime g).pcie = s.pcie := rfl
@[simp] theorem State.mapTime_ticking (s : State) (g : TimeSt → TimeSt) : (s.mapTime g).ticking = s.ticking := rfl
@[simp] theorem State.mapTime_flagNow (s : State) (g : TimeSt → TimeSt) : (s.mapTime g).flagNow = s.flagNow := rfl
@[simp] theorem State.mapTime_trigs (s : State) (g : TimeSt → TimeSt) : (s.mapTime g).trigs = s.trigs := rfl
@[simp] theorem State.mapTime_fresh (s : State) (g : TimeSt → TimeSt) : (s.mapTime g).fresh = s.fresh := rfl
@[simp] theorem State.mapTime_outbox (s : State) (g : TimeSt → TimeSt) : (s.mapTime g).outbox = s.outbox := rfl
@[simp] theorem State.mapTime_pending (s : State) (g : TimeSt → TimeSt) : (s.mapTime g).pending = s.pending := rfl

@[simp] theorem State.mapHk_beat (s : State) (g : Hk → Hk) : (s.mapHk g).beat = s.beat := rfl
@[simp] theorem State.mapHk_regs (s : State) (g : Hk → Hk) : (s.mapHk g).regs = s.regs := rfl
@[simp] theorem State.mapHk_shadow (s : State) (g : Hk → Hk) : (s.mapHk g).shadow = s.shadow := rfl
@[simp] theorem State.mapHk_hiLatch (s : State) (g : Hk → Hk) : (s.mapHk g).hiLatch = s.hiLatch := rfl
@[simp] theorem State.mapHk_loStage (s : State) (g : Hk → Hk) : (s.mapHk g).loStage = s.loStage := rfl
@[simp] theorem State.mapHk_violog (s : State) (g : Hk → Hk) : (s.mapHk g).violog = s.violog := rfl
@[simp] theorem State.mapHk_groups (s : State) (g : Hk → Hk) : (s.mapHk g).groups = s.groups := rfl
@[simp] theorem State.mapHk_bounds (s : State) (g : Hk → Hk) : (s.mapHk g).bounds = s.bounds := rfl
@[simp] theorem State.mapHk_txs (s : State) (g : Hk → Hk) : (s.mapHk g).txs = s.txs := rfl
@[simp] theorem State.mapHk_splits (s : State) (g : Hk → Hk) : (s.mapHk g).splits = s.splits := rfl
@[simp] theorem State.mapHk_boot (s : State) (g : Hk → Hk) : (s.mapHk g).boot = s.boot := rfl
@[simp] theorem State.mapHk_croz (s : State) (g : Hk → Hk) : (s.mapHk g).croz = s.croz := rfl
@[simp] theorem State.mapHk_cs (s : State) (g : Hk → Hk) : (s.mapHk g).cs = s.cs := rfl
@[simp] theorem State.mapHk_players (s : State) (g : Hk → Hk) : (s.mapHk g).players = s.players := rfl
@[simp] theorem State.mapHk_chains (s : State) (g : Hk → Hk) : (s.mapHk g).chains = s.chains := rfl
@[simp] theorem State.mapHk_pins (s : State) (g : Hk → Hk) : (s.mapHk g).pins = s.pins := rfl
@[simp] theorem State.mapHk_rings (s : State) (g : Hk → Hk) : (s.mapHk g).rings = s.rings := rfl
@[simp] theorem State.mapHk_descs (s : State) (g : Hk → Hk) : (s.mapHk g).descs = s.descs := rfl
@[simp] theorem State.mapHk_lists (s : State) (g : Hk → Hk) : (s.mapHk g).lists = s.lists := rfl
@[simp] theorem State.mapHk_sram (s : State) (g : Hk → Hk) : (s.mapHk g).sram = s.sram := rfl
@[simp] theorem State.mapHk_sec (s : State) (g : Hk → Hk) : (s.mapHk g).sec = s.sec := rfl
@[simp] theorem State.mapHk_gddr (s : State) (g : Hk → Hk) : (s.mapHk g).gddr = s.gddr := rfl
@[simp] theorem State.mapHk_fes (s : State) (g : Hk → Hk) : (s.mapHk g).fes = s.fes := rfl
@[simp] theorem State.mapHk_wmem (s : State) (g : Hk → Hk) : (s.mapHk g).wmem = s.wmem := rfl
@[simp] theorem State.mapHk_bus (s : State) (g : Hk → Hk) : (s.mapHk g).bus = s.bus := rfl
@[simp] theorem State.mapHk_sorus (s : State) (g : Hk → Hk) : (s.mapHk g).sorus = s.sorus := rfl
@[simp] theorem State.mapHk_slots (s : State) (g : Hk → Hk) : (s.mapHk g).slots = s.slots := rfl
@[simp] theorem State.mapHk_acqs (s : State) (g : Hk → Hk) : (s.mapHk g).acqs = s.acqs := rfl
@[simp] theorem State.mapHk_queues (s : State) (g : Hk → Hk) : (s.mapHk g).queues = s.queues := rfl
@[simp] theorem State.mapHk_qmem (s : State) (g : Hk → Hk) : (s.mapHk g).qmem = s.qmem := rfl
@[simp] theorem State.mapHk_transit (s : State) (g : Hk → Hk) : (s.mapHk g).transit = s.transit := rfl
@[simp] theorem State.mapHk_hypha (s : State) (g : Hk → Hk) : (s.mapHk g).hypha = s.hypha := rfl
@[simp] theorem State.mapHk_hk (s : State) (g : Hk → Hk) : (s.mapHk g).hk = g s.hk := rfl
@[simp] theorem State.mapHk_time (s : State) (g : Hk → Hk) : (s.mapHk g).time = s.time := rfl
@[simp] theorem State.mapHk_cal (s : State) (g : Hk → Hk) : (s.mapHk g).cal = s.cal := rfl
@[simp] theorem State.mapHk_therm (s : State) (g : Hk → Hk) : (s.mapHk g).therm = s.therm := rfl
@[simp] theorem State.mapHk_link (s : State) (g : Hk → Hk) : (s.mapHk g).link = s.link := rfl
@[simp] theorem State.mapHk_tx (s : State) (g : Hk → Hk) : (s.mapHk g).tx = s.tx := rfl
@[simp] theorem State.mapHk_pcie (s : State) (g : Hk → Hk) : (s.mapHk g).pcie = s.pcie := rfl
@[simp] theorem State.mapHk_ticking (s : State) (g : Hk → Hk) : (s.mapHk g).ticking = s.ticking := rfl
@[simp] theorem State.mapHk_flagNow (s : State) (g : Hk → Hk) : (s.mapHk g).flagNow = s.flagNow := rfl
@[simp] theorem State.mapHk_trigs (s : State) (g : Hk → Hk) : (s.mapHk g).trigs = s.trigs := rfl
@[simp] theorem State.mapHk_fresh (s : State) (g : Hk → Hk) : (s.mapHk g).fresh = s.fresh := rfl
@[simp] theorem State.mapHk_outbox (s : State) (g : Hk → Hk) : (s.mapHk g).outbox = s.outbox := rfl
@[simp] theorem State.mapHk_pending (s : State) (g : Hk → Hk) : (s.mapHk g).pending = s.pending := rfl

@[simp] theorem State.mapBoot_beat (s : State) (g : Boot → Boot) : (s.mapBoot g).beat = s.beat := rfl
@[simp] theorem State.mapBoot_regs (s : State) (g : Boot → Boot) : (s.mapBoot g).regs = s.regs := rfl
@[simp] theorem State.mapBoot_shadow (s : State) (g : Boot → Boot) : (s.mapBoot g).shadow = s.shadow := rfl
@[simp] theorem State.mapBoot_hiLatch (s : State) (g : Boot → Boot) : (s.mapBoot g).hiLatch = s.hiLatch := rfl
@[simp] theorem State.mapBoot_loStage (s : State) (g : Boot → Boot) : (s.mapBoot g).loStage = s.loStage := rfl
@[simp] theorem State.mapBoot_violog (s : State) (g : Boot → Boot) : (s.mapBoot g).violog = s.violog := rfl
@[simp] theorem State.mapBoot_groups (s : State) (g : Boot → Boot) : (s.mapBoot g).groups = s.groups := rfl
@[simp] theorem State.mapBoot_bounds (s : State) (g : Boot → Boot) : (s.mapBoot g).bounds = s.bounds := rfl
@[simp] theorem State.mapBoot_txs (s : State) (g : Boot → Boot) : (s.mapBoot g).txs = s.txs := rfl
@[simp] theorem State.mapBoot_splits (s : State) (g : Boot → Boot) : (s.mapBoot g).splits = s.splits := rfl
@[simp] theorem State.mapBoot_boot (s : State) (g : Boot → Boot) : (s.mapBoot g).boot = g s.boot := rfl
@[simp] theorem State.mapBoot_croz (s : State) (g : Boot → Boot) : (s.mapBoot g).croz = s.croz := rfl
@[simp] theorem State.mapBoot_cs (s : State) (g : Boot → Boot) : (s.mapBoot g).cs = s.cs := rfl
@[simp] theorem State.mapBoot_players (s : State) (g : Boot → Boot) : (s.mapBoot g).players = s.players := rfl
@[simp] theorem State.mapBoot_chains (s : State) (g : Boot → Boot) : (s.mapBoot g).chains = s.chains := rfl
@[simp] theorem State.mapBoot_pins (s : State) (g : Boot → Boot) : (s.mapBoot g).pins = s.pins := rfl
@[simp] theorem State.mapBoot_rings (s : State) (g : Boot → Boot) : (s.mapBoot g).rings = s.rings := rfl
@[simp] theorem State.mapBoot_descs (s : State) (g : Boot → Boot) : (s.mapBoot g).descs = s.descs := rfl
@[simp] theorem State.mapBoot_lists (s : State) (g : Boot → Boot) : (s.mapBoot g).lists = s.lists := rfl
@[simp] theorem State.mapBoot_sram (s : State) (g : Boot → Boot) : (s.mapBoot g).sram = s.sram := rfl
@[simp] theorem State.mapBoot_sec (s : State) (g : Boot → Boot) : (s.mapBoot g).sec = s.sec := rfl
@[simp] theorem State.mapBoot_gddr (s : State) (g : Boot → Boot) : (s.mapBoot g).gddr = s.gddr := rfl
@[simp] theorem State.mapBoot_fes (s : State) (g : Boot → Boot) : (s.mapBoot g).fes = s.fes := rfl
@[simp] theorem State.mapBoot_wmem (s : State) (g : Boot → Boot) : (s.mapBoot g).wmem = s.wmem := rfl
@[simp] theorem State.mapBoot_bus (s : State) (g : Boot → Boot) : (s.mapBoot g).bus = s.bus := rfl
@[simp] theorem State.mapBoot_sorus (s : State) (g : Boot → Boot) : (s.mapBoot g).sorus = s.sorus := rfl
@[simp] theorem State.mapBoot_slots (s : State) (g : Boot → Boot) : (s.mapBoot g).slots = s.slots := rfl
@[simp] theorem State.mapBoot_acqs (s : State) (g : Boot → Boot) : (s.mapBoot g).acqs = s.acqs := rfl
@[simp] theorem State.mapBoot_queues (s : State) (g : Boot → Boot) : (s.mapBoot g).queues = s.queues := rfl
@[simp] theorem State.mapBoot_qmem (s : State) (g : Boot → Boot) : (s.mapBoot g).qmem = s.qmem := rfl
@[simp] theorem State.mapBoot_transit (s : State) (g : Boot → Boot) : (s.mapBoot g).transit = s.transit := rfl
@[simp] theorem State.mapBoot_hypha (s : State) (g : Boot → Boot) : (s.mapBoot g).hypha = s.hypha := rfl
@[simp] theorem State.mapBoot_hk (s : State) (g : Boot → Boot) : (s.mapBoot g).hk = s.hk := rfl
@[simp] theorem State.mapBoot_time (s : State) (g : Boot → Boot) : (s.mapBoot g).time = s.time := rfl
@[simp] theorem State.mapBoot_cal (s : State) (g : Boot → Boot) : (s.mapBoot g).cal = s.cal := rfl
@[simp] theorem State.mapBoot_therm (s : State) (g : Boot → Boot) : (s.mapBoot g).therm = s.therm := rfl
@[simp] theorem State.mapBoot_link (s : State) (g : Boot → Boot) : (s.mapBoot g).link = s.link := rfl
@[simp] theorem State.mapBoot_tx (s : State) (g : Boot → Boot) : (s.mapBoot g).tx = s.tx := rfl
@[simp] theorem State.mapBoot_pcie (s : State) (g : Boot → Boot) : (s.mapBoot g).pcie = s.pcie := rfl
@[simp] theorem State.mapBoot_ticking (s : State) (g : Boot → Boot) : (s.mapBoot g).ticking = s.ticking := rfl
@[simp] theorem State.mapBoot_flagNow (s : State) (g : Boot → Boot) : (s.mapBoot g).flagNow = s.flagNow := rfl
@[simp] theorem State.mapBoot_trigs (s : State) (g : Boot → Boot) : (s.mapBoot g).trigs = s.trigs := rfl
@[simp] theorem State.mapBoot_fresh (s : State) (g : Boot → Boot) : (s.mapBoot g).fresh = s.fresh := rfl
@[simp] theorem State.mapBoot_outbox (s : State) (g : Boot → Boot) : (s.mapBoot g).outbox = s.outbox := rfl
@[simp] theorem State.mapBoot_pending (s : State) (g : Boot → Boot) : (s.mapBoot g).pending = s.pending := rfl

@[simp] theorem State.mapHypha_beat (s : State) (g : Hypha → Hypha) : (s.mapHypha g).beat = s.beat := rfl
@[simp] theorem State.mapHypha_regs (s : State) (g : Hypha → Hypha) : (s.mapHypha g).regs = s.regs := rfl
@[simp] theorem State.mapHypha_shadow (s : State) (g : Hypha → Hypha) : (s.mapHypha g).shadow = s.shadow := rfl
@[simp] theorem State.mapHypha_hiLatch (s : State) (g : Hypha → Hypha) : (s.mapHypha g).hiLatch = s.hiLatch := rfl
@[simp] theorem State.mapHypha_loStage (s : State) (g : Hypha → Hypha) : (s.mapHypha g).loStage = s.loStage := rfl
@[simp] theorem State.mapHypha_violog (s : State) (g : Hypha → Hypha) : (s.mapHypha g).violog = s.violog := rfl
@[simp] theorem State.mapHypha_groups (s : State) (g : Hypha → Hypha) : (s.mapHypha g).groups = s.groups := rfl
@[simp] theorem State.mapHypha_bounds (s : State) (g : Hypha → Hypha) : (s.mapHypha g).bounds = s.bounds := rfl
@[simp] theorem State.mapHypha_txs (s : State) (g : Hypha → Hypha) : (s.mapHypha g).txs = s.txs := rfl
@[simp] theorem State.mapHypha_splits (s : State) (g : Hypha → Hypha) : (s.mapHypha g).splits = s.splits := rfl
@[simp] theorem State.mapHypha_boot (s : State) (g : Hypha → Hypha) : (s.mapHypha g).boot = s.boot := rfl
@[simp] theorem State.mapHypha_croz (s : State) (g : Hypha → Hypha) : (s.mapHypha g).croz = s.croz := rfl
@[simp] theorem State.mapHypha_cs (s : State) (g : Hypha → Hypha) : (s.mapHypha g).cs = s.cs := rfl
@[simp] theorem State.mapHypha_players (s : State) (g : Hypha → Hypha) : (s.mapHypha g).players = s.players := rfl
@[simp] theorem State.mapHypha_chains (s : State) (g : Hypha → Hypha) : (s.mapHypha g).chains = s.chains := rfl
@[simp] theorem State.mapHypha_pins (s : State) (g : Hypha → Hypha) : (s.mapHypha g).pins = s.pins := rfl
@[simp] theorem State.mapHypha_rings (s : State) (g : Hypha → Hypha) : (s.mapHypha g).rings = s.rings := rfl
@[simp] theorem State.mapHypha_descs (s : State) (g : Hypha → Hypha) : (s.mapHypha g).descs = s.descs := rfl
@[simp] theorem State.mapHypha_lists (s : State) (g : Hypha → Hypha) : (s.mapHypha g).lists = s.lists := rfl
@[simp] theorem State.mapHypha_sram (s : State) (g : Hypha → Hypha) : (s.mapHypha g).sram = s.sram := rfl
@[simp] theorem State.mapHypha_sec (s : State) (g : Hypha → Hypha) : (s.mapHypha g).sec = s.sec := rfl
@[simp] theorem State.mapHypha_gddr (s : State) (g : Hypha → Hypha) : (s.mapHypha g).gddr = s.gddr := rfl
@[simp] theorem State.mapHypha_fes (s : State) (g : Hypha → Hypha) : (s.mapHypha g).fes = s.fes := rfl
@[simp] theorem State.mapHypha_wmem (s : State) (g : Hypha → Hypha) : (s.mapHypha g).wmem = s.wmem := rfl
@[simp] theorem State.mapHypha_bus (s : State) (g : Hypha → Hypha) : (s.mapHypha g).bus = s.bus := rfl
@[simp] theorem State.mapHypha_sorus (s : State) (g : Hypha → Hypha) : (s.mapHypha g).sorus = s.sorus := rfl
@[simp] theorem State.mapHypha_slots (s : State) (g : Hypha → Hypha) : (s.mapHypha g).slots = s.slots := rfl
@[simp] theorem State.mapHypha_acqs (s : State) (g : Hypha → Hypha) : (s.mapHypha g).acqs = s.acqs := rfl
@[simp] theorem State.mapHypha_queues (s : State) (g : Hypha → Hypha) : (s.mapHypha g).queues = s.queues := rfl
@[simp] theorem State.mapHypha_qmem (s : State) (g : Hypha → Hypha) : (s.mapHypha g).qmem = s.qmem := rfl
@[simp] theorem State.mapHypha_transit (s : State) (g : Hypha → Hypha) : (s.mapHypha g).transit = s.transit := rfl
@[simp] theorem State.mapHypha_hypha (s : State) (g : Hypha → Hypha) : (s.mapHypha g).hypha = g s.hypha := rfl
@[simp] theorem State.mapHypha_hk (s : State) (g : Hypha → Hypha) : (s.mapHypha g).hk = s.hk := rfl
@[simp] theorem State.mapHypha_time (s : State) (g : Hypha → Hypha) : (s.mapHypha g).time = s.time := rfl
@[simp] theorem State.mapHypha_cal (s : State) (g : Hypha → Hypha) : (s.mapHypha g).cal = s.cal := rfl
@[simp] theorem State.mapHypha_therm (s : State) (g : Hypha → Hypha) : (s.mapHypha g).therm = s.therm := rfl
@[simp] theorem State.mapHypha_link (s : State) (g : Hypha → Hypha) : (s.mapHypha g).link = s.link := rfl
@[simp] theorem State.mapHypha_tx (s : State) (g : Hypha → Hypha) : (s.mapHypha g).tx = s.tx := rfl
@[simp] theorem State.mapHypha_pcie (s : State) (g : Hypha → Hypha) : (s.mapHypha g).pcie = s.pcie := rfl
@[simp] theorem State.mapHypha_ticking (s : State) (g : Hypha → Hypha) : (s.mapHypha g).ticking = s.ticking := rfl
@[simp] theorem State.mapHypha_flagNow (s : State) (g : Hypha → Hypha) : (s.mapHypha g).flagNow = s.flagNow := rfl
@[simp] theorem State.mapHypha_trigs (s : State) (g : Hypha → Hypha) : (s.mapHypha g).trigs = s.trigs := rfl
@[simp] theorem State.mapHypha_fresh (s : State) (g : Hypha → Hypha) : (s.mapHypha g).fresh = s.fresh := rfl
@[simp] theorem State.mapHypha_outbox (s : State) (g : Hypha → Hypha) : (s.mapHypha g).outbox = s.outbox := rfl
@[simp] theorem State.mapHypha_pending (s : State) (g : Hypha → Hypha) : (s.mapHypha g).pending = s.pending := rfl

@[simp] theorem State.mapLink_beat (s : State) (g : Link → Link) : (s.mapLink g).beat = s.beat := rfl
@[simp] theorem State.mapLink_regs (s : State) (g : Link → Link) : (s.mapLink g).regs = s.regs := rfl
@[simp] theorem State.mapLink_shadow (s : State) (g : Link → Link) : (s.mapLink g).shadow = s.shadow := rfl
@[simp] theorem State.mapLink_hiLatch (s : State) (g : Link → Link) : (s.mapLink g).hiLatch = s.hiLatch := rfl
@[simp] theorem State.mapLink_loStage (s : State) (g : Link → Link) : (s.mapLink g).loStage = s.loStage := rfl
@[simp] theorem State.mapLink_violog (s : State) (g : Link → Link) : (s.mapLink g).violog = s.violog := rfl
@[simp] theorem State.mapLink_groups (s : State) (g : Link → Link) : (s.mapLink g).groups = s.groups := rfl
@[simp] theorem State.mapLink_bounds (s : State) (g : Link → Link) : (s.mapLink g).bounds = s.bounds := rfl
@[simp] theorem State.mapLink_txs (s : State) (g : Link → Link) : (s.mapLink g).txs = s.txs := rfl
@[simp] theorem State.mapLink_splits (s : State) (g : Link → Link) : (s.mapLink g).splits = s.splits := rfl
@[simp] theorem State.mapLink_boot (s : State) (g : Link → Link) : (s.mapLink g).boot = s.boot := rfl
@[simp] theorem State.mapLink_croz (s : State) (g : Link → Link) : (s.mapLink g).croz = s.croz := rfl
@[simp] theorem State.mapLink_cs (s : State) (g : Link → Link) : (s.mapLink g).cs = s.cs := rfl
@[simp] theorem State.mapLink_players (s : State) (g : Link → Link) : (s.mapLink g).players = s.players := rfl
@[simp] theorem State.mapLink_chains (s : State) (g : Link → Link) : (s.mapLink g).chains = s.chains := rfl
@[simp] theorem State.mapLink_pins (s : State) (g : Link → Link) : (s.mapLink g).pins = s.pins := rfl
@[simp] theorem State.mapLink_rings (s : State) (g : Link → Link) : (s.mapLink g).rings = s.rings := rfl
@[simp] theorem State.mapLink_descs (s : State) (g : Link → Link) : (s.mapLink g).descs = s.descs := rfl
@[simp] theorem State.mapLink_lists (s : State) (g : Link → Link) : (s.mapLink g).lists = s.lists := rfl
@[simp] theorem State.mapLink_sram (s : State) (g : Link → Link) : (s.mapLink g).sram = s.sram := rfl
@[simp] theorem State.mapLink_sec (s : State) (g : Link → Link) : (s.mapLink g).sec = s.sec := rfl
@[simp] theorem State.mapLink_gddr (s : State) (g : Link → Link) : (s.mapLink g).gddr = s.gddr := rfl
@[simp] theorem State.mapLink_fes (s : State) (g : Link → Link) : (s.mapLink g).fes = s.fes := rfl
@[simp] theorem State.mapLink_wmem (s : State) (g : Link → Link) : (s.mapLink g).wmem = s.wmem := rfl
@[simp] theorem State.mapLink_bus (s : State) (g : Link → Link) : (s.mapLink g).bus = s.bus := rfl
@[simp] theorem State.mapLink_sorus (s : State) (g : Link → Link) : (s.mapLink g).sorus = s.sorus := rfl
@[simp] theorem State.mapLink_slots (s : State) (g : Link → Link) : (s.mapLink g).slots = s.slots := rfl
@[simp] theorem State.mapLink_acqs (s : State) (g : Link → Link) : (s.mapLink g).acqs = s.acqs := rfl
@[simp] theorem State.mapLink_queues (s : State) (g : Link → Link) : (s.mapLink g).queues = s.queues := rfl
@[simp] theorem State.mapLink_qmem (s : State) (g : Link → Link) : (s.mapLink g).qmem = s.qmem := rfl
@[simp] theorem State.mapLink_transit (s : State) (g : Link → Link) : (s.mapLink g).transit = s.transit := rfl
@[simp] theorem State.mapLink_hypha (s : State) (g : Link → Link) : (s.mapLink g).hypha = s.hypha := rfl
@[simp] theorem State.mapLink_hk (s : State) (g : Link → Link) : (s.mapLink g).hk = s.hk := rfl
@[simp] theorem State.mapLink_time (s : State) (g : Link → Link) : (s.mapLink g).time = s.time := rfl
@[simp] theorem State.mapLink_cal (s : State) (g : Link → Link) : (s.mapLink g).cal = s.cal := rfl
@[simp] theorem State.mapLink_therm (s : State) (g : Link → Link) : (s.mapLink g).therm = s.therm := rfl
@[simp] theorem State.mapLink_link (s : State) (g : Link → Link) : (s.mapLink g).link = g s.link := rfl
@[simp] theorem State.mapLink_tx (s : State) (g : Link → Link) : (s.mapLink g).tx = s.tx := rfl
@[simp] theorem State.mapLink_pcie (s : State) (g : Link → Link) : (s.mapLink g).pcie = s.pcie := rfl
@[simp] theorem State.mapLink_ticking (s : State) (g : Link → Link) : (s.mapLink g).ticking = s.ticking := rfl
@[simp] theorem State.mapLink_flagNow (s : State) (g : Link → Link) : (s.mapLink g).flagNow = s.flagNow := rfl
@[simp] theorem State.mapLink_trigs (s : State) (g : Link → Link) : (s.mapLink g).trigs = s.trigs := rfl
@[simp] theorem State.mapLink_fresh (s : State) (g : Link → Link) : (s.mapLink g).fresh = s.fresh := rfl
@[simp] theorem State.mapLink_outbox (s : State) (g : Link → Link) : (s.mapLink g).outbox = s.outbox := rfl
@[simp] theorem State.mapLink_pending (s : State) (g : Link → Link) : (s.mapLink g).pending = s.pending := rfl

@[simp] theorem State.mapSec_beat (s : State) (g : Sec → Sec) : (s.mapSec g).beat = s.beat := rfl
@[simp] theorem State.mapSec_regs (s : State) (g : Sec → Sec) : (s.mapSec g).regs = s.regs := rfl
@[simp] theorem State.mapSec_shadow (s : State) (g : Sec → Sec) : (s.mapSec g).shadow = s.shadow := rfl
@[simp] theorem State.mapSec_hiLatch (s : State) (g : Sec → Sec) : (s.mapSec g).hiLatch = s.hiLatch := rfl
@[simp] theorem State.mapSec_loStage (s : State) (g : Sec → Sec) : (s.mapSec g).loStage = s.loStage := rfl
@[simp] theorem State.mapSec_violog (s : State) (g : Sec → Sec) : (s.mapSec g).violog = s.violog := rfl
@[simp] theorem State.mapSec_groups (s : State) (g : Sec → Sec) : (s.mapSec g).groups = s.groups := rfl
@[simp] theorem State.mapSec_bounds (s : State) (g : Sec → Sec) : (s.mapSec g).bounds = s.bounds := rfl
@[simp] theorem State.mapSec_txs (s : State) (g : Sec → Sec) : (s.mapSec g).txs = s.txs := rfl
@[simp] theorem State.mapSec_splits (s : State) (g : Sec → Sec) : (s.mapSec g).splits = s.splits := rfl
@[simp] theorem State.mapSec_boot (s : State) (g : Sec → Sec) : (s.mapSec g).boot = s.boot := rfl
@[simp] theorem State.mapSec_croz (s : State) (g : Sec → Sec) : (s.mapSec g).croz = s.croz := rfl
@[simp] theorem State.mapSec_cs (s : State) (g : Sec → Sec) : (s.mapSec g).cs = s.cs := rfl
@[simp] theorem State.mapSec_players (s : State) (g : Sec → Sec) : (s.mapSec g).players = s.players := rfl
@[simp] theorem State.mapSec_chains (s : State) (g : Sec → Sec) : (s.mapSec g).chains = s.chains := rfl
@[simp] theorem State.mapSec_pins (s : State) (g : Sec → Sec) : (s.mapSec g).pins = s.pins := rfl
@[simp] theorem State.mapSec_rings (s : State) (g : Sec → Sec) : (s.mapSec g).rings = s.rings := rfl
@[simp] theorem State.mapSec_descs (s : State) (g : Sec → Sec) : (s.mapSec g).descs = s.descs := rfl
@[simp] theorem State.mapSec_lists (s : State) (g : Sec → Sec) : (s.mapSec g).lists = s.lists := rfl
@[simp] theorem State.mapSec_sram (s : State) (g : Sec → Sec) : (s.mapSec g).sram = s.sram := rfl
@[simp] theorem State.mapSec_sec (s : State) (g : Sec → Sec) : (s.mapSec g).sec = g s.sec := rfl
@[simp] theorem State.mapSec_gddr (s : State) (g : Sec → Sec) : (s.mapSec g).gddr = s.gddr := rfl
@[simp] theorem State.mapSec_fes (s : State) (g : Sec → Sec) : (s.mapSec g).fes = s.fes := rfl
@[simp] theorem State.mapSec_wmem (s : State) (g : Sec → Sec) : (s.mapSec g).wmem = s.wmem := rfl
@[simp] theorem State.mapSec_bus (s : State) (g : Sec → Sec) : (s.mapSec g).bus = s.bus := rfl
@[simp] theorem State.mapSec_sorus (s : State) (g : Sec → Sec) : (s.mapSec g).sorus = s.sorus := rfl
@[simp] theorem State.mapSec_slots (s : State) (g : Sec → Sec) : (s.mapSec g).slots = s.slots := rfl
@[simp] theorem State.mapSec_acqs (s : State) (g : Sec → Sec) : (s.mapSec g).acqs = s.acqs := rfl
@[simp] theorem State.mapSec_queues (s : State) (g : Sec → Sec) : (s.mapSec g).queues = s.queues := rfl
@[simp] theorem State.mapSec_qmem (s : State) (g : Sec → Sec) : (s.mapSec g).qmem = s.qmem := rfl
@[simp] theorem State.mapSec_transit (s : State) (g : Sec → Sec) : (s.mapSec g).transit = s.transit := rfl
@[simp] theorem State.mapSec_hypha (s : State) (g : Sec → Sec) : (s.mapSec g).hypha = s.hypha := rfl
@[simp] theorem State.mapSec_hk (s : State) (g : Sec → Sec) : (s.mapSec g).hk = s.hk := rfl
@[simp] theorem State.mapSec_time (s : State) (g : Sec → Sec) : (s.mapSec g).time = s.time := rfl
@[simp] theorem State.mapSec_cal (s : State) (g : Sec → Sec) : (s.mapSec g).cal = s.cal := rfl
@[simp] theorem State.mapSec_therm (s : State) (g : Sec → Sec) : (s.mapSec g).therm = s.therm := rfl
@[simp] theorem State.mapSec_link (s : State) (g : Sec → Sec) : (s.mapSec g).link = s.link := rfl
@[simp] theorem State.mapSec_tx (s : State) (g : Sec → Sec) : (s.mapSec g).tx = s.tx := rfl
@[simp] theorem State.mapSec_pcie (s : State) (g : Sec → Sec) : (s.mapSec g).pcie = s.pcie := rfl
@[simp] theorem State.mapSec_ticking (s : State) (g : Sec → Sec) : (s.mapSec g).ticking = s.ticking := rfl
@[simp] theorem State.mapSec_flagNow (s : State) (g : Sec → Sec) : (s.mapSec g).flagNow = s.flagNow := rfl
@[simp] theorem State.mapSec_trigs (s : State) (g : Sec → Sec) : (s.mapSec g).trigs = s.trigs := rfl
@[simp] theorem State.mapSec_fresh (s : State) (g : Sec → Sec) : (s.mapSec g).fresh = s.fresh := rfl
@[simp] theorem State.mapSec_outbox (s : State) (g : Sec → Sec) : (s.mapSec g).outbox = s.outbox := rfl
@[simp] theorem State.mapSec_pending (s : State) (g : Sec → Sec) : (s.mapSec g).pending = s.pending := rfl

@[simp] theorem State.mapSorus_beat (s : State) (g : Sorus → Sorus) : (s.mapSorus g).beat = s.beat := rfl
@[simp] theorem State.mapSorus_regs (s : State) (g : Sorus → Sorus) : (s.mapSorus g).regs = s.regs := rfl
@[simp] theorem State.mapSorus_shadow (s : State) (g : Sorus → Sorus) : (s.mapSorus g).shadow = s.shadow := rfl
@[simp] theorem State.mapSorus_hiLatch (s : State) (g : Sorus → Sorus) : (s.mapSorus g).hiLatch = s.hiLatch := rfl
@[simp] theorem State.mapSorus_loStage (s : State) (g : Sorus → Sorus) : (s.mapSorus g).loStage = s.loStage := rfl
@[simp] theorem State.mapSorus_violog (s : State) (g : Sorus → Sorus) : (s.mapSorus g).violog = s.violog := rfl
@[simp] theorem State.mapSorus_groups (s : State) (g : Sorus → Sorus) : (s.mapSorus g).groups = s.groups := rfl
@[simp] theorem State.mapSorus_bounds (s : State) (g : Sorus → Sorus) : (s.mapSorus g).bounds = s.bounds := rfl
@[simp] theorem State.mapSorus_txs (s : State) (g : Sorus → Sorus) : (s.mapSorus g).txs = s.txs := rfl
@[simp] theorem State.mapSorus_splits (s : State) (g : Sorus → Sorus) : (s.mapSorus g).splits = s.splits := rfl
@[simp] theorem State.mapSorus_boot (s : State) (g : Sorus → Sorus) : (s.mapSorus g).boot = s.boot := rfl
@[simp] theorem State.mapSorus_croz (s : State) (g : Sorus → Sorus) : (s.mapSorus g).croz = s.croz := rfl
@[simp] theorem State.mapSorus_cs (s : State) (g : Sorus → Sorus) : (s.mapSorus g).cs = s.cs := rfl
@[simp] theorem State.mapSorus_players (s : State) (g : Sorus → Sorus) : (s.mapSorus g).players = s.players := rfl
@[simp] theorem State.mapSorus_chains (s : State) (g : Sorus → Sorus) : (s.mapSorus g).chains = s.chains := rfl
@[simp] theorem State.mapSorus_pins (s : State) (g : Sorus → Sorus) : (s.mapSorus g).pins = s.pins := rfl
@[simp] theorem State.mapSorus_rings (s : State) (g : Sorus → Sorus) : (s.mapSorus g).rings = s.rings := rfl
@[simp] theorem State.mapSorus_descs (s : State) (g : Sorus → Sorus) : (s.mapSorus g).descs = s.descs := rfl
@[simp] theorem State.mapSorus_lists (s : State) (g : Sorus → Sorus) : (s.mapSorus g).lists = s.lists := rfl
@[simp] theorem State.mapSorus_sram (s : State) (g : Sorus → Sorus) : (s.mapSorus g).sram = s.sram := rfl
@[simp] theorem State.mapSorus_sec (s : State) (g : Sorus → Sorus) : (s.mapSorus g).sec = s.sec := rfl
@[simp] theorem State.mapSorus_gddr (s : State) (g : Sorus → Sorus) : (s.mapSorus g).gddr = s.gddr := rfl
@[simp] theorem State.mapSorus_fes (s : State) (g : Sorus → Sorus) : (s.mapSorus g).fes = s.fes := rfl
@[simp] theorem State.mapSorus_wmem (s : State) (g : Sorus → Sorus) : (s.mapSorus g).wmem = s.wmem := rfl
@[simp] theorem State.mapSorus_bus (s : State) (g : Sorus → Sorus) : (s.mapSorus g).bus = s.bus := rfl
@[simp] theorem State.mapSorus_sorus (s : State) (g : Sorus → Sorus) : (s.mapSorus g).sorus = g s.sorus := rfl
@[simp] theorem State.mapSorus_slots (s : State) (g : Sorus → Sorus) : (s.mapSorus g).slots = s.slots := rfl
@[simp] theorem State.mapSorus_acqs (s : State) (g : Sorus → Sorus) : (s.mapSorus g).acqs = s.acqs := rfl
@[simp] theorem State.mapSorus_queues (s : State) (g : Sorus → Sorus) : (s.mapSorus g).queues = s.queues := rfl
@[simp] theorem State.mapSorus_qmem (s : State) (g : Sorus → Sorus) : (s.mapSorus g).qmem = s.qmem := rfl
@[simp] theorem State.mapSorus_transit (s : State) (g : Sorus → Sorus) : (s.mapSorus g).transit = s.transit := rfl
@[simp] theorem State.mapSorus_hypha (s : State) (g : Sorus → Sorus) : (s.mapSorus g).hypha = s.hypha := rfl
@[simp] theorem State.mapSorus_hk (s : State) (g : Sorus → Sorus) : (s.mapSorus g).hk = s.hk := rfl
@[simp] theorem State.mapSorus_time (s : State) (g : Sorus → Sorus) : (s.mapSorus g).time = s.time := rfl
@[simp] theorem State.mapSorus_cal (s : State) (g : Sorus → Sorus) : (s.mapSorus g).cal = s.cal := rfl
@[simp] theorem State.mapSorus_therm (s : State) (g : Sorus → Sorus) : (s.mapSorus g).therm = s.therm := rfl
@[simp] theorem State.mapSorus_link (s : State) (g : Sorus → Sorus) : (s.mapSorus g).link = s.link := rfl
@[simp] theorem State.mapSorus_tx (s : State) (g : Sorus → Sorus) : (s.mapSorus g).tx = s.tx := rfl
@[simp] theorem State.mapSorus_pcie (s : State) (g : Sorus → Sorus) : (s.mapSorus g).pcie = s.pcie := rfl
@[simp] theorem State.mapSorus_ticking (s : State) (g : Sorus → Sorus) : (s.mapSorus g).ticking = s.ticking := rfl
@[simp] theorem State.mapSorus_flagNow (s : State) (g : Sorus → Sorus) : (s.mapSorus g).flagNow = s.flagNow := rfl
@[simp] theorem State.mapSorus_trigs (s : State) (g : Sorus → Sorus) : (s.mapSorus g).trigs = s.trigs := rfl
@[simp] theorem State.mapSorus_fresh (s : State) (g : Sorus → Sorus) : (s.mapSorus g).fresh = s.fresh := rfl
@[simp] theorem State.mapSorus_outbox (s : State) (g : Sorus → Sorus) : (s.mapSorus g).outbox = s.outbox := rfl
@[simp] theorem State.mapSorus_pending (s : State) (g : Sorus → Sorus) : (s.mapSorus g).pending = s.pending := rfl

@[simp] theorem State.setCrz_beat (s : State) (f : Nat) (c : Croz) : (s.setCrz f c).beat = s.beat := rfl
@[simp] theorem State.setCrz_regs (s : State) (f : Nat) (c : Croz) : (s.setCrz f c).regs = s.regs := rfl
@[simp] theorem State.setCrz_shadow (s : State) (f : Nat) (c : Croz) : (s.setCrz f c).shadow = s.shadow := rfl
@[simp] theorem State.setCrz_hiLatch (s : State) (f : Nat) (c : Croz) : (s.setCrz f c).hiLatch = s.hiLatch := rfl
@[simp] theorem State.setCrz_loStage (s : State) (f : Nat) (c : Croz) : (s.setCrz f c).loStage = s.loStage := rfl
@[simp] theorem State.setCrz_violog (s : State) (f : Nat) (c : Croz) : (s.setCrz f c).violog = s.violog := rfl
@[simp] theorem State.setCrz_groups (s : State) (f : Nat) (c : Croz) : (s.setCrz f c).groups = s.groups := rfl
@[simp] theorem State.setCrz_bounds (s : State) (f : Nat) (c : Croz) : (s.setCrz f c).bounds = s.bounds := rfl
@[simp] theorem State.setCrz_txs (s : State) (f : Nat) (c : Croz) : (s.setCrz f c).txs = s.txs := rfl
@[simp] theorem State.setCrz_splits (s : State) (f : Nat) (c : Croz) : (s.setCrz f c).splits = s.splits := rfl
@[simp] theorem State.setCrz_boot (s : State) (f : Nat) (c : Croz) : (s.setCrz f c).boot = s.boot := rfl
@[simp] theorem State.setCrz_croz (s : State) (f : Nat) (c : Croz) : (s.setCrz f c).croz = Tab.set {} s.croz f c := rfl
@[simp] theorem State.setCrz_cs (s : State) (f : Nat) (c : Croz) : (s.setCrz f c).cs = s.cs := rfl
@[simp] theorem State.setCrz_players (s : State) (f : Nat) (c : Croz) : (s.setCrz f c).players = s.players := rfl
@[simp] theorem State.setCrz_chains (s : State) (f : Nat) (c : Croz) : (s.setCrz f c).chains = s.chains := rfl
@[simp] theorem State.setCrz_pins (s : State) (f : Nat) (c : Croz) : (s.setCrz f c).pins = s.pins := rfl
@[simp] theorem State.setCrz_rings (s : State) (f : Nat) (c : Croz) : (s.setCrz f c).rings = s.rings := rfl
@[simp] theorem State.setCrz_descs (s : State) (f : Nat) (c : Croz) : (s.setCrz f c).descs = s.descs := rfl
@[simp] theorem State.setCrz_lists (s : State) (f : Nat) (c : Croz) : (s.setCrz f c).lists = s.lists := rfl
@[simp] theorem State.setCrz_sram (s : State) (f : Nat) (c : Croz) : (s.setCrz f c).sram = s.sram := rfl
@[simp] theorem State.setCrz_sec (s : State) (f : Nat) (c : Croz) : (s.setCrz f c).sec = s.sec := rfl
@[simp] theorem State.setCrz_gddr (s : State) (f : Nat) (c : Croz) : (s.setCrz f c).gddr = s.gddr := rfl
@[simp] theorem State.setCrz_fes (s : State) (f : Nat) (c : Croz) : (s.setCrz f c).fes = s.fes := rfl
@[simp] theorem State.setCrz_wmem (s : State) (f : Nat) (c : Croz) : (s.setCrz f c).wmem = s.wmem := rfl
@[simp] theorem State.setCrz_bus (s : State) (f : Nat) (c : Croz) : (s.setCrz f c).bus = s.bus := rfl
@[simp] theorem State.setCrz_sorus (s : State) (f : Nat) (c : Croz) : (s.setCrz f c).sorus = s.sorus := rfl
@[simp] theorem State.setCrz_slots (s : State) (f : Nat) (c : Croz) : (s.setCrz f c).slots = s.slots := rfl
@[simp] theorem State.setCrz_acqs (s : State) (f : Nat) (c : Croz) : (s.setCrz f c).acqs = s.acqs := rfl
@[simp] theorem State.setCrz_queues (s : State) (f : Nat) (c : Croz) : (s.setCrz f c).queues = s.queues := rfl
@[simp] theorem State.setCrz_qmem (s : State) (f : Nat) (c : Croz) : (s.setCrz f c).qmem = s.qmem := rfl
@[simp] theorem State.setCrz_transit (s : State) (f : Nat) (c : Croz) : (s.setCrz f c).transit = s.transit := rfl
@[simp] theorem State.setCrz_hypha (s : State) (f : Nat) (c : Croz) : (s.setCrz f c).hypha = s.hypha := rfl
@[simp] theorem State.setCrz_hk (s : State) (f : Nat) (c : Croz) : (s.setCrz f c).hk = s.hk := rfl
@[simp] theorem State.setCrz_time (s : State) (f : Nat) (c : Croz) : (s.setCrz f c).time = s.time := rfl
@[simp] theorem State.setCrz_cal (s : State) (f : Nat) (c : Croz) : (s.setCrz f c).cal = s.cal := rfl
@[simp] theorem State.setCrz_therm (s : State) (f : Nat) (c : Croz) : (s.setCrz f c).therm = s.therm := rfl
@[simp] theorem State.setCrz_link (s : State) (f : Nat) (c : Croz) : (s.setCrz f c).link = s.link := rfl
@[simp] theorem State.setCrz_tx (s : State) (f : Nat) (c : Croz) : (s.setCrz f c).tx = s.tx := rfl
@[simp] theorem State.setCrz_pcie (s : State) (f : Nat) (c : Croz) : (s.setCrz f c).pcie = s.pcie := rfl
@[simp] theorem State.setCrz_ticking (s : State) (f : Nat) (c : Croz) : (s.setCrz f c).ticking = s.ticking := rfl
@[simp] theorem State.setCrz_flagNow (s : State) (f : Nat) (c : Croz) : (s.setCrz f c).flagNow = s.flagNow := rfl
@[simp] theorem State.setCrz_trigs (s : State) (f : Nat) (c : Croz) : (s.setCrz f c).trigs = s.trigs := rfl
@[simp] theorem State.setCrz_fresh (s : State) (f : Nat) (c : Croz) : (s.setCrz f c).fresh = s.fresh := rfl
@[simp] theorem State.setCrz_outbox (s : State) (f : Nat) (c : Croz) : (s.setCrz f c).outbox = s.outbox := rfl
@[simp] theorem State.setCrz_pending (s : State) (f : Nat) (c : Croz) : (s.setCrz f c).pending = s.pending := rfl

@[simp] theorem State.setFe_beat (s : State) (f : Nat) (x : Fe) : (s.setFe f x).beat = s.beat := rfl
@[simp] theorem State.setFe_regs (s : State) (f : Nat) (x : Fe) : (s.setFe f x).regs = s.regs := rfl
@[simp] theorem State.setFe_shadow (s : State) (f : Nat) (x : Fe) : (s.setFe f x).shadow = s.shadow := rfl
@[simp] theorem State.setFe_hiLatch (s : State) (f : Nat) (x : Fe) : (s.setFe f x).hiLatch = s.hiLatch := rfl
@[simp] theorem State.setFe_loStage (s : State) (f : Nat) (x : Fe) : (s.setFe f x).loStage = s.loStage := rfl
@[simp] theorem State.setFe_violog (s : State) (f : Nat) (x : Fe) : (s.setFe f x).violog = s.violog := rfl
@[simp] theorem State.setFe_groups (s : State) (f : Nat) (x : Fe) : (s.setFe f x).groups = s.groups := rfl
@[simp] theorem State.setFe_bounds (s : State) (f : Nat) (x : Fe) : (s.setFe f x).bounds = s.bounds := rfl
@[simp] theorem State.setFe_txs (s : State) (f : Nat) (x : Fe) : (s.setFe f x).txs = s.txs := rfl
@[simp] theorem State.setFe_splits (s : State) (f : Nat) (x : Fe) : (s.setFe f x).splits = s.splits := rfl
@[simp] theorem State.setFe_boot (s : State) (f : Nat) (x : Fe) : (s.setFe f x).boot = s.boot := rfl
@[simp] theorem State.setFe_croz (s : State) (f : Nat) (x : Fe) : (s.setFe f x).croz = s.croz := rfl
@[simp] theorem State.setFe_cs (s : State) (f : Nat) (x : Fe) : (s.setFe f x).cs = s.cs := rfl
@[simp] theorem State.setFe_players (s : State) (f : Nat) (x : Fe) : (s.setFe f x).players = s.players := rfl
@[simp] theorem State.setFe_chains (s : State) (f : Nat) (x : Fe) : (s.setFe f x).chains = s.chains := rfl
@[simp] theorem State.setFe_pins (s : State) (f : Nat) (x : Fe) : (s.setFe f x).pins = s.pins := rfl
@[simp] theorem State.setFe_rings (s : State) (f : Nat) (x : Fe) : (s.setFe f x).rings = s.rings := rfl
@[simp] theorem State.setFe_descs (s : State) (f : Nat) (x : Fe) : (s.setFe f x).descs = s.descs := rfl
@[simp] theorem State.setFe_lists (s : State) (f : Nat) (x : Fe) : (s.setFe f x).lists = s.lists := rfl
@[simp] theorem State.setFe_sram (s : State) (f : Nat) (x : Fe) : (s.setFe f x).sram = s.sram := rfl
@[simp] theorem State.setFe_sec (s : State) (f : Nat) (x : Fe) : (s.setFe f x).sec = s.sec := rfl
@[simp] theorem State.setFe_gddr (s : State) (f : Nat) (x : Fe) : (s.setFe f x).gddr = s.gddr := rfl
@[simp] theorem State.setFe_fes (s : State) (f : Nat) (x : Fe) : (s.setFe f x).fes = Tab.set {} s.fes f x := rfl
@[simp] theorem State.setFe_wmem (s : State) (f : Nat) (x : Fe) : (s.setFe f x).wmem = s.wmem := rfl
@[simp] theorem State.setFe_bus (s : State) (f : Nat) (x : Fe) : (s.setFe f x).bus = s.bus := rfl
@[simp] theorem State.setFe_sorus (s : State) (f : Nat) (x : Fe) : (s.setFe f x).sorus = s.sorus := rfl
@[simp] theorem State.setFe_slots (s : State) (f : Nat) (x : Fe) : (s.setFe f x).slots = s.slots := rfl
@[simp] theorem State.setFe_acqs (s : State) (f : Nat) (x : Fe) : (s.setFe f x).acqs = s.acqs := rfl
@[simp] theorem State.setFe_queues (s : State) (f : Nat) (x : Fe) : (s.setFe f x).queues = s.queues := rfl
@[simp] theorem State.setFe_qmem (s : State) (f : Nat) (x : Fe) : (s.setFe f x).qmem = s.qmem := rfl
@[simp] theorem State.setFe_transit (s : State) (f : Nat) (x : Fe) : (s.setFe f x).transit = s.transit := rfl
@[simp] theorem State.setFe_hypha (s : State) (f : Nat) (x : Fe) : (s.setFe f x).hypha = s.hypha := rfl
@[simp] theorem State.setFe_hk (s : State) (f : Nat) (x : Fe) : (s.setFe f x).hk = s.hk := rfl
@[simp] theorem State.setFe_time (s : State) (f : Nat) (x : Fe) : (s.setFe f x).time = s.time := rfl
@[simp] theorem State.setFe_cal (s : State) (f : Nat) (x : Fe) : (s.setFe f x).cal = s.cal := rfl
@[simp] theorem State.setFe_therm (s : State) (f : Nat) (x : Fe) : (s.setFe f x).therm = s.therm := rfl
@[simp] theorem State.setFe_link (s : State) (f : Nat) (x : Fe) : (s.setFe f x).link = s.link := rfl
@[simp] theorem State.setFe_tx (s : State) (f : Nat) (x : Fe) : (s.setFe f x).tx = s.tx := rfl
@[simp] theorem State.setFe_pcie (s : State) (f : Nat) (x : Fe) : (s.setFe f x).pcie = s.pcie := rfl
@[simp] theorem State.setFe_ticking (s : State) (f : Nat) (x : Fe) : (s.setFe f x).ticking = s.ticking := rfl
@[simp] theorem State.setFe_flagNow (s : State) (f : Nat) (x : Fe) : (s.setFe f x).flagNow = s.flagNow := rfl
@[simp] theorem State.setFe_trigs (s : State) (f : Nat) (x : Fe) : (s.setFe f x).trigs = s.trigs := rfl
@[simp] theorem State.setFe_fresh (s : State) (f : Nat) (x : Fe) : (s.setFe f x).fresh = s.fresh := rfl
@[simp] theorem State.setFe_outbox (s : State) (f : Nat) (x : Fe) : (s.setFe f x).outbox = s.outbox := rfl
@[simp] theorem State.setFe_pending (s : State) (f : Nat) (x : Fe) : (s.setFe f x).pending = s.pending := rfl

@[simp] theorem State.setAcq_beat (s : State) (c : Nat) (x : Acq) : (s.setAcq c x).beat = s.beat := rfl
@[simp] theorem State.setAcq_regs (s : State) (c : Nat) (x : Acq) : (s.setAcq c x).regs = s.regs := rfl
@[simp] theorem State.setAcq_shadow (s : State) (c : Nat) (x : Acq) : (s.setAcq c x).shadow = s.shadow := rfl
@[simp] theorem State.setAcq_hiLatch (s : State) (c : Nat) (x : Acq) : (s.setAcq c x).hiLatch = s.hiLatch := rfl
@[simp] theorem State.setAcq_loStage (s : State) (c : Nat) (x : Acq) : (s.setAcq c x).loStage = s.loStage := rfl
@[simp] theorem State.setAcq_violog (s : State) (c : Nat) (x : Acq) : (s.setAcq c x).violog = s.violog := rfl
@[simp] theorem State.setAcq_groups (s : State) (c : Nat) (x : Acq) : (s.setAcq c x).groups = s.groups := rfl
@[simp] theorem State.setAcq_bounds (s : State) (c : Nat) (x : Acq) : (s.setAcq c x).bounds = s.bounds := rfl
@[simp] theorem State.setAcq_txs (s : State) (c : Nat) (x : Acq) : (s.setAcq c x).txs = s.txs := rfl
@[simp] theorem State.setAcq_splits (s : State) (c : Nat) (x : Acq) : (s.setAcq c x).splits = s.splits := rfl
@[simp] theorem State.setAcq_boot (s : State) (c : Nat) (x : Acq) : (s.setAcq c x).boot = s.boot := rfl
@[simp] theorem State.setAcq_croz (s : State) (c : Nat) (x : Acq) : (s.setAcq c x).croz = s.croz := rfl
@[simp] theorem State.setAcq_cs (s : State) (c : Nat) (x : Acq) : (s.setAcq c x).cs = s.cs := rfl
@[simp] theorem State.setAcq_players (s : State) (c : Nat) (x : Acq) : (s.setAcq c x).players = s.players := rfl
@[simp] theorem State.setAcq_chains (s : State) (c : Nat) (x : Acq) : (s.setAcq c x).chains = s.chains := rfl
@[simp] theorem State.setAcq_pins (s : State) (c : Nat) (x : Acq) : (s.setAcq c x).pins = s.pins := rfl
@[simp] theorem State.setAcq_rings (s : State) (c : Nat) (x : Acq) : (s.setAcq c x).rings = s.rings := rfl
@[simp] theorem State.setAcq_descs (s : State) (c : Nat) (x : Acq) : (s.setAcq c x).descs = s.descs := rfl
@[simp] theorem State.setAcq_lists (s : State) (c : Nat) (x : Acq) : (s.setAcq c x).lists = s.lists := rfl
@[simp] theorem State.setAcq_sram (s : State) (c : Nat) (x : Acq) : (s.setAcq c x).sram = s.sram := rfl
@[simp] theorem State.setAcq_sec (s : State) (c : Nat) (x : Acq) : (s.setAcq c x).sec = s.sec := rfl
@[simp] theorem State.setAcq_gddr (s : State) (c : Nat) (x : Acq) : (s.setAcq c x).gddr = s.gddr := rfl
@[simp] theorem State.setAcq_fes (s : State) (c : Nat) (x : Acq) : (s.setAcq c x).fes = s.fes := rfl
@[simp] theorem State.setAcq_wmem (s : State) (c : Nat) (x : Acq) : (s.setAcq c x).wmem = s.wmem := rfl
@[simp] theorem State.setAcq_bus (s : State) (c : Nat) (x : Acq) : (s.setAcq c x).bus = s.bus := rfl
@[simp] theorem State.setAcq_sorus (s : State) (c : Nat) (x : Acq) : (s.setAcq c x).sorus = s.sorus := rfl
@[simp] theorem State.setAcq_slots (s : State) (c : Nat) (x : Acq) : (s.setAcq c x).slots = s.slots := rfl
@[simp] theorem State.setAcq_acqs (s : State) (c : Nat) (x : Acq) : (s.setAcq c x).acqs = Tab.set {} s.acqs c x := rfl
@[simp] theorem State.setAcq_queues (s : State) (c : Nat) (x : Acq) : (s.setAcq c x).queues = s.queues := rfl
@[simp] theorem State.setAcq_qmem (s : State) (c : Nat) (x : Acq) : (s.setAcq c x).qmem = s.qmem := rfl
@[simp] theorem State.setAcq_transit (s : State) (c : Nat) (x : Acq) : (s.setAcq c x).transit = s.transit := rfl
@[simp] theorem State.setAcq_hypha (s : State) (c : Nat) (x : Acq) : (s.setAcq c x).hypha = s.hypha := rfl
@[simp] theorem State.setAcq_hk (s : State) (c : Nat) (x : Acq) : (s.setAcq c x).hk = s.hk := rfl
@[simp] theorem State.setAcq_time (s : State) (c : Nat) (x : Acq) : (s.setAcq c x).time = s.time := rfl
@[simp] theorem State.setAcq_cal (s : State) (c : Nat) (x : Acq) : (s.setAcq c x).cal = s.cal := rfl
@[simp] theorem State.setAcq_therm (s : State) (c : Nat) (x : Acq) : (s.setAcq c x).therm = s.therm := rfl
@[simp] theorem State.setAcq_link (s : State) (c : Nat) (x : Acq) : (s.setAcq c x).link = s.link := rfl
@[simp] theorem State.setAcq_tx (s : State) (c : Nat) (x : Acq) : (s.setAcq c x).tx = s.tx := rfl
@[simp] theorem State.setAcq_pcie (s : State) (c : Nat) (x : Acq) : (s.setAcq c x).pcie = s.pcie := rfl
@[simp] theorem State.setAcq_ticking (s : State) (c : Nat) (x : Acq) : (s.setAcq c x).ticking = s.ticking := rfl
@[simp] theorem State.setAcq_flagNow (s : State) (c : Nat) (x : Acq) : (s.setAcq c x).flagNow = s.flagNow := rfl
@[simp] theorem State.setAcq_trigs (s : State) (c : Nat) (x : Acq) : (s.setAcq c x).trigs = s.trigs := rfl
@[simp] theorem State.setAcq_fresh (s : State) (c : Nat) (x : Acq) : (s.setAcq c x).fresh = s.fresh := rfl
@[simp] theorem State.setAcq_outbox (s : State) (c : Nat) (x : Acq) : (s.setAcq c x).outbox = s.outbox := rfl
@[simp] theorem State.setAcq_pending (s : State) (c : Nat) (x : Acq) : (s.setAcq c x).pending = s.pending := rfl

@[simp] theorem State.setGrp_beat (s : State) (g : Nat) (x : Group) : (s.setGrp g x).beat = s.beat := rfl
@[simp] theorem State.setGrp_regs (s : State) (g : Nat) (x : Group) : (s.setGrp g x).regs = s.regs := rfl
@[simp] theorem State.setGrp_shadow (s : State) (g : Nat) (x : Group) : (s.setGrp g x).shadow = s.shadow := rfl
@[simp] theorem State.setGrp_hiLatch (s : State) (g : Nat) (x : Group) : (s.setGrp g x).hiLatch = s.hiLatch := rfl
@[simp] theorem State.setGrp_loStage (s : State) (g : Nat) (x : Group) : (s.setGrp g x).loStage = s.loStage := rfl
@[simp] theorem State.setGrp_violog (s : State) (g : Nat) (x : Group) : (s.setGrp g x).violog = s.violog := rfl
@[simp] theorem State.setGrp_groups (s : State) (g : Nat) (x : Group) : (s.setGrp g x).groups = Tab.set {} s.groups g x := rfl
@[simp] theorem State.setGrp_bounds (s : State) (g : Nat) (x : Group) : (s.setGrp g x).bounds = s.bounds := rfl
@[simp] theorem State.setGrp_txs (s : State) (g : Nat) (x : Group) : (s.setGrp g x).txs = s.txs := rfl
@[simp] theorem State.setGrp_splits (s : State) (g : Nat) (x : Group) : (s.setGrp g x).splits = s.splits := rfl
@[simp] theorem State.setGrp_boot (s : State) (g : Nat) (x : Group) : (s.setGrp g x).boot = s.boot := rfl
@[simp] theorem State.setGrp_croz (s : State) (g : Nat) (x : Group) : (s.setGrp g x).croz = s.croz := rfl
@[simp] theorem State.setGrp_cs (s : State) (g : Nat) (x : Group) : (s.setGrp g x).cs = s.cs := rfl
@[simp] theorem State.setGrp_players (s : State) (g : Nat) (x : Group) : (s.setGrp g x).players = s.players := rfl
@[simp] theorem State.setGrp_chains (s : State) (g : Nat) (x : Group) : (s.setGrp g x).chains = s.chains := rfl
@[simp] theorem State.setGrp_pins (s : State) (g : Nat) (x : Group) : (s.setGrp g x).pins = s.pins := rfl
@[simp] theorem State.setGrp_rings (s : State) (g : Nat) (x : Group) : (s.setGrp g x).rings = s.rings := rfl
@[simp] theorem State.setGrp_descs (s : State) (g : Nat) (x : Group) : (s.setGrp g x).descs = s.descs := rfl
@[simp] theorem State.setGrp_lists (s : State) (g : Nat) (x : Group) : (s.setGrp g x).lists = s.lists := rfl
@[simp] theorem State.setGrp_sram (s : State) (g : Nat) (x : Group) : (s.setGrp g x).sram = s.sram := rfl
@[simp] theorem State.setGrp_sec (s : State) (g : Nat) (x : Group) : (s.setGrp g x).sec = s.sec := rfl
@[simp] theorem State.setGrp_gddr (s : State) (g : Nat) (x : Group) : (s.setGrp g x).gddr = s.gddr := rfl
@[simp] theorem State.setGrp_fes (s : State) (g : Nat) (x : Group) : (s.setGrp g x).fes = s.fes := rfl
@[simp] theorem State.setGrp_wmem (s : State) (g : Nat) (x : Group) : (s.setGrp g x).wmem = s.wmem := rfl
@[simp] theorem State.setGrp_bus (s : State) (g : Nat) (x : Group) : (s.setGrp g x).bus = s.bus := rfl
@[simp] theorem State.setGrp_sorus (s : State) (g : Nat) (x : Group) : (s.setGrp g x).sorus = s.sorus := rfl
@[simp] theorem State.setGrp_slots (s : State) (g : Nat) (x : Group) : (s.setGrp g x).slots = s.slots := rfl
@[simp] theorem State.setGrp_acqs (s : State) (g : Nat) (x : Group) : (s.setGrp g x).acqs = s.acqs := rfl
@[simp] theorem State.setGrp_queues (s : State) (g : Nat) (x : Group) : (s.setGrp g x).queues = s.queues := rfl
@[simp] theorem State.setGrp_qmem (s : State) (g : Nat) (x : Group) : (s.setGrp g x).qmem = s.qmem := rfl
@[simp] theorem State.setGrp_transit (s : State) (g : Nat) (x : Group) : (s.setGrp g x).transit = s.transit := rfl
@[simp] theorem State.setGrp_hypha (s : State) (g : Nat) (x : Group) : (s.setGrp g x).hypha = s.hypha := rfl
@[simp] theorem State.setGrp_hk (s : State) (g : Nat) (x : Group) : (s.setGrp g x).hk = s.hk := rfl
@[simp] theorem State.setGrp_time (s : State) (g : Nat) (x : Group) : (s.setGrp g x).time = s.time := rfl
@[simp] theorem State.setGrp_cal (s : State) (g : Nat) (x : Group) : (s.setGrp g x).cal = s.cal := rfl
@[simp] theorem State.setGrp_therm (s : State) (g : Nat) (x : Group) : (s.setGrp g x).therm = s.therm := rfl
@[simp] theorem State.setGrp_link (s : State) (g : Nat) (x : Group) : (s.setGrp g x).link = s.link := rfl
@[simp] theorem State.setGrp_tx (s : State) (g : Nat) (x : Group) : (s.setGrp g x).tx = s.tx := rfl
@[simp] theorem State.setGrp_pcie (s : State) (g : Nat) (x : Group) : (s.setGrp g x).pcie = s.pcie := rfl
@[simp] theorem State.setGrp_ticking (s : State) (g : Nat) (x : Group) : (s.setGrp g x).ticking = s.ticking := rfl
@[simp] theorem State.setGrp_flagNow (s : State) (g : Nat) (x : Group) : (s.setGrp g x).flagNow = s.flagNow := rfl
@[simp] theorem State.setGrp_trigs (s : State) (g : Nat) (x : Group) : (s.setGrp g x).trigs = s.trigs := rfl
@[simp] theorem State.setGrp_fresh (s : State) (g : Nat) (x : Group) : (s.setGrp g x).fresh = s.fresh := rfl
@[simp] theorem State.setGrp_outbox (s : State) (g : Nat) (x : Group) : (s.setGrp g x).outbox = s.outbox := rfl
@[simp] theorem State.setGrp_pending (s : State) (g : Nat) (x : Group) : (s.setGrp g x).pending = s.pending := rfl

end Sys2Proof.Machine
end

