-- ==== Sys2Proof/Laws/Flags.lean ====
section
/-! SUPPORT. Laws of flags and counters: raising a flag, sending an interrupt, counting an event and recording an error touch
nothing but registers and the messages that leave; one lemma per field. -/
namespace Sys2Proof.Machine

/-- Two states that differ in registers, messages and the note of flags set in the beat only. -/
def State.sameBut (s t : State) : Prop := t = { s with regs := t.regs, outbox := t.outbox, flagNow := t.flagNow, pcie := t.pcie }

theorem State.sameBut_refl (s : State) : s.sameBut s := rfl

theorem State.sameBut_trans {s t u : State} (h : s.sameBut t) (k : t.sameBut u) : s.sameBut u := by
  unfold State.sameBut at *
  rw [k, h]

theorem State.sameBut_ite {c : Prop} [Decidable c] {s a b : State} (h : s.sameBut a) (k : s.sameBut b) :
    s.sameBut (if c then a else b) := by split <;> assumption

theorem State.sameBut_foldl {β : Type} {f : State → β → State} (hf : ∀ (a : State) (x : β), a.sameBut (f a x)) (l : List β) (s : State) :
    s.sameBut (l.foldl f s) := by
  induction l generalizing s with
  | nil => exact s.sameBut_refl
  | cons x l ih => exact State.sameBut_trans (hf s x) (ih _)

theorem State.wr_sameBut (s : State) (p : Pg) (off : Nat) (v : Word) : s.sameBut (s.wr p off v) := rfl
theorem State.wr64_sameBut (s : State) (p : Pg) (off v : Nat) : s.sameBut (s.wr64 p off v) := rfl
theorem State.wrF_sameBut (s : State) (p : Pg) (off hi lo v : Nat) : s.sameBut (s.wrF p off hi lo v) := rfl
theorem State.wrB_sameBut (s : State) (p : Pg) (off i : Nat) (b : Bool) : s.sameBut (s.wrB p off i b) := rfl
theorem State.resetRange_sameBut (s : State) (p : Pg) (lo hi : Nat) : s.sameBut (s.resetRange p lo hi) := rfl
theorem State.emit_sameBut (s : State) (o : Output) : s.sameBut (s.emit o) := rfl
theorem State.sameBut_beat {s t : State} (h : s.sameBut t) : t.beat = s.beat := by
  have h1 := congrArg State.beat h
  exact h1
theorem State.sameBut_shadow {s t : State} (h : s.sameBut t) : t.shadow = s.shadow := by
  have h1 := congrArg State.shadow h
  exact h1
theorem State.sameBut_hiLatch {s t : State} (h : s.sameBut t) : t.hiLatch = s.hiLatch := by
  have h1 := congrArg State.hiLatch h
  exact h1
theorem State.sameBut_loStage {s t : State} (h : s.sameBut t) : t.loStage = s.loStage := by
  have h1 := congrArg State.loStage h
  exact h1
theorem State.sameBut_violog {s t : State} (h : s.sameBut t) : t.violog = s.violog := by
  have h1 := congrArg State.violog h
  exact h1
theorem State.sameBut_groups {s t : State} (h : s.sameBut t) : t.groups = s.groups := by
  have h1 := congrArg State.groups h
  exact h1
theorem State.sameBut_bounds {s t : State} (h : s.sameBut t) : t.bounds = s.bounds := by
  have h1 := congrArg State.bounds h
  exact h1
theorem State.sameBut_txs {s t : State} (h : s.sameBut t) : t.txs = s.txs := by
  have h1 := congrArg State.txs h
  exact h1
theorem State.sameBut_splits {s t : State} (h : s.sameBut t) : t.splits = s.splits := by
  have h1 := congrArg State.splits h
  exact h1
theorem State.sameBut_boot {s t : State} (h : s.sameBut t) : t.boot = s.boot := by
  have h1 := congrArg State.boot h
  exact h1
theorem State.sameBut_croz {s t : State} (h : s.sameBut t) : t.croz = s.croz := by
  have h1 := congrArg State.croz h
  exact h1
theorem State.sameBut_cs {s t : State} (h : s.sameBut t) : t.cs = s.cs := by
  have h1 := congrArg State.cs h
  exact h1
theorem State.sameBut_players {s t : State} (h : s.sameBut t) : t.players = s.players := by
  have h1 := congrArg State.players h
  exact h1
theorem State.sameBut_chains {s t : State} (h : s.sameBut t) : t.chains = s.chains := by
  have h1 := congrArg State.chains h
  exact h1
theorem State.sameBut_pins {s t : State} (h : s.sameBut t) : t.pins = s.pins := by
  have h1 := congrArg State.pins h
  exact h1
theorem State.sameBut_rings {s t : State} (h : s.sameBut t) : t.rings = s.rings := by
  have h1 := congrArg State.rings h
  exact h1
theorem State.sameBut_descs {s t : State} (h : s.sameBut t) : t.descs = s.descs := by
  have h1 := congrArg State.descs h
  exact h1
theorem State.sameBut_lists {s t : State} (h : s.sameBut t) : t.lists = s.lists := by
  have h1 := congrArg State.lists h
  exact h1
theorem State.sameBut_sram {s t : State} (h : s.sameBut t) : t.sram = s.sram := by
  have h1 := congrArg State.sram h
  exact h1
theorem State.sameBut_sec {s t : State} (h : s.sameBut t) : t.sec = s.sec := by
  have h1 := congrArg State.sec h
  exact h1
theorem State.sameBut_gddr {s t : State} (h : s.sameBut t) : t.gddr = s.gddr := by
  have h1 := congrArg State.gddr h
  exact h1
theorem State.sameBut_fes {s t : State} (h : s.sameBut t) : t.fes = s.fes := by
  have h1 := congrArg State.fes h
  exact h1
theorem State.sameBut_wmem {s t : State} (h : s.sameBut t) : t.wmem = s.wmem := by
  have h1 := congrArg State.wmem h
  exact h1
theorem State.sameBut_bus {s t : State} (h : s.sameBut t) : t.bus = s.bus := by
  have h1 := congrArg State.bus h
  exact h1
theorem State.sameBut_sorus {s t : State} (h : s.sameBut t) : t.sorus = s.sorus := by
  have h1 := congrArg State.sorus h
  exact h1
theorem State.sameBut_slots {s t : State} (h : s.sameBut t) : t.slots = s.slots := by
  have h1 := congrArg State.slots h
  exact h1
theorem State.sameBut_acqs {s t : State} (h : s.sameBut t) : t.acqs = s.acqs := by
  have h1 := congrArg State.acqs h
  exact h1
theorem State.sameBut_queues {s t : State} (h : s.sameBut t) : t.queues = s.queues := by
  have h1 := congrArg State.queues h
  exact h1
theorem State.sameBut_qmem {s t : State} (h : s.sameBut t) : t.qmem = s.qmem := by
  have h1 := congrArg State.qmem h
  exact h1
theorem State.sameBut_transit {s t : State} (h : s.sameBut t) : t.transit = s.transit := by
  have h1 := congrArg State.transit h
  exact h1
theorem State.sameBut_hypha {s t : State} (h : s.sameBut t) : t.hypha = s.hypha := by
  have h1 := congrArg State.hypha h
  exact h1
theorem State.sameBut_hk {s t : State} (h : s.sameBut t) : t.hk = s.hk := by
  have h1 := congrArg State.hk h
  exact h1
theorem State.sameBut_time {s t : State} (h : s.sameBut t) : t.time = s.time := by
  have h1 := congrArg State.time h
  exact h1
theorem State.sameBut_cal {s t : State} (h : s.sameBut t) : t.cal = s.cal := by
  have h1 := congrArg State.cal h
  exact h1
theorem State.sameBut_therm {s t : State} (h : s.sameBut t) : t.therm = s.therm := by
  have h1 := congrArg State.therm h
  exact h1
theorem State.sameBut_link {s t : State} (h : s.sameBut t) : t.link = s.link := by
  have h1 := congrArg State.link h
  exact h1
theorem State.sameBut_tx {s t : State} (h : s.sameBut t) : t.tx = s.tx := by
  have h1 := congrArg State.tx h
  exact h1
theorem State.sameBut_fresh {s t : State} (h : s.sameBut t) : t.fresh = s.fresh := by
  have h1 := congrArg State.fresh h
  exact h1
theorem State.sameBut_pending {s t : State} (h : s.sameBut t) : t.pending = s.pending := by
  have h1 := congrArg State.pending h
  exact h1
theorem State.sameBut_ticking {s t : State} (h : s.sameBut t) : t.ticking = s.ticking := by
  have h1 := congrArg State.ticking h
  exact h1
theorem State.sameBut_trigs {s t : State} (h : s.sameBut t) : t.trigs = s.trigs := by
  have h1 := congrArg State.trigs h
  exact h1
theorem State.bump_sameBut (s : State) (p : Pg) (n k : Nat) : s.sameBut (s.bump p n k) :=
  State.sameBut_ite s.sameBut_refl (State.wr_sameBut _ _ _ _)

theorem State.recErr_sameBut (s : State) (p : Pg) (code off : Nat) : s.sameBut (s.recErr p code off) :=
  State.sameBut_ite (State.wr_sameBut _ _ _ _) (State.sameBut_trans (State.wr_sameBut _ _ _ _) (State.wr_sameBut _ _ _ _))

theorem State.msix_sameBut (s : State) (fn v : Nat) : s.sameBut (s.msix fn v) := State.sameBut_ite rfl (State.emit_sameBut _ _)

theorem State.sendIrq_sameBut (s : State) (p : Pg) : s.sameBut (s.sendIrq p) := by
  unfold State.sendIrq
  split
  · exact s.sameBut_refl
  · exact State.sameBut_ite (State.msix_sameBut _ _ _) (State.bump_sameBut _ _ _ _)

theorem State.noteSet_sameBut (s : State) (p : Pg) (m : Nat) : s.sameBut (s.noteSet p m) :=
  State.sameBut_ite rfl s.sameBut_refl

theorem State.raise_sameBut (s : State) (p : Pg) (m : Nat) : s.sameBut (s.raise p m) := by
  unfold State.raise
  refine State.sameBut_trans (State.noteSet_sameBut s p m) ?_
  dsimp only
  exact State.sameBut_ite (State.sameBut_trans (State.wr_sameBut _ _ _ _) (State.sendIrq_sameBut _ _)) (State.wr_sameBut _ _ _ _)

theorem State.flag_sameBut (s : State) (p : Pg) (i : Nat) : s.sameBut (s.flag p i) :=
  State.raise_sameBut _ _ _

theorem State.cntAdd_sameBut (s : State) (p i src chan k : Nat) : s.sameBut (s.cntAdd p i src chan k) := by
  unfold State.cntAdd
  refine State.sameBut_ite (State.flag_sameBut _ _ _) (State.sameBut_ite ?_ (State.wr64_sameBut _ _ _ _))
  exact State.sameBut_trans (State.wr64_sameBut _ _ _ _) (State.flag_sameBut _ _ _)

theorem State.occur_sameBut (s : State) (src k : Nat) : s.sameBut (s.occur src k) :=
  State.sameBut_ite s.sameBut_refl (State.sameBut_foldl (fun (a : State) (_ : Nat × Nat × Nat × Nat) => State.sameBut_ite (State.cntAdd_sameBut a _ _ _ _ _) (State.sameBut_refl a)) _ _)

theorem State.count_sameBut (s : State) (p : Pg) (n k : Nat) : s.sameBut (s.count p n k) := by
  unfold State.count
  split
  · exact State.sameBut_trans (State.bump_sameBut _ _ _ _) (State.occur_sameBut _ _ _)
  · exact State.bump_sameBut _ _ _ _

theorem State.irqAfterWrite_sameBut (s : State) (p : Pg) : s.sameBut (s.irqAfterWrite p) :=
  State.sameBut_ite (State.sendIrq_sameBut _ _) s.sameBut_refl

theorem State.flagsClear_sameBut (s : State) (p : Pg) (v : Word) : s.sameBut (s.flagsClear p v) :=
  State.sameBut_trans (State.wr_sameBut _ _ _ _) (State.irqAfterWrite_sameBut _ _)

theorem State.flagsSet_sameBut (s : State) (p : Pg) (v : Word) : s.sameBut (s.flagsSet p v) :=
  State.sameBut_trans (State.wr_sameBut _ _ _ _) (State.irqAfterWrite_sameBut _ _)

theorem State.flagsEn_sameBut (s : State) (p : Pg) (v : Word) : s.sameBut (s.flagsEn p v) :=
  State.sameBut_trans (State.wr_sameBut _ _ _ _) (State.irqAfterWrite_sameBut _ _)

theorem State.cntClr_sameBut (s : State) (p : Pg) : s.sameBut (s.cntClr p) :=
  State.sameBut_trans (State.resetRange_sameBut _ _ _ _) (State.wr_sameBut _ _ _ _)

theorem State.clrCount_sameBut (s : State) (n : Nat) : s.sameBut (s.clrCount n) :=
  State.sameBut_ite (State.sameBut_refl s) (State.sameBut_foldl (fun (a : State) (_ : Pg) => State.count_sameBut a _ _ _) _ _)

theorem State.pauseCount_sameBut (s : State) (n : Nat) : s.sameBut (s.pauseCount n) :=
  State.sameBut_foldl (fun (a : State) (_ : Nat × Croz) => State.sameBut_ite (State.sameBut_refl a) (State.count_sameBut a _ _ _)) _ _

theorem State.passBeats_sameBut (s : State) (n : Nat) : s.sameBut (s.passBeats n) :=
  State.sameBut_trans (State.clrCount_sameBut s n) <| State.sameBut_trans (State.pauseCount_sameBut _ n) <| State.sameBut_foldl (fun (a : State) (_ : Nat × Nat × Nat × Nat) => State.sameBut_ite (State.sameBut_refl a) (State.cntAdd_sameBut _ _ _ _ _ _)) _ _

@[simp] theorem State.bump_beat (s : State) (p : Pg) (n k : Nat) : (s.bump p n k).beat = s.beat := State.sameBut_beat (State.bump_sameBut s p n k)
@[simp] theorem State.bump_shadow (s : State) (p : Pg) (n k : Nat) : (s.bump p n k).shadow = s.shadow := State.sameBut_shadow (State.bump_sameBut s p n k)
@[simp] theorem State.bump_hiLatch (s : State) (p : Pg) (n k : Nat) : (s.bump p n k).hiLatch = s.hiLatch := State.sameBut_hiLatch (State.bump_sameBut s p n k)
@[simp] theorem State.bump_loStage (s : State) (p : Pg) (n k : Nat) : (s.bump p n k).loStage = s.loStage := State.sameBut_loStage (State.bump_sameBut s p n k)
@[simp] theorem State.bump_violog (s : State) (p : Pg) (n k : Nat) : (s.bump p n k).violog = s.violog := State.sameBut_violog (State.bump_sameBut s p n k)
@[simp] theorem State.bump_groups (s : State) (p : Pg) (n k : Nat) : (s.bump p n k).groups = s.groups := State.sameBut_groups (State.bump_sameBut s p n k)
@[simp] theorem State.bump_bounds (s : State) (p : Pg) (n k : Nat) : (s.bump p n k).bounds = s.bounds := State.sameBut_bounds (State.bump_sameBut s p n k)
@[simp] theorem State.bump_txs (s : State) (p : Pg) (n k : Nat) : (s.bump p n k).txs = s.txs := State.sameBut_txs (State.bump_sameBut s p n k)
@[simp] theorem State.bump_splits (s : State) (p : Pg) (n k : Nat) : (s.bump p n k).splits = s.splits := State.sameBut_splits (State.bump_sameBut s p n k)
@[simp] theorem State.bump_boot (s : State) (p : Pg) (n k : Nat) : (s.bump p n k).boot = s.boot := State.sameBut_boot (State.bump_sameBut s p n k)
@[simp] theorem State.bump_croz (s : State) (p : Pg) (n k : Nat) : (s.bump p n k).croz = s.croz := State.sameBut_croz (State.bump_sameBut s p n k)
@[simp] theorem State.bump_cs (s : State) (p : Pg) (n k : Nat) : (s.bump p n k).cs = s.cs := State.sameBut_cs (State.bump_sameBut s p n k)
@[simp] theorem State.bump_players (s : State) (p : Pg) (n k : Nat) : (s.bump p n k).players = s.players := State.sameBut_players (State.bump_sameBut s p n k)
@[simp] theorem State.bump_chains (s : State) (p : Pg) (n k : Nat) : (s.bump p n k).chains = s.chains := State.sameBut_chains (State.bump_sameBut s p n k)
@[simp] theorem State.bump_pins (s : State) (p : Pg) (n k : Nat) : (s.bump p n k).pins = s.pins := State.sameBut_pins (State.bump_sameBut s p n k)
@[simp] theorem State.bump_rings (s : State) (p : Pg) (n k : Nat) : (s.bump p n k).rings = s.rings := State.sameBut_rings (State.bump_sameBut s p n k)
@[simp] theorem State.bump_descs (s : State) (p : Pg) (n k : Nat) : (s.bump p n k).descs = s.descs := State.sameBut_descs (State.bump_sameBut s p n k)
@[simp] theorem State.bump_lists (s : State) (p : Pg) (n k : Nat) : (s.bump p n k).lists = s.lists := State.sameBut_lists (State.bump_sameBut s p n k)
@[simp] theorem State.bump_sram (s : State) (p : Pg) (n k : Nat) : (s.bump p n k).sram = s.sram := State.sameBut_sram (State.bump_sameBut s p n k)
@[simp] theorem State.bump_sec (s : State) (p : Pg) (n k : Nat) : (s.bump p n k).sec = s.sec := State.sameBut_sec (State.bump_sameBut s p n k)
@[simp] theorem State.bump_gddr (s : State) (p : Pg) (n k : Nat) : (s.bump p n k).gddr = s.gddr := State.sameBut_gddr (State.bump_sameBut s p n k)
@[simp] theorem State.bump_fes (s : State) (p : Pg) (n k : Nat) : (s.bump p n k).fes = s.fes := State.sameBut_fes (State.bump_sameBut s p n k)
@[simp] theorem State.bump_wmem (s : State) (p : Pg) (n k : Nat) : (s.bump p n k).wmem = s.wmem := State.sameBut_wmem (State.bump_sameBut s p n k)
@[simp] theorem State.bump_bus (s : State) (p : Pg) (n k : Nat) : (s.bump p n k).bus = s.bus := State.sameBut_bus (State.bump_sameBut s p n k)
@[simp] theorem State.bump_sorus (s : State) (p : Pg) (n k : Nat) : (s.bump p n k).sorus = s.sorus := State.sameBut_sorus (State.bump_sameBut s p n k)
@[simp] theorem State.bump_slots (s : State) (p : Pg) (n k : Nat) : (s.bump p n k).slots = s.slots := State.sameBut_slots (State.bump_sameBut s p n k)
@[simp] theorem State.bump_acqs (s : State) (p : Pg) (n k : Nat) : (s.bump p n k).acqs = s.acqs := State.sameBut_acqs (State.bump_sameBut s p n k)
@[simp] theorem State.bump_queues (s : State) (p : Pg) (n k : Nat) : (s.bump p n k).queues = s.queues := State.sameBut_queues (State.bump_sameBut s p n k)
@[simp] theorem State.bump_qmem (s : State) (p : Pg) (n k : Nat) : (s.bump p n k).qmem = s.qmem := State.sameBut_qmem (State.bump_sameBut s p n k)
@[simp] theorem State.bump_transit (s : State) (p : Pg) (n k : Nat) : (s.bump p n k).transit = s.transit := State.sameBut_transit (State.bump_sameBut s p n k)
@[simp] theorem State.bump_hypha (s : State) (p : Pg) (n k : Nat) : (s.bump p n k).hypha = s.hypha := State.sameBut_hypha (State.bump_sameBut s p n k)
@[simp] theorem State.bump_hk (s : State) (p : Pg) (n k : Nat) : (s.bump p n k).hk = s.hk := State.sameBut_hk (State.bump_sameBut s p n k)
@[simp] theorem State.bump_time (s : State) (p : Pg) (n k : Nat) : (s.bump p n k).time = s.time := State.sameBut_time (State.bump_sameBut s p n k)
@[simp] theorem State.bump_cal (s : State) (p : Pg) (n k : Nat) : (s.bump p n k).cal = s.cal := State.sameBut_cal (State.bump_sameBut s p n k)
@[simp] theorem State.bump_therm (s : State) (p : Pg) (n k : Nat) : (s.bump p n k).therm = s.therm := State.sameBut_therm (State.bump_sameBut s p n k)
@[simp] theorem State.bump_link (s : State) (p : Pg) (n k : Nat) : (s.bump p n k).link = s.link := State.sameBut_link (State.bump_sameBut s p n k)
@[simp] theorem State.bump_tx (s : State) (p : Pg) (n k : Nat) : (s.bump p n k).tx = s.tx := State.sameBut_tx (State.bump_sameBut s p n k)
@[simp] theorem State.bump_fresh (s : State) (p : Pg) (n k : Nat) : (s.bump p n k).fresh = s.fresh := State.sameBut_fresh (State.bump_sameBut s p n k)
@[simp] theorem State.bump_pending (s : State) (p : Pg) (n k : Nat) : (s.bump p n k).pending = s.pending := State.sameBut_pending (State.bump_sameBut s p n k)
@[simp] theorem State.bump_ticking (s : State) (p : Pg) (n k : Nat) : (s.bump p n k).ticking = s.ticking := State.sameBut_ticking (State.bump_sameBut s p n k)
@[simp] theorem State.bump_trigs (s : State) (p : Pg) (n k : Nat) : (s.bump p n k).trigs = s.trigs := State.sameBut_trigs (State.bump_sameBut s p n k)
@[simp] theorem State.recErr_beat (s : State) (p : Pg) (code off : Nat) : (s.recErr p code off).beat = s.beat := State.sameBut_beat (State.recErr_sameBut s p code off)
@[simp] theorem State.recErr_shadow (s : State) (p : Pg) (code off : Nat) : (s.recErr p code off).shadow = s.shadow := State.sameBut_shadow (State.recErr_sameBut s p code off)
@[simp] theorem State.recErr_hiLatch (s : State) (p : Pg) (code off : Nat) : (s.recErr p code off).hiLatch = s.hiLatch := State.sameBut_hiLatch (State.recErr_sameBut s p code off)
@[simp] theorem State.recErr_loStage (s : State) (p : Pg) (code off : Nat) : (s.recErr p code off).loStage = s.loStage := State.sameBut_loStage (State.recErr_sameBut s p code off)
@[simp] theorem State.recErr_violog (s : State) (p : Pg) (code off : Nat) : (s.recErr p code off).violog = s.violog := State.sameBut_violog (State.recErr_sameBut s p code off)
@[simp] theorem State.recErr_groups (s : State) (p : Pg) (code off : Nat) : (s.recErr p code off).groups = s.groups := State.sameBut_groups (State.recErr_sameBut s p code off)
@[simp] theorem State.recErr_bounds (s : State) (p : Pg) (code off : Nat) : (s.recErr p code off).bounds = s.bounds := State.sameBut_bounds (State.recErr_sameBut s p code off)
@[simp] theorem State.recErr_txs (s : State) (p : Pg) (code off : Nat) : (s.recErr p code off).txs = s.txs := State.sameBut_txs (State.recErr_sameBut s p code off)
@[simp] theorem State.recErr_splits (s : State) (p : Pg) (code off : Nat) : (s.recErr p code off).splits = s.splits := State.sameBut_splits (State.recErr_sameBut s p code off)
@[simp] theorem State.recErr_boot (s : State) (p : Pg) (code off : Nat) : (s.recErr p code off).boot = s.boot := State.sameBut_boot (State.recErr_sameBut s p code off)
@[simp] theorem State.recErr_croz (s : State) (p : Pg) (code off : Nat) : (s.recErr p code off).croz = s.croz := State.sameBut_croz (State.recErr_sameBut s p code off)
@[simp] theorem State.recErr_cs (s : State) (p : Pg) (code off : Nat) : (s.recErr p code off).cs = s.cs := State.sameBut_cs (State.recErr_sameBut s p code off)
@[simp] theorem State.recErr_players (s : State) (p : Pg) (code off : Nat) : (s.recErr p code off).players = s.players := State.sameBut_players (State.recErr_sameBut s p code off)
@[simp] theorem State.recErr_chains (s : State) (p : Pg) (code off : Nat) : (s.recErr p code off).chains = s.chains := State.sameBut_chains (State.recErr_sameBut s p code off)
@[simp] theorem State.recErr_pins (s : State) (p : Pg) (code off : Nat) : (s.recErr p code off).pins = s.pins := State.sameBut_pins (State.recErr_sameBut s p code off)
@[simp] theorem State.recErr_rings (s : State) (p : Pg) (code off : Nat) : (s.recErr p code off).rings = s.rings := State.sameBut_rings (State.recErr_sameBut s p code off)
@[simp] theorem State.recErr_descs (s : State) (p : Pg) (code off : Nat) : (s.recErr p code off).descs = s.descs := State.sameBut_descs (State.recErr_sameBut s p code off)
@[simp] theorem State.recErr_lists (s : State) (p : Pg) (code off : Nat) : (s.recErr p code off).lists = s.lists := State.sameBut_lists (State.recErr_sameBut s p code off)
@[simp] theorem State.recErr_sram (s : State) (p : Pg) (code off : Nat) : (s.recErr p code off).sram = s.sram := State.sameBut_sram (State.recErr_sameBut s p code off)
@[simp] theorem State.recErr_sec (s : State) (p : Pg) (code off : Nat) : (s.recErr p code off).sec = s.sec := State.sameBut_sec (State.recErr_sameBut s p code off)
@[simp] theorem State.recErr_gddr (s : State) (p : Pg) (code off : Nat) : (s.recErr p code off).gddr = s.gddr := State.sameBut_gddr (State.recErr_sameBut s p code off)
@[simp] theorem State.recErr_fes (s : State) (p : Pg) (code off : Nat) : (s.recErr p code off).fes = s.fes := State.sameBut_fes (State.recErr_sameBut s p code off)
@[simp] theorem State.recErr_wmem (s : State) (p : Pg) (code off : Nat) : (s.recErr p code off).wmem = s.wmem := State.sameBut_wmem (State.recErr_sameBut s p code off)
@[simp] theorem State.recErr_bus (s : State) (p : Pg) (code off : Nat) : (s.recErr p code off).bus = s.bus := State.sameBut_bus (State.recErr_sameBut s p code off)
@[simp] theorem State.recErr_sorus (s : State) (p : Pg) (code off : Nat) : (s.recErr p code off).sorus = s.sorus := State.sameBut_sorus (State.recErr_sameBut s p code off)
@[simp] theorem State.recErr_slots (s : State) (p : Pg) (code off : Nat) : (s.recErr p code off).slots = s.slots := State.sameBut_slots (State.recErr_sameBut s p code off)
@[simp] theorem State.recErr_acqs (s : State) (p : Pg) (code off : Nat) : (s.recErr p code off).acqs = s.acqs := State.sameBut_acqs (State.recErr_sameBut s p code off)
@[simp] theorem State.recErr_queues (s : State) (p : Pg) (code off : Nat) : (s.recErr p code off).queues = s.queues := State.sameBut_queues (State.recErr_sameBut s p code off)
@[simp] theorem State.recErr_qmem (s : State) (p : Pg) (code off : Nat) : (s.recErr p code off).qmem = s.qmem := State.sameBut_qmem (State.recErr_sameBut s p code off)
@[simp] theorem State.recErr_transit (s : State) (p : Pg) (code off : Nat) : (s.recErr p code off).transit = s.transit := State.sameBut_transit (State.recErr_sameBut s p code off)
@[simp] theorem State.recErr_hypha (s : State) (p : Pg) (code off : Nat) : (s.recErr p code off).hypha = s.hypha := State.sameBut_hypha (State.recErr_sameBut s p code off)
@[simp] theorem State.recErr_hk (s : State) (p : Pg) (code off : Nat) : (s.recErr p code off).hk = s.hk := State.sameBut_hk (State.recErr_sameBut s p code off)
@[simp] theorem State.recErr_time (s : State) (p : Pg) (code off : Nat) : (s.recErr p code off).time = s.time := State.sameBut_time (State.recErr_sameBut s p code off)
@[simp] theorem State.recErr_cal (s : State) (p : Pg) (code off : Nat) : (s.recErr p code off).cal = s.cal := State.sameBut_cal (State.recErr_sameBut s p code off)
@[simp] theorem State.recErr_therm (s : State) (p : Pg) (code off : Nat) : (s.recErr p code off).therm = s.therm := State.sameBut_therm (State.recErr_sameBut s p code off)
@[simp] theorem State.recErr_link (s : State) (p : Pg) (code off : Nat) : (s.recErr p code off).link = s.link := State.sameBut_link (State.recErr_sameBut s p code off)
@[simp] theorem State.recErr_tx (s : State) (p : Pg) (code off : Nat) : (s.recErr p code off).tx = s.tx := State.sameBut_tx (State.recErr_sameBut s p code off)
@[simp] theorem State.recErr_fresh (s : State) (p : Pg) (code off : Nat) : (s.recErr p code off).fresh = s.fresh := State.sameBut_fresh (State.recErr_sameBut s p code off)
@[simp] theorem State.recErr_pending (s : State) (p : Pg) (code off : Nat) : (s.recErr p code off).pending = s.pending := State.sameBut_pending (State.recErr_sameBut s p code off)
@[simp] theorem State.recErr_ticking (s : State) (p : Pg) (code off : Nat) : (s.recErr p code off).ticking = s.ticking := State.sameBut_ticking (State.recErr_sameBut s p code off)
@[simp] theorem State.recErr_trigs (s : State) (p : Pg) (code off : Nat) : (s.recErr p code off).trigs = s.trigs := State.sameBut_trigs (State.recErr_sameBut s p code off)
@[simp] theorem State.sendIrq_beat (s : State) (p : Pg) : (s.sendIrq p).beat = s.beat := State.sameBut_beat (State.sendIrq_sameBut s p)
@[simp] theorem State.sendIrq_shadow (s : State) (p : Pg) : (s.sendIrq p).shadow = s.shadow := State.sameBut_shadow (State.sendIrq_sameBut s p)
@[simp] theorem State.sendIrq_hiLatch (s : State) (p : Pg) : (s.sendIrq p).hiLatch = s.hiLatch := State.sameBut_hiLatch (State.sendIrq_sameBut s p)
@[simp] theorem State.sendIrq_loStage (s : State) (p : Pg) : (s.sendIrq p).loStage = s.loStage := State.sameBut_loStage (State.sendIrq_sameBut s p)
@[simp] theorem State.sendIrq_violog (s : State) (p : Pg) : (s.sendIrq p).violog = s.violog := State.sameBut_violog (State.sendIrq_sameBut s p)
@[simp] theorem State.sendIrq_groups (s : State) (p : Pg) : (s.sendIrq p).groups = s.groups := State.sameBut_groups (State.sendIrq_sameBut s p)
@[simp] theorem State.sendIrq_bounds (s : State) (p : Pg) : (s.sendIrq p).bounds = s.bounds := State.sameBut_bounds (State.sendIrq_sameBut s p)
@[simp] theorem State.sendIrq_txs (s : State) (p : Pg) : (s.sendIrq p).txs = s.txs := State.sameBut_txs (State.sendIrq_sameBut s p)
@[simp] theorem State.sendIrq_splits (s : State) (p : Pg) : (s.sendIrq p).splits = s.splits := State.sameBut_splits (State.sendIrq_sameBut s p)
@[simp] theorem State.sendIrq_boot (s : State) (p : Pg) : (s.sendIrq p).boot = s.boot := State.sameBut_boot (State.sendIrq_sameBut s p)
@[simp] theorem State.sendIrq_croz (s : State) (p : Pg) : (s.sendIrq p).croz = s.croz := State.sameBut_croz (State.sendIrq_sameBut s p)
@[simp] theorem State.sendIrq_cs (s : State) (p : Pg) : (s.sendIrq p).cs = s.cs := State.sameBut_cs (State.sendIrq_sameBut s p)
@[simp] theorem State.sendIrq_players (s : State) (p : Pg) : (s.sendIrq p).players = s.players := State.sameBut_players (State.sendIrq_sameBut s p)
@[simp] theorem State.sendIrq_chains (s : State) (p : Pg) : (s.sendIrq p).chains = s.chains := State.sameBut_chains (State.sendIrq_sameBut s p)
@[simp] theorem State.sendIrq_pins (s : State) (p : Pg) : (s.sendIrq p).pins = s.pins := State.sameBut_pins (State.sendIrq_sameBut s p)
@[simp] theorem State.sendIrq_rings (s : State) (p : Pg) : (s.sendIrq p).rings = s.rings := State.sameBut_rings (State.sendIrq_sameBut s p)
@[simp] theorem State.sendIrq_descs (s : State) (p : Pg) : (s.sendIrq p).descs = s.descs := State.sameBut_descs (State.sendIrq_sameBut s p)
@[simp] theorem State.sendIrq_lists (s : State) (p : Pg) : (s.sendIrq p).lists = s.lists := State.sameBut_lists (State.sendIrq_sameBut s p)
@[simp] theorem State.sendIrq_sram (s : State) (p : Pg) : (s.sendIrq p).sram = s.sram := State.sameBut_sram (State.sendIrq_sameBut s p)
@[simp] theorem State.sendIrq_sec (s : State) (p : Pg) : (s.sendIrq p).sec = s.sec := State.sameBut_sec (State.sendIrq_sameBut s p)
@[simp] theorem State.sendIrq_gddr (s : State) (p : Pg) : (s.sendIrq p).gddr = s.gddr := State.sameBut_gddr (State.sendIrq_sameBut s p)
@[simp] theorem State.sendIrq_fes (s : State) (p : Pg) : (s.sendIrq p).fes = s.fes := State.sameBut_fes (State.sendIrq_sameBut s p)
@[simp] theorem State.sendIrq_wmem (s : State) (p : Pg) : (s.sendIrq p).wmem = s.wmem := State.sameBut_wmem (State.sendIrq_sameBut s p)
@[simp] theorem State.sendIrq_bus (s : State) (p : Pg) : (s.sendIrq p).bus = s.bus := State.sameBut_bus (State.sendIrq_sameBut s p)
@[simp] theorem State.sendIrq_sorus (s : State) (p : Pg) : (s.sendIrq p).sorus = s.sorus := State.sameBut_sorus (State.sendIrq_sameBut s p)
@[simp] theorem State.sendIrq_slots (s : State) (p : Pg) : (s.sendIrq p).slots = s.slots := State.sameBut_slots (State.sendIrq_sameBut s p)
@[simp] theorem State.sendIrq_acqs (s : State) (p : Pg) : (s.sendIrq p).acqs = s.acqs := State.sameBut_acqs (State.sendIrq_sameBut s p)
@[simp] theorem State.sendIrq_queues (s : State) (p : Pg) : (s.sendIrq p).queues = s.queues := State.sameBut_queues (State.sendIrq_sameBut s p)
@[simp] theorem State.sendIrq_qmem (s : State) (p : Pg) : (s.sendIrq p).qmem = s.qmem := State.sameBut_qmem (State.sendIrq_sameBut s p)
@[simp] theorem State.sendIrq_transit (s : State) (p : Pg) : (s.sendIrq p).transit = s.transit := State.sameBut_transit (State.sendIrq_sameBut s p)
@[simp] theorem State.sendIrq_hypha (s : State) (p : Pg) : (s.sendIrq p).hypha = s.hypha := State.sameBut_hypha (State.sendIrq_sameBut s p)
@[simp] theorem State.sendIrq_hk (s : State) (p : Pg) : (s.sendIrq p).hk = s.hk := State.sameBut_hk (State.sendIrq_sameBut s p)
@[simp] theorem State.sendIrq_time (s : State) (p : Pg) : (s.sendIrq p).time = s.time := State.sameBut_time (State.sendIrq_sameBut s p)
@[simp] theorem State.sendIrq_cal (s : State) (p : Pg) : (s.sendIrq p).cal = s.cal := State.sameBut_cal (State.sendIrq_sameBut s p)
@[simp] theorem State.sendIrq_therm (s : State) (p : Pg) : (s.sendIrq p).therm = s.therm := State.sameBut_therm (State.sendIrq_sameBut s p)
@[simp] theorem State.sendIrq_link (s : State) (p : Pg) : (s.sendIrq p).link = s.link := State.sameBut_link (State.sendIrq_sameBut s p)
@[simp] theorem State.sendIrq_tx (s : State) (p : Pg) : (s.sendIrq p).tx = s.tx := State.sameBut_tx (State.sendIrq_sameBut s p)
@[simp] theorem State.sendIrq_fresh (s : State) (p : Pg) : (s.sendIrq p).fresh = s.fresh := State.sameBut_fresh (State.sendIrq_sameBut s p)
@[simp] theorem State.sendIrq_pending (s : State) (p : Pg) : (s.sendIrq p).pending = s.pending := State.sameBut_pending (State.sendIrq_sameBut s p)
@[simp] theorem State.sendIrq_ticking (s : State) (p : Pg) : (s.sendIrq p).ticking = s.ticking := State.sameBut_ticking (State.sendIrq_sameBut s p)
@[simp] theorem State.sendIrq_trigs (s : State) (p : Pg) : (s.sendIrq p).trigs = s.trigs := State.sameBut_trigs (State.sendIrq_sameBut s p)
@[simp] theorem State.raise_beat (s : State) (p : Pg) (m : Nat) : (s.raise p m).beat = s.beat := State.sameBut_beat (State.raise_sameBut s p m)
@[simp] theorem State.raise_shadow (s : State) (p : Pg) (m : Nat) : (s.raise p m).shadow = s.shadow := State.sameBut_shadow (State.raise_sameBut s p m)
@[simp] theorem State.raise_hiLatch (s : State) (p : Pg) (m : Nat) : (s.raise p m).hiLatch = s.hiLatch := State.sameBut_hiLatch (State.raise_sameBut s p m)
@[simp] theorem State.raise_loStage (s : State) (p : Pg) (m : Nat) : (s.raise p m).loStage = s.loStage := State.sameBut_loStage (State.raise_sameBut s p m)
@[simp] theorem State.raise_violog (s : State) (p : Pg) (m : Nat) : (s.raise p m).violog = s.violog := State.sameBut_violog (State.raise_sameBut s p m)
@[simp] theorem State.raise_groups (s : State) (p : Pg) (m : Nat) : (s.raise p m).groups = s.groups := State.sameBut_groups (State.raise_sameBut s p m)
@[simp] theorem State.raise_bounds (s : State) (p : Pg) (m : Nat) : (s.raise p m).bounds = s.bounds := State.sameBut_bounds (State.raise_sameBut s p m)
@[simp] theorem State.raise_txs (s : State) (p : Pg) (m : Nat) : (s.raise p m).txs = s.txs := State.sameBut_txs (State.raise_sameBut s p m)
@[simp] theorem State.raise_splits (s : State) (p : Pg) (m : Nat) : (s.raise p m).splits = s.splits := State.sameBut_splits (State.raise_sameBut s p m)
@[simp] theorem State.raise_boot (s : State) (p : Pg) (m : Nat) : (s.raise p m).boot = s.boot := State.sameBut_boot (State.raise_sameBut s p m)
@[simp] theorem State.raise_croz (s : State) (p : Pg) (m : Nat) : (s.raise p m).croz = s.croz := State.sameBut_croz (State.raise_sameBut s p m)
@[simp] theorem State.raise_cs (s : State) (p : Pg) (m : Nat) : (s.raise p m).cs = s.cs := State.sameBut_cs (State.raise_sameBut s p m)
@[simp] theorem State.raise_players (s : State) (p : Pg) (m : Nat) : (s.raise p m).players = s.players := State.sameBut_players (State.raise_sameBut s p m)
@[simp] theorem State.raise_chains (s : State) (p : Pg) (m : Nat) : (s.raise p m).chains = s.chains := State.sameBut_chains (State.raise_sameBut s p m)
@[simp] theorem State.raise_pins (s : State) (p : Pg) (m : Nat) : (s.raise p m).pins = s.pins := State.sameBut_pins (State.raise_sameBut s p m)
@[simp] theorem State.raise_rings (s : State) (p : Pg) (m : Nat) : (s.raise p m).rings = s.rings := State.sameBut_rings (State.raise_sameBut s p m)
@[simp] theorem State.raise_descs (s : State) (p : Pg) (m : Nat) : (s.raise p m).descs = s.descs := State.sameBut_descs (State.raise_sameBut s p m)
@[simp] theorem State.raise_lists (s : State) (p : Pg) (m : Nat) : (s.raise p m).lists = s.lists := State.sameBut_lists (State.raise_sameBut s p m)
@[simp] theorem State.raise_sram (s : State) (p : Pg) (m : Nat) : (s.raise p m).sram = s.sram := State.sameBut_sram (State.raise_sameBut s p m)
@[simp] theorem State.raise_sec (s : State) (p : Pg) (m : Nat) : (s.raise p m).sec = s.sec := State.sameBut_sec (State.raise_sameBut s p m)
@[simp] theorem State.raise_gddr (s : State) (p : Pg) (m : Nat) : (s.raise p m).gddr = s.gddr := State.sameBut_gddr (State.raise_sameBut s p m)
@[simp] theorem State.raise_fes (s : State) (p : Pg) (m : Nat) : (s.raise p m).fes = s.fes := State.sameBut_fes (State.raise_sameBut s p m)
@[simp] theorem State.raise_wmem (s : State) (p : Pg) (m : Nat) : (s.raise p m).wmem = s.wmem := State.sameBut_wmem (State.raise_sameBut s p m)
@[simp] theorem State.raise_bus (s : State) (p : Pg) (m : Nat) : (s.raise p m).bus = s.bus := State.sameBut_bus (State.raise_sameBut s p m)
@[simp] theorem State.raise_sorus (s : State) (p : Pg) (m : Nat) : (s.raise p m).sorus = s.sorus := State.sameBut_sorus (State.raise_sameBut s p m)
@[simp] theorem State.raise_slots (s : State) (p : Pg) (m : Nat) : (s.raise p m).slots = s.slots := State.sameBut_slots (State.raise_sameBut s p m)
@[simp] theorem State.raise_acqs (s : State) (p : Pg) (m : Nat) : (s.raise p m).acqs = s.acqs := State.sameBut_acqs (State.raise_sameBut s p m)
@[simp] theorem State.raise_queues (s : State) (p : Pg) (m : Nat) : (s.raise p m).queues = s.queues := State.sameBut_queues (State.raise_sameBut s p m)
@[simp] theorem State.raise_qmem (s : State) (p : Pg) (m : Nat) : (s.raise p m).qmem = s.qmem := State.sameBut_qmem (State.raise_sameBut s p m)
@[simp] theorem State.raise_transit (s : State) (p : Pg) (m : Nat) : (s.raise p m).transit = s.transit := State.sameBut_transit (State.raise_sameBut s p m)
@[simp] theorem State.raise_hypha (s : State) (p : Pg) (m : Nat) : (s.raise p m).hypha = s.hypha := State.sameBut_hypha (State.raise_sameBut s p m)
@[simp] theorem State.raise_hk (s : State) (p : Pg) (m : Nat) : (s.raise p m).hk = s.hk := State.sameBut_hk (State.raise_sameBut s p m)
@[simp] theorem State.raise_time (s : State) (p : Pg) (m : Nat) : (s.raise p m).time = s.time := State.sameBut_time (State.raise_sameBut s p m)
@[simp] theorem State.raise_cal (s : State) (p : Pg) (m : Nat) : (s.raise p m).cal = s.cal := State.sameBut_cal (State.raise_sameBut s p m)
@[simp] theorem State.raise_therm (s : State) (p : Pg) (m : Nat) : (s.raise p m).therm = s.therm := State.sameBut_therm (State.raise_sameBut s p m)
@[simp] theorem State.raise_link (s : State) (p : Pg) (m : Nat) : (s.raise p m).link = s.link := State.sameBut_link (State.raise_sameBut s p m)
@[simp] theorem State.raise_tx (s : State) (p : Pg) (m : Nat) : (s.raise p m).tx = s.tx := State.sameBut_tx (State.raise_sameBut s p m)
@[simp] theorem State.raise_fresh (s : State) (p : Pg) (m : Nat) : (s.raise p m).fresh = s.fresh := State.sameBut_fresh (State.raise_sameBut s p m)
@[simp] theorem State.raise_pending (s : State) (p : Pg) (m : Nat) : (s.raise p m).pending = s.pending := State.sameBut_pending (State.raise_sameBut s p m)
@[simp] theorem State.raise_ticking (s : State) (p : Pg) (m : Nat) : (s.raise p m).ticking = s.ticking := State.sameBut_ticking (State.raise_sameBut s p m)
@[simp] theorem State.raise_trigs (s : State) (p : Pg) (m : Nat) : (s.raise p m).trigs = s.trigs := State.sameBut_trigs (State.raise_sameBut s p m)
@[simp] theorem State.flag_beat (s : State) (p : Pg) (i : Nat) : (s.flag p i).beat = s.beat := State.sameBut_beat (State.flag_sameBut s p i)
@[simp] theorem State.flag_shadow (s : State) (p : Pg) (i : Nat) : (s.flag p i).shadow = s.shadow := State.sameBut_shadow (State.flag_sameBut s p i)
@[simp] theorem State.flag_hiLatch (s : State) (p : Pg) (i : Nat) : (s.flag p i).hiLatch = s.hiLatch := State.sameBut_hiLatch (State.flag_sameBut s p i)
@[simp] theorem State.flag_loStage (s : State) (p : Pg) (i : Nat) : (s.flag p i).loStage = s.loStage := State.sameBut_loStage (State.flag_sameBut s p i)
@[simp] theorem State.flag_violog (s : State) (p : Pg) (i : Nat) : (s.flag p i).violog = s.violog := State.sameBut_violog (State.flag_sameBut s p i)
@[simp] theorem State.flag_groups (s : State) (p : Pg) (i : Nat) : (s.flag p i).groups = s.groups := State.sameBut_groups (State.flag_sameBut s p i)
@[simp] theorem State.flag_bounds (s : State) (p : Pg) (i : Nat) : (s.flag p i).bounds = s.bounds := State.sameBut_bounds (State.flag_sameBut s p i)
@[simp] theorem State.flag_txs (s : State) (p : Pg) (i : Nat) : (s.flag p i).txs = s.txs := State.sameBut_txs (State.flag_sameBut s p i)
@[simp] theorem State.flag_splits (s : State) (p : Pg) (i : Nat) : (s.flag p i).splits = s.splits := State.sameBut_splits (State.flag_sameBut s p i)
@[simp] theorem State.flag_boot (s : State) (p : Pg) (i : Nat) : (s.flag p i).boot = s.boot := State.sameBut_boot (State.flag_sameBut s p i)
@[simp] theorem State.flag_croz (s : State) (p : Pg) (i : Nat) : (s.flag p i).croz = s.croz := State.sameBut_croz (State.flag_sameBut s p i)
@[simp] theorem State.flag_cs (s : State) (p : Pg) (i : Nat) : (s.flag p i).cs = s.cs := State.sameBut_cs (State.flag_sameBut s p i)
@[simp] theorem State.flag_players (s : State) (p : Pg) (i : Nat) : (s.flag p i).players = s.players := State.sameBut_players (State.flag_sameBut s p i)
@[simp] theorem State.flag_chains (s : State) (p : Pg) (i : Nat) : (s.flag p i).chains = s.chains := State.sameBut_chains (State.flag_sameBut s p i)
@[simp] theorem State.flag_pins (s : State) (p : Pg) (i : Nat) : (s.flag p i).pins = s.pins := State.sameBut_pins (State.flag_sameBut s p i)
@[simp] theorem State.flag_rings (s : State) (p : Pg) (i : Nat) : (s.flag p i).rings = s.rings := State.sameBut_rings (State.flag_sameBut s p i)
@[simp] theorem State.flag_descs (s : State) (p : Pg) (i : Nat) : (s.flag p i).descs = s.descs := State.sameBut_descs (State.flag_sameBut s p i)
@[simp] theorem State.flag_lists (s : State) (p : Pg) (i : Nat) : (s.flag p i).lists = s.lists := State.sameBut_lists (State.flag_sameBut s p i)
@[simp] theorem State.flag_sram (s : State) (p : Pg) (i : Nat) : (s.flag p i).sram = s.sram := State.sameBut_sram (State.flag_sameBut s p i)
@[simp] theorem State.flag_sec (s : State) (p : Pg) (i : Nat) : (s.flag p i).sec = s.sec := State.sameBut_sec (State.flag_sameBut s p i)
@[simp] theorem State.flag_gddr (s : State) (p : Pg) (i : Nat) : (s.flag p i).gddr = s.gddr := State.sameBut_gddr (State.flag_sameBut s p i)
@[simp] theorem State.flag_fes (s : State) (p : Pg) (i : Nat) : (s.flag p i).fes = s.fes := State.sameBut_fes (State.flag_sameBut s p i)
@[simp] theorem State.flag_wmem (s : State) (p : Pg) (i : Nat) : (s.flag p i).wmem = s.wmem := State.sameBut_wmem (State.flag_sameBut s p i)
@[simp] theorem State.flag_bus (s : State) (p : Pg) (i : Nat) : (s.flag p i).bus = s.bus := State.sameBut_bus (State.flag_sameBut s p i)
@[simp] theorem State.flag_sorus (s : State) (p : Pg) (i : Nat) : (s.flag p i).sorus = s.sorus := State.sameBut_sorus (State.flag_sameBut s p i)
@[simp] theorem State.flag_slots (s : State) (p : Pg) (i : Nat) : (s.flag p i).slots = s.slots := State.sameBut_slots (State.flag_sameBut s p i)
@[simp] theorem State.flag_acqs (s : State) (p : Pg) (i : Nat) : (s.flag p i).acqs = s.acqs := State.sameBut_acqs (State.flag_sameBut s p i)
@[simp] theorem State.flag_queues (s : State) (p : Pg) (i : Nat) : (s.flag p i).queues = s.queues := State.sameBut_queues (State.flag_sameBut s p i)
@[simp] theorem State.flag_qmem (s : State) (p : Pg) (i : Nat) : (s.flag p i).qmem = s.qmem := State.sameBut_qmem (State.flag_sameBut s p i)
@[simp] theorem State.flag_transit (s : State) (p : Pg) (i : Nat) : (s.flag p i).transit = s.transit := State.sameBut_transit (State.flag_sameBut s p i)
@[simp] theorem State.flag_hypha (s : State) (p : Pg) (i : Nat) : (s.flag p i).hypha = s.hypha := State.sameBut_hypha (State.flag_sameBut s p i)
@[simp] theorem State.flag_hk (s : State) (p : Pg) (i : Nat) : (s.flag p i).hk = s.hk := State.sameBut_hk (State.flag_sameBut s p i)
@[simp] theorem State.flag_time (s : State) (p : Pg) (i : Nat) : (s.flag p i).time = s.time := State.sameBut_time (State.flag_sameBut s p i)
@[simp] theorem State.flag_cal (s : State) (p : Pg) (i : Nat) : (s.flag p i).cal = s.cal := State.sameBut_cal (State.flag_sameBut s p i)
@[simp] theorem State.flag_therm (s : State) (p : Pg) (i : Nat) : (s.flag p i).therm = s.therm := State.sameBut_therm (State.flag_sameBut s p i)
@[simp] theorem State.flag_link (s : State) (p : Pg) (i : Nat) : (s.flag p i).link = s.link := State.sameBut_link (State.flag_sameBut s p i)
@[simp] theorem State.flag_tx (s : State) (p : Pg) (i : Nat) : (s.flag p i).tx = s.tx := State.sameBut_tx (State.flag_sameBut s p i)
@[simp] theorem State.flag_fresh (s : State) (p : Pg) (i : Nat) : (s.flag p i).fresh = s.fresh := State.sameBut_fresh (State.flag_sameBut s p i)
@[simp] theorem State.flag_pending (s : State) (p : Pg) (i : Nat) : (s.flag p i).pending = s.pending := State.sameBut_pending (State.flag_sameBut s p i)
@[simp] theorem State.flag_ticking (s : State) (p : Pg) (i : Nat) : (s.flag p i).ticking = s.ticking := State.sameBut_ticking (State.flag_sameBut s p i)
@[simp] theorem State.flag_trigs (s : State) (p : Pg) (i : Nat) : (s.flag p i).trigs = s.trigs := State.sameBut_trigs (State.flag_sameBut s p i)
@[simp] theorem State.cntAdd_beat (s : State) (p i src chan k : Nat) : (s.cntAdd p i src chan k).beat = s.beat := State.sameBut_beat (State.cntAdd_sameBut s p i src chan k)
@[simp] theorem State.cntAdd_shadow (s : State) (p i src chan k : Nat) : (s.cntAdd p i src chan k).shadow = s.shadow := State.sameBut_shadow (State.cntAdd_sameBut s p i src chan k)
@[simp] theorem State.cntAdd_hiLatch (s : State) (p i src chan k : Nat) : (s.cntAdd p i src chan k).hiLatch = s.hiLatch := State.sameBut_hiLatch (State.cntAdd_sameBut s p i src chan k)
@[simp] theorem State.cntAdd_loStage (s : State) (p i src chan k : Nat) : (s.cntAdd p i src chan k).loStage = s.loStage := State.sameBut_loStage (State.cntAdd_sameBut s p i src chan k)
@[simp] theorem State.cntAdd_violog (s : State) (p i src chan k : Nat) : (s.cntAdd p i src chan k).violog = s.violog := State.sameBut_violog (State.cntAdd_sameBut s p i src chan k)
@[simp] theorem State.cntAdd_groups (s : State) (p i src chan k : Nat) : (s.cntAdd p i src chan k).groups = s.groups := State.sameBut_groups (State.cntAdd_sameBut s p i src chan k)
@[simp] theorem State.cntAdd_bounds (s : State) (p i src chan k : Nat) : (s.cntAdd p i src chan k).bounds = s.bounds := State.sameBut_bounds (State.cntAdd_sameBut s p i src chan k)
@[simp] theorem State.cntAdd_txs (s : State) (p i src chan k : Nat) : (s.cntAdd p i src chan k).txs = s.txs := State.sameBut_txs (State.cntAdd_sameBut s p i src chan k)
@[simp] theorem State.cntAdd_splits (s : State) (p i src chan k : Nat) : (s.cntAdd p i src chan k).splits = s.splits := State.sameBut_splits (State.cntAdd_sameBut s p i src chan k)
@[simp] theorem State.cntAdd_boot (s : State) (p i src chan k : Nat) : (s.cntAdd p i src chan k).boot = s.boot := State.sameBut_boot (State.cntAdd_sameBut s p i src chan k)
@[simp] theorem State.cntAdd_croz (s : State) (p i src chan k : Nat) : (s.cntAdd p i src chan k).croz = s.croz := State.sameBut_croz (State.cntAdd_sameBut s p i src chan k)
@[simp] theorem State.cntAdd_cs (s : State) (p i src chan k : Nat) : (s.cntAdd p i src chan k).cs = s.cs := State.sameBut_cs (State.cntAdd_sameBut s p i src chan k)
@[simp] theorem State.cntAdd_players (s : State) (p i src chan k : Nat) : (s.cntAdd p i src chan k).players = s.players := State.sameBut_players (State.cntAdd_sameBut s p i src chan k)
@[simp] theorem State.cntAdd_chains (s : State) (p i src chan k : Nat) : (s.cntAdd p i src chan k).chains = s.chains := State.sameBut_chains (State.cntAdd_sameBut s p i src chan k)
@[simp] theorem State.cntAdd_pins (s : State) (p i src chan k : Nat) : (s.cntAdd p i src chan k).pins = s.pins := State.sameBut_pins (State.cntAdd_sameBut s p i src chan k)
@[simp] theorem State.cntAdd_rings (s : State) (p i src chan k : Nat) : (s.cntAdd p i src chan k).rings = s.rings := State.sameBut_rings (State.cntAdd_sameBut s p i src chan k)
@[simp] theorem State.cntAdd_descs (s : State) (p i src chan k : Nat) : (s.cntAdd p i src chan k).descs = s.descs := State.sameBut_descs (State.cntAdd_sameBut s p i src chan k)
@[simp] theorem State.cntAdd_lists (s : State) (p i src chan k : Nat) : (s.cntAdd p i src chan k).lists = s.lists := State.sameBut_lists (State.cntAdd_sameBut s p i src chan k)
@[simp] theorem State.cntAdd_sram (s : State) (p i src chan k : Nat) : (s.cntAdd p i src chan k).sram = s.sram := State.sameBut_sram (State.cntAdd_sameBut s p i src chan k)
@[simp] theorem State.cntAdd_sec (s : State) (p i src chan k : Nat) : (s.cntAdd p i src chan k).sec = s.sec := State.sameBut_sec (State.cntAdd_sameBut s p i src chan k)
@[simp] theorem State.cntAdd_gddr (s : State) (p i src chan k : Nat) : (s.cntAdd p i src chan k).gddr = s.gddr := State.sameBut_gddr (State.cntAdd_sameBut s p i src chan k)
@[simp] theorem State.cntAdd_fes (s : State) (p i src chan k : Nat) : (s.cntAdd p i src chan k).fes = s.fes := State.sameBut_fes (State.cntAdd_sameBut s p i src chan k)
@[simp] theorem State.cntAdd_wmem (s : State) (p i src chan k : Nat) : (s.cntAdd p i src chan k).wmem = s.wmem := State.sameBut_wmem (State.cntAdd_sameBut s p i src chan k)
@[simp] theorem State.cntAdd_bus (s : State) (p i src chan k : Nat) : (s.cntAdd p i src chan k).bus = s.bus := State.sameBut_bus (State.cntAdd_sameBut s p i src chan k)
@[simp] theorem State.cntAdd_sorus (s : State) (p i src chan k : Nat) : (s.cntAdd p i src chan k).sorus = s.sorus := State.sameBut_sorus (State.cntAdd_sameBut s p i src chan k)
@[simp] theorem State.cntAdd_slots (s : State) (p i src chan k : Nat) : (s.cntAdd p i src chan k).slots = s.slots := State.sameBut_slots (State.cntAdd_sameBut s p i src chan k)
@[simp] theorem State.cntAdd_acqs (s : State) (p i src chan k : Nat) : (s.cntAdd p i src chan k).acqs = s.acqs := State.sameBut_acqs (State.cntAdd_sameBut s p i src chan k)
@[simp] theorem State.cntAdd_queues (s : State) (p i src chan k : Nat) : (s.cntAdd p i src chan k).queues = s.queues := State.sameBut_queues (State.cntAdd_sameBut s p i src chan k)
@[simp] theorem State.cntAdd_qmem (s : State) (p i src chan k : Nat) : (s.cntAdd p i src chan k).qmem = s.qmem := State.sameBut_qmem (State.cntAdd_sameBut s p i src chan k)
@[simp] theorem State.cntAdd_transit (s : State) (p i src chan k : Nat) : (s.cntAdd p i src chan k).transit = s.transit := State.sameBut_transit (State.cntAdd_sameBut s p i src chan k)
@[simp] theorem State.cntAdd_hypha (s : State) (p i src chan k : Nat) : (s.cntAdd p i src chan k).hypha = s.hypha := State.sameBut_hypha (State.cntAdd_sameBut s p i src chan k)
@[simp] theorem State.cntAdd_hk (s : State) (p i src chan k : Nat) : (s.cntAdd p i src chan k).hk = s.hk := State.sameBut_hk (State.cntAdd_sameBut s p i src chan k)
@[simp] theorem State.cntAdd_time (s : State) (p i src chan k : Nat) : (s.cntAdd p i src chan k).time = s.time := State.sameBut_time (State.cntAdd_sameBut s p i src chan k)
@[simp] theorem State.cntAdd_cal (s : State) (p i src chan k : Nat) : (s.cntAdd p i src chan k).cal = s.cal := State.sameBut_cal (State.cntAdd_sameBut s p i src chan k)
@[simp] theorem State.cntAdd_therm (s : State) (p i src chan k : Nat) : (s.cntAdd p i src chan k).therm = s.therm := State.sameBut_therm (State.cntAdd_sameBut s p i src chan k)
@[simp] theorem State.cntAdd_link (s : State) (p i src chan k : Nat) : (s.cntAdd p i src chan k).link = s.link := State.sameBut_link (State.cntAdd_sameBut s p i src chan k)
@[simp] theorem State.cntAdd_tx (s : State) (p i src chan k : Nat) : (s.cntAdd p i src chan k).tx = s.tx := State.sameBut_tx (State.cntAdd_sameBut s p i src chan k)
@[simp] theorem State.cntAdd_fresh (s : State) (p i src chan k : Nat) : (s.cntAdd p i src chan k).fresh = s.fresh := State.sameBut_fresh (State.cntAdd_sameBut s p i src chan k)
@[simp] theorem State.cntAdd_pending (s : State) (p i src chan k : Nat) : (s.cntAdd p i src chan k).pending = s.pending := State.sameBut_pending (State.cntAdd_sameBut s p i src chan k)
@[simp] theorem State.cntAdd_ticking (s : State) (p i src chan k : Nat) : (s.cntAdd p i src chan k).ticking = s.ticking := State.sameBut_ticking (State.cntAdd_sameBut s p i src chan k)
@[simp] theorem State.cntAdd_trigs (s : State) (p i src chan k : Nat) : (s.cntAdd p i src chan k).trigs = s.trigs := State.sameBut_trigs (State.cntAdd_sameBut s p i src chan k)
@[simp] theorem State.occur_beat (s : State) (src k : Nat) : (s.occur src k).beat = s.beat := State.sameBut_beat (State.occur_sameBut s src k)
@[simp] theorem State.occur_shadow (s : State) (src k : Nat) : (s.occur src k).shadow = s.shadow := State.sameBut_shadow (State.occur_sameBut s src k)
@[simp] theorem State.occur_hiLatch (s : State) (src k : Nat) : (s.occur src k).hiLatch = s.hiLatch := State.sameBut_hiLatch (State.occur_sameBut s src k)
@[simp] theorem State.occur_loStage (s : State) (src k : Nat) : (s.occur src k).loStage = s.loStage := State.sameBut_loStage (State.occur_sameBut s src k)
@[simp] theorem State.occur_violog (s : State) (src k : Nat) : (s.occur src k).violog = s.violog := State.sameBut_violog (State.occur_sameBut s src k)
@[simp] theorem State.occur_groups (s : State) (src k : Nat) : (s.occur src k).groups = s.groups := State.sameBut_groups (State.occur_sameBut s src k)
@[simp] theorem State.occur_bounds (s : State) (src k : Nat) : (s.occur src k).bounds = s.bounds := State.sameBut_bounds (State.occur_sameBut s src k)
@[simp] theorem State.occur_txs (s : State) (src k : Nat) : (s.occur src k).txs = s.txs := State.sameBut_txs (State.occur_sameBut s src k)
@[simp] theorem State.occur_splits (s : State) (src k : Nat) : (s.occur src k).splits = s.splits := State.sameBut_splits (State.occur_sameBut s src k)
@[simp] theorem State.occur_boot (s : State) (src k : Nat) : (s.occur src k).boot = s.boot := State.sameBut_boot (State.occur_sameBut s src k)
@[simp] theorem State.occur_croz (s : State) (src k : Nat) : (s.occur src k).croz = s.croz := State.sameBut_croz (State.occur_sameBut s src k)
@[simp] theorem State.occur_cs (s : State) (src k : Nat) : (s.occur src k).cs = s.cs := State.sameBut_cs (State.occur_sameBut s src k)
@[simp] theorem State.occur_players (s : State) (src k : Nat) : (s.occur src k).players = s.players := State.sameBut_players (State.occur_sameBut s src k)
@[simp] theorem State.occur_chains (s : State) (src k : Nat) : (s.occur src k).chains = s.chains := State.sameBut_chains (State.occur_sameBut s src k)
@[simp] theorem State.occur_pins (s : State) (src k : Nat) : (s.occur src k).pins = s.pins := State.sameBut_pins (State.occur_sameBut s src k)
@[simp] theorem State.occur_rings (s : State) (src k : Nat) : (s.occur src k).rings = s.rings := State.sameBut_rings (State.occur_sameBut s src k)
@[simp] theorem State.occur_descs (s : State) (src k : Nat) : (s.occur src k).descs = s.descs := State.sameBut_descs (State.occur_sameBut s src k)
@[simp] theorem State.occur_lists (s : State) (src k : Nat) : (s.occur src k).lists = s.lists := State.sameBut_lists (State.occur_sameBut s src k)
@[simp] theorem State.occur_sram (s : State) (src k : Nat) : (s.occur src k).sram = s.sram := State.sameBut_sram (State.occur_sameBut s src k)
@[simp] theorem State.occur_sec (s : State) (src k : Nat) : (s.occur src k).sec = s.sec := State.sameBut_sec (State.occur_sameBut s src k)
@[simp] theorem State.occur_gddr (s : State) (src k : Nat) : (s.occur src k).gddr = s.gddr := State.sameBut_gddr (State.occur_sameBut s src k)
@[simp] theorem State.occur_fes (s : State) (src k : Nat) : (s.occur src k).fes = s.fes := State.sameBut_fes (State.occur_sameBut s src k)
@[simp] theorem State.occur_wmem (s : State) (src k : Nat) : (s.occur src k).wmem = s.wmem := State.sameBut_wmem (State.occur_sameBut s src k)
@[simp] theorem State.occur_bus (s : State) (src k : Nat) : (s.occur src k).bus = s.bus := State.sameBut_bus (State.occur_sameBut s src k)
@[simp] theorem State.occur_sorus (s : State) (src k : Nat) : (s.occur src k).sorus = s.sorus := State.sameBut_sorus (State.occur_sameBut s src k)
@[simp] theorem State.occur_slots (s : State) (src k : Nat) : (s.occur src k).slots = s.slots := State.sameBut_slots (State.occur_sameBut s src k)
@[simp] theorem State.occur_acqs (s : State) (src k : Nat) : (s.occur src k).acqs = s.acqs := State.sameBut_acqs (State.occur_sameBut s src k)
@[simp] theorem State.occur_queues (s : State) (src k : Nat) : (s.occur src k).queues = s.queues := State.sameBut_queues (State.occur_sameBut s src k)
@[simp] theorem State.occur_qmem (s : State) (src k : Nat) : (s.occur src k).qmem = s.qmem := State.sameBut_qmem (State.occur_sameBut s src k)
@[simp] theorem State.occur_transit (s : State) (src k : Nat) : (s.occur src k).transit = s.transit := State.sameBut_transit (State.occur_sameBut s src k)
@[simp] theorem State.occur_hypha (s : State) (src k : Nat) : (s.occur src k).hypha = s.hypha := State.sameBut_hypha (State.occur_sameBut s src k)
@[simp] theorem State.occur_hk (s : State) (src k : Nat) : (s.occur src k).hk = s.hk := State.sameBut_hk (State.occur_sameBut s src k)
@[simp] theorem State.occur_time (s : State) (src k : Nat) : (s.occur src k).time = s.time := State.sameBut_time (State.occur_sameBut s src k)
@[simp] theorem State.occur_cal (s : State) (src k : Nat) : (s.occur src k).cal = s.cal := State.sameBut_cal (State.occur_sameBut s src k)
@[simp] theorem State.occur_therm (s : State) (src k : Nat) : (s.occur src k).therm = s.therm := State.sameBut_therm (State.occur_sameBut s src k)
@[simp] theorem State.occur_link (s : State) (src k : Nat) : (s.occur src k).link = s.link := State.sameBut_link (State.occur_sameBut s src k)
@[simp] theorem State.occur_tx (s : State) (src k : Nat) : (s.occur src k).tx = s.tx := State.sameBut_tx (State.occur_sameBut s src k)
@[simp] theorem State.occur_fresh (s : State) (src k : Nat) : (s.occur src k).fresh = s.fresh := State.sameBut_fresh (State.occur_sameBut s src k)
@[simp] theorem State.occur_pending (s : State) (src k : Nat) : (s.occur src k).pending = s.pending := State.sameBut_pending (State.occur_sameBut s src k)
@[simp] theorem State.occur_ticking (s : State) (src k : Nat) : (s.occur src k).ticking = s.ticking := State.sameBut_ticking (State.occur_sameBut s src k)
@[simp] theorem State.occur_trigs (s : State) (src k : Nat) : (s.occur src k).trigs = s.trigs := State.sameBut_trigs (State.occur_sameBut s src k)
@[simp] theorem State.count_beat (s : State) (p : Pg) (n k : Nat) : (s.count p n k).beat = s.beat := State.sameBut_beat (State.count_sameBut s p n k)
@[simp] theorem State.count_shadow (s : State) (p : Pg) (n k : Nat) : (s.count p n k).shadow = s.shadow := State.sameBut_shadow (State.count_sameBut s p n k)
@[simp] theorem State.count_hiLatch (s : State) (p : Pg) (n k : Nat) : (s.count p n k).hiLatch = s.hiLatch := State.sameBut_hiLatch (State.count_sameBut s p n k)
@[simp] theorem State.count_loStage (s : State) (p : Pg) (n k : Nat) : (s.count p n k).loStage = s.loStage := State.sameBut_loStage (State.count_sameBut s p n k)
@[simp] theorem State.count_violog (s : State) (p : Pg) (n k : Nat) : (s.count p n k).violog = s.violog := State.sameBut_violog (State.count_sameBut s p n k)
@[simp] theorem State.count_groups (s : State) (p : Pg) (n k : Nat) : (s.count p n k).groups = s.groups := State.sameBut_groups (State.count_sameBut s p n k)
@[simp] theorem State.count_bounds (s : State) (p : Pg) (n k : Nat) : (s.count p n k).bounds = s.bounds := State.sameBut_bounds (State.count_sameBut s p n k)
@[simp] theorem State.count_txs (s : State) (p : Pg) (n k : Nat) : (s.count p n k).txs = s.txs := State.sameBut_txs (State.count_sameBut s p n k)
@[simp] theorem State.count_splits (s : State) (p : Pg) (n k : Nat) : (s.count p n k).splits = s.splits := State.sameBut_splits (State.count_sameBut s p n k)
@[simp] theorem State.count_boot (s : State) (p : Pg) (n k : Nat) : (s.count p n k).boot = s.boot := State.sameBut_boot (State.count_sameBut s p n k)
@[simp] theorem State.count_croz (s : State) (p : Pg) (n k : Nat) : (s.count p n k).croz = s.croz := State.sameBut_croz (State.count_sameBut s p n k)
@[simp] theorem State.count_cs (s : State) (p : Pg) (n k : Nat) : (s.count p n k).cs = s.cs := State.sameBut_cs (State.count_sameBut s p n k)
@[simp] theorem State.count_players (s : State) (p : Pg) (n k : Nat) : (s.count p n k).players = s.players := State.sameBut_players (State.count_sameBut s p n k)
@[simp] theorem State.count_chains (s : State) (p : Pg) (n k : Nat) : (s.count p n k).chains = s.chains := State.sameBut_chains (State.count_sameBut s p n k)
@[simp] theorem State.count_pins (s : State) (p : Pg) (n k : Nat) : (s.count p n k).pins = s.pins := State.sameBut_pins (State.count_sameBut s p n k)
@[simp] theorem State.count_rings (s : State) (p : Pg) (n k : Nat) : (s.count p n k).rings = s.rings := State.sameBut_rings (State.count_sameBut s p n k)
@[simp] theorem State.count_descs (s : State) (p : Pg) (n k : Nat) : (s.count p n k).descs = s.descs := State.sameBut_descs (State.count_sameBut s p n k)
@[simp] theorem State.count_lists (s : State) (p : Pg) (n k : Nat) : (s.count p n k).lists = s.lists := State.sameBut_lists (State.count_sameBut s p n k)
@[simp] theorem State.count_sram (s : State) (p : Pg) (n k : Nat) : (s.count p n k).sram = s.sram := State.sameBut_sram (State.count_sameBut s p n k)
@[simp] theorem State.count_sec (s : State) (p : Pg) (n k : Nat) : (s.count p n k).sec = s.sec := State.sameBut_sec (State.count_sameBut s p n k)
@[simp] theorem State.count_gddr (s : State) (p : Pg) (n k : Nat) : (s.count p n k).gddr = s.gddr := State.sameBut_gddr (State.count_sameBut s p n k)
@[simp] theorem State.count_fes (s : State) (p : Pg) (n k : Nat) : (s.count p n k).fes = s.fes := State.sameBut_fes (State.count_sameBut s p n k)
@[simp] theorem State.count_wmem (s : State) (p : Pg) (n k : Nat) : (s.count p n k).wmem = s.wmem := State.sameBut_wmem (State.count_sameBut s p n k)
@[simp] theorem State.count_bus (s : State) (p : Pg) (n k : Nat) : (s.count p n k).bus = s.bus := State.sameBut_bus (State.count_sameBut s p n k)
@[simp] theorem State.count_sorus (s : State) (p : Pg) (n k : Nat) : (s.count p n k).sorus = s.sorus := State.sameBut_sorus (State.count_sameBut s p n k)
@[simp] theorem State.count_slots (s : State) (p : Pg) (n k : Nat) : (s.count p n k).slots = s.slots := State.sameBut_slots (State.count_sameBut s p n k)
@[simp] theorem State.count_acqs (s : State) (p : Pg) (n k : Nat) : (s.count p n k).acqs = s.acqs := State.sameBut_acqs (State.count_sameBut s p n k)
@[simp] theorem State.count_queues (s : State) (p : Pg) (n k : Nat) : (s.count p n k).queues = s.queues := State.sameBut_queues (State.count_sameBut s p n k)
@[simp] theorem State.count_qmem (s : State) (p : Pg) (n k : Nat) : (s.count p n k).qmem = s.qmem := State.sameBut_qmem (State.count_sameBut s p n k)
@[simp] theorem State.count_transit (s : State) (p : Pg) (n k : Nat) : (s.count p n k).transit = s.transit := State.sameBut_transit (State.count_sameBut s p n k)
@[simp] theorem State.count_hypha (s : State) (p : Pg) (n k : Nat) : (s.count p n k).hypha = s.hypha := State.sameBut_hypha (State.count_sameBut s p n k)
@[simp] theorem State.count_hk (s : State) (p : Pg) (n k : Nat) : (s.count p n k).hk = s.hk := State.sameBut_hk (State.count_sameBut s p n k)
@[simp] theorem State.count_time (s : State) (p : Pg) (n k : Nat) : (s.count p n k).time = s.time := State.sameBut_time (State.count_sameBut s p n k)
@[simp] theorem State.count_cal (s : State) (p : Pg) (n k : Nat) : (s.count p n k).cal = s.cal := State.sameBut_cal (State.count_sameBut s p n k)
@[simp] theorem State.count_therm (s : State) (p : Pg) (n k : Nat) : (s.count p n k).therm = s.therm := State.sameBut_therm (State.count_sameBut s p n k)
@[simp] theorem State.count_link (s : State) (p : Pg) (n k : Nat) : (s.count p n k).link = s.link := State.sameBut_link (State.count_sameBut s p n k)
@[simp] theorem State.count_tx (s : State) (p : Pg) (n k : Nat) : (s.count p n k).tx = s.tx := State.sameBut_tx (State.count_sameBut s p n k)
@[simp] theorem State.count_fresh (s : State) (p : Pg) (n k : Nat) : (s.count p n k).fresh = s.fresh := State.sameBut_fresh (State.count_sameBut s p n k)
@[simp] theorem State.count_pending (s : State) (p : Pg) (n k : Nat) : (s.count p n k).pending = s.pending := State.sameBut_pending (State.count_sameBut s p n k)
@[simp] theorem State.count_ticking (s : State) (p : Pg) (n k : Nat) : (s.count p n k).ticking = s.ticking := State.sameBut_ticking (State.count_sameBut s p n k)
@[simp] theorem State.count_trigs (s : State) (p : Pg) (n k : Nat) : (s.count p n k).trigs = s.trigs := State.sameBut_trigs (State.count_sameBut s p n k)
@[simp] theorem State.irqAfterWrite_beat (s : State) (p : Pg) : (s.irqAfterWrite p).beat = s.beat := State.sameBut_beat (State.irqAfterWrite_sameBut s p)
@[simp] theorem State.irqAfterWrite_shadow (s : State) (p : Pg) : (s.irqAfterWrite p).shadow = s.shadow := State.sameBut_shadow (State.irqAfterWrite_sameBut s p)
@[simp] theorem State.irqAfterWrite_hiLatch (s : State) (p : Pg) : (s.irqAfterWrite p).hiLatch = s.hiLatch := State.sameBut_hiLatch (State.irqAfterWrite_sameBut s p)
@[simp] theorem State.irqAfterWrite_loStage (s : State) (p : Pg) : (s.irqAfterWrite p).loStage = s.loStage := State.sameBut_loStage (State.irqAfterWrite_sameBut s p)
@[simp] theorem State.irqAfterWrite_violog (s : State) (p : Pg) : (s.irqAfterWrite p).violog = s.violog := State.sameBut_violog (State.irqAfterWrite_sameBut s p)
@[simp] theorem State.irqAfterWrite_groups (s : State) (p : Pg) : (s.irqAfterWrite p).groups = s.groups := State.sameBut_groups (State.irqAfterWrite_sameBut s p)
@[simp] theorem State.irqAfterWrite_bounds (s : State) (p : Pg) : (s.irqAfterWrite p).bounds = s.bounds := State.sameBut_bounds (State.irqAfterWrite_sameBut s p)
@[simp] theorem State.irqAfterWrite_txs (s : State) (p : Pg) : (s.irqAfterWrite p).txs = s.txs := State.sameBut_txs (State.irqAfterWrite_sameBut s p)
@[simp] theorem State.irqAfterWrite_splits (s : State) (p : Pg) : (s.irqAfterWrite p).splits = s.splits := State.sameBut_splits (State.irqAfterWrite_sameBut s p)
@[simp] theorem State.irqAfterWrite_boot (s : State) (p : Pg) : (s.irqAfterWrite p).boot = s.boot := State.sameBut_boot (State.irqAfterWrite_sameBut s p)
@[simp] theorem State.irqAfterWrite_croz (s : State) (p : Pg) : (s.irqAfterWrite p).croz = s.croz := State.sameBut_croz (State.irqAfterWrite_sameBut s p)
@[simp] theorem State.irqAfterWrite_cs (s : State) (p : Pg) : (s.irqAfterWrite p).cs = s.cs := State.sameBut_cs (State.irqAfterWrite_sameBut s p)
@[simp] theorem State.irqAfterWrite_players (s : State) (p : Pg) : (s.irqAfterWrite p).players = s.players := State.sameBut_players (State.irqAfterWrite_sameBut s p)
@[simp] theorem State.irqAfterWrite_chains (s : State) (p : Pg) : (s.irqAfterWrite p).chains = s.chains := State.sameBut_chains (State.irqAfterWrite_sameBut s p)
@[simp] theorem State.irqAfterWrite_pins (s : State) (p : Pg) : (s.irqAfterWrite p).pins = s.pins := State.sameBut_pins (State.irqAfterWrite_sameBut s p)
@[simp] theorem State.irqAfterWrite_rings (s : State) (p : Pg) : (s.irqAfterWrite p).rings = s.rings := State.sameBut_rings (State.irqAfterWrite_sameBut s p)
@[simp] theorem State.irqAfterWrite_descs (s : State) (p : Pg) : (s.irqAfterWrite p).descs = s.descs := State.sameBut_descs (State.irqAfterWrite_sameBut s p)
@[simp] theorem State.irqAfterWrite_lists (s : State) (p : Pg) : (s.irqAfterWrite p).lists = s.lists := State.sameBut_lists (State.irqAfterWrite_sameBut s p)
@[simp] theorem State.irqAfterWrite_sram (s : State) (p : Pg) : (s.irqAfterWrite p).sram = s.sram := State.sameBut_sram (State.irqAfterWrite_sameBut s p)
@[simp] theorem State.irqAfterWrite_sec (s : State) (p : Pg) : (s.irqAfterWrite p).sec = s.sec := State.sameBut_sec (State.irqAfterWrite_sameBut s p)
@[simp] theorem State.irqAfterWrite_gddr (s : State) (p : Pg) : (s.irqAfterWrite p).gddr = s.gddr := State.sameBut_gddr (State.irqAfterWrite_sameBut s p)
@[simp] theorem State.irqAfterWrite_fes (s : State) (p : Pg) : (s.irqAfterWrite p).fes = s.fes := State.sameBut_fes (State.irqAfterWrite_sameBut s p)
@[simp] theorem State.irqAfterWrite_wmem (s : State) (p : Pg) : (s.irqAfterWrite p).wmem = s.wmem := State.sameBut_wmem (State.irqAfterWrite_sameBut s p)
@[simp] theorem State.irqAfterWrite_bus (s : State) (p : Pg) : (s.irqAfterWrite p).bus = s.bus := State.sameBut_bus (State.irqAfterWrite_sameBut s p)
@[simp] theorem State.irqAfterWrite_sorus (s : State) (p : Pg) : (s.irqAfterWrite p).sorus = s.sorus := State.sameBut_sorus (State.irqAfterWrite_sameBut s p)
@[simp] theorem State.irqAfterWrite_slots (s : State) (p : Pg) : (s.irqAfterWrite p).slots = s.slots := State.sameBut_slots (State.irqAfterWrite_sameBut s p)
@[simp] theorem State.irqAfterWrite_acqs (s : State) (p : Pg) : (s.irqAfterWrite p).acqs = s.acqs := State.sameBut_acqs (State.irqAfterWrite_sameBut s p)
@[simp] theorem State.irqAfterWrite_queues (s : State) (p : Pg) : (s.irqAfterWrite p).queues = s.queues := State.sameBut_queues (State.irqAfterWrite_sameBut s p)
@[simp] theorem State.irqAfterWrite_qmem (s : State) (p : Pg) : (s.irqAfterWrite p).qmem = s.qmem := State.sameBut_qmem (State.irqAfterWrite_sameBut s p)
@[simp] theorem State.irqAfterWrite_transit (s : State) (p : Pg) : (s.irqAfterWrite p).transit = s.transit := State.sameBut_transit (State.irqAfterWrite_sameBut s p)
@[simp] theorem State.irqAfterWrite_hypha (s : State) (p : Pg) : (s.irqAfterWrite p).hypha = s.hypha := State.sameBut_hypha (State.irqAfterWrite_sameBut s p)
@[simp] theorem State.irqAfterWrite_hk (s : State) (p : Pg) : (s.irqAfterWrite p).hk = s.hk := State.sameBut_hk (State.irqAfterWrite_sameBut s p)
@[simp] theorem State.irqAfterWrite_time (s : State) (p : Pg) : (s.irqAfterWrite p).time = s.time := State.sameBut_time (State.irqAfterWrite_sameBut s p)
@[simp] theorem State.irqAfterWrite_cal (s : State) (p : Pg) : (s.irqAfterWrite p).cal = s.cal := State.sameBut_cal (State.irqAfterWrite_sameBut s p)
@[simp] theorem State.irqAfterWrite_therm (s : State) (p : Pg) : (s.irqAfterWrite p).therm = s.therm := State.sameBut_therm (State.irqAfterWrite_sameBut s p)
@[simp] theorem State.irqAfterWrite_link (s : State) (p : Pg) : (s.irqAfterWrite p).link = s.link := State.sameBut_link (State.irqAfterWrite_sameBut s p)
@[simp] theorem State.irqAfterWrite_tx (s : State) (p : Pg) : (s.irqAfterWrite p).tx = s.tx := State.sameBut_tx (State.irqAfterWrite_sameBut s p)
@[simp] theorem State.irqAfterWrite_fresh (s : State) (p : Pg) : (s.irqAfterWrite p).fresh = s.fresh := State.sameBut_fresh (State.irqAfterWrite_sameBut s p)
@[simp] theorem State.irqAfterWrite_pending (s : State) (p : Pg) : (s.irqAfterWrite p).pending = s.pending := State.sameBut_pending (State.irqAfterWrite_sameBut s p)
@[simp] theorem State.irqAfterWrite_ticking (s : State) (p : Pg) : (s.irqAfterWrite p).ticking = s.ticking := State.sameBut_ticking (State.irqAfterWrite_sameBut s p)
@[simp] theorem State.irqAfterWrite_trigs (s : State) (p : Pg) : (s.irqAfterWrite p).trigs = s.trigs := State.sameBut_trigs (State.irqAfterWrite_sameBut s p)
@[simp] theorem State.flagsClear_beat (s : State) (p : Pg) (v : Word) : (s.flagsClear p v).beat = s.beat := State.sameBut_beat (State.flagsClear_sameBut s p v)
@[simp] theorem State.flagsClear_shadow (s : State) (p : Pg) (v : Word) : (s.flagsClear p v).shadow = s.shadow := State.sameBut_shadow (State.flagsClear_sameBut s p v)
@[simp] theorem State.flagsClear_hiLatch (s : State) (p : Pg) (v : Word) : (s.flagsClear p v).hiLatch = s.hiLatch := State.sameBut_hiLatch (State.flagsClear_sameBut s p v)
@[simp] theorem State.flagsClear_loStage (s : State) (p : Pg) (v : Word) : (s.flagsClear p v).loStage = s.loStage := State.sameBut_loStage (State.flagsClear_sameBut s p v)
@[simp] theorem State.flagsClear_violog (s : State) (p : Pg) (v : Word) : (s.flagsClear p v).violog = s.violog := State.sameBut_violog (State.flagsClear_sameBut s p v)
@[simp] theorem State.flagsClear_groups (s : State) (p : Pg) (v : Word) : (s.flagsClear p v).groups = s.groups := State.sameBut_groups (State.flagsClear_sameBut s p v)
@[simp] theorem State.flagsClear_bounds (s : State) (p : Pg) (v : Word) : (s.flagsClear p v).bounds = s.bounds := State.sameBut_bounds (State.flagsClear_sameBut s p v)
@[simp] theorem State.flagsClear_txs (s : State) (p : Pg) (v : Word) : (s.flagsClear p v).txs = s.txs := State.sameBut_txs (State.flagsClear_sameBut s p v)
@[simp] theorem State.flagsClear_splits (s : State) (p : Pg) (v : Word) : (s.flagsClear p v).splits = s.splits := State.sameBut_splits (State.flagsClear_sameBut s p v)
@[simp] theorem State.flagsClear_boot (s : State) (p : Pg) (v : Word) : (s.flagsClear p v).boot = s.boot := State.sameBut_boot (State.flagsClear_sameBut s p v)
@[simp] theorem State.flagsClear_croz (s : State) (p : Pg) (v : Word) : (s.flagsClear p v).croz = s.croz := State.sameBut_croz (State.flagsClear_sameBut s p v)
@[simp] theorem State.flagsClear_cs (s : State) (p : Pg) (v : Word) : (s.flagsClear p v).cs = s.cs := State.sameBut_cs (State.flagsClear_sameBut s p v)
@[simp] theorem State.flagsClear_players (s : State) (p : Pg) (v : Word) : (s.flagsClear p v).players = s.players := State.sameBut_players (State.flagsClear_sameBut s p v)
@[simp] theorem State.flagsClear_chains (s : State) (p : Pg) (v : Word) : (s.flagsClear p v).chains = s.chains := State.sameBut_chains (State.flagsClear_sameBut s p v)
@[simp] theorem State.flagsClear_pins (s : State) (p : Pg) (v : Word) : (s.flagsClear p v).pins = s.pins := State.sameBut_pins (State.flagsClear_sameBut s p v)
@[simp] theorem State.flagsClear_rings (s : State) (p : Pg) (v : Word) : (s.flagsClear p v).rings = s.rings := State.sameBut_rings (State.flagsClear_sameBut s p v)
@[simp] theorem State.flagsClear_descs (s : State) (p : Pg) (v : Word) : (s.flagsClear p v).descs = s.descs := State.sameBut_descs (State.flagsClear_sameBut s p v)
@[simp] theorem State.flagsClear_lists (s : State) (p : Pg) (v : Word) : (s.flagsClear p v).lists = s.lists := State.sameBut_lists (State.flagsClear_sameBut s p v)
@[simp] theorem State.flagsClear_sram (s : State) (p : Pg) (v : Word) : (s.flagsClear p v).sram = s.sram := State.sameBut_sram (State.flagsClear_sameBut s p v)
@[simp] theorem State.flagsClear_sec (s : State) (p : Pg) (v : Word) : (s.flagsClear p v).sec = s.sec := State.sameBut_sec (State.flagsClear_sameBut s p v)
@[simp] theorem State.flagsClear_gddr (s : State) (p : Pg) (v : Word) : (s.flagsClear p v).gddr = s.gddr := State.sameBut_gddr (State.flagsClear_sameBut s p v)
@[simp] theorem State.flagsClear_fes (s : State) (p : Pg) (v : Word) : (s.flagsClear p v).fes = s.fes := State.sameBut_fes (State.flagsClear_sameBut s p v)
@[simp] theorem State.flagsClear_wmem (s : State) (p : Pg) (v : Word) : (s.flagsClear p v).wmem = s.wmem := State.sameBut_wmem (State.flagsClear_sameBut s p v)
@[simp] theorem State.flagsClear_bus (s : State) (p : Pg) (v : Word) : (s.flagsClear p v).bus = s.bus := State.sameBut_bus (State.flagsClear_sameBut s p v)
@[simp] theorem State.flagsClear_sorus (s : State) (p : Pg) (v : Word) : (s.flagsClear p v).sorus = s.sorus := State.sameBut_sorus (State.flagsClear_sameBut s p v)
@[simp] theorem State.flagsClear_slots (s : State) (p : Pg) (v : Word) : (s.flagsClear p v).slots = s.slots := State.sameBut_slots (State.flagsClear_sameBut s p v)
@[simp] theorem State.flagsClear_acqs (s : State) (p : Pg) (v : Word) : (s.flagsClear p v).acqs = s.acqs := State.sameBut_acqs (State.flagsClear_sameBut s p v)
@[simp] theorem State.flagsClear_queues (s : State) (p : Pg) (v : Word) : (s.flagsClear p v).queues = s.queues := State.sameBut_queues (State.flagsClear_sameBut s p v)
@[simp] theorem State.flagsClear_qmem (s : State) (p : Pg) (v : Word) : (s.flagsClear p v).qmem = s.qmem := State.sameBut_qmem (State.flagsClear_sameBut s p v)
@[simp] theorem State.flagsClear_transit (s : State) (p : Pg) (v : Word) : (s.flagsClear p v).transit = s.transit := State.sameBut_transit (State.flagsClear_sameBut s p v)
@[simp] theorem State.flagsClear_hypha (s : State) (p : Pg) (v : Word) : (s.flagsClear p v).hypha = s.hypha := State.sameBut_hypha (State.flagsClear_sameBut s p v)
@[simp] theorem State.flagsClear_hk (s : State) (p : Pg) (v : Word) : (s.flagsClear p v).hk = s.hk := State.sameBut_hk (State.flagsClear_sameBut s p v)
@[simp] theorem State.flagsClear_time (s : State) (p : Pg) (v : Word) : (s.flagsClear p v).time = s.time := State.sameBut_time (State.flagsClear_sameBut s p v)
@[simp] theorem State.flagsClear_cal (s : State) (p : Pg) (v : Word) : (s.flagsClear p v).cal = s.cal := State.sameBut_cal (State.flagsClear_sameBut s p v)
@[simp] theorem State.flagsClear_therm (s : State) (p : Pg) (v : Word) : (s.flagsClear p v).therm = s.therm := State.sameBut_therm (State.flagsClear_sameBut s p v)
@[simp] theorem State.flagsClear_link (s : State) (p : Pg) (v : Word) : (s.flagsClear p v).link = s.link := State.sameBut_link (State.flagsClear_sameBut s p v)
@[simp] theorem State.flagsClear_tx (s : State) (p : Pg) (v : Word) : (s.flagsClear p v).tx = s.tx := State.sameBut_tx (State.flagsClear_sameBut s p v)
@[simp] theorem State.flagsClear_fresh (s : State) (p : Pg) (v : Word) : (s.flagsClear p v).fresh = s.fresh := State.sameBut_fresh (State.flagsClear_sameBut s p v)
@[simp] theorem State.flagsClear_pending (s : State) (p : Pg) (v : Word) : (s.flagsClear p v).pending = s.pending := State.sameBut_pending (State.flagsClear_sameBut s p v)
@[simp] theorem State.flagsClear_ticking (s : State) (p : Pg) (v : Word) : (s.flagsClear p v).ticking = s.ticking := State.sameBut_ticking (State.flagsClear_sameBut s p v)
@[simp] theorem State.flagsClear_trigs (s : State) (p : Pg) (v : Word) : (s.flagsClear p v).trigs = s.trigs := State.sameBut_trigs (State.flagsClear_sameBut s p v)
@[simp] theorem State.flagsSet_beat (s : State) (p : Pg) (v : Word) : (s.flagsSet p v).beat = s.beat := State.sameBut_beat (State.flagsSet_sameBut s p v)
@[simp] theorem State.flagsSet_shadow (s : State) (p : Pg) (v : Word) : (s.flagsSet p v).shadow = s.shadow := State.sameBut_shadow (State.flagsSet_sameBut s p v)
@[simp] theorem State.flagsSet_hiLatch (s : State) (p : Pg) (v : Word) : (s.flagsSet p v).hiLatch = s.hiLatch := State.sameBut_hiLatch (State.flagsSet_sameBut s p v)
@[simp] theorem State.flagsSet_loStage (s : State) (p : Pg) (v : Word) : (s.flagsSet p v).loStage = s.loStage := State.sameBut_loStage (State.flagsSet_sameBut s p v)
@[simp] theorem State.flagsSet_violog (s : State) (p : Pg) (v : Word) : (s.flagsSet p v).violog = s.violog := State.sameBut_violog (State.flagsSet_sameBut s p v)
@[simp] theorem State.flagsSet_groups (s : State) (p : Pg) (v : Word) : (s.flagsSet p v).groups = s.groups := State.sameBut_groups (State.flagsSet_sameBut s p v)
@[simp] theorem State.flagsSet_bounds (s : State) (p : Pg) (v : Word) : (s.flagsSet p v).bounds = s.bounds := State.sameBut_bounds (State.flagsSet_sameBut s p v)
@[simp] theorem State.flagsSet_txs (s : State) (p : Pg) (v : Word) : (s.flagsSet p v).txs = s.txs := State.sameBut_txs (State.flagsSet_sameBut s p v)
@[simp] theorem State.flagsSet_splits (s : State) (p : Pg) (v : Word) : (s.flagsSet p v).splits = s.splits := State.sameBut_splits (State.flagsSet_sameBut s p v)
@[simp] theorem State.flagsSet_boot (s : State) (p : Pg) (v : Word) : (s.flagsSet p v).boot = s.boot := State.sameBut_boot (State.flagsSet_sameBut s p v)
@[simp] theorem State.flagsSet_croz (s : State) (p : Pg) (v : Word) : (s.flagsSet p v).croz = s.croz := State.sameBut_croz (State.flagsSet_sameBut s p v)
@[simp] theorem State.flagsSet_cs (s : State) (p : Pg) (v : Word) : (s.flagsSet p v).cs = s.cs := State.sameBut_cs (State.flagsSet_sameBut s p v)
@[simp] theorem State.flagsSet_players (s : State) (p : Pg) (v : Word) : (s.flagsSet p v).players = s.players := State.sameBut_players (State.flagsSet_sameBut s p v)
@[simp] theorem State.flagsSet_chains (s : State) (p : Pg) (v : Word) : (s.flagsSet p v).chains = s.chains := State.sameBut_chains (State.flagsSet_sameBut s p v)
@[simp] theorem State.flagsSet_pins (s : State) (p : Pg) (v : Word) : (s.flagsSet p v).pins = s.pins := State.sameBut_pins (State.flagsSet_sameBut s p v)
@[simp] theorem State.flagsSet_rings (s : State) (p : Pg) (v : Word) : (s.flagsSet p v).rings = s.rings := State.sameBut_rings (State.flagsSet_sameBut s p v)
@[simp] theorem State.flagsSet_descs (s : State) (p : Pg) (v : Word) : (s.flagsSet p v).descs = s.descs := State.sameBut_descs (State.flagsSet_sameBut s p v)
@[simp] theorem State.flagsSet_lists (s : State) (p : Pg) (v : Word) : (s.flagsSet p v).lists = s.lists := State.sameBut_lists (State.flagsSet_sameBut s p v)
@[simp] theorem State.flagsSet_sram (s : State) (p : Pg) (v : Word) : (s.flagsSet p v).sram = s.sram := State.sameBut_sram (State.flagsSet_sameBut s p v)
@[simp] theorem State.flagsSet_sec (s : State) (p : Pg) (v : Word) : (s.flagsSet p v).sec = s.sec := State.sameBut_sec (State.flagsSet_sameBut s p v)
@[simp] theorem State.flagsSet_gddr (s : State) (p : Pg) (v : Word) : (s.flagsSet p v).gddr = s.gddr := State.sameBut_gddr (State.flagsSet_sameBut s p v)
@[simp] theorem State.flagsSet_fes (s : State) (p : Pg) (v : Word) : (s.flagsSet p v).fes = s.fes := State.sameBut_fes (State.flagsSet_sameBut s p v)
@[simp] theorem State.flagsSet_wmem (s : State) (p : Pg) (v : Word) : (s.flagsSet p v).wmem = s.wmem := State.sameBut_wmem (State.flagsSet_sameBut s p v)
@[simp] theorem State.flagsSet_bus (s : State) (p : Pg) (v : Word) : (s.flagsSet p v).bus = s.bus := State.sameBut_bus (State.flagsSet_sameBut s p v)
@[simp] theorem State.flagsSet_sorus (s : State) (p : Pg) (v : Word) : (s.flagsSet p v).sorus = s.sorus := State.sameBut_sorus (State.flagsSet_sameBut s p v)
@[simp] theorem State.flagsSet_slots (s : State) (p : Pg) (v : Word) : (s.flagsSet p v).slots = s.slots := State.sameBut_slots (State.flagsSet_sameBut s p v)
@[simp] theorem State.flagsSet_acqs (s : State) (p : Pg) (v : Word) : (s.flagsSet p v).acqs = s.acqs := State.sameBut_acqs (State.flagsSet_sameBut s p v)
@[simp] theorem State.flagsSet_queues (s : State) (p : Pg) (v : Word) : (s.flagsSet p v).queues = s.queues := State.sameBut_queues (State.flagsSet_sameBut s p v)
@[simp] theorem State.flagsSet_qmem (s : State) (p : Pg) (v : Word) : (s.flagsSet p v).qmem = s.qmem := State.sameBut_qmem (State.flagsSet_sameBut s p v)
@[simp] theorem State.flagsSet_transit (s : State) (p : Pg) (v : Word) : (s.flagsSet p v).transit = s.transit := State.sameBut_transit (State.flagsSet_sameBut s p v)
@[simp] theorem State.flagsSet_hypha (s : State) (p : Pg) (v : Word) : (s.flagsSet p v).hypha = s.hypha := State.sameBut_hypha (State.flagsSet_sameBut s p v)
@[simp] theorem State.flagsSet_hk (s : State) (p : Pg) (v : Word) : (s.flagsSet p v).hk = s.hk := State.sameBut_hk (State.flagsSet_sameBut s p v)
@[simp] theorem State.flagsSet_time (s : State) (p : Pg) (v : Word) : (s.flagsSet p v).time = s.time := State.sameBut_time (State.flagsSet_sameBut s p v)
@[simp] theorem State.flagsSet_cal (s : State) (p : Pg) (v : Word) : (s.flagsSet p v).cal = s.cal := State.sameBut_cal (State.flagsSet_sameBut s p v)
@[simp] theorem State.flagsSet_therm (s : State) (p : Pg) (v : Word) : (s.flagsSet p v).therm = s.therm := State.sameBut_therm (State.flagsSet_sameBut s p v)
@[simp] theorem State.flagsSet_link (s : State) (p : Pg) (v : Word) : (s.flagsSet p v).link = s.link := State.sameBut_link (State.flagsSet_sameBut s p v)
@[simp] theorem State.flagsSet_tx (s : State) (p : Pg) (v : Word) : (s.flagsSet p v).tx = s.tx := State.sameBut_tx (State.flagsSet_sameBut s p v)
@[simp] theorem State.flagsSet_fresh (s : State) (p : Pg) (v : Word) : (s.flagsSet p v).fresh = s.fresh := State.sameBut_fresh (State.flagsSet_sameBut s p v)
@[simp] theorem State.flagsSet_pending (s : State) (p : Pg) (v : Word) : (s.flagsSet p v).pending = s.pending := State.sameBut_pending (State.flagsSet_sameBut s p v)
@[simp] theorem State.flagsSet_ticking (s : State) (p : Pg) (v : Word) : (s.flagsSet p v).ticking = s.ticking := State.sameBut_ticking (State.flagsSet_sameBut s p v)
@[simp] theorem State.flagsSet_trigs (s : State) (p : Pg) (v : Word) : (s.flagsSet p v).trigs = s.trigs := State.sameBut_trigs (State.flagsSet_sameBut s p v)
@[simp] theorem State.flagsEn_beat (s : State) (p : Pg) (v : Word) : (s.flagsEn p v).beat = s.beat := State.sameBut_beat (State.flagsEn_sameBut s p v)
@[simp] theorem State.flagsEn_shadow (s : State) (p : Pg) (v : Word) : (s.flagsEn p v).shadow = s.shadow := State.sameBut_shadow (State.flagsEn_sameBut s p v)
@[simp] theorem State.flagsEn_hiLatch (s : State) (p : Pg) (v : Word) : (s.flagsEn p v).hiLatch = s.hiLatch := State.sameBut_hiLatch (State.flagsEn_sameBut s p v)
@[simp] theorem State.flagsEn_loStage (s : State) (p : Pg) (v : Word) : (s.flagsEn p v).loStage = s.loStage := State.sameBut_loStage (State.flagsEn_sameBut s p v)
@[simp] theorem State.flagsEn_violog (s : State) (p : Pg) (v : Word) : (s.flagsEn p v).violog = s.violog := State.sameBut_violog (State.flagsEn_sameBut s p v)
@[simp] theorem State.flagsEn_groups (s : State) (p : Pg) (v : Word) : (s.flagsEn p v).groups = s.groups := State.sameBut_groups (State.flagsEn_sameBut s p v)
@[simp] theorem State.flagsEn_bounds (s : State) (p : Pg) (v : Word) : (s.flagsEn p v).bounds = s.bounds := State.sameBut_bounds (State.flagsEn_sameBut s p v)
@[simp] theorem State.flagsEn_txs (s : State) (p : Pg) (v : Word) : (s.flagsEn p v).txs = s.txs := State.sameBut_txs (State.flagsEn_sameBut s p v)
@[simp] theorem State.flagsEn_splits (s : State) (p : Pg) (v : Word) : (s.flagsEn p v).splits = s.splits := State.sameBut_splits (State.flagsEn_sameBut s p v)
@[simp] theorem State.flagsEn_boot (s : State) (p : Pg) (v : Word) : (s.flagsEn p v).boot = s.boot := State.sameBut_boot (State.flagsEn_sameBut s p v)
@[simp] theorem State.flagsEn_croz (s : State) (p : Pg) (v : Word) : (s.flagsEn p v).croz = s.croz := State.sameBut_croz (State.flagsEn_sameBut s p v)
@[simp] theorem State.flagsEn_cs (s : State) (p : Pg) (v : Word) : (s.flagsEn p v).cs = s.cs := State.sameBut_cs (State.flagsEn_sameBut s p v)
@[simp] theorem State.flagsEn_players (s : State) (p : Pg) (v : Word) : (s.flagsEn p v).players = s.players := State.sameBut_players (State.flagsEn_sameBut s p v)
@[simp] theorem State.flagsEn_chains (s : State) (p : Pg) (v : Word) : (s.flagsEn p v).chains = s.chains := State.sameBut_chains (State.flagsEn_sameBut s p v)
@[simp] theorem State.flagsEn_pins (s : State) (p : Pg) (v : Word) : (s.flagsEn p v).pins = s.pins := State.sameBut_pins (State.flagsEn_sameBut s p v)
@[simp] theorem State.flagsEn_rings (s : State) (p : Pg) (v : Word) : (s.flagsEn p v).rings = s.rings := State.sameBut_rings (State.flagsEn_sameBut s p v)
@[simp] theorem State.flagsEn_descs (s : State) (p : Pg) (v : Word) : (s.flagsEn p v).descs = s.descs := State.sameBut_descs (State.flagsEn_sameBut s p v)
@[simp] theorem State.flagsEn_lists (s : State) (p : Pg) (v : Word) : (s.flagsEn p v).lists = s.lists := State.sameBut_lists (State.flagsEn_sameBut s p v)
@[simp] theorem State.flagsEn_sram (s : State) (p : Pg) (v : Word) : (s.flagsEn p v).sram = s.sram := State.sameBut_sram (State.flagsEn_sameBut s p v)
@[simp] theorem State.flagsEn_sec (s : State) (p : Pg) (v : Word) : (s.flagsEn p v).sec = s.sec := State.sameBut_sec (State.flagsEn_sameBut s p v)
@[simp] theorem State.flagsEn_gddr (s : State) (p : Pg) (v : Word) : (s.flagsEn p v).gddr = s.gddr := State.sameBut_gddr (State.flagsEn_sameBut s p v)
@[simp] theorem State.flagsEn_fes (s : State) (p : Pg) (v : Word) : (s.flagsEn p v).fes = s.fes := State.sameBut_fes (State.flagsEn_sameBut s p v)
@[simp] theorem State.flagsEn_wmem (s : State) (p : Pg) (v : Word) : (s.flagsEn p v).wmem = s.wmem := State.sameBut_wmem (State.flagsEn_sameBut s p v)
@[simp] theorem State.flagsEn_bus (s : State) (p : Pg) (v : Word) : (s.flagsEn p v).bus = s.bus := State.sameBut_bus (State.flagsEn_sameBut s p v)
@[simp] theorem State.flagsEn_sorus (s : State) (p : Pg) (v : Word) : (s.flagsEn p v).sorus = s.sorus := State.sameBut_sorus (State.flagsEn_sameBut s p v)
@[simp] theorem State.flagsEn_slots (s : State) (p : Pg) (v : Word) : (s.flagsEn p v).slots = s.slots := State.sameBut_slots (State.flagsEn_sameBut s p v)
@[simp] theorem State.flagsEn_acqs (s : State) (p : Pg) (v : Word) : (s.flagsEn p v).acqs = s.acqs := State.sameBut_acqs (State.flagsEn_sameBut s p v)
@[simp] theorem State.flagsEn_queues (s : State) (p : Pg) (v : Word) : (s.flagsEn p v).queues = s.queues := State.sameBut_queues (State.flagsEn_sameBut s p v)
@[simp] theorem State.flagsEn_qmem (s : State) (p : Pg) (v : Word) : (s.flagsEn p v).qmem = s.qmem := State.sameBut_qmem (State.flagsEn_sameBut s p v)
@[simp] theorem State.flagsEn_transit (s : State) (p : Pg) (v : Word) : (s.flagsEn p v).transit = s.transit := State.sameBut_transit (State.flagsEn_sameBut s p v)
@[simp] theorem State.flagsEn_hypha (s : State) (p : Pg) (v : Word) : (s.flagsEn p v).hypha = s.hypha := State.sameBut_hypha (State.flagsEn_sameBut s p v)
@[simp] theorem State.flagsEn_hk (s : State) (p : Pg) (v : Word) : (s.flagsEn p v).hk = s.hk := State.sameBut_hk (State.flagsEn_sameBut s p v)
@[simp] theorem State.flagsEn_time (s : State) (p : Pg) (v : Word) : (s.flagsEn p v).time = s.time := State.sameBut_time (State.flagsEn_sameBut s p v)
@[simp] theorem State.flagsEn_cal (s : State) (p : Pg) (v : Word) : (s.flagsEn p v).cal = s.cal := State.sameBut_cal (State.flagsEn_sameBut s p v)
@[simp] theorem State.flagsEn_therm (s : State) (p : Pg) (v : Word) : (s.flagsEn p v).therm = s.therm := State.sameBut_therm (State.flagsEn_sameBut s p v)
@[simp] theorem State.flagsEn_link (s : State) (p : Pg) (v : Word) : (s.flagsEn p v).link = s.link := State.sameBut_link (State.flagsEn_sameBut s p v)
@[simp] theorem State.flagsEn_tx (s : State) (p : Pg) (v : Word) : (s.flagsEn p v).tx = s.tx := State.sameBut_tx (State.flagsEn_sameBut s p v)
@[simp] theorem State.flagsEn_fresh (s : State) (p : Pg) (v : Word) : (s.flagsEn p v).fresh = s.fresh := State.sameBut_fresh (State.flagsEn_sameBut s p v)
@[simp] theorem State.flagsEn_pending (s : State) (p : Pg) (v : Word) : (s.flagsEn p v).pending = s.pending := State.sameBut_pending (State.flagsEn_sameBut s p v)
@[simp] theorem State.flagsEn_ticking (s : State) (p : Pg) (v : Word) : (s.flagsEn p v).ticking = s.ticking := State.sameBut_ticking (State.flagsEn_sameBut s p v)
@[simp] theorem State.flagsEn_trigs (s : State) (p : Pg) (v : Word) : (s.flagsEn p v).trigs = s.trigs := State.sameBut_trigs (State.flagsEn_sameBut s p v)
@[simp] theorem State.cntClr_beat (s : State) (p : Pg) : (s.cntClr p).beat = s.beat := State.sameBut_beat (State.cntClr_sameBut s p)
@[simp] theorem State.cntClr_shadow (s : State) (p : Pg) : (s.cntClr p).shadow = s.shadow := State.sameBut_shadow (State.cntClr_sameBut s p)
@[simp] theorem State.cntClr_hiLatch (s : State) (p : Pg) : (s.cntClr p).hiLatch = s.hiLatch := State.sameBut_hiLatch (State.cntClr_sameBut s p)
@[simp] theorem State.cntClr_loStage (s : State) (p : Pg) : (s.cntClr p).loStage = s.loStage := State.sameBut_loStage (State.cntClr_sameBut s p)
@[simp] theorem State.cntClr_violog (s : State) (p : Pg) : (s.cntClr p).violog = s.violog := State.sameBut_violog (State.cntClr_sameBut s p)
@[simp] theorem State.cntClr_groups (s : State) (p : Pg) : (s.cntClr p).groups = s.groups := State.sameBut_groups (State.cntClr_sameBut s p)
@[simp] theorem State.cntClr_bounds (s : State) (p : Pg) : (s.cntClr p).bounds = s.bounds := State.sameBut_bounds (State.cntClr_sameBut s p)
@[simp] theorem State.cntClr_txs (s : State) (p : Pg) : (s.cntClr p).txs = s.txs := State.sameBut_txs (State.cntClr_sameBut s p)
@[simp] theorem State.cntClr_splits (s : State) (p : Pg) : (s.cntClr p).splits = s.splits := State.sameBut_splits (State.cntClr_sameBut s p)
@[simp] theorem State.cntClr_boot (s : State) (p : Pg) : (s.cntClr p).boot = s.boot := State.sameBut_boot (State.cntClr_sameBut s p)
@[simp] theorem State.cntClr_croz (s : State) (p : Pg) : (s.cntClr p).croz = s.croz := State.sameBut_croz (State.cntClr_sameBut s p)
@[simp] theorem State.cntClr_cs (s : State) (p : Pg) : (s.cntClr p).cs = s.cs := State.sameBut_cs (State.cntClr_sameBut s p)
@[simp] theorem State.cntClr_players (s : State) (p : Pg) : (s.cntClr p).players = s.players := State.sameBut_players (State.cntClr_sameBut s p)
@[simp] theorem State.cntClr_chains (s : State) (p : Pg) : (s.cntClr p).chains = s.chains := State.sameBut_chains (State.cntClr_sameBut s p)
@[simp] theorem State.cntClr_pins (s : State) (p : Pg) : (s.cntClr p).pins = s.pins := State.sameBut_pins (State.cntClr_sameBut s p)
@[simp] theorem State.cntClr_rings (s : State) (p : Pg) : (s.cntClr p).rings = s.rings := State.sameBut_rings (State.cntClr_sameBut s p)
@[simp] theorem State.cntClr_descs (s : State) (p : Pg) : (s.cntClr p).descs = s.descs := State.sameBut_descs (State.cntClr_sameBut s p)
@[simp] theorem State.cntClr_lists (s : State) (p : Pg) : (s.cntClr p).lists = s.lists := State.sameBut_lists (State.cntClr_sameBut s p)
@[simp] theorem State.cntClr_sram (s : State) (p : Pg) : (s.cntClr p).sram = s.sram := State.sameBut_sram (State.cntClr_sameBut s p)
@[simp] theorem State.cntClr_sec (s : State) (p : Pg) : (s.cntClr p).sec = s.sec := State.sameBut_sec (State.cntClr_sameBut s p)
@[simp] theorem State.cntClr_gddr (s : State) (p : Pg) : (s.cntClr p).gddr = s.gddr := State.sameBut_gddr (State.cntClr_sameBut s p)
@[simp] theorem State.cntClr_fes (s : State) (p : Pg) : (s.cntClr p).fes = s.fes := State.sameBut_fes (State.cntClr_sameBut s p)
@[simp] theorem State.cntClr_wmem (s : State) (p : Pg) : (s.cntClr p).wmem = s.wmem := State.sameBut_wmem (State.cntClr_sameBut s p)
@[simp] theorem State.cntClr_bus (s : State) (p : Pg) : (s.cntClr p).bus = s.bus := State.sameBut_bus (State.cntClr_sameBut s p)
@[simp] theorem State.cntClr_sorus (s : State) (p : Pg) : (s.cntClr p).sorus = s.sorus := State.sameBut_sorus (State.cntClr_sameBut s p)
@[simp] theorem State.cntClr_slots (s : State) (p : Pg) : (s.cntClr p).slots = s.slots := State.sameBut_slots (State.cntClr_sameBut s p)
@[simp] theorem State.cntClr_acqs (s : State) (p : Pg) : (s.cntClr p).acqs = s.acqs := State.sameBut_acqs (State.cntClr_sameBut s p)
@[simp] theorem State.cntClr_queues (s : State) (p : Pg) : (s.cntClr p).queues = s.queues := State.sameBut_queues (State.cntClr_sameBut s p)
@[simp] theorem State.cntClr_qmem (s : State) (p : Pg) : (s.cntClr p).qmem = s.qmem := State.sameBut_qmem (State.cntClr_sameBut s p)
@[simp] theorem State.cntClr_transit (s : State) (p : Pg) : (s.cntClr p).transit = s.transit := State.sameBut_transit (State.cntClr_sameBut s p)
@[simp] theorem State.cntClr_hypha (s : State) (p : Pg) : (s.cntClr p).hypha = s.hypha := State.sameBut_hypha (State.cntClr_sameBut s p)
@[simp] theorem State.cntClr_hk (s : State) (p : Pg) : (s.cntClr p).hk = s.hk := State.sameBut_hk (State.cntClr_sameBut s p)
@[simp] theorem State.cntClr_time (s : State) (p : Pg) : (s.cntClr p).time = s.time := State.sameBut_time (State.cntClr_sameBut s p)
@[simp] theorem State.cntClr_cal (s : State) (p : Pg) : (s.cntClr p).cal = s.cal := State.sameBut_cal (State.cntClr_sameBut s p)
@[simp] theorem State.cntClr_therm (s : State) (p : Pg) : (s.cntClr p).therm = s.therm := State.sameBut_therm (State.cntClr_sameBut s p)
@[simp] theorem State.cntClr_link (s : State) (p : Pg) : (s.cntClr p).link = s.link := State.sameBut_link (State.cntClr_sameBut s p)
@[simp] theorem State.cntClr_tx (s : State) (p : Pg) : (s.cntClr p).tx = s.tx := State.sameBut_tx (State.cntClr_sameBut s p)
@[simp] theorem State.cntClr_fresh (s : State) (p : Pg) : (s.cntClr p).fresh = s.fresh := State.sameBut_fresh (State.cntClr_sameBut s p)
@[simp] theorem State.cntClr_pending (s : State) (p : Pg) : (s.cntClr p).pending = s.pending := State.sameBut_pending (State.cntClr_sameBut s p)
@[simp] theorem State.cntClr_ticking (s : State) (p : Pg) : (s.cntClr p).ticking = s.ticking := State.sameBut_ticking (State.cntClr_sameBut s p)
@[simp] theorem State.cntClr_trigs (s : State) (p : Pg) : (s.cntClr p).trigs = s.trigs := State.sameBut_trigs (State.cntClr_sameBut s p)
@[simp] theorem State.passBeats_beat (s : State) (n : Nat) : (s.passBeats n).beat = s.beat := State.sameBut_beat (State.passBeats_sameBut s n)
@[simp] theorem State.passBeats_shadow (s : State) (n : Nat) : (s.passBeats n).shadow = s.shadow := State.sameBut_shadow (State.passBeats_sameBut s n)
@[simp] theorem State.passBeats_hiLatch (s : State) (n : Nat) : (s.passBeats n).hiLatch = s.hiLatch := State.sameBut_hiLatch (State.passBeats_sameBut s n)
@[simp] theorem State.passBeats_loStage (s : State) (n : Nat) : (s.passBeats n).loStage = s.loStage := State.sameBut_loStage (State.passBeats_sameBut s n)
@[simp] theorem State.passBeats_violog (s : State) (n : Nat) : (s.passBeats n).violog = s.violog := State.sameBut_violog (State.passBeats_sameBut s n)
@[simp] theorem State.passBeats_groups (s : State) (n : Nat) : (s.passBeats n).groups = s.groups := State.sameBut_groups (State.passBeats_sameBut s n)
@[simp] theorem State.passBeats_bounds (s : State) (n : Nat) : (s.passBeats n).bounds = s.bounds := State.sameBut_bounds (State.passBeats_sameBut s n)
@[simp] theorem State.passBeats_txs (s : State) (n : Nat) : (s.passBeats n).txs = s.txs := State.sameBut_txs (State.passBeats_sameBut s n)
@[simp] theorem State.passBeats_splits (s : State) (n : Nat) : (s.passBeats n).splits = s.splits := State.sameBut_splits (State.passBeats_sameBut s n)
@[simp] theorem State.passBeats_boot (s : State) (n : Nat) : (s.passBeats n).boot = s.boot := State.sameBut_boot (State.passBeats_sameBut s n)
@[simp] theorem State.passBeats_croz (s : State) (n : Nat) : (s.passBeats n).croz = s.croz := State.sameBut_croz (State.passBeats_sameBut s n)
@[simp] theorem State.passBeats_cs (s : State) (n : Nat) : (s.passBeats n).cs = s.cs := State.sameBut_cs (State.passBeats_sameBut s n)
@[simp] theorem State.passBeats_players (s : State) (n : Nat) : (s.passBeats n).players = s.players := State.sameBut_players (State.passBeats_sameBut s n)
@[simp] theorem State.passBeats_chains (s : State) (n : Nat) : (s.passBeats n).chains = s.chains := State.sameBut_chains (State.passBeats_sameBut s n)
@[simp] theorem State.passBeats_pins (s : State) (n : Nat) : (s.passBeats n).pins = s.pins := State.sameBut_pins (State.passBeats_sameBut s n)
@[simp] theorem State.passBeats_rings (s : State) (n : Nat) : (s.passBeats n).rings = s.rings := State.sameBut_rings (State.passBeats_sameBut s n)
@[simp] theorem State.passBeats_descs (s : State) (n : Nat) : (s.passBeats n).descs = s.descs := State.sameBut_descs (State.passBeats_sameBut s n)
@[simp] theorem State.passBeats_lists (s : State) (n : Nat) : (s.passBeats n).lists = s.lists := State.sameBut_lists (State.passBeats_sameBut s n)
@[simp] theorem State.passBeats_sram (s : State) (n : Nat) : (s.passBeats n).sram = s.sram := State.sameBut_sram (State.passBeats_sameBut s n)
@[simp] theorem State.passBeats_sec (s : State) (n : Nat) : (s.passBeats n).sec = s.sec := State.sameBut_sec (State.passBeats_sameBut s n)
@[simp] theorem State.passBeats_gddr (s : State) (n : Nat) : (s.passBeats n).gddr = s.gddr := State.sameBut_gddr (State.passBeats_sameBut s n)
@[simp] theorem State.passBeats_fes (s : State) (n : Nat) : (s.passBeats n).fes = s.fes := State.sameBut_fes (State.passBeats_sameBut s n)
@[simp] theorem State.passBeats_wmem (s : State) (n : Nat) : (s.passBeats n).wmem = s.wmem := State.sameBut_wmem (State.passBeats_sameBut s n)
@[simp] theorem State.passBeats_bus (s : State) (n : Nat) : (s.passBeats n).bus = s.bus := State.sameBut_bus (State.passBeats_sameBut s n)
@[simp] theorem State.passBeats_sorus (s : State) (n : Nat) : (s.passBeats n).sorus = s.sorus := State.sameBut_sorus (State.passBeats_sameBut s n)
@[simp] theorem State.passBeats_slots (s : State) (n : Nat) : (s.passBeats n).slots = s.slots := State.sameBut_slots (State.passBeats_sameBut s n)
@[simp] theorem State.passBeats_acqs (s : State) (n : Nat) : (s.passBeats n).acqs = s.acqs := State.sameBut_acqs (State.passBeats_sameBut s n)
@[simp] theorem State.passBeats_queues (s : State) (n : Nat) : (s.passBeats n).queues = s.queues := State.sameBut_queues (State.passBeats_sameBut s n)
@[simp] theorem State.passBeats_qmem (s : State) (n : Nat) : (s.passBeats n).qmem = s.qmem := State.sameBut_qmem (State.passBeats_sameBut s n)
@[simp] theorem State.passBeats_transit (s : State) (n : Nat) : (s.passBeats n).transit = s.transit := State.sameBut_transit (State.passBeats_sameBut s n)
@[simp] theorem State.passBeats_hypha (s : State) (n : Nat) : (s.passBeats n).hypha = s.hypha := State.sameBut_hypha (State.passBeats_sameBut s n)
@[simp] theorem State.passBeats_hk (s : State) (n : Nat) : (s.passBeats n).hk = s.hk := State.sameBut_hk (State.passBeats_sameBut s n)
@[simp] theorem State.passBeats_time (s : State) (n : Nat) : (s.passBeats n).time = s.time := State.sameBut_time (State.passBeats_sameBut s n)
@[simp] theorem State.passBeats_cal (s : State) (n : Nat) : (s.passBeats n).cal = s.cal := State.sameBut_cal (State.passBeats_sameBut s n)
@[simp] theorem State.passBeats_therm (s : State) (n : Nat) : (s.passBeats n).therm = s.therm := State.sameBut_therm (State.passBeats_sameBut s n)
@[simp] theorem State.passBeats_link (s : State) (n : Nat) : (s.passBeats n).link = s.link := State.sameBut_link (State.passBeats_sameBut s n)
@[simp] theorem State.passBeats_tx (s : State) (n : Nat) : (s.passBeats n).tx = s.tx := State.sameBut_tx (State.passBeats_sameBut s n)
@[simp] theorem State.passBeats_fresh (s : State) (n : Nat) : (s.passBeats n).fresh = s.fresh := State.sameBut_fresh (State.passBeats_sameBut s n)
@[simp] theorem State.passBeats_pending (s : State) (n : Nat) : (s.passBeats n).pending = s.pending := State.sameBut_pending (State.passBeats_sameBut s n)
@[simp] theorem State.passBeats_ticking (s : State) (n : Nat) : (s.passBeats n).ticking = s.ticking := State.sameBut_ticking (State.passBeats_sameBut s n)
@[simp] theorem State.passBeats_trigs (s : State) (n : Nat) : (s.passBeats n).trigs = s.trigs := State.sameBut_trigs (State.passBeats_sameBut s n)
end Sys2Proof.Machine
end

