-- ==== Sys2Proof/Laws/Tab.lean ====
section
/-! SUPPORT. Laws of the sparse table: a read after a write, and the canonical form that every table operation keeps. -/
namespace Sys2Proof.Machine

variable {α : Type}

@[simp] theorem Tab.find?_nil (a : Nat) : Tab.find? ([] : Tab α) a = none := rfl

theorem Tab.find?_cons (k : Nat) (v : α) (t : Tab α) (a : Nat) :
    Tab.find? ((k, v) :: t) a = if k = a then some v else Tab.find? t a := rfl

theorem Tab.find?_put (t : Tab α) (a b : Nat) (v : α) :
    Tab.find? (Tab.put t a v) b = if a = b then some v else Tab.find? t b := by
  induction t with
  | nil => rfl
  | cons e t ih =>
    obtain ⟨k, w⟩ := e
    by_cases h1 : a < k
    · simp [Tab.put, h1, Tab.find?_cons]
    · by_cases h2 : a = k
      · subst h2; by_cases h3 : a = b <;> simp [Tab.put, Tab.find?_cons, h3]
      · simp only [Tab.put, if_neg h1, if_neg h2, Tab.find?_cons, ih]
        by_cases h3 : k = b
        · subst h3; simp [h2]
        · simp [h3]

theorem Tab.find?_del (t : Tab α) (a b : Nat) :
    Tab.find? (Tab.del t a) b = if a = b then none else Tab.find? t b := by
  induction t with
  | nil => simp [Tab.del]
  | cons e t ih =>
    obtain ⟨k, w⟩ := e
    by_cases h1 : k = a
    · subst h1; by_cases h3 : k = b <;> simp_all [Tab.del, Tab.find?_cons]
    · by_cases h3 : k = b
      · subst h3; simp [Tab.del, Tab.find?_cons, h1, Ne.symm h1]
      · simp [Tab.del, Tab.find?_cons, h1, h3, ih]

/-- A read after a write. -/
theorem Tab.get_set [DecidableEq α] (d d' : α) (t : Tab α) (a b : Nat) (v : α) (h : a = b → d = d') :
    Tab.get d' (Tab.set d t a v) b = if a = b then v else Tab.get d' t b := by
  unfold Tab.get Tab.set
  split
  · next hv => rw [Tab.find?_del]; split <;> simp_all
  · rw [Tab.find?_put]; split <;> simp_all

theorem Tab.get_put (d : α) (t : Tab α) (a b : Nat) (v : α) :
    Tab.get d (Tab.put t a v) b = if a = b then v else Tab.get d t b := by
  unfold Tab.get; rw [Tab.find?_put]; split <;> rfl

theorem Tab.get_del (d : α) (t : Tab α) (a b : Nat) :
    Tab.get d (Tab.del t a) b = if a = b then d else Tab.get d t b := by
  unfold Tab.get; rw [Tab.find?_del]; split <;> rfl

/-- Keeping entries by their key alone. -/
theorem Tab.find?_filter (t : Tab α) (q : Nat → Bool) (a : Nat) :
    Tab.find? (t.filter (fun e => q e.1)) a = if q a = true then Tab.find? t a else none := by
  induction t with
  | nil => simp
  | cons e t ih =>
    obtain ⟨k, v⟩ := e
    by_cases hq : q k = true
    · rw [List.filter_cons_of_pos (by simpa using hq), Tab.find?_cons, Tab.find?_cons, ih]
      by_cases hk : k = a
      · subst hk; simp [hq]
      · simp [hk]
    · rw [List.filter_cons_of_neg (by simpa using hq), Tab.find?_cons, ih]
      by_cases hk : k = a
      · subst hk; simp [hq]
      · simp [hk]

/-- The keys of a table rise, as a proposition about the list. -/
theorem Tab.sorted_iff (t : Tab α) : Tab.sorted t = true ↔ t.Pairwise (fun e f => e.1 < f.1) := by
  induction t with
  | nil => simp [Tab.sorted]
  | cons e t ih =>
    cases t with
    | nil => simp [Tab.sorted]
    | cons f t =>
      obtain ⟨k, v⟩ := e; obtain ⟨k', v'⟩ := f
      simp only [Tab.sorted, Bool.and_eq_true, decide_eq_true_eq, ih]
      constructor
      · rintro ⟨h1, h2⟩
        refine List.pairwise_cons.2 ⟨?_, h2⟩
        intro g hg
        rcases List.mem_cons.1 hg with rfl | hg
        · exact h1
        · exact Nat.lt_trans h1 ((List.pairwise_cons.1 h2).1 g hg)
      · intro h
        exact ⟨(List.pairwise_cons.1 h).1 (k', v') (by simp), (List.pairwise_cons.1 h).2⟩

theorem Tab.wf_iff [DecidableEq α] (d : Nat → α) (t : Tab α) :
    Tab.wf d t = true ↔ t.Pairwise (fun e f => e.1 < f.1) ∧ ∀ e ∈ t, e.2 ≠ d e.1 := by
  simp [Tab.wf, Tab.sorted_iff, List.all_eq_true]

theorem Tab.mem_del {t : Tab α} {a : Nat} {e : Nat × α} (h : e ∈ Tab.del t a) : e ∈ t := by
  induction t with
  | nil => simp [Tab.del] at h
  | cons f t ih =>
    obtain ⟨k, w⟩ := f
    unfold Tab.del at h
    split at h
    · exact List.mem_cons_of_mem _ (ih h)
    · rcases List.mem_cons.1 h with rfl | h
      · simp
      · exact List.mem_cons_of_mem _ (ih h)

theorem Tab.mem_put {t : Tab α} {a : Nat} {v : α} {e : Nat × α} (h : e ∈ Tab.put t a v) : e = (a, v) ∨ e ∈ t := by
  induction t with
  | nil => left; simpa [Tab.put] using h
  | cons f t ih =>
    obtain ⟨k, w⟩ := f
    unfold Tab.put at h
    split at h
    · rcases List.mem_cons.1 h with rfl | h
      · exact .inl rfl
      · exact .inr h
    · split at h
      · rcases List.mem_cons.1 h with rfl | h
        · exact .inl rfl
        · exact .inr (List.mem_cons_of_mem _ h)
      · rcases List.mem_cons.1 h with rfl | h
        · exact .inr (by simp)
        · rcases ih h with h | h
          · exact .inl h
          · exact .inr (List.mem_cons_of_mem _ h)

theorem Tab.wf_del [DecidableEq α] {d : Nat → α} {t : Tab α} (h : Tab.wf d t = true) (a : Nat) :
    Tab.wf d (Tab.del t a) = true := by
  rw [Tab.wf_iff] at *
  refine ⟨?_, fun e he => h.2 e (Tab.mem_del he)⟩
  have h1 := h.1
  clear h
  induction t with
  | nil => simp [Tab.del]
  | cons f t ih =>
    obtain ⟨k, w⟩ := f
    have h2 := List.pairwise_cons.1 h1
    unfold Tab.del
    split
    · exact ih h2.2
    · exact List.pairwise_cons.2 ⟨fun e he => h2.1 e (Tab.mem_del he), ih h2.2⟩

theorem Tab.wf_put [DecidableEq α] {d : Nat → α} {t : Tab α} (h : Tab.wf d t = true) {a : Nat} {v : α} (hv : v ≠ d a) :
    Tab.wf d (Tab.put t a v) = true := by
  rw [Tab.wf_iff] at *
  refine ⟨?_, fun e he => ?_⟩
  · have h1 := h.1
    clear h
    induction t with
    | nil => simp [Tab.put]
    | cons f t ih =>
      obtain ⟨k, w⟩ := f
      have h2 := List.pairwise_cons.1 h1
      unfold Tab.put
      split
      · next hk =>
        refine List.pairwise_cons.2 ⟨fun e he => ?_, h1⟩
        rcases List.mem_cons.1 he with rfl | he
        · exact hk
        · exact Nat.lt_trans hk (h2.1 e he)
      · split
        · next hk => subst hk; exact List.pairwise_cons.2 ⟨h2.1, h2.2⟩
        · refine List.pairwise_cons.2 ⟨fun e he => ?_, ih h2.2⟩
          rcases Tab.mem_put he with rfl | he
          · show k < a; omega
          · exact h2.1 e he
  · rcases Tab.mem_put he with rfl | he
    · exact hv
    · exact h.2 e he

/-- A write keeps the canonical form. -/
theorem Tab.wf_set [DecidableEq α] {d : Nat → α} {t : Tab α} (h : Tab.wf d t = true) (a : Nat) (v : α) :
    Tab.wf d (Tab.set (d a) t a v) = true := by
  unfold Tab.set
  split
  · exact Tab.wf_del h a
  · next hv => exact Tab.wf_put h hv

/-- Keeping some entries keeps the canonical form. -/
theorem Tab.wf_filter [DecidableEq α] {d : Nat → α} {t : Tab α} (h : Tab.wf d t = true) (p : Nat × α → Bool) :
    Tab.wf d (t.filter p) = true := by
  rw [Tab.wf_iff] at *
  exact ⟨h.1.sublist List.filter_sublist, fun e he => h.2 e (List.mem_filter.1 he).1⟩

theorem Tab.wf_nil [DecidableEq α] (d : Nat → α) : Tab.wf d ([] : Tab α) = true := rfl

end Sys2Proof.Machine
end

