-- ==== Sys2Proof/Laws/Regs.lean ====
section
/-! SUPPORT. Laws of the registers: a read after a write, fields, page addresses, and that flags, counters and errors never touch a
block register. -/
namespace Sys2Proof.Machine

theorem State.rdA_wrA (s : State) (a b : Nat) (v : Word) : (s.wrA a v).rdA b = if a = b then v else s.rdA b :=
  Tab.get_set _ _ _ _ _ _ (fun h => h ▸ rfl)

theorem State.rdA_wr (s : State) (p : Pg) (off b : Nat) (v : Word) :
    (s.wr p off v).rdA b = if p.reg off = b then v else s.rdA b := s.rdA_wrA _ _ _

theorem State.rd_wr (s : State) (p q : Pg) (off o : Nat) (v : Word) :
    (s.wr p off v).rd q o = if p.reg off = q.reg o then v else s.rd q o := s.rdA_wrA _ _ _

@[simp] theorem Pg.reg_inj (p : Pg) (a b : Nat) : p.reg a = p.reg b ↔ a = b := by
  unfold Pg.reg; omega

@[simp] theorem State.rd_wr_self (s : State) (p : Pg) (off : Nat) (v : Word) : (s.wr p off v).rd p off = v := by
  simp [State.rd_wr]

theorem State.rd_wr_off (s : State) (p : Pg) {off o : Nat} (v : Word) (h : off ≠ o) : (s.wr p off v).rd p o = s.rd p o := by
  simp [State.rd_wr, h]

theorem State.rd_wr_ne (s : State) {p q : Pg} {off o : Nat} (v : Word) (h : p.reg off ≠ q.reg o) :
    (s.wr p off v).rd q o = s.rd q o := by simp [State.rd_wr, h]

theorem State.wrF_eq (s : State) (p : Pg) (off hi lo v : Nat) : s.wrF p off hi lo v = s.wr p off (setFld (s.rd p off) hi lo v) := rfl

theorem State.rdA_wrF (s : State) (p : Pg) (off hi lo v b : Nat) :
    (s.wrF p off hi lo v).rdA b = if p.reg off = b then setFld (s.rd p off) hi lo v else s.rdA b := s.rdA_wr _ _ _ _

theorem State.rd_wrF (s : State) (p q : Pg) (off hi lo v o : Nat) :
    (s.wrF p off hi lo v).rd q o = if p.reg off = q.reg o then setFld (s.rd p off) hi lo v else s.rd q o := s.rdA_wr _ _ _ _

@[simp] theorem State.rd_wrF_self (s : State) (p : Pg) (off hi lo v : Nat) :
    (s.wrF p off hi lo v).rd p off = setFld (s.rd p off) hi lo v := by simp [State.rd_wrF]

theorem State.rd_wrF_ne (s : State) {p q : Pg} {off hi lo v o : Nat} (h : p.reg off ≠ q.reg o) :
    (s.wrF p off hi lo v).rd q o = s.rd q o := by simp [State.rd_wrF, h]

theorem State.rd_wrB (s : State) (p q : Pg) (off i : Nat) (b : Bool) (o : Nat) :
    (s.wrB p off i b).rd q o = if p.reg off = q.reg o then setBit (s.rd p off) i b else s.rd q o := s.rdA_wr _ _ _ _

theorem State.rdA_wrB (s : State) (p : Pg) (off i : Nat) (b : Bool) (a : Nat) :
    (s.wrB p off i b).rdA a = if p.reg off = a then setBit (s.rd p off) i b else s.rdA a := s.rdA_wr _ _ _ _

@[simp] theorem State.rd_wrB_self (s : State) (p : Pg) (off i : Nat) (b : Bool) :
    (s.wrB p off i b).rd p off = setBit (s.rd p off) i b := by simp [State.rd_wrB]

theorem State.rd_wrB_ne (s : State) {p q : Pg} {off i : Nat} {b : Bool} {o : Nat} (h : p.reg off ≠ q.reg o) :
    (s.wrB p off i b).rd q o = s.rd q o := by simp [State.rd_wrB, h]

/-- A field after it is set. -/
theorem nfld_nsetFld (w hi lo v : Nat) (h : lo ≤ hi) : nfld (nsetFld w hi lo v) hi lo = v % 2 ^ (hi + 1 - lo) := by
  unfold nfld nsetFld
  obtain ⟨k, hk⟩ : ∃ k, hi + 1 = lo + k := ⟨hi + 1 - lo, by omega⟩
  have e : hi + 1 - lo = k := by omega
  rw [e, hk, Nat.pow_add]
  have hp := Nat.two_pow_pos lo
  have h1 : (w / (2 ^ lo * 2 ^ k) * (2 ^ lo * 2 ^ k) + v % 2 ^ k * 2 ^ lo + w % 2 ^ lo) / 2 ^ lo
      = w / (2 ^ lo * 2 ^ k) * 2 ^ k + v % 2 ^ k := by
    have : w / (2 ^ lo * 2 ^ k) * (2 ^ lo * 2 ^ k) + v % 2 ^ k * 2 ^ lo + w % 2 ^ lo
        = w % 2 ^ lo + (w / (2 ^ lo * 2 ^ k) * 2 ^ k + v % 2 ^ k) * 2 ^ lo := by
      rw [Nat.add_mul, Nat.mul_assoc, Nat.mul_comm (2 ^ k) (2 ^ lo)]; omega
    rw [this, Nat.add_mul_div_right _ _ hp, Nat.div_eq_of_lt (Nat.mod_lt _ hp), Nat.zero_add]
  rw [h1, Nat.add_comm, Nat.add_mul_mod_self_right, Nat.mod_mod]

theorem nsetFld_lt (w hi lo v n : Nat) (h : lo ≤ hi) (hn : hi < n) (hw : w < 2 ^ n) : nsetFld w hi lo v < 2 ^ n := by
  unfold nsetFld
  obtain ⟨k, hk⟩ : ∃ k, hi + 1 = lo + k := ⟨hi + 1 - lo, by omega⟩
  obtain ⟨m, rfl⟩ : ∃ m, n = hi + 1 + m := ⟨n - (hi + 1), by omega⟩
  have e : hi + 1 - lo = k := by omega
  have hq : w / 2 ^ (hi + 1) < 2 ^ m := by
    rw [Nat.div_lt_iff_lt_mul (Nat.two_pow_pos _), ← Nat.pow_add, Nat.add_comm m]; exact hw
  have h1 : v % 2 ^ k * 2 ^ lo + w % 2 ^ lo < 2 ^ (hi + 1) := by
    rw [hk, Nat.pow_add]
    have a := Nat.mod_lt v (Nat.two_pow_pos k)
    have b := Nat.mod_lt w (Nat.two_pow_pos lo)
    calc v % 2 ^ k * 2 ^ lo + w % 2 ^ lo < v % 2 ^ k * 2 ^ lo + 2 ^ lo := by omega
      _ = (v % 2 ^ k + 1) * 2 ^ lo := by rw [Nat.add_mul, Nat.one_mul]
      _ ≤ 2 ^ k * 2 ^ lo := Nat.mul_le_mul_right _ a
      _ = 2 ^ lo * 2 ^ k := Nat.mul_comm _ _
  rw [e]
  calc w / 2 ^ (hi + 1) * 2 ^ (hi + 1) + v % 2 ^ k * 2 ^ lo + w % 2 ^ lo
      < w / 2 ^ (hi + 1) * 2 ^ (hi + 1) + 2 ^ (hi + 1) := by omega
    _ = (w / 2 ^ (hi + 1) + 1) * 2 ^ (hi + 1) := by rw [Nat.add_mul, Nat.one_mul]
    _ ≤ 2 ^ m * 2 ^ (hi + 1) := Nat.mul_le_mul_right _ hq
    _ = 2 ^ (hi + 1 + m) := by rw [← Nat.pow_add, Nat.add_comm]

theorem setFld_toNat (w : Word) (hi lo v : Nat) (h : lo ≤ hi) (hn : hi < 32) : (setFld w hi lo v).toNat = nsetFld w.toNat hi lo v := by
  unfold setFld
  rw [BitVec.toNat_ofNat, Nat.mod_eq_of_lt (nsetFld_lt _ _ _ _ _ h hn w.isLt)]

/-- A field of a register after it is set. -/
theorem fld_setFld (w : Word) (hi lo v : Nat) (h : lo ≤ hi) (hn : hi < 32) : fld (setFld w hi lo v) hi lo = v % 2 ^ (hi + 1 - lo) := by
  unfold fld; rw [setFld_toNat w hi lo v h hn, nfld_nsetFld _ _ _ _ h]

theorem nfld_low (w hi lo v a b : Nat) (h : lo ≤ hi) (hb : b < lo) (hab : a ≤ b) :
    nfld (nsetFld w hi lo v) b a = nfld w b a := by
  unfold nfld nsetFld
  obtain ⟨k, hk⟩ : ∃ k, lo = b + 1 + k := ⟨lo - (b + 1), by omega⟩
  obtain ⟨m, hm⟩ : ∃ m, hi + 1 = lo + m := ⟨hi + 1 - lo, by omega⟩
  obtain ⟨c, hc⟩ : ∃ c, b + 1 = a + c := ⟨b + 1 - a, by omega⟩
  have key : ∀ x, x / 2 ^ a % 2 ^ (b + 1 - a) = x % 2 ^ (b + 1) / 2 ^ a := by
    intro x
    have e : b + 1 - a = c := by omega
    rw [e, hc, Nat.pow_add, Nat.mod_mul_right_div_self]
  rw [key, key]
  congr 1
  have h2 : 2 ^ (b + 1) ∣ 2 ^ lo := by rw [hk]; exact Nat.pow_dvd_pow 2 (by omega)
  have h3 : 2 ^ (b + 1) ∣ 2 ^ (hi + 1) := Nat.pow_dvd_pow 2 (by omega)
  rw [Nat.add_mod, Nat.add_mod (_ * _), Nat.mod_eq_zero_of_dvd (Nat.dvd_trans h3 (Nat.dvd_mul_left _ _)),
    Nat.mod_eq_zero_of_dvd (Nat.dvd_trans h2 (Nat.dvd_mul_left _ _)), Nat.mod_mod_of_dvd _ h2]
  simp

theorem nfld_high (w hi lo v a b : Nat) (h : lo ≤ hi) (hb : hi < a) : nfld (nsetFld w hi lo v) b a = nfld w b a := by
  unfold nfld nsetFld
  congr 1
  obtain ⟨k, hk⟩ : ∃ k, a = hi + 1 + k := ⟨a - (hi + 1), by omega⟩
  obtain ⟨m, hm⟩ : ∃ m, hi + 1 = lo + m := ⟨hi + 1 - lo, by omega⟩
  have e : hi + 1 - lo = m := by omega
  have h1 : v % 2 ^ m * 2 ^ lo + w % 2 ^ lo < 2 ^ (hi + 1) := by
    rw [hm, Nat.pow_add]
    have a1 := Nat.mod_lt v (Nat.two_pow_pos m)
    have b1 := Nat.mod_lt w (Nat.two_pow_pos lo)
    calc v % 2 ^ m * 2 ^ lo + w % 2 ^ lo < v % 2 ^ m * 2 ^ lo + 2 ^ lo := by omega
      _ = (v % 2 ^ m + 1) * 2 ^ lo := by rw [Nat.add_mul, Nat.one_mul]
      _ ≤ 2 ^ m * 2 ^ lo := Nat.mul_le_mul_right _ a1
      _ = 2 ^ lo * 2 ^ m := Nat.mul_comm _ _
  have hs : (2 : Nat) ^ a = 2 ^ (hi + 1) * 2 ^ k := by rw [hk]; exact Nat.pow_add 2 (hi + 1) k
  rw [hs, ← Nat.div_div_eq_div_mul, ← Nat.div_div_eq_div_mul, e]
  congr 1
  rw [Nat.add_assoc, Nat.add_comm, Nat.add_mul_div_right _ _ (Nat.two_pow_pos _), Nat.div_eq_of_lt h1, Nat.zero_add]

/-- A field is untouched by the setting of another that lies above or below it. -/
theorem fld_setFld_ne (w : Word) (hi lo v b a : Nat) (h : lo ≤ hi) (hn : hi < 32) (hab : a ≤ b) (hd : b < lo ∨ hi < a) :
    fld (setFld w hi lo v) b a = fld w b a := by
  unfold fld; rw [setFld_toNat w hi lo v h hn]
  rcases hd with hd | hd
  · exact nfld_low _ _ _ _ _ _ h hd hab
  · exact nfld_high _ _ _ _ _ _ h hd

theorem bit_setBit (w : Word) (i : Nat) (b : Bool) (h : i < 32) : bit (setBit w i b) i = b := by
  unfold bit setBit; rw [fld_setFld _ _ _ _ (Nat.le_refl _) h]; cases b <;> simp

theorem bit_setFld_ne (w : Word) (hi lo v i : Nat) (h : lo ≤ hi) (hn : hi < 32) (hd : i < lo ∨ hi < i) :
    bit (setFld w hi lo v) i = bit w i := by
  unfold bit; rw [fld_setFld_ne w hi lo v i i h hn (Nat.le_refl _) hd]

theorem bit_setBit_ne (w : Word) (i j : Nat) (b : Bool) (h : j < 32) (hd : i ≠ j) : bit (setBit w j b) i = bit w i :=
  bit_setFld_ne w j j _ i (Nat.le_refl _) h (by omega)

theorem fld_setBit_ne (w : Word) (j : Nat) (v : Bool) (b a : Nat) (h : j < 32) (hab : a ≤ b) (hd : b < j ∨ j < a) :
    fld (setBit w j v) b a = fld w b a :=
  fld_setFld_ne w j j _ b a (Nat.le_refl _) h hab hd

/-- Every page starts at a multiple of 4096. -/
theorem Pg.base_mod (p : Pg) : p.base % 0x1000 = 0 := by
  unfold Pg.base PageKind.place
  cases p.kind <;> (dsimp only; omega)

theorem Pg.reg_mod (p : Pg) {off : Nat} (h : off < 0x1000) : p.reg off % 0x1000 = off := by
  have := p.base_mod
  unfold Pg.reg; omega

/-- The header of a page holds no block register. -/
theorem blockReg_header (p : Pg) {off : Nat} (h : off < 0x100) : blockReg (p.reg off) = false := by
  have := p.reg_mod (off := off) (by omega)
  simp [blockReg, this]; omega

theorem ne_header (p : Pg) {off a : Nat} (h : off < 0x100) (ha : blockReg a = true) : p.reg off ≠ a := by
  intro e; rw [← e, blockReg_header p h] at ha; cases ha

theorem ne_cnt {p i w a : Nat} (hp : p < 16) (hi : i < 112) (hw : w < 8) (ha : blockReg a = true) : (pCnt p).reg (cntReg i w) ≠ a := by
  intro e
  have : (pCnt p).reg (cntReg i w) = 0xB02000 + p * 0x1000 + (0x200 + 0x20 * i + 4 * w) := by
    simp [Pg.reg, Pg.base, pCnt, PageKind.place, cntReg]
  simp [blockReg, ← e, this] at ha
  omega

theorem State.wr_blk {s : State} {p : Pg} {off : Nat} {x v : Word} {a : Nat} (hb : blockReg a = true) (ho : off < 0x100)
    (h : s.rdA a = v) : (s.wr p off x).rdA a = v := by
  rw [State.rdA_wr, if_neg (ne_header p ho hb)]; exact h

theorem State.wrF_blk {s : State} {p : Pg} {off hi lo x : Nat} {v : Word} {a : Nat} (hb : blockReg a = true) (ho : off < 0x100)
    (h : s.rdA a = v) : (s.wrF p off hi lo x).rdA a = v := State.wr_blk hb ho h

theorem State.wrB_blk {s : State} {p : Pg} {off i : Nat} {x : Bool} {v : Word} {a : Nat} (hb : blockReg a = true) (ho : off < 0x100)
    (h : s.rdA a = v) : (s.wrB p off i x).rdA a = v := State.wr_blk hb ho h

theorem rdA_of_regs {s t : State} (h : t.regs = s.regs) (a : Nat) : t.rdA a = s.rdA a := by unfold State.rdA; rw [h]

theorem blk_ite {c : Prop} [Decidable c] {s t : State} {a : Nat} {v : Word} (h : s.rdA a = v) (k : t.rdA a = v) :
    (if c then s else t).rdA a = v := by split <;> assumption

theorem blk_foldl {β : Type} {a : Nat} {v : Word} {f : State → β → State} (l : List β) {s : State} (h : s.rdA a = v)
    (hf : ∀ t x, x ∈ l → t.rdA a = v → (f t x).rdA a = v) : (l.foldl f s).rdA a = v := by
  induction l generalizing s with
  | nil => exact h
  | cons x l ih => exact ih (hf s x (by simp) h) (fun t y hy => hf t y (by simp [hy]))

theorem State.emit_blk {s : State} {o : Output} {v : Word} {a : Nat} (_hb : blockReg a = true) (h : s.rdA a = v) :
    (s.emit o).rdA a = v := h

theorem State.bump_blk {s : State} {p : Pg} {n k : Nat} {v : Word} {a : Nat} (hb : blockReg a = true) (hn : n < 48)
    (h : s.rdA a = v) : (s.bump p n k).rdA a = v := blk_ite h (State.wr_blk hb (by omega) h)

theorem State.recErr_blk {s : State} {p : Pg} {code off : Nat} {v : Word} {a : Nat} (hb : blockReg a = true)
    (h : s.rdA a = v) : (s.recErr p code off).rdA a = v :=
  blk_ite (State.wr_blk hb (by decide) h) (State.wr_blk hb (by decide) (State.wr_blk hb (by decide) h))

/-- A vector that fires moves no register. -/
theorem State.msix_rdA (s : State) (fn v a : Nat) : (s.msix fn v).rdA a = s.rdA a := by
  unfold State.msix
  split <;> rfl

theorem State.sendIrq_blk {s : State} {p : Pg} {v : Word} {a : Nat} (hb : blockReg a = true)
    (h : s.rdA a = v) : (s.sendIrq p).rdA a = v := by
  unfold State.sendIrq
  split
  · exact h
  · exact blk_ite ((State.msix_rdA _ _ _ _).trans h) (State.bump_blk hb (by decide) h)

/-- The note of a flag set in the beat moves no register. -/
theorem State.noteSet_rdA (s : State) (p : Pg) (m a : Nat) : (s.noteSet p m).rdA a = s.rdA a := by
  unfold State.noteSet
  split <;> rfl

theorem State.raise_blk {s : State} {p : Pg} {m : Nat} {v : Word} {a : Nat} (hb : blockReg a = true)
    (h : s.rdA a = v) : (s.raise p m).rdA a = v := by
  have h1 : (s.noteSet p m).rdA a = v := (State.noteSet_rdA s p m a).trans h
  unfold State.raise
  dsimp only
  exact blk_ite (State.sendIrq_blk hb (State.wr_blk hb (by decide) h1)) (State.wr_blk hb (by decide) h1)

theorem State.flag_blk {s : State} {p : Pg} {i : Nat} {v : Word} {a : Nat} (hb : blockReg a = true)
    (h : s.rdA a = v) : (s.flag p i).rdA a = v := State.raise_blk hb h

theorem State.cntAdd_blk {s : State} {p i src chan k : Nat} {v : Word} {a : Nat} (hb : blockReg a = true) (hp : p < 16) (hi : i < 112)
    (h : s.rdA a = v) : (s.cntAdd p i src chan k).rdA a = v := by
  have h1 : ∀ x, (s.wr64 (pCnt p) (cntReg i 1) x).rdA a = v := by
    intro x
    have e : cntReg i 1 + 4 = cntReg i 2 := by unfold cntReg; omega
    rw [State.wr64, State.rdA_wr, if_neg (e ▸ ne_cnt hp hi (by decide) hb), State.rdA_wr, if_neg (ne_cnt hp hi (by decide) hb)]
    exact h
  exact blk_ite (State.flag_blk hb h) (blk_ite (State.flag_blk hb (h1 _)) (h1 _))

/-- The listed event counters exist. -/
theorem State.mem_cntList {s : State} {x : Nat × Nat × Nat × Nat} (h : x ∈ s.cntList) : x.1 < 16 ∧ x.2.1 < 112 := by
  unfold State.cntList at h
  rw [List.mem_filterMap] at h
  obtain ⟨e, -, he⟩ := h
  split at he
  · next hc =>
    have e1 := Option.some.inj he
    subst e1
    exact ⟨by show e.1 / 0x1000 - 0xB02 < 16; omega, by show (e.1 % 0x1000 - 0x200) / 0x20 < 112; omega⟩
  · cases he

theorem State.occur_blk {s : State} {src k : Nat} {v : Word} {a : Nat} (hb : blockReg a = true)
    (h : s.rdA a = v) : (s.occur src k).rdA a = v :=
  blk_ite h (blk_foldl _ h (fun _ _ hx ht =>
    blk_ite (State.cntAdd_blk hb (State.mem_cntList hx).1 (State.mem_cntList hx).2 ht) ht))

theorem State.count_blk {s : State} {p : Pg} {n k : Nat} {v : Word} {a : Nat} (hb : blockReg a = true) (hn : n < 48)
    (h : s.rdA a = v) : (s.count p n k).rdA a = v := by
  unfold State.count
  split
  · exact State.occur_blk hb (State.bump_blk hb hn h)
  · exact State.bump_blk hb hn h

theorem State.clrCount_blk {s : State} {n : Nat} {v : Word} {a : Nat} (hb : blockReg a = true)
    (h : s.rdA a = v) : (s.clrCount n).rdA a = v :=
  blk_ite h (blk_foldl _ h (fun _ _ _ ht => State.count_blk hb (by decide) ht))

theorem State.pauseCount_blk {s : State} {n : Nat} {v : Word} {a : Nat} (hb : blockReg a = true)
    (h : s.rdA a = v) : (s.pauseCount n).rdA a = v :=
  blk_foldl _ h (fun _ _ _ ht => blk_ite ht (State.count_blk hb (by omega) ht))

theorem State.passBeats_blk {s : State} {n : Nat} {v : Word} {a : Nat} (hb : blockReg a = true)
    (h : s.rdA a = v) : (s.passBeats n).rdA a = v :=
  blk_foldl _ (State.pauseCount_blk hb (State.clrCount_blk hb h)) (fun _ _ hx ht =>
    blk_ite ht (State.cntAdd_blk hb (State.mem_cntList hx).1 (State.mem_cntList hx).2 ht))

theorem State.irqAfterWrite_blk {s : State} {p : Pg} {v : Word} {a : Nat} (hb : blockReg a = true)
    (h : s.rdA a = v) : (s.irqAfterWrite p).rdA a = v := blk_ite (State.sendIrq_blk hb h) h

theorem State.flagsClear_blk {s : State} {p : Pg} {x v : Word} {a : Nat} (hb : blockReg a = true)
    (h : s.rdA a = v) : (s.flagsClear p x).rdA a = v := State.irqAfterWrite_blk hb (State.wr_blk hb (by decide) h)

theorem State.flagsSet_blk {s : State} {p : Pg} {x v : Word} {a : Nat} (hb : blockReg a = true)
    (h : s.rdA a = v) : (s.flagsSet p x).rdA a = v := State.irqAfterWrite_blk hb (State.wr_blk hb (by decide) h)

theorem State.flagsEn_blk {s : State} {p : Pg} {x v : Word} {a : Nat} (hb : blockReg a = true)
    (h : s.rdA a = v) : (s.flagsEn p x).rdA a = v := State.irqAfterWrite_blk hb (State.wr_blk hb (by decide) h)

/-- Registers at different offsets of whatever pages are different registers. -/
theorem reg_off_ne {p q : Pg} {a b : Nat} (ha : a < 0x1000) (hb : b < 0x1000) (h : a ≠ b) : p.reg a ≠ q.reg b := by
  intro e
  have h1 := p.reg_mod ha
  have h2 := q.reg_mod hb
  rw [e] at h1; omega

/-- A register after a range of a page returned to its reset values. -/
theorem State.rdA_resetRange (s : State) (p : Pg) (lo hi a : Nat) :
    (s.resetRange p lo hi).rdA a = if a < p.reg lo ∨ p.reg hi ≤ a then s.rdA a else regReset a := by
  have h := Tab.find?_filter s.regs (fun a => decide (a < p.reg lo ∨ p.reg hi ≤ a)) a
  show (Tab.find? (s.regs.filter (fun e => decide (e.1 < p.reg lo ∨ p.reg hi ≤ e.1))) a).getD (regReset a) = _
  rw [h]
  by_cases hc : a < p.reg lo ∨ p.reg hi ≤ a
  · rw [if_pos (by simpa using hc), if_pos hc]; rfl
  · rw [if_neg (by simpa using hc), if_neg hc]; rfl

/-- A local counter of a page an address lies in resets to 0. -/
theorem regReset_header {p : Pg} {off : Nat} (h : pageOf (p.reg off) = some p) (h1 : 0x20 ≤ off) (h2 : off < 0x100) :
    regReset (p.reg off) = 0 := by
  unfold regReset
  rw [h]
  have e : p.reg off % 0x1000 = off := p.reg_mod (by omega)
  have e2 : regRow p off = { name := "", off := off } := by
    unfold regRow
    rw [if_pos h2]
    unfold headRow
    split <;> first | omega | rfl
  dsimp only
  rw [e, e2]
  have : (p.kind = PageKind.ptp && decide (off = 0x100)) = false := by
    simp; omega
  simp [show off ≠ 0x100 by omega]

/-- Sending an interrupt moves no register but PCIE.LCNT[0]. -/
theorem State.sendIrq_rd (s : State) (p q : Pg) {off : Nat} (h : off < 0x1000) (h1 : off ≠ 0x40) :
    (s.sendIrq p).rd q off = s.rd q off := by
  unfold State.sendIrq
  split
  · rfl
  · dsimp only
    split
    · exact State.msix_rdA _ _ _ _
    · unfold State.bump
      split
      · rfl
      · exact State.rd_wr_ne _ _ (reg_off_ne (by decide) h (by omega))

theorem State.irqAfterWrite_rd (s : State) (p q : Pg) {off : Nat} (h : off < 0x1000) (h1 : off ≠ 0x40) :
    (s.irqAfterWrite p).rd q off = s.rd q off := by
  unfold State.irqAfterWrite
  split
  · exact State.sendIrq_rd _ _ _ h h1
  · rfl

/-- Raising a flag moves no register but the page's FLAGS and PCIE.LCNT[0]. -/
theorem State.raise_rd (s : State) (p q : Pg) (m : Nat) {off : Nat} (h : off < 0x1000) (h1 : off ≠ 0x40) (h2 : off ≠ 0x14) :
    (s.raise p m).rd q off = s.rd q off := by
  unfold State.raise
  extract_lets s0 s1
  have e : s1.rd q off = s.rd q off := (State.rd_wr_ne _ _ (reg_off_ne (by decide) h (by omega))).trans (State.noteSet_rdA s p m _)
  split
  · rw [State.sendIrq_rd _ _ _ h h1, e]
  · exact e

/-- A register reads the same in two states with the same registers. -/
theorem rdA_mk (s : State) (a : Nat) {beat : Nat} {shadow : Tab Word} {hiLatch : Tab Word} {loStage : Tab (Option Word)} {violog : Tab Word} {groups : Tab Group} {bounds : Tab (Nat × Nat)} {txs : List Tx} {splits : List (Nat × Nat)} {boot : Boot} {croz : Tab Croz} {cs : Tab (BitVec 192)} {players : Tab Player} {chains : Tab FluxChain} {pins : Pins} {rings : Tab Ring} {descs : Tab (BitVec 64)} {lists : Tab (BitVec 128)} {sram : Tab Word} {sec : Sec} {gddr : Tab Byte} {fes : Tab Fe} {wmem : Tab (BitVec 40)} {bus : List BusRec} {sorus : Sorus} {slots : Tab Slot} {acqs : Tab Acq} {queues : Tab Queue} {qmem : Tab (BitVec 64)} {transit : List Transit} {hypha : Hypha} {hk : Hk} {time : TimeSt} {cal : Cal} {therm : Therm} {link : Link} {tx : List (Nat × Nat × Nat × Nat × BitVec 64)} {ticking : Bool} {flagNow : List (Nat × Nat)} {trigs : List (Nat × Nat × Nat)} {fresh : Nat} {outbox : List Output} {pending : List Instr} :
    State.rdA { beat := beat, regs := s.regs, shadow := shadow, hiLatch := hiLatch, loStage := loStage, violog := violog, groups := groups, bounds := bounds, txs := txs, splits := splits, boot := boot, croz := croz, cs := cs, players := players, chains := chains, pins := pins, rings := rings, descs := descs, lists := lists, sram := sram, sec := sec, gddr := gddr, fes := fes, wmem := wmem, bus := bus, sorus := sorus, slots := slots, acqs := acqs, queues := queues, qmem := qmem, transit := transit, hypha := hypha, hk := hk, time := time, cal := cal, therm := therm, link := link, tx := tx, ticking := ticking, flagNow := flagNow, trigs := trigs, fresh := fresh, outbox := outbox, pending := pending } a = s.rdA a := rfl

end Sys2Proof.Machine
end

