-- ==== Sys2Proof/Laws/Bus.lean ====
section
/-! SUPPORT. Laws of the accesses of BAR0: where an address lies, and what an admitted access comes down to. -/
namespace Sys2Proof.Machine

theorem findDev_base {l : List DevPages} {pn : Nat} {p : Pg} (h : findDev l pn = some p) :
    ∃ r ∈ l, r.base / 0x1000 ≤ pn ∧ pn < r.base / 0x1000 + r.count ∧ p = { kind := r.kind, i := pn - r.base / 0x1000 } := by
  induction l with
  | nil => cases h
  | cons r t ih =>
    unfold findDev at h
    split at h
    · next hc => cases h; exact ⟨r, by simp, hc.1, hc.2, rfl⟩
    · obtain ⟨q, hq, hr⟩ := ih h; exact ⟨q, by simp [hq], hr⟩

/-- Every row of the page table starts where its kind's pages start, 4096 bytes apart. -/
theorem devPages_place : ∀ r ∈ devPages, r.kind.place.1 = r.base ∧ r.kind.place.2.1 = 0x1000 ∧ r.base % 0x1000 = 0 := by decide

/-- Where a page of a frond window starts. -/
theorem frondPage_base {f w : Nat} {p : Pg} (h : frondPage f w = some p) : p.base = 0x1000000 + f * 0x40000 + w * 0x1000 := by
  unfold frondPage at h
  split at h
  case h_8 h0 h1 h2 h3 h4 h5 h6 =>
    split at h
    · cases h
      have k0 : w ≠ 0 := h0
      have k1 : w ≠ 1 := h1
      have k2 : w ≠ 2 := h2
      have k3 : w ≠ 3 := h3
      have k4 : w ≠ 4 := h4
      have k5 : w ≠ 5 := h5
      have k6 : w ≠ 6 := h6
      show 0x1007000 + f * 0x40000 + (w - 7) * 0x1000 = _
      omega
    · cases h
  all_goals (cases h; unfold Pg.base PageKind.place; dsimp only; try omega)
/-- The page an address lies in starts at the address without its offset. -/
theorem pageOf_base {a : Nat} {p : Pg} (h : pageOf a = some p) : p.base = a / 0x1000 * 0x1000 := by
  unfold pageOf at h
  dsimp only at h
  split at h
  · obtain ⟨r, hr, h1, h2, rfl⟩ := findDev_base h
    obtain ⟨h3, h4, h5⟩ := devPages_place r hr
    show r.kind.place.1 + (a / 0x1000 - r.base / 0x1000) * r.kind.place.2.1 + 0 * 0x1000 = a / 0x1000 * 0x1000
    generalize r.kind.place.1 = x at h3 ⊢
    generalize r.kind.place.2.1 = y at h4 ⊢
    subst h4
    omega
  · next hn => split at h
               · have := frondPage_base h
                 omega
               · cases h

/-- The register of the page and offset an address reaches is the one at the address. -/
theorem place_reg {a off : Nat} {p : Pg} (h : place a = some (p, off)) : p.reg off = a ∧ off = a % 0x1000 := by
  unfold place at h
  split at h
  · cases h
  · split at h
    · next q hq => cases h; have := pageOf_base hq; exact ⟨by unfold Pg.reg; omega, rfl⟩
    · cases h

/-- The page an address reaches is the page it lies in. -/
theorem place_page {a off : Nat} {p : Pg} (h : place a = some (p, off)) : pageOf a = some p := by
  unfold place at h
  split at h
  · cases h
  · split at h
    · next q hq =>
      have e := Option.some.inj h
      rw [hq, (Prod.mk.inj e).1]
    · cases h

theorem State.admits_writeStop {s : State} {path : Path} {p : Pg} (off : Nat) (h : s.admits path p) : s.writeStop path p off = none := by
  obtain ⟨-, h1, h2, h3, -⟩ := h
  unfold State.writeStop
  rw [h1]
  simp only [h2, Bool.not_true, Bool.false_eq_true, if_false]
  rw [if_neg]
  simpa [Bool.and_eq_true] using fun a b c => h3 ⟨a, b, c⟩

theorem State.withWrite_admits {s : State} {path : Path} {p : Pg} (off : Nat) (k : State → State) (h : s.admits path p) :
    s.withWrite path p off k = k s := by
  unfold State.withWrite
  rw [State.admits_writeStop off h, if_neg (by simp [h.1])]

/-- No earlier write of an admitted path waits, so an access is in its turn. -/
theorem State.rowTurn_free {s : State} {path : Path} {p : Pg} (off : Nat) (v : Option Word) (k : State → State)
    (h : s.heldBy none path = none) : s.rowTurn path p off v k = k s := by
  unfold State.rowTurn
  rw [h]
  simp

/-- An admitted write that a command names acts at once. -/
theorem State.rowWrite_admits {s : State} {path : Path} {p : Pg} (off : Nat) (v : Word) (k : Word → State → State) (h : s.admits path p) :
    s.rowWrite path p off v k = k v s := by
  unfold State.rowWrite
  rw [State.rowTurn_free off _ _ h.2.2.2.2, State.withWrite_admits off _ h]

theorem State.withRead_reads {s : State} {path : Path} {p : Pg} (off : Nat) (k : State → State) (h : s.reads path p) :
    s.withRead path p off k = k s := by
  obtain ⟨h1, h2, h3⟩ := h
  unfold State.withRead
  rw [if_neg (by simp [h1])]
  rcases h2 with h2 | h2 <;> rw [h2] <;> simp [h3]

/-- A granted read that a command names answers at once. -/
theorem State.rowRead_reads {s : State} {path : Path} {p : Pg} (off : Nat) (k : State → State) (h : s.reads path p)
    (h1 : s.heldBy none path = none) : s.rowRead path p off k = k s := by
  unfold State.rowRead
  rw [State.rowTurn_free off _ _ h1, State.withRead_reads off _ h]

/-- An admitted write of one dword runs the register's rule. -/
theorem State.busWrite_admits {s : State} {path : Path} {a off : Nat} {p : Pg} (v : Word) (h : place a = some (p, off))
    (h1 : s.freePage path a) (h2 : s.admits path p) (h3 : a % 4 = 0) (h4 : off < 0x800) :
    s.busWrite path a [v] true = s.regWrite path p off v := by
  unfold State.busWrite
  rw [if_neg (by simp [h2.1])]
  simp only [accessOk, List.length_cons, List.length_nil, h3]
  simp only [State.writeDword, h1 true, State.writeNow, h]
  simp [State.withWrite_admits _ _ h2, h4]

/-- A granted read of one dword of the active view returns what the register's rule says. -/
theorem State.busRead_reads {s : State} {path : Path} {a off : Nat} {p : Pg} (h : place a = some (p, off))
    (h1 : s.freePage path a) (h2 : s.reads path p) (h3 : a % 4 = 0) (h4 : off < 0x800) :
    s.busRead path a 1 true = s.activeRead path p off := by
  obtain ⟨k1, k2, k3⟩ := h2
  unfold State.busRead
  rw [if_neg (by simp [k1])]
  simp only [accessOk, h3]
  simp only [State.readDword, h1 false, State.readNow, h]
  rcases k2 with k2 | k2 <;> simp [k2, k3, h4]

theorem State.routeSet_keeps (s : State) (f : Nat) : (s.routeSet f).regs = s.regs ∧ (s.routeSet f).gddr = s.gddr ∧ (s.routeSet f).beat = s.beat := by
  unfold State.routeSet
  extract_lets c
  split
  · exact ⟨rfl, rfl, rfl⟩
  · unfold State.routeOff
    split <;> exact ⟨rfl, rfl, rfl⟩

theorem State.afterWrite_rdA (s : State) (p : Pg) (off x : Nat) (h : p.kind = .clock → off ≠ 0x128) : (s.afterWrite p off).rdA x = s.rdA x := by
  unfold State.afterWrite
  split
  · next hk =>
    rw [if_neg (by intro hc; exact h hk hc.1)]
    split
    · exact rdA_of_regs (State.mapTime_regs _ _) _
    · rfl
  · split
    · exact rdA_of_regs (State.routeSet_keeps _ _).1 _
    · rfl
  · rfl

theorem State.afterWrite_gddr (s : State) (p : Pg) (off : Nat) : (s.afterWrite p off).gddr = s.gddr := by
  unfold State.afterWrite
  split
  · split
    · exact State.wr64_gddr _ _ _ _
    · split
      · exact State.mapTime_gddr _ _
      · rfl
  · split
    · exact (State.routeSet_keeps _ _).2.1
    · rfl
  · rfl

theorem State.afterWrite_beat (s : State) (p : Pg) (off : Nat) : (s.afterWrite p off).beat = s.beat := by
  unfold State.afterWrite
  split
  · split
    · exact State.wr64_beat _ _ _ _
    · split
      · exact State.mapTime_beat _ _
      · rfl
  · split
    · exact (State.routeSet_keeps _ _).2.2
    · rfl
  · rfl

theorem plainBits_zero (r : RegRow) (old v : Word) (h1 : r.rw = 0) (h2 : r.w1c = 0) (h3 : r.w1s = 0) : plainBits r old v = old := by
  unfold plainBits
  rw [h1, h2, h3]
  have e : (old &&& ~~~(BitVec.ofNat 32 0)) = old := by
    rw [show ~~~(BitVec.ofNat 32 0) = BitVec.allOnes 32 from rfl, BitVec.and_allOnes]
  dsimp only
  rw [e]
  rw [show (v &&& BitVec.ofNat 32 0) = 0#32 from BitVec.and_zero, BitVec.or_zero, show ~~~(0#32) = BitVec.allOnes 32 from rfl,
    BitVec.and_allOnes, BitVec.or_zero]

theorem State.plainWrite_rdA (s : State) (p : Pg) (off x : Nat) (v : Word) (h : p.kind = .clock → off ≠ 0x128) :
    (s.plainWrite p off v).rdA x = if x = p.reg off then plainBits (regRow p off) (s.rd p off) v else s.rdA x := by
  unfold State.plainWrite
  extract_lets r
  split
  · next h0 =>
    rw [plainBits_zero _ _ _ h0.1 h0.2.1 h0.2.2]
    split
    · next e => rw [e]; rfl
    · rfl
  · rw [State.afterWrite_rdA _ _ _ _ h, State.rdA_wr]
    split
    · next e => rw [if_pos e.symm]
    · next e => rw [if_neg (fun k => e k.symm)]

theorem State.plainWrite_gddr (s : State) (p : Pg) (off : Nat) (v : Word) : (s.plainWrite p off v).gddr = s.gddr := by
  unfold State.plainWrite
  extract_lets r
  split
  · rfl
  · rw [State.afterWrite_gddr]; rfl

theorem State.plainWrite_beat (s : State) (p : Pg) (off : Nat) (v : Word) : (s.plainWrite p off v).beat = s.beat := by
  unfold State.plainWrite
  extract_lets r
  split
  · rfl
  · rw [State.afterWrite_beat]; rfl

theorem regRow_clock128 (p : Pg) (h : p.kind = .clock) : (regRow p 0x128).pair = 2 := by
  have e : regRow p 0x128 = (findRow PageKind.clock.rows 0x128).getD { name := "", off := 0x128 } := by rw [← h]; rfl
  rw [e]; decide

end Sys2Proof.Machine
end

