-- ==== Sys2Proof/Laws/Canon.lean ====
section
/-! SUPPORT. Every operation keeps the canonical form of the register file and of the memories: one lemma per operation, from the
shared ones up, and one per command. First half: the operations up to the capture contexts and the Sorus. -/
namespace Sys2Proof.Machine

theorem canon_iff (s : State) : s.canon = true ↔ Tab.wf regReset s.regs = true ∧ Memory.wf s.gddr = true ∧
    Tab.wf (fun _ => 0) s.cs = true ∧ Tab.wf (fun _ => 0) s.descs = true ∧ Tab.wf (fun _ => 0) s.lists = true ∧
    Tab.wf (fun _ => 0) s.sram = true ∧ Tab.wf (fun _ => 0) s.wmem = true ∧ Tab.wf (fun _ => 0) s.qmem = true := by
  simp only [State.canon, Bool.and_eq_true, and_assoc]

/-- The canonical form looks at the registers and the memories only. -/
theorem canon_mk (s : State) {beat : Nat} {shadow : Tab Word} {hiLatch : Tab Word} {loStage : Tab (Option Word)} {violog : Tab Word} {groups : Tab Group} {bounds : Tab (Nat × Nat)} {txs : List Tx} {splits : List (Nat × Nat)} {boot : Boot} {croz : Tab Croz} {players : Tab Player} {chains : Tab FluxChain} {pins : Pins} {rings : Tab Ring} {sec : Sec} {fes : Tab Fe} {bus : List BusRec} {sorus : Sorus} {slots : Tab Slot} {acqs : Tab Acq} {queues : Tab Queue} {transit : List Transit} {hypha : Hypha} {hk : Hk} {time : TimeSt} {cal : Cal} {therm : Therm} {link : Link} {pcie : Pcie} {tx : List (Nat × Nat × Nat × Nat × BitVec 64)} {ticking : Bool} {flagNow : List (Nat × Nat)} {trigs : List (Nat × Nat × Nat)} {fresh : Nat} {outbox : List Output} {pending : List Instr}:
    State.canon { beat := beat, regs := s.regs, shadow := shadow, hiLatch := hiLatch, loStage := loStage, violog := violog, groups := groups, bounds := bounds, txs := txs, splits := splits, boot := boot, croz := croz, cs := s.cs, players := players, chains := chains, pins := pins, rings := rings, descs := s.descs, lists := s.lists, sram := s.sram, sec := sec, gddr := s.gddr, fes := fes, wmem := s.wmem, bus := bus, sorus := sorus, slots := slots, acqs := acqs, queues := queues, qmem := s.qmem, transit := transit, hypha := hypha, hk := hk, time := time, cal := cal, therm := therm, link := link, pcie := pcie, tx := tx, ticking := ticking, flagNow := flagNow, trigs := trigs, fresh := fresh, outbox := outbox, pending := pending } = s.canon := rfl

theorem canon_ite {c : Prop} [Decidable c] {a b : State} (ha : a.canon = true) (hb : b.canon = true) :
    (if c then a else b).canon = true := by split <;> assumption

theorem canon_foldl {β : Type} {f : State → β → State} (l : List β) {s : State} (h : s.canon = true)
    (hf : ∀ a x, a.canon = true → (f a x).canon = true) : (l.foldl f s).canon = true := by
  induction l generalizing s with
  | nil => exact h
  | cons x l ih => exact ih (hf s x h)

/-- A command's outcome keeps the canonical form. -/
def outCanon : Host.Outcome State Fault Refusal → Prop
  | .next t => t.canon = true
  | .fault _ => True
  | .refused _ => True

theorem outCanon_next {t : State} (h : t.canon = true) : outCanon (.next t) := h

/-- An optional state keeps the canonical form. -/
def optCanon : Option State → Prop
  | some t => t.canon = true
  | none => True

theorem optCanon_some {t : State} (h : t.canon = true) : optCanon (some t) := h

theorem optCanon_get {o : Option State} {t : State} (e : o = some t) (h : optCanon o) : t.canon = true := by
  subst e; exact h

theorem optCanon_none : optCanon none := trivial

theorem State.wrA_canon {s : State} (a : Nat) (v : Word) (h_s : s.canon = true) : State.canon (s.wrA a v) = true := by
  rw [canon_iff] at *
  exact ⟨Tab.wf_set h_s.1 a v, h_s.2⟩

theorem State.wr_canon {s : State} (p : Pg) (off : Nat) (v : Word) (h_s : s.canon = true) :
    State.canon (State.wr s p off v) = true := by
  unfold State.wr
  try dsimp only
  with_reducible repeat' (first | assumption | intro _ | apply State.wrA_canon | apply canon_ite | apply canon_foldl | simp only [canon_mk] | split)

theorem State.wrF_canon {s : State} (p : Pg) (off : Nat) (hi : Nat) (lo : Nat) (v : Nat) (h_s : s.canon = true) :
    State.canon (State.wrF s p off hi lo v) = true := by
  unfold State.wrF
  try dsimp only
  with_reducible repeat' (first | assumption | intro _ | apply State.wr_canon | apply canon_ite | apply canon_foldl | simp only [canon_mk] | split)

theorem State.wrB_canon {s : State} (p : Pg) (off : Nat) (i : Nat) (b : Bool) (h_s : s.canon = true) :
    State.canon (State.wrB s p off i b) = true := by
  unfold State.wrB
  try dsimp only
  with_reducible repeat' (first | assumption | intro _ | apply State.wrF_canon | apply canon_ite | apply canon_foldl | simp only [canon_mk] | split)

theorem State.wr64_canon {s : State} (p : Pg) (off : Nat) (v : Nat) (h_s : s.canon = true) :
    State.canon (State.wr64 s p off v) = true := by
  unfold State.wr64
  try dsimp only
  with_reducible repeat' (first | assumption | intro _ | apply State.wr_canon | apply canon_ite | apply canon_foldl | simp only [canon_mk] | split)

theorem State.resetRange_canon {s : State} (p : Pg) (lo hi : Nat) (h_s : s.canon = true) :
    State.canon (s.resetRange p lo hi) = true := by
  rw [canon_iff] at *
  exact ⟨Tab.wf_filter h_s.1 _, h_s.2⟩

theorem State.emit_canon {s : State} (o : Output) (h_s : s.canon = true) :
    State.canon (State.emit s o) = true := by
  unfold State.emit
  try dsimp only
  with_reducible repeat' (first | assumption | intro _ | apply canon_ite | apply canon_foldl | simp only [canon_mk] | split)

theorem State.draw_canon {s : State} (h_s : s.canon = true) :
    State.canon (State.draw s).2 = true := by
  unfold State.draw
  try dsimp only
  with_reducible repeat' (first | assumption | intro _ | apply canon_ite | apply canon_foldl | simp only [canon_mk] | split)

theorem State.mapCal_canon {s : State} (g : Cal → Cal) (h_s : s.canon = true) :
    State.canon (State.mapCal s g) = true := by
  unfold State.mapCal
  try dsimp only
  with_reducible repeat' (first | assumption | intro _ | apply canon_ite | apply canon_foldl | simp only [canon_mk] | split)

theorem State.bump_canon {s : State} (p : Pg) (n : Nat) (k : Nat) (h_s : s.canon = true) :
    State.canon (State.bump s p n k) = true := by
  unfold State.bump
  try dsimp only
  with_reducible repeat' (first | assumption | intro _ | apply State.wr_canon | apply canon_ite | apply canon_foldl | simp only [canon_mk] | split)

theorem State.recErr_canon {s : State} (p : Pg) (code : Nat) (off : Nat) (h_s : s.canon = true) :
    State.canon (State.recErr s p code off) = true := by
  unfold State.recErr
  try dsimp only
  with_reducible repeat' (first | assumption | intro _ | apply State.wr_canon | apply canon_ite | apply canon_foldl | simp only [canon_mk] | split)

theorem State.msix_canon {s : State} (fn v : Nat) (h_s : s.canon = true) :
    State.canon (State.msix s fn v) = true := by
  unfold State.msix
  try dsimp only
  with_reducible repeat' (first | assumption | intro _ | apply State.emit_canon | apply canon_ite | apply canon_foldl | simp only [canon_mk] | split)

theorem State.sendIrq_canon {s : State} (p : Pg) (h_s : s.canon = true) :
    State.canon (State.sendIrq s p) = true := by
  unfold State.sendIrq
  try dsimp only
  with_reducible repeat' (first | assumption | intro _ | apply State.bump_canon | apply State.msix_canon | apply canon_ite | apply canon_foldl | simp only [canon_mk] | split)

theorem State.noteSet_canon {s : State} (p : Pg) (m : Nat) (h_s : s.canon = true) :
    State.canon (State.noteSet s p m) = true := by
  unfold State.noteSet
  try dsimp only
  with_reducible repeat' (first | assumption | intro _ | apply canon_ite | apply canon_foldl | simp only [canon_mk] | split)

theorem State.raise_canon {s0 : State} (p : Pg) (m : Nat) (h_s0 : s0.canon = true) :
    State.canon (State.raise s0 p m) = true := by
  unfold State.raise
  try dsimp only
  with_reducible repeat' (first | assumption | intro _ | apply State.wr_canon | apply State.sendIrq_canon | apply State.noteSet_canon | apply canon_ite | apply canon_foldl | simp only [canon_mk] | split)

theorem State.flag_canon {s : State} (p : Pg) (i : Nat) (h_s : s.canon = true) :
    State.canon (State.flag s p i) = true := by
  unfold State.flag
  try dsimp only
  with_reducible repeat' (first | assumption | intro _ | apply State.raise_canon | apply canon_ite | apply canon_foldl | simp only [canon_mk] | split)

theorem State.cntAdd_canon {s : State} (p : Nat) (i : Nat) (src : Nat) (chan : Nat) (k : Nat) (h_s : s.canon = true) :
    State.canon (State.cntAdd s p i src chan k) = true := by
  unfold State.cntAdd
  try dsimp only
  with_reducible repeat' (first | assumption | intro _ | apply State.flag_canon | apply State.wr64_canon | apply canon_ite | apply canon_foldl | simp only [canon_mk] | split)

theorem State.occur_canon {s : State} (src : Nat) (k : Nat) (h_s : s.canon = true) :
    State.canon (State.occur s src k) = true := by
  unfold State.occur
  try dsimp only
  with_reducible repeat' (first | assumption | intro _ | apply State.cntAdd_canon | apply canon_ite | apply canon_foldl | simp only [canon_mk] | split)

theorem State.count_canon {s : State} (p : Pg) (n : Nat) (k : Nat) (h_s : s.canon = true) :
    State.canon (State.count s p n k) = true := by
  unfold State.count
  try dsimp only
  with_reducible repeat' (first | assumption | intro _ | apply State.occur_canon | apply State.bump_canon | apply canon_ite | apply canon_foldl | simp only [canon_mk] | split)

theorem State.irqAfterWrite_canon {s : State} (p : Pg) (h_s : s.canon = true) :
    State.canon (State.irqAfterWrite s p) = true := by
  unfold State.irqAfterWrite
  try dsimp only
  with_reducible repeat' (first | assumption | intro _ | apply State.sendIrq_canon | apply canon_ite | apply canon_foldl | simp only [canon_mk] | split)

theorem State.flagsClear_canon {s : State} (p : Pg) (v : Word) (h_s : s.canon = true) :
    State.canon (State.flagsClear s p v) = true := by
  unfold State.flagsClear
  try dsimp only
  with_reducible repeat' (first | assumption | intro _ | apply State.irqAfterWrite_canon | apply State.wr_canon | apply canon_ite | apply canon_foldl | simp only [canon_mk] | split)

theorem State.flagsSet_canon {s : State} (p : Pg) (v : Word) (h_s : s.canon = true) :
    State.canon (State.flagsSet s p v) = true := by
  unfold State.flagsSet
  try dsimp only
  with_reducible repeat' (first | assumption | intro _ | apply State.irqAfterWrite_canon | apply State.wr_canon | apply canon_ite | apply canon_foldl | simp only [canon_mk] | split)

theorem State.flagsEn_canon {s : State} (p : Pg) (v : Word) (h_s : s.canon = true) :
    State.canon (State.flagsEn s p v) = true := by
  unfold State.flagsEn
  try dsimp only
  with_reducible repeat' (first | assumption | intro _ | apply State.irqAfterWrite_canon | apply State.wr_canon | apply canon_ite | apply canon_foldl | simp only [canon_mk] | split)

theorem State.cntClr_canon {s : State} (p : Pg) (h_s : s.canon = true) :
    State.canon (State.cntClr s p) = true := by
  unfold State.cntClr
  try dsimp only
  with_reducible repeat' (first | assumption | intro _ | apply State.wr_canon | apply State.resetRange_canon | apply canon_ite | apply canon_foldl | simp only [canon_mk] | split)

theorem State.violate_canon {s : State} (path : Path) (cause : Nat) (bar : Nat) (addr : Nat) (write : Bool) (h_s : s.canon = true) :
    State.canon (State.violate s path cause bar addr write) = true := by
  unfold State.violate
  try dsimp only
  with_reducible repeat' (first | assumption | intro _ | apply State.wr_canon | apply State.wrF_canon | apply State.raise_canon | apply State.occur_canon | apply canon_ite | apply canon_foldl | simp only [canon_mk] | split)

theorem State.unmapped_canon {s : State} (path : Path) (a : Nat) (write : Bool) (h_s : s.canon = true) :
    State.canon (State.unmapped s path a write) = true := by
  unfold State.unmapped
  try dsimp only
  with_reducible repeat' (first | assumption | intro _ | apply State.wr_canon | apply canon_ite | apply canon_foldl | simp only [canon_mk] | split)

theorem State.writeStop_canon {s : State} (path : Path) (p : Pg) (off : Nat) (h_s : s.canon = true) :
    optCanon (State.writeStop s path p off) := by
  unfold State.writeStop
  try dsimp only
  with_reducible repeat' (first | assumption | intro _ | apply optCanon_some | apply optCanon_none | apply State.recErr_canon | apply State.violate_canon | apply canon_ite | apply canon_foldl | simp only [canon_mk] | split)

theorem State.withWrite_canon {s : State} (path : Path) (p : Pg) (off : Nat) (k : State → State) (h_s : s.canon = true) (h_k : ∀ t, t.canon = true → (k t).canon = true) :
    State.canon (State.withWrite s path p off k) = true := by
  unfold State.withWrite
  try dsimp only
  with_reducible repeat' (first | assumption | intro _ | apply State.writeStop_canon | apply h_k | apply canon_ite | apply canon_foldl | simp only [canon_mk] | exact optCanon_get (by assumption) (by first | apply State.writeStop_canon <;> assumption) | split)

theorem State.answer_canon {s : State} (path : Path) (ws : List Word) (h_s : s.canon = true) :
    State.canon (State.answer s path ws) = true := by
  unfold State.answer
  try dsimp only
  with_reducible repeat' (first | assumption | intro _ | apply State.emit_canon | apply canon_ite | apply canon_foldl | simp only [canon_mk] | split)

theorem State.answerPair_canon {s : State} (path : Path) (a : Nat) (lo : Word) (hi : Word) (h_s : s.canon = true) :
    State.canon (State.answerPair s path a lo hi) = true := by
  unfold State.answerPair
  try dsimp only
  with_reducible repeat' (first | assumption | intro _ | apply State.answer_canon | apply canon_ite | apply canon_foldl | simp only [canon_mk] | split)

theorem State.withRead_canon {s : State} (path : Path) (p : Pg) (off : Nat) (k : State → State) (h_s : s.canon = true) (h_k : ∀ t, t.canon = true → (k t).canon = true) :
    State.canon (State.withRead s path p off k) = true := by
  unfold State.withRead
  try dsimp only
  with_reducible repeat' (first | assumption | intro _ | apply State.answer_canon | apply State.violate_canon | apply h_k | apply canon_ite | apply canon_foldl | simp only [canon_mk] | split)

theorem State.withBell_canon {s : State} (path : Path) (p : Pg) (off : Nat) (bell : Nat) (k : State → State) (h_s : s.canon = true) (h_k : ∀ t, t.canon = true → (k t).canon = true) :
    State.canon (State.withBell s path p off bell k) = true := by
  unfold State.withBell
  try dsimp only
  with_reducible repeat' (first | assumption | intro _ | apply State.withWrite_canon | apply State.count_canon | apply State.violate_canon | apply h_k | apply canon_ite | apply canon_foldl | simp only [canon_mk] | split)

theorem State.putBehind_canon {s : State} (q : Nat) (x : Path × Nat × Option Word) (h_s : s.canon = true) :
    State.canon (State.putBehind s q x) = true := by
  unfold State.putBehind
  try dsimp only
  with_reducible repeat' (first | assumption | intro _ | apply canon_ite | apply canon_foldl | simp only [canon_mk] | split)

theorem State.rowTurn_canon {s : State} (path : Path) (p : Pg) (off : Nat) (v : Option Word) (k : State → State) (h_s : s.canon = true) (h_k : ∀ t, t.canon = true → State.canon (k t) = true) :
    State.canon (State.rowTurn s path p off v k) = true := by
  unfold State.rowTurn
  try dsimp only
  with_reducible repeat' (first | assumption | intro _ | apply State.putBehind_canon | apply h_k | apply canon_ite | apply canon_foldl | simp only [canon_mk] | split)

theorem State.viaBell_canon {s : State} (path : Path) (p : Pg) (off : Nat) (v : Word) (bell : Option Nat) (k : State → State) (h_s : s.canon = true) (h_k : ∀ t, t.canon = true → State.canon (k t) = true) :
    State.canon (State.viaBell s path p off v bell k) = true := by
  unfold State.viaBell
  try dsimp only
  with_reducible repeat' (first | assumption | intro _ | apply State.rowTurn_canon | apply State.withBell_canon | apply State.withWrite_canon | apply h_k | apply canon_ite | apply canon_foldl | simp only [canon_mk] | split)

theorem State.sendOn_canon {s : State} (p : Nat) (mode : Nat) (dst : Nat) (cls : Nat) (w : BitVec 64) (h_s : s.canon = true) :
    State.canon (State.sendOn s p mode dst cls w) = true := by
  unfold State.sendOn
  try dsimp only
  with_reducible repeat' (first | assumption | intro _ | apply State.emit_canon | apply canon_ite | apply canon_foldl | simp only [canon_mk] | split)

theorem State.unicast_canon {s : State} (dst : Nat) (cls : Nat) (w : BitVec 64) (h_s : s.canon = true) :
    State.canon (State.unicast s dst cls w) = true := by
  unfold State.unicast
  try dsimp only
  with_reducible repeat' (first | assumption | intro _ | apply State.emit_canon | apply State.sendOn_canon | apply State.count_canon | apply canon_ite | apply canon_foldl | simp only [canon_mk] | split)

theorem State.broadcast_canon {s : State} (except_ : Nat) (cls : Nat) (w : BitVec 64) (h_s : s.canon = true) :
    State.canon (State.broadcast s except_ cls w) = true := by
  unfold State.broadcast
  try dsimp only
  with_reducible repeat' (first | assumption | intro _ | apply State.sendOn_canon | apply canon_ite | apply canon_foldl | simp only [canon_mk] | split)

theorem State.srcEvent_canon {s : State} (beat : Nat) (src : Nat) (h_s : s.canon = true) :
    State.canon (State.srcEvent s beat src) = true := by
  unfold State.srcEvent
  try dsimp only
  with_reducible repeat' (first | assumption | intro _ | apply canon_ite | apply canon_foldl | simp only [canon_mk] | split)

theorem State.setQ_canon {s : State} (q : Nat) (x0 : Queue) (h_s : s.canon = true) :
    State.canon (State.setQ s q x0) = true := by
  unfold State.setQ
  try dsimp only
  with_reducible repeat' (first | assumption | intro _ | apply State.wr_canon | apply State.wrB_canon | apply canon_ite | apply canon_foldl | simp only [canon_mk] | split)

theorem State.loseMark_canon {s : State} (q : Nat) (quiet : Bool) (h_s : s.canon = true) :
    State.canon (State.loseMark s q quiet) = true := by
  unfold State.loseMark
  try dsimp only
  with_reducible repeat' (first | assumption | intro _ | apply State.flag_canon | apply State.setQ_canon | apply canon_ite | apply canon_foldl | simp only [canon_mk] | split)

theorem State.takeHead_canon {s : State} (q : Nat) (path : Path) (h_s : s.canon = true) :
    State.canon (State.takeHead s q path) = true := by
  unfold State.takeHead
  try dsimp only
  with_reducible repeat' (first | assumption | intro _ | apply State.answer_canon | apply State.setQ_canon | apply canon_ite | apply canon_foldl | simp only [canon_mk] | split)

theorem State.emptyHead_canon {s : State} (q : Nat) (path : Path) (h_s : s.canon = true) :
    State.canon (State.emptyHead s q path) = true := by
  unfold State.emptyHead
  try dsimp only
  with_reducible repeat' (first | assumption | intro _ | apply State.answer_canon | apply State.setQ_canon | apply canon_ite | apply canon_foldl | simp only [canon_mk] | split)

theorem State.serve_canon {s : State} (q n : Nat) (h_s : s.canon = true) : State.canon (s.serve q n) = true := by
  induction n generalizing s with
  | zero => exact h_s
  | succ n ih =>
    unfold State.serve
    dsimp only
    split
    · exact h_s
    · exact canon_ite h_s (ih (State.takeHead_canon _ _ (State.setQ_canon _ _ h_s)))

theorem State.headRead_canon {s : State} (q : Nat) (path : Path) (h_s : s.canon = true) :
    State.canon (State.headRead s q path) = true := by
  unfold State.headRead
  try dsimp only
  with_reducible repeat' (first | assumption | intro _ | apply State.answer_canon | apply State.takeHead_canon | apply State.setQ_canon | apply canon_ite | apply canon_foldl | simp only [canon_mk] | split)

theorem State.headTimeout_canon {s : State} (q : Nat) (h_s : s.canon = true) :
    State.canon (State.headTimeout s q) = true := by
  unfold State.headTimeout
  try dsimp only
  with_reducible repeat' (first | assumption | intro _ | apply State.emptyHead_canon | apply State.count_canon | apply State.setQ_canon | apply canon_ite | apply canon_foldl | simp only [canon_mk] | split)

theorem canon_qmem {s : State} (h : s.canon = true) (a : Nat) (w : BitVec 64) :
    State.canon { s with qmem := Tab.set 0 s.qmem a w } = true := by
  rw [canon_iff] at *
  exact ⟨h.1, h.2.1, h.2.2.1, h.2.2.2.1, h.2.2.2.2.1, h.2.2.2.2.2.1, h.2.2.2.2.2.2.1,
    Tab.wf_set (d := fun _ => (0 : BitVec 64)) h.2.2.2.2.2.2.2 a w⟩

theorem State.landWord_canon {s : State} (q start n : Nat) (w : BitVec 64) (h_s : s.canon = true) :
    State.canon (s.landWord q start n w) = true := by
  unfold State.landWord
  with_reducible exact State.serve_canon _ _ (State.loseMark_canon _ _ (State.setQ_canon _ _ (canon_qmem h_s _ _)))

theorem State.firstWord_canon {s : State} (k : Nat) (h_s : s.canon = true) :
    State.canon (State.firstWord s k) = true := by
  unfold State.firstWord
  try dsimp only
  with_reducible repeat' (first | assumption | intro _ | apply State.count_canon | apply State.setQ_canon | apply State.landWord_canon | apply State.flag_canon | apply canon_ite | apply canon_foldl | simp only [canon_mk] | split)

theorem State.nextWord_canon {s : State} (k : Nat) (h_s : s.canon = true) :
    State.canon (State.nextWord s k) = true := by
  unfold State.nextWord
  try dsimp only
  with_reducible repeat' (first | assumption | intro _ | apply State.landWord_canon | apply canon_ite | apply canon_foldl | simp only [canon_mk] | split)

theorem State.sendItem_canon {s : State} (q : Nat) (words : List (BitVec 64)) (h_s : s.canon = true) :
    State.canon (State.sendItem s q words) = true := by
  unfold State.sendItem
  try dsimp only
  with_reducible repeat' (first | assumption | intro _ | apply canon_ite | apply canon_foldl | simp only [canon_mk] | split)

theorem State.releaseTo_canon {s : State} (q : Nat) (rel : Nat) (h_s : s.canon = true) :
    State.canon (State.releaseTo s q rel) = true := by
  unfold State.releaseTo
  try dsimp only
  with_reducible repeat' (first | assumption | intro _ | apply State.loseMark_canon | apply State.setQ_canon | apply canon_ite | apply canon_foldl | simp only [canon_mk] | split)

theorem State.qRelease_canon {s : State} (q : Nat) (count : Nat) (h_s : s.canon = true) :
    State.canon (State.qRelease s q count) = true := by
  unfold State.qRelease
  try dsimp only
  with_reducible repeat' (first | assumption | intro _ | apply State.releaseTo_canon | apply canon_ite | apply canon_foldl | simp only [canon_mk] | split)

theorem State.qAll_canon {s : State} (q : Nat) (h_s : s.canon = true) :
    State.canon (State.qAll s q) = true := by
  unfold State.qAll
  try dsimp only
  with_reducible repeat' (first | assumption | intro _ | apply State.releaseTo_canon | apply canon_ite | apply canon_foldl | simp only [canon_mk] | split)

theorem State.qMark_canon {s : State} (q : Nat) (h_s : s.canon = true) :
    State.canon (State.qMark s q) = true := by
  unfold State.qMark
  try dsimp only
  with_reducible repeat' (first | assumption | intro _ | apply State.setQ_canon | apply canon_ite | apply canon_foldl | simp only [canon_mk] | split)

theorem State.qRewind_canon {s : State} (q : Nat) (h_s : s.canon = true) :
    State.canon (State.qRewind s q) = true := by
  unfold State.qRewind
  try dsimp only
  with_reducible repeat' (first | assumption | intro _ | apply State.count_canon | apply State.setQ_canon | apply State.serve_canon | apply State.recErr_canon | apply canon_ite | apply canon_foldl | simp only [canon_mk] | split)

theorem State.flushQ_canon {s : State} (q : Nat) (quiet : Bool) (h_s : s.canon = true) :
    State.canon (State.flushQ s q quiet) = true := by
  unfold State.flushQ
  try dsimp only
  with_reducible repeat' (first | assumption | intro _ | apply State.setQ_canon | apply State.count_canon | apply State.flag_canon | apply canon_ite | apply canon_foldl | simp only [canon_mk] | split)

theorem State.qCmd_canon {s : State} (q : Nat) (v : Word) (h_s : s.canon = true) :
    State.canon (State.qCmd s q v) = true := by
  unfold State.qCmd
  try dsimp only
  with_reducible repeat' (first | assumption | intro _ | apply State.flushQ_canon | apply State.qAll_canon | apply State.qRelease_canon | apply State.qRewind_canon | apply State.qMark_canon | apply canon_ite | apply canon_foldl | simp only [canon_mk] | split)

theorem State.ringOut_canon {s : State} (fn : Nat) (base : Nat) (size : Nat) (w : Nat) (bytes : List Byte) (h_s : s.canon = true) :
    State.canon (State.ringOut s fn base size w bytes) = true := by
  unfold State.ringOut
  try dsimp only
  with_reducible repeat' (first | assumption | intro _ | apply State.emit_canon | apply canon_ite | apply canon_foldl | simp only [canon_mk] | split)

theorem State.writeBack_canon {s : State} (fn : Nat) (addr : Nat) (w : Nat) (h_s : s.canon = true) :
    State.canon (State.writeBack s fn addr w) = true := by
  unfold State.writeBack
  try dsimp only
  with_reducible repeat' (first | assumption | intro _ | apply State.emit_canon | apply canon_ite | apply canon_foldl | simp only [canon_mk] | split)

theorem State.drainCopy_canon {s : State} (q : Nat) (h_s : s.canon = true) :
    State.canon (State.drainCopy s q) = true := by
  unfold State.drainCopy
  try dsimp only
  with_reducible repeat' (first | assumption | intro _ | apply State.wr_canon | apply State.ringOut_canon | apply State.setQ_canon | apply State.writeBack_canon | apply State.releaseTo_canon | apply canon_ite | apply canon_foldl | simp only [canon_mk] | split)

theorem State.hostRdWrite_canon {s : State} (p : Pg) (wrOff : Nat) (rdOff : Nat) (v : Word) (h_s : s.canon = true) :
    State.canon (State.hostRdWrite s p wrOff rdOff v) = true := by
  unfold State.hostRdWrite
  try dsimp only
  with_reducible repeat' (first | assumption | intro _ | apply State.recErr_canon | apply State.wr_canon | apply canon_ite | apply canon_foldl | simp only [canon_mk] | split)

theorem State.queueTimeout_canon {s : State} (q : Nat) (h_s : s.canon = true) :
    State.canon (State.queueTimeout s q) = true := by
  unfold State.queueTimeout
  try dsimp only
  with_reducible repeat' (first | assumption | intro _ | apply State.srcEvent_canon | apply State.count_canon | apply State.flag_canon | apply canon_ite | apply canon_foldl | simp only [canon_mk] | split)

theorem State.mapTime_canon {s : State} (g : TimeSt → TimeSt) (h_s : s.canon = true) :
    State.canon (State.mapTime s g) = true := by
  unfold State.mapTime
  try dsimp only
  with_reducible repeat' (first | assumption | intro _ | apply canon_ite | apply canon_foldl | simp only [canon_mk] | split)

theorem State.macTo_canon {s : State} (m : Nat) (h_s : s.canon = true) :
    State.canon (State.macTo s m) = true := by
  unfold State.macTo
  try dsimp only
  with_reducible repeat' (first | assumption | intro _ | apply State.mapTime_canon | apply canon_ite | apply canon_foldl | simp only [canon_mk] | split)

theorem State.alarmLate_canon {s : State} (h_s : s.canon = true) :
    State.canon (State.alarmLate s) = true := by
  unfold State.alarmLate
  try dsimp only
  with_reducible repeat' (first | assumption | intro _ | apply State.mapTime_canon | apply canon_ite | apply canon_foldl | simp only [canon_mk] | split)

theorem State.alarmFire_canon {s : State} (n : Nat) (h_s : s.canon = true) :
    State.canon (State.alarmFire s n) = true := by
  unfold State.alarmFire
  try dsimp only
  with_reducible repeat' (first | assumption | intro _ | apply State.count_canon | apply State.flag_canon | apply State.wrB_canon | apply canon_ite | apply canon_foldl | simp only [canon_mk] | split)

theorem State.clearMap_canon {s : State} (h_s : s.canon = true) :
    State.canon (State.clearMap s) = true := by
  unfold State.clearMap
  try dsimp only
  with_reducible repeat' (first | assumption | intro _ | apply State.mapTime_canon | apply canon_ite | apply canon_foldl | simp only [canon_mk] | split)

theorem State.stepTo_canon {s : State} (p : PtpTime) (h_s : s.canon = true) :
    State.canon (State.stepTo s p) = true := by
  unfold State.stepTo
  try dsimp only
  with_reducible repeat' (first | assumption | intro _ | apply State.alarmLate_canon | apply State.clearMap_canon | apply State.count_canon | apply State.flag_canon | apply State.mapTime_canon | apply canon_ite | apply canon_foldl | simp only [canon_mk] | split)

theorem State.clkSet_canon {s : State} (h_s : s.canon = true) :
    State.canon (State.clkSet s) = true := by
  unfold State.clkSet
  try dsimp only
  with_reducible repeat' (first | assumption | intro _ | apply State.stepTo_canon | apply canon_ite | apply canon_foldl | simp only [canon_mk] | split)

theorem State.clkAdj_canon {s : State} (h_s : s.canon = true) :
    State.canon (State.clkAdj s) = true := by
  unfold State.clkAdj
  try dsimp only
  with_reducible repeat' (first | assumption | intro _ | apply State.stepTo_canon | apply canon_ite | apply canon_foldl | simp only [canon_mk] | split)

theorem State.clkSnap_canon {s : State} (h_s : s.canon = true) :
    State.canon (State.clkSnap s) = true := by
  unfold State.clkSnap
  try dsimp only
  with_reducible repeat' (first | assumption | intro _ | apply State.wr_canon | apply State.wr64_canon | apply canon_ite | apply canon_foldl | simp only [canon_mk] | split)

theorem State.dropStep_canon {s : State} (h_s : s.canon = true) :
    State.canon (State.dropStep s) = true := by
  unfold State.dropStep
  try dsimp only
  with_reducible repeat' (first | assumption | intro _ | apply State.mapTime_canon | apply State.wr64_canon | apply State.wr_canon | apply State.wrB_canon | apply State.count_canon | apply canon_ite | apply canon_foldl | simp only [canon_mk] | split)

theorem State.clockCmd_canon {s : State} (v : Word) (h_s : s.canon = true) :
    State.canon (State.clockCmd s v) = true := by
  unfold State.clockCmd
  try dsimp only
  with_reducible repeat' (first | assumption | intro _ | apply State.recErr_canon | apply State.clkSet_canon | apply State.clkAdj_canon | apply State.mapTime_canon | apply State.clkSnap_canon | apply State.dropStep_canon | apply canon_ite | apply canon_foldl | simp only [canon_mk] | split)

theorem State.mapPair_canon {s : State} (ph : Nat) (h_s : s.canon = true) :
    State.canon (State.mapPair s ph) = true := by
  unfold State.mapPair
  try dsimp only
  with_reducible repeat' (first | assumption | intro _ | apply State.mapTime_canon | apply canon_ite | apply canon_foldl | simp only [canon_mk] | split)

theorem State.setSel_canon {s : State} (v : Nat) (h_s : s.canon = true) :
    State.canon (State.setSel s v) = true := by
  unfold State.setSel
  try dsimp only
  with_reducible repeat' (first | assumption | intro _ | apply State.mapTime_canon | apply State.wrF_canon | apply canon_ite | apply canon_foldl | simp only [canon_mk] | split)

theorem State.servoCtrl_canon {s : State} (v : Word) (h_s : s.canon = true) :
    State.canon (State.servoCtrl s v) = true := by
  unfold State.servoCtrl
  try dsimp only
  with_reducible repeat' (first | assumption | intro _ | apply State.wr_canon | apply State.mapTime_canon | apply State.setSel_canon | apply State.wr64_canon | apply canon_ite | apply canon_foldl | simp only [canon_mk] | split)

theorem State.markTime_canon {s : State} (T : Nat) (h_s : s.canon = true) :
    State.canon (State.markTime s T).2 = true := by
  unfold State.markTime
  try dsimp only
  with_reducible repeat' (first | assumption | intro _ | apply State.draw_canon | apply canon_ite | apply canon_foldl | simp only [canon_mk] | split)

theorem State.servoUpdate_canon {s : State} (o : Int) (h_s : s.canon = true) :
    State.canon (State.servoUpdate s o) = true := by
  unfold State.servoUpdate
  try dsimp only
  with_reducible repeat' (first | assumption | intro _ | apply State.count_canon | apply State.flag_canon | apply State.wr64_canon | apply State.stepTo_canon | apply State.mapTime_canon | apply State.wr_canon | apply canon_ite | apply canon_foldl | simp only [canon_mk] | split)

theorem State.setCrz_canon {s : State} (f : Nat) (c : Croz) (h_s : s.canon = true) :
    State.canon (State.setCrz s f c) = true := by
  unfold State.setCrz
  try dsimp only
  with_reducible repeat' (first | assumption | intro _ | apply canon_ite | apply canon_foldl | simp only [canon_mk] | split)

theorem State.setSlot_canon {s : State} (f : Nat) (k : Nat) (x : Slot) (h_s : s.canon = true) :
    State.canon (State.setSlot s f k x) = true := by
  unfold State.setSlot
  try dsimp only
  with_reducible repeat' (first | assumption | intro _ | apply State.wrF_canon | apply canon_ite | apply canon_foldl | simp only [canon_mk] | split)

theorem State.mapShot_canon {s : State} (f : Nat) (uid : Nat) (g : Shot → Shot) (h_s : s.canon = true) :
    State.canon (State.mapShot s f uid g) = true := by
  unfold State.mapShot
  try dsimp only
  with_reducible repeat' (first | assumption | intro _ | apply State.setCrz_canon | apply canon_ite | apply canon_foldl | simp only [canon_mk] | split)

theorem State.markShot_canon {s : State} (f : Nat) (uid : Nat) (tags : Nat) (h_s : s.canon = true) :
    State.canon (State.markShot s f uid tags) = true := by
  unfold State.markShot
  try dsimp only
  with_reducible repeat' (first | assumption | intro _ | apply State.mapShot_canon | apply canon_ite | apply canon_foldl | simp only [canon_mk] | split)

theorem State.setCrzState_canon {s : State} (f : Nat) (st : Nat) (h_s : s.canon = true) :
    State.canon (State.setCrzState s f st) = true := by
  unfold State.setCrzState
  try dsimp only
  with_reducible repeat' (first | assumption | intro _ | apply State.wrF_canon | apply canon_ite | apply canon_foldl | simp only [canon_mk] | split)

theorem State.setTc_canon {s : State} (f : Nat) (v : Nat) (h_s : s.canon = true) :
    State.canon (State.setTc s f v) = true := by
  unfold State.setTc
  try dsimp only
  with_reducible repeat' (first | assumption | intro _ | apply State.wr64_canon | apply canon_ite | apply canon_foldl | simp only [canon_mk] | split)

theorem State.setLc_canon {s : State} (f : Nat) (k : Nat) (v : Nat) (h_s : s.canon = true) :
    State.canon (State.setLc s f k v) = true := by
  unfold State.setLc
  try dsimp only
  with_reducible repeat' (first | assumption | intro _ | apply State.wrF_canon | apply canon_ite | apply canon_foldl | simp only [canon_mk] | split)

theorem State.setPc_canon {s : State} (f : Nat) (v : Nat) (h_s : s.canon = true) :
    State.canon (State.setPc s f v) = true := by
  unfold State.setPc
  try dsimp only
  with_reducible repeat' (first | assumption | intro _ | apply State.wrF_canon | apply canon_ite | apply canon_foldl | simp only [canon_mk] | split)

theorem State.setStack_canon {s : State} (f : Nat) (st : List Nat) (h_s : s.canon = true) :
    State.canon (State.setStack s f st) = true := by
  unfold State.setStack
  try dsimp only
  with_reducible repeat' (first | assumption | intro _ | apply State.wr_canon | apply State.setCrz_canon | apply canon_ite | apply canon_foldl | simp only [canon_mk] | split)

theorem State.setQueue_canon {s : State} (f : Nat) (q : List Bundle) (h_s : s.canon = true) :
    State.canon (State.setQueue s f q) = true := by
  unfold State.setQueue
  try dsimp only
  with_reducible repeat' (first | assumption | intro _ | apply State.setCrz_canon | apply State.wr_canon | apply canon_ite | apply canon_foldl | simp only [canon_mk] | split)

theorem State.busPut_canon {s : State} (f : Nat) (g : BusRec → BusRec) (h_s : s.canon = true) :
    State.canon (State.busPut s f g) = true := by
  unfold State.busPut
  try dsimp only
  with_reducible repeat' (first | assumption | intro _ | apply canon_ite | apply canon_foldl | simp only [canon_mk] | split)

theorem State.busShotEnd_canon {s : State} (f : Nat) (l : List Shot) (h_s : s.canon = true) :
    State.canon (State.busShotEnd s f l) = true := by
  unfold State.busShotEnd
  try dsimp only
  with_reducible repeat' (first | assumption | intro _ | apply State.busPut_canon | apply canon_ite | apply canon_foldl | simp only [canon_mk] | split)

theorem State.leaveBy_canon {s : State} (f : Nat) (p : Shot → Bool) (h_s : s.canon = true) :
    State.canon (State.leaveBy s f p) = true := by
  unfold State.leaveBy
  try dsimp only
  with_reducible repeat' (first | assumption | intro _ | apply State.setCrz_canon | apply State.busShotEnd_canon | apply canon_ite | apply canon_foldl | simp only [canon_mk] | split)

theorem State.writeStatus_canon {s : State} (f : Nat) (h : Shot) (h_s : s.canon = true) :
    State.canon (State.writeStatus s f h) = true := by
  unfold State.writeStatus
  try dsimp only
  with_reducible repeat' (first | assumption | intro _ | apply State.setCrz_canon | apply State.sendItem_canon | apply State.flag_canon | apply State.count_canon | apply canon_ite | apply canon_foldl | simp only [canon_mk] | split)

theorem State.setPlayer_canon {s : State} (f : Nat) (c : Nat) (p : Player) (h_s : s.canon = true) :
    State.canon (State.setPlayer s f c p) = true := by
  unfold State.setPlayer
  try dsimp only
  with_reducible repeat' (first | assumption | intro _ | apply State.wrB_canon | apply canon_ite | apply canon_foldl | simp only [canon_mk] | split)

theorem State.setRing_canon {s : State} (f : Nat) (r : Nat) (x : Ring) (h_s : s.canon = true) :
    State.canon (State.setRing s f r x) = true := by
  unfold State.setRing
  try dsimp only
  with_reducible repeat' (first | assumption | intro _ | apply State.wrB_canon | apply canon_ite | apply canon_foldl | simp only [canon_mk] | split)

theorem State.freeRing_canon {s : State} (f : Nat) (c : Nat) (h_s : s.canon = true) :
    State.canon (State.freeRing s f c) = true := by
  unfold State.freeRing
  try dsimp only
  with_reducible repeat' (first | assumption | intro _ | apply State.setRing_canon | apply canon_ite | apply canon_foldl | simp only [canon_mk] | split)

theorem State.idlePlayers_canon {s : State} (f : Nat) (h_s : s.canon = true) :
    State.canon (State.idlePlayers s f) = true := by
  unfold State.idlePlayers
  try dsimp only
  with_reducible repeat' (first | assumption | intro _ | apply State.setPlayer_canon | apply State.freeRing_canon | apply canon_ite | apply canon_foldl | simp only [canon_mk] | split)

theorem State.emptySlots_canon {s : State} (f : Nat) (h_s : s.canon = true) :
    State.canon (State.emptySlots s f) = true := by
  unfold State.emptySlots
  try dsimp only
  with_reducible repeat' (first | assumption | intro _ | apply State.setSlot_canon | apply canon_ite | apply canon_foldl | simp only [canon_mk] | split)

theorem State.postDone_canon {s : State} (f k : Nat) (shot : Option Nat) (out : Option (Nat × Nat × Nat)) (h_s : s.canon = true) :
    State.canon (State.postDone s f k shot out) = true := by
  unfold State.postDone
  try dsimp only
  with_reducible repeat' (first | assumption | intro _ | apply State.setSlot_canon | apply canon_ite | apply canon_foldl | simp only [canon_mk] | split)

theorem State.mapSorus_canon {s : State} (g : Sorus → Sorus) (h_s : s.canon = true) :
    State.canon (State.mapSorus s g) = true := by
  unfold State.mapSorus
  try dsimp only
  with_reducible repeat' (first | assumption | intro _ | apply canon_ite | apply canon_foldl | simp only [canon_mk] | split)

theorem State.setFlight_canon {s : State} (n : Nat) (r : Nat) (x : Option Flight) (h_s : s.canon = true) :
    State.canon (State.setFlight s n r x) = true := by
  unfold State.setFlight
  try dsimp only
  with_reducible repeat' (first | assumption | intro _ | apply State.wrB_canon | apply State.mapSorus_canon | apply canon_ite | apply canon_foldl | simp only [canon_mk] | split)

theorem State.abandon_canon {s : State} (n : Nat) (r : Nat) (h_s : s.canon = true) :
    State.canon (State.abandon s n r) = true := by
  unfold State.abandon
  try dsimp only
  with_reducible repeat' (first | assumption | intro _ | apply State.postDone_canon | apply State.count_canon | apply State.setFlight_canon | apply canon_ite | apply canon_foldl | simp only [canon_mk] | split)

theorem State.abandonTo_canon {s : State} (f : Nat) (h_s : s.canon = true) :
    State.canon (State.abandonTo s f) = true := by
  unfold State.abandonTo
  try dsimp only
  with_reducible repeat' (first | assumption | intro _ | apply State.abandon_canon | apply State.mapSorus_canon | apply canon_ite | apply canon_foldl | simp only [canon_mk] | split)

theorem State.unpause_canon {s : State} (f : Nat) (h_s : s.canon = true) :
    State.canon (State.unpause s f) = true := by
  unfold State.unpause
  try dsimp only
  with_reducible repeat' (first | assumption | intro _ | apply State.setCrzState_canon | apply State.setCrz_canon | apply canon_ite | apply canon_foldl | simp only [canon_mk] | split)

theorem State.setAcq_canon {s : State} (c : Nat) (x : Acq) (h_s : s.canon = true) :
    State.canon (State.setAcq s c x) = true := by
  unfold State.setAcq
  try dsimp only
  with_reducible repeat' (first | assumption | intro _ | apply canon_ite | apply canon_foldl | simp only [canon_mk] | split)

theorem State.acqForeign_canon {s : State} (f : Nat) (h_s : s.canon = true) :
    State.canon (State.acqForeign s f) = true := by
  unfold State.acqForeign
  try dsimp only
  with_reducible repeat' (first | assumption | intro _ | apply State.flag_canon | apply State.setAcq_canon | apply canon_ite | apply canon_foldl | simp only [canon_mk] | split)

theorem State.clearFrames_canon {s : State} (f m : Nat) (h_s : s.canon = true) :
    State.canon (State.clearFrames s f m) = true := by
  unfold State.clearFrames
  try dsimp only
  with_reducible repeat' (first | assumption | intro _ | apply State.wr_canon | apply State.setCrz_canon | apply canon_ite | apply canon_foldl | simp only [canon_mk] | split)

theorem State.queueLeaves_canon {s : State} (q : Nat) (h_s : s.canon = true) :
    State.canon (State.queueLeaves s q) = true := by
  unfold State.queueLeaves
  try dsimp only
  with_reducible repeat' (first | assumption | intro _ | apply State.emptyHead_canon | apply State.flushQ_canon | apply State.setQ_canon | apply canon_ite | apply canon_foldl | simp only [canon_mk] | split)

theorem State.ruleLeaves_canon {s : State} (n : Nat) (r : Nat) (h_s : s.canon = true) :
    State.canon (State.ruleLeaves s n r) = true := by
  unfold State.ruleLeaves
  try dsimp only
  with_reducible repeat' (first | assumption | intro _ | apply State.abandon_canon | apply State.setSlot_canon | apply State.mapSorus_canon | apply canon_ite | apply canon_foldl | simp only [canon_mk] | split)

theorem State.leaveShots_canon {s : State} (f : Nat) (h_s : s.canon = true) :
    State.canon (State.leaveShots s f) = true := by
  unfold State.leaveShots
  try dsimp only
  with_reducible repeat' (first | assumption | intro _ | apply State.leaveBy_canon | apply canon_ite | apply canon_foldl | simp only [canon_mk] | split)

theorem State.crzHalt_canon {s : State} (f : Nat) (h_s : s.canon = true) :
    State.canon (State.crzHalt s f) = true := by
  unfold State.crzHalt
  try dsimp only
  with_reducible repeat' (first | assumption | intro _ | apply State.leaveShots_canon | apply State.flag_canon | apply State.setCrzState_canon | apply State.unpause_canon | apply canon_ite | apply canon_foldl | simp only [canon_mk] | split)

theorem State.crzStop_canon {s : State} (f : Nat) (h_s : s.canon = true) :
    State.canon (State.crzStop s f) = true := by
  unfold State.crzStop
  try dsimp only
  with_reducible repeat' (first | assumption | intro _ | apply State.crzHalt_canon | apply State.leaveShots_canon | apply canon_ite | apply canon_foldl | simp only [canon_mk] | split)

theorem State.crzDrop_canon {s : State} (f : Nat) (h_s : s.canon = true) :
    State.canon (State.crzDrop s f) = true := by
  unfold State.crzDrop
  try dsimp only
  with_reducible repeat' (first | assumption | intro _ | apply State.setQueue_canon | apply State.crzStop_canon | apply canon_ite | apply canon_foldl | simp only [canon_mk] | split)

theorem State.setFe_canon {s : State} (f : Nat) (x : Fe) (h_s : s.canon = true) :
    State.canon (State.setFe s f x) = true := by
  unfold State.setFe
  try dsimp only
  with_reducible repeat' (first | assumption | intro _ | apply canon_ite | apply canon_foldl | simp only [canon_mk] | split)

theorem State.frondLeaves_canon {s : State} (f : Nat) (h_s : s.canon = true) :
    State.canon (State.frondLeaves s f) = true := by
  unfold State.frondLeaves
  try dsimp only
  with_reducible repeat' (first | assumption | intro _ | apply State.writeStatus_canon | apply State.idlePlayers_canon | apply State.emptySlots_canon | apply State.abandonTo_canon | apply State.crzDrop_canon | apply State.clearFrames_canon | apply State.acqForeign_canon | apply State.setFe_canon | apply canon_ite | apply canon_foldl | simp only [canon_mk] | split)

theorem State.leaves_canon {s : State} (p : Pg) (h_s : s.canon = true) :
    State.canon (State.leaves s p) = true := by
  unfold State.leaves
  try dsimp only
  with_reducible repeat' (first | assumption | intro _ | apply State.frondLeaves_canon | apply State.queueLeaves_canon | apply State.ruleLeaves_canon | apply canon_ite | apply canon_foldl | simp only [canon_mk] | split)

theorem State.crzFault_canon {s : State} (f : Nat) (code : Nat) (h_s : s.canon = true) :
    State.canon (State.crzFault s f code) = true := by
  unfold State.crzFault
  try dsimp only
  with_reducible repeat' (first | assumption | intro _ | apply State.flag_canon | apply State.wr_canon | apply State.setCrzState_canon | apply State.leaveShots_canon | apply State.setQueue_canon | apply State.setCrz_canon | apply State.unpause_canon | apply canon_ite | apply canon_foldl | simp only [canon_mk] | split)

theorem State.haltStep_canon {s : State} (f : Nat) (h_s : s.canon = true) :
    State.canon (State.haltStep s f) = true := by
  unfold State.haltStep
  try dsimp only
  with_reducible repeat' (first | assumption | intro _ | apply State.crzHalt_canon | apply State.setCrz_canon | apply canon_ite | apply canon_foldl | simp only [canon_mk] | split)

theorem State.haltDue_canon {s : State} (h_s : s.canon = true) :
    State.canon (State.haltDue s) = true := by
  unfold State.haltDue
  try dsimp only
  with_reducible repeat' (first | assumption | intro _ | apply State.haltStep_canon | apply canon_ite | apply canon_foldl | simp only [canon_mk] | split)

theorem State.setEvin_canon {s : State} (f : Nat) (m : Nat) (h_s : s.canon = true) :
    State.canon (State.setEvin s f m) = true := by
  unfold State.setEvin
  try dsimp only
  with_reducible repeat' (first | assumption | intro _ | apply State.wrF_canon | apply State.setCrz_canon | apply canon_ite | apply canon_foldl | simp only [canon_mk] | split)

theorem State.consume_canon {s : State} (f : Nat) (code : Nat) (h_s : s.canon = true) :
    State.canon (State.consume s f code) = true := by
  unfold State.consume
  try dsimp only
  with_reducible repeat' (first | assumption | intro _ | apply State.setEvin_canon | apply canon_ite | apply canon_foldl | simp only [canon_mk] | split)

theorem State.segFail_canon {s : State} (f : Nat) (c : Nat) (k : Nat) (seg : Nat) (code : Nat) (shot : Nat) (h_s : s.canon = true) :
    State.canon (State.segFail s f c k seg code shot) = true := by
  unfold State.segFail
  try dsimp only
  with_reducible repeat' (first | assumption | intro _ | apply State.setPlayer_canon | apply State.freeRing_canon | apply State.markShot_canon | apply State.wr_canon | apply State.flag_canon | apply State.count_canon | apply canon_ite | apply canon_foldl | simp only [canon_mk] | split)

theorem State.beginPass_canon {s : State} (f : Nat) (c : Nat) (k : Nat) (entry : Nat) (ent : BitVec 128) (seg : Nat) (shot : Nat) (fu : FrameUse) (h_s : s.canon = true) :
    State.canon (State.beginPass s f c k entry ent seg shot fu) = true := by
  unfold State.beginPass
  try dsimp only
  with_reducible repeat' (first | assumption | intro _ | apply State.segFail_canon | apply State.freeRing_canon | apply State.setRing_canon | apply State.setPlayer_canon | apply canon_ite | apply canon_foldl | simp only [canon_mk] | split)

theorem State.suppress_canon {s : State} (f : Nat) (shot : Nat) (tag : Nat) (h_s : s.canon = true) :
    State.canon (State.suppress s f shot tag) = true := by
  unfold State.suppress
  try dsimp only
  with_reducible repeat' (first | assumption | intro _ | apply State.markShot_canon | apply State.flag_canon | apply State.count_canon | apply canon_ite | apply canon_foldl | simp only [canon_mk] | split)

theorem State.latchFrom_canon (f c : Nat) (l : List Jump) {s : State} (h_s : s.canon = true) :
    State.canon (State.latchFrom f c l s) = true := by
  induction l generalizing s with
  | nil => exact State.setPlayer_canon _ _ _ h_s
  | cons j t ih =>
    unfold State.latchFrom
    dsimp only
    split
    · exact ih (State.suppress_canon _ _ _ (State.setPlayer_canon _ _ _ h_s))
    · exact State.setPlayer_canon _ _ _ h_s

theorem State.latchJump_canon {s : State} (f : Nat) (c : Nat) (h_s : s.canon = true) :
    State.canon (State.latchJump s f c) = true := by
  unfold State.latchJump
  try dsimp only
  with_reducible repeat' (first | assumption | intro _ | apply State.latchFrom_canon | apply canon_ite | apply canon_foldl | simp only [canon_mk] | split)

theorem State.jumpLate_canon {s : State} (f : Nat) (h_s : s.canon = true) :
    State.canon (State.jumpLate s f) = true := by
  unfold State.jumpLate
  try dsimp only
  with_reducible repeat' (first | assumption | intro _ | apply State.flag_canon | apply State.count_canon | apply canon_ite | apply canon_foldl | simp only [canon_mk] | split)

theorem State.passBoundary_canon {s : State} (f : Nat) (c : Nat) (h_s : s.canon = true) :
    State.canon (State.passBoundary s f c) = true := by
  unfold State.passBoundary
  try dsimp only
  with_reducible repeat' (first | assumption | intro _ | apply State.latchJump_canon | apply State.count_canon | apply State.jumpLate_canon | apply State.setPlayer_canon | apply State.beginPass_canon | apply State.freeRing_canon | apply canon_ite | apply canon_foldl | simp only [canon_mk] | split)

theorem State.passEnds_canon {s : State} (f c k n : Nat) (h_s : s.canon = true) : State.canon (State.passEnds f c k n s) = true := by
  induction n generalizing s with
  | zero => exact h_s
  | succ n ih =>
    unfold State.passEnds
    exact canon_ite (ih (State.passBoundary_canon f c h_s)) h_s

theorem State.startTone_canon {s : State} (f : Nat) (c : Nat) (k : Nat) (entry : Nat) (shot : Nat) (fu : FrameUse) (seq : Nat) (h_s : s.canon = true) :
    State.canon (State.startTone s f c k entry shot fu seq) = true := by
  unfold State.startTone
  try dsimp only
  with_reducible repeat' (first | assumption | intro _ | apply State.count_canon | apply State.setPlayer_canon | apply State.beginPass_canon | apply State.passEnds_canon | apply canon_ite | apply canon_foldl | simp only [canon_mk] | split)

theorem State.startFlux_canon {s : State} (f : Nat) (n : Nat) (k : Nat) (seg : Nat) (shot : Nat) (h_s : s.canon = true) :
    State.canon (State.startFlux s f n k seg shot) = true := by
  unfold State.startFlux
  try dsimp only
  with_reducible repeat' (first | assumption | intro _ | apply State.beginPass_canon | apply State.count_canon | apply State.passEnds_canon | apply canon_ite | apply canon_foldl | simp only [canon_mk] | split)

theorem State.handJump_canon {s : State} (f : Nat) (j : Jump) (h_s : s.canon = true) :
    State.canon (State.handJump s f j) = true := by
  unfold State.handJump
  try dsimp only
  with_reducible repeat' (first | assumption | intro _ | apply State.jumpLate_canon | apply State.setPlayer_canon | apply canon_ite | apply canon_foldl | simp only [canon_mk] | split)

theorem State.jumpAsStart_canon {s : State} (f : Nat) (b : Nat) (j : Jump) (h_s : s.canon = true) :
    State.canon (State.jumpAsStart s f b j) = true := by
  unfold State.jumpAsStart
  try dsimp only
  with_reducible repeat' (first | assumption | intro _ | apply State.setPlayer_canon | apply State.suppress_canon | apply State.startTone_canon | apply canon_ite | apply canon_foldl | simp only [canon_mk] | split)

theorem State.ringLevels_canon {s : State} (f : Nat) (r : Nat) (old : Nat) (h_s : s.canon = true) :
    State.canon (State.ringLevels s f r old) = true := by
  unfold State.ringLevels
  try dsimp only
  with_reducible repeat' (first | assumption | intro _ | apply State.flag_canon | apply canon_ite | apply canon_foldl | simp only [canon_mk] | split)

theorem State.ringWrite_canon {s : State} (f : Nat) (r : Nat) (v : Word) (h_s : s.canon = true) :
    State.canon (State.ringWrite s f r v) = true := by
  unfold State.ringWrite
  try dsimp only
  with_reducible repeat' (first | assumption | intro _ | apply State.recErr_canon | apply State.count_canon | apply State.flag_canon | apply State.ringLevels_canon | apply State.wr_canon | apply canon_ite | apply canon_foldl | simp only [canon_mk] | split)

theorem canon_setSram {s : State} (h : s.canon = true) (l : List Nat) (k : Nat → Nat) (v : Nat → Word) :
    State.canon { s with sram := l.foldl (fun t i => Tab.set 0 t (k i) (v i)) s.sram } = true := by
  rw [canon_iff] at *
  refine ⟨h.1, h.2.1, h.2.2.1, h.2.2.2.1, h.2.2.2.2.1, ?_, h.2.2.2.2.2.2⟩
  have h1 := h.2.2.2.2.2.1
  show Tab.wf (fun _ => (0 : Word)) (l.foldl (fun t i => Tab.set 0 t (k i) (v i)) s.sram) = true
  generalize s.sram = m at h1 ⊢
  clear h
  induction l generalizing m with
  | nil => exact h1
  | cons i l ih => exact ih _ (Tab.wf_set (d := fun _ => (0 : Word)) h1 _ _)

theorem State.ringRefill_canon {s : State} (f r : Nat) (h_s : s.canon = true) : State.canon (s.ringRefill f r) = true := by
  unfold State.ringRefill
  refine canon_ite h_s ?_
  exact State.wrB_canon _ _ _ _ (State.ringLevels_canon _ _ _ (State.wr_canon _ _ _ (canon_setSram h_s _ _ _)))

theorem canon_noGddr {s : State} (h : s.canon = true) : State.canon { s with gddr := [] } = true := by
  rw [canon_iff] at *
  exact ⟨h.1, rfl, h.2.2⟩

theorem canon_withGddr {s t : State} (h : s.canon = true) (ht : t.canon = true) : State.canon { t with gddr := s.gddr } = true := by
  rw [canon_iff] at *
  exact ⟨ht.1, h.2.1, ht.2.2⟩

theorem State.ringRefillBad_canon {s : State} (f r : Nat) (h_s : s.canon = true) : State.canon (s.ringRefillBad f r) = true := by
  unfold State.ringRefillBad
  have h1 := canon_withGddr h_s (State.ringRefill_canon f r (canon_noGddr h_s))
  exact canon_ite h1 ((canon_mk _).trans h1)

theorem State.abortAtEnd_canon {s : State} (f : Nat) (h_s : s.canon = true) :
    State.canon (State.abortAtEnd s f) = true := by
  unfold State.abortAtEnd
  try dsimp only
  with_reducible repeat' (first | assumption | intro _ | apply State.setQueue_canon | apply State.setPlayer_canon | apply State.flag_canon | apply State.setCrz_canon | apply State.crzStop_canon | apply canon_ite | apply canon_foldl | simp only [canon_mk] | split)

theorem State.underrun_canon {s : State} (f r : Nat) (h_s : s.canon = true) :
    State.canon (State.underrun s f r) = true := by
  unfold State.underrun
  try dsimp only
  with_reducible repeat' (first | assumption | intro _ | apply State.flag_canon | apply State.count_canon | apply State.wrB_canon | apply State.markShot_canon | apply State.abortAtEnd_canon | apply canon_ite | apply canon_foldl | simp only [canon_mk] | split)

theorem State.ringUnderrun_canon {s : State} (f : Nat) (c : Nat) (h_s : s.canon = true) :
    State.canon (State.ringUnderrun s f c) = true := by
  unfold State.ringUnderrun
  try dsimp only
  with_reducible repeat' (first | assumption | intro _ | apply State.setPlayer_canon | apply State.underrun_canon | apply canon_ite | apply canon_foldl | simp only [canon_mk] | split)

theorem State.hyphaForeign_canon {s : State} (on : List Nat) (outs : List Nat) (h_s : s.canon = true) :
    State.canon (State.hyphaForeign s on outs) = true := by
  unfold State.hyphaForeign
  try dsimp only
  with_reducible repeat' (first | assumption | intro _ | apply State.count_canon | apply State.flag_canon | apply canon_ite | apply canon_foldl | simp only [canon_mk] | split)

theorem State.hyphaTick_canon {s : State} (h_s : s.canon = true) :
    State.canon (State.hyphaTick s) = true := by
  unfold State.hyphaTick
  try dsimp only
  with_reducible repeat' (first | assumption | intro _ | apply State.hyphaForeign_canon | apply State.count_canon | apply State.wr_canon | apply canon_ite | apply canon_foldl | simp only [canon_mk] | split)

theorem State.pipePut_canon {s : State} (f u : Nat) (codes : List Int) (h_s : s.canon = true) :
    State.canon (State.pipePut s f u codes) = true := by
  unfold State.pipePut
  try dsimp only
  with_reducible repeat' (first | assumption | intro _ | apply canon_ite | apply canon_foldl | simp only [canon_mk] | split)

theorem State.driveClip_canon {s : State} (f : Nat) (d : Nat) (h_s : s.canon = true) :
    State.canon (State.driveClip s f d) = true := by
  unfold State.driveClip
  try dsimp only
  with_reducible repeat' (first | assumption | intro _ | apply State.wr64_canon | apply State.flag_canon | apply State.count_canon | apply State.pipePut_canon | apply canon_ite | apply canon_foldl | simp only [canon_mk] | split)

theorem State.fluxBeat_canon {s : State} (f : Nat) (n : Nat) (h_s : s.canon = true) :
    State.canon (State.fluxBeat s f n) = true := by
  unfold State.fluxBeat
  try dsimp only
  with_reducible repeat' (first | assumption | intro _ | apply State.flag_canon | apply State.count_canon | apply State.wr64_canon | apply State.pipePut_canon | apply canon_ite | apply canon_foldl | simp only [canon_mk] | split)

theorem State.driveBeat_canon {s : State} (f : Nat) (c : Nat) (h_s : s.canon = true) :
    State.canon (State.driveBeat s f c) = true := by
  unfold State.driveBeat
  try dsimp only
  with_reducible repeat' (first | assumption | intro _ | apply State.driveClip_canon | apply canon_ite | apply canon_foldl | simp only [canon_mk] | split)

theorem State.driveTick_canon {s : State} (h_s : s.canon = true) :
    State.canon (State.driveTick s) = true := by
  unfold State.driveTick
  try dsimp only
  with_reducible repeat' (first | assumption | intro _ | apply State.setPlayer_canon | apply State.driveClip_canon | apply State.fluxBeat_canon | apply State.occur_canon | apply State.ringUnderrun_canon | apply canon_ite | apply canon_foldl | simp only [canon_mk] | split)

theorem State.forceFrom_canon {s : State} (m : Nat) (v : Bool) (h_s : s.canon = true) :
    State.canon (State.forceFrom s m v) = true := by
  unfold State.forceFrom
  try dsimp only
  with_reducible repeat' (first | assumption | intro _ | apply canon_ite | apply canon_foldl | simp only [canon_mk] | split)

theorem State.feMark_canon {s : State} (f b : Nat) (forced : Bool) (h_s : s.canon = true) :
    State.canon (State.feMark s f b forced) = true := by
  unfold State.feMark
  try dsimp only
  with_reducible repeat' (first | assumption | intro _ | apply State.wr64_canon | apply State.flag_canon | apply State.count_canon | apply canon_ite | apply canon_foldl | simp only [canon_mk] | split)

theorem State.feSwitch_canon {s : State} (f : Nat) (b : Nat) (range : Nat) (input : Nat) (forced : Bool) (h_s : s.canon = true) :
    State.canon (State.feSwitch s f b range input forced) = true := by
  unfold State.feSwitch
  try dsimp only
  with_reducible repeat' (first | assumption | intro _ | apply State.setFe_canon | apply State.feMark_canon | apply canon_ite | apply canon_foldl | simp only [canon_mk] | split)

theorem State.feStep_canon {s : State} (f : Nat) (b : Nat) (h_s : s.canon = true) :
    State.canon (State.feStep s f b) = true := by
  unfold State.feStep
  try dsimp only
  with_reducible repeat' (first | assumption | intro _ | apply State.feSwitch_canon | apply canon_ite | apply canon_foldl | simp only [canon_mk] | split)

theorem State.feCommit_canon {s : State} (f : Nat) (a : Nat) (old : Word) (h_s : s.canon = true) :
    State.canon (State.feCommit s f a old) = true := by
  unfold State.feCommit
  try dsimp only
  with_reducible repeat' (first | assumption | intro _ | apply State.setFe_canon | apply State.feSwitch_canon | apply canon_ite | apply canon_foldl | simp only [canon_mk] | split)

theorem State.ovrBeat_canon {s : State} (f b : Nat) (rails : List (Nat × Bool)) (h_s : s.canon = true) :
    State.canon (State.ovrBeat s f b rails) = true := by
  unfold State.ovrBeat
  try dsimp only
  with_reducible repeat' (first | assumption | intro _ | apply State.setFe_canon | apply State.srcEvent_canon | apply State.wr64_canon | apply State.count_canon | apply State.flag_canon | apply canon_ite | apply canon_foldl | simp only [canon_mk] | split)

theorem State.toneStep_canon {s : State} (f _t : Nat) (h_s : s.canon = true) :
    State.canon (State.toneStep s f _t) = true := by
  unfold State.toneStep
  try dsimp only
  with_reducible repeat' (first | assumption | intro _ | apply State.setFe_canon | apply canon_ite | apply canon_foldl | simp only [canon_mk] | split)

theorem State.toneCommit_canon {s : State} (f : Nat) (t : Nat) (a : Nat) (h_s : s.canon = true) :
    State.canon (State.toneCommit s f t a) = true := by
  unfold State.toneCommit
  try dsimp only
  with_reducible repeat' (first | assumption | intro _ | apply State.setFe_canon | apply canon_ite | apply canon_foldl | simp only [canon_mk] | split)

theorem State.openWindow_canon {s : State} (f : Nat) (t : Nat) (ofs : Nat) (uid : Nat) (num : Nat) (h_s : s.canon = true) :
    State.canon (State.openWindow s f t ofs uid num) = true := by
  unfold State.openWindow
  try dsimp only
  with_reducible repeat' (first | assumption | intro _ | apply State.count_canon | apply State.flag_canon | apply State.setFe_canon | apply State.occur_canon | apply State.busPut_canon | apply canon_ite | apply canon_foldl | simp only [canon_mk] | split)

theorem canon_wmem {s : State} (h : s.canon = true) (a : Nat) (w : BitVec 40) :
    State.canon { s with wmem := Tab.set 0 s.wmem a w } = true := by
  rw [canon_iff] at *
  exact ⟨h.1, h.2.1, h.2.2.1, h.2.2.2.1, h.2.2.2.2.1, h.2.2.2.2.2.1,
    Tab.wf_set (d := fun _ => (0 : BitVec 40)) h.2.2.2.2.2.2.1 a w, h.2.2.2.2.2.2.2⟩

theorem State.macmin_canon {s : State} (f t : Nat) (w : Win) (d : Int × Int) (ecc : Ecc) (h_s : s.canon = true) :
    State.canon (s.macmin f t w d ecc) = true := by
  unfold State.macmin
  have h2 : ∀ (c : Prop) [Decidable c] (a : State) (k : Nat) (v : BitVec 40), a.canon = true →
      State.canon (if c then { a with wmem := Tab.set 0 a.wmem k v } else a) = true :=
    fun c _ a k v ha => canon_ite (canon_wmem ha k v) ha
  refine State.wrB_canon _ _ _ _ ?_
  split
  · exact h2 _ _ _ _ (State.setFe_canon _ _ h_s)
  · exact State.wr_canon _ _ _ (State.count_canon _ _ _ (h2 _ _ _ _ (State.setFe_canon _ _ h_s)))
  · exact State.wr_canon _ _ _ (State.count_canon _ _ _ (State.flag_canon _ _ (h2 _ _ _ _ (State.setFe_canon _ _ h_s))))

theorem State.acqTake_canon {s : State} (c f : Nat) (item : List (BitVec 64)) (h_s : s.canon = true) :
    State.canon (State.acqTake s c f item) = true := by
  unfold State.acqTake
  try dsimp only
  with_reducible repeat' (first | assumption | intro _ | apply State.count_canon | apply State.flag_canon | apply canon_ite | apply canon_foldl | simp only [canon_mk] | split)

theorem State.acqItem_canon {s : State} (f : Nat) (t : Nat) (result : BitVec 64) (wide : BitVec 64) (stamp : BitVec 64) (h_s : s.canon = true) :
    State.canon (State.acqItem s f t result wide stamp) = true := by
  unfold State.acqItem
  try dsimp only
  with_reducible repeat' (first | assumption | intro _ | apply State.acqTake_canon | apply canon_ite | apply canon_foldl | simp only [canon_mk] | split)

theorem State.winCount_canon {s : State} (f : Nat) (w : Win) (o : WinOut) (h_s : s.canon = true) :
    State.canon (State.winCount s f w o) = true := by
  unfold State.winCount
  try dsimp only
  with_reducible repeat' (first | assumption | intro _ | apply State.count_canon | apply State.wr_canon | apply State.flag_canon | apply canon_ite | apply canon_foldl | simp only [canon_mk] | split)

theorem State.windowResult_canon {s : State} (f : Nat) (w : Win) (h_s : s.canon = true) :
    State.canon (State.windowResult s f w) = true := by
  unfold State.windowResult
  try dsimp only
  with_reducible repeat' (first | assumption | intro _ | apply State.winCount_canon | apply State.setFe_canon | apply State.mapShot_canon | apply State.busPut_canon | apply State.acqItem_canon | apply State.sendItem_canon | apply State.flag_canon | apply State.count_canon | apply canon_ite | apply canon_foldl | simp only [canon_mk] | split)

theorem canon_gddr {s : State} (h : s.canon = true) (a : Nat) (w : Byte) :
    State.canon { s with gddr := Tab.set 0 s.gddr a w } = true := by
  rw [canon_iff] at *
  exact ⟨h.1, Tab.wf_set (d := fun _ => (0 : Byte)) h.2.1 a w, h.2.2⟩

theorem State.gput_canon {s : State} (addr : Nat) (l : List Byte) (h_s : s.canon = true) : State.canon (s.gput addr l) = true := by
  induction l generalizing s addr with
  | nil => exact h_s
  | cons b t ih => exact ih _ (canon_gddr h_s _ _)

theorem State.setAcqState_canon {s : State} (c : Nat) (st : Nat) (h_s : s.canon = true) :
    State.canon (State.setAcqState s c st) = true := by
  unfold State.setAcqState
  try dsimp only
  with_reducible repeat' (first | assumption | intro _ | apply State.wrF_canon | apply canon_ite | apply canon_foldl | simp only [canon_mk] | split)

theorem State.gputRing_canon {s : State} (base size o : Nat) (l : List Byte) (h_s : s.canon = true) :
    State.canon (s.gputRing base size o l) = true := by
  induction l generalizing s o with
  | nil => exact h_s
  | cons b t ih => exact ih _ (canon_gddr h_s _ _)

theorem State.acqWrite_canon {s : State} (c : Nat) (first : Nat) (bytes : List Byte) (h_s : s.canon = true) :
    State.canon (State.acqWrite s c first bytes) = true := by
  unfold State.acqWrite
  try dsimp only
  with_reducible repeat' (first | assumption | intro _ | apply State.count_canon | apply State.wr_canon | apply State.setAcq_canon | apply State.gputRing_canon | apply canon_ite | apply canon_foldl | simp only [canon_mk] | split)

theorem State.markBytes_canon {s : State} (c : Nat) (kind : Nat) (prim : Nat) (srcs : Nat) (cnt : Nat) (t : Nat) (firstLost : Nat) (lost : Nat) (late : Bool) (h_s : s.canon = true) :
    State.canon (State.markBytes s c kind prim srcs cnt t firstLost lost late).2 = true := by
  unfold State.markBytes
  try dsimp only
  with_reducible repeat' (first | assumption | intro _ | apply State.markTime_canon | apply canon_ite | apply canon_foldl | simp only [canon_mk] | split)

theorem State.acqMark_canon {s : State} (c : Nat) (kind : Nat) (t : Nat) (firstLost : Nat) (lost : Nat) (h_s : s.canon = true) :
    State.canon (State.acqMark s c kind t firstLost lost) = true := by
  unfold State.acqMark
  try dsimp only
  with_reducible repeat' (first | assumption | intro _ | apply State.markBytes_canon | apply State.acqWrite_canon | apply canon_ite | apply canon_foldl | simp only [canon_mk] | split)

theorem State.acqStep_canon {s : State} (c : Nat) (h_s : s.canon = true) :
    State.canon (State.acqStep s c) = true := by
  unfold State.acqStep
  try dsimp only
  with_reducible repeat' (first | assumption | intro _ | apply State.setAcqState_canon | apply State.setAcq_canon | apply canon_ite | apply canon_foldl | simp only [canon_mk] | split)

theorem State.acqLast_canon {s : State} (c : Nat) (t : Nat) (srcs : Nat) (h_s : s.canon = true) :
    State.canon (State.acqLast s c t srcs) = true := by
  unfold State.acqLast
  try dsimp only
  with_reducible repeat' (first | assumption | intro _ | apply State.wr_canon | apply State.wr64_canon | apply canon_ite | apply canon_foldl | simp only [canon_mk] | split)

theorem State.acqMet_canon {s : State} (c t : Nat) (met : List Met) (h_s : s.canon = true) :
    State.canon (State.acqMet s c t met) = true := by
  unfold State.acqMet
  try dsimp only
  with_reducible repeat' (first | assumption | intro _ | apply State.wr_canon | apply State.count_canon | apply State.flag_canon | apply State.setAcq_canon | apply State.acqLast_canon | apply State.setAcqState_canon | apply canon_ite | apply canon_foldl | simp only [canon_mk] | split)

theorem State.trigger_canon {s0 : State} (c : Nat) (src : Nat) (t : Nat) (late : Bool) (h_s0 : s0.canon = true) :
    State.canon (State.trigger s0 c src t late) = true := by
  unfold State.trigger
  try dsimp only
  with_reducible repeat' (first | assumption | intro _ | apply State.acqStep_canon | apply State.flag_canon | apply State.acqMet_canon | apply canon_ite | apply canon_foldl | simp only [canon_mk] | split)

theorem State.timeMatch_canon {s : State} (c : Nat) (h_s : s.canon = true) :
    State.canon (State.timeMatch s c) = true := by
  unfold State.timeMatch
  try dsimp only
  with_reducible repeat' (first | assumption | intro _ | apply State.trigger_canon | apply State.setAcq_canon | apply canon_ite | apply canon_foldl | simp only [canon_mk] | split)

theorem State.autoTrigger_canon {s0 : State} (c : Nat) (h_s0 : s0.canon = true) :
    State.canon (State.autoTrigger s0 c) = true := by
  unfold State.autoTrigger
  try dsimp only
  with_reducible repeat' (first | assumption | intro _ | apply State.acqStep_canon | apply State.trigger_canon | apply canon_ite | apply canon_foldl | simp only [canon_mk] | split)

theorem State.acqEv_canon {s : State} (f : Nat) (n : Nat) (t : Nat) (h_s : s.canon = true) :
    State.canon (State.acqEv s f n t) = true := by
  unfold State.acqEv
  try dsimp only
  with_reducible repeat' (first | assumption | intro _ | apply canon_ite | apply canon_foldl | simp only [canon_mk] | split)

theorem State.acqWin_canon {s : State} (w : Nat) (t : Nat) (h_s : s.canon = true) :
    State.canon (State.acqWin s w t) = true := by
  unfold State.acqWin
  try dsimp only
  with_reducible repeat' (first | assumption | intro _ | apply State.trigger_canon | apply canon_ite | apply canon_foldl | simp only [canon_mk] | split)

theorem State.gapMark_canon {s : State} (c : Nat) (first : Nat) (n : Nat) (h_s : s.canon = true) :
    State.canon (State.gapMark s c first n) = true := by
  unfold State.gapMark
  try dsimp only
  with_reducible repeat' (first | assumption | intro _ | apply State.flag_canon | apply State.acqMark_canon | apply canon_ite | apply canon_foldl | simp only [canon_mk] | split)

theorem State.flushMarks_canon {s : State} (c bound : Nat) (h_s : s.canon = true) :
    State.canon (State.flushMarks s c bound) = true := by
  unfold State.flushMarks
  try dsimp only
  with_reducible repeat' (first | assumption | intro _ | apply State.markBytes_canon | apply State.acqWrite_canon | apply State.setAcq_canon | apply canon_ite | apply canon_foldl | simp only [canon_mk] | split)

theorem State.recIdle_canon {s : State} (c : Nat) (h_s : s.canon = true) :
    State.canon (State.recIdle s c) = true := by
  unfold State.recIdle
  try dsimp only
  with_reducible repeat' (first | assumption | intro _ | apply State.flushMarks_canon | apply State.setAcq_canon | apply State.acqMark_canon | apply canon_ite | apply canon_foldl | simp only [canon_mk] | split)

theorem State.dataRecord_canon {s0 : State} (c : Nat) (raw : List (List (BitVec 12))) (demod : List DemodUnit) (_lost : List Nat) (h_s0 : s0.canon = true) :
    State.canon (State.dataRecord s0 c raw demod _lost) = true := by
  unfold State.dataRecord
  try dsimp only
  with_reducible repeat' (first | assumption | intro _ | apply State.acqStep_canon | apply State.acqMark_canon | apply State.setAcq_canon | apply State.gapMark_canon | apply State.count_canon | apply State.acqWrite_canon | apply State.recIdle_canon | apply State.flushMarks_canon | apply canon_ite | apply canon_foldl | simp only [canon_mk] | split)

theorem State.acqStop_canon {s : State} (c : Nat) (cause : Nat) (h_s : s.canon = true) :
    State.canon (State.acqStop s c cause) = true := by
  unfold State.acqStop
  try dsimp only
  with_reducible repeat' (first | assumption | intro _ | apply State.flag_canon | apply State.wr_canon | apply State.setAcq_canon | apply canon_ite | apply canon_foldl | simp only [canon_mk] | split)

theorem State.hostPut_canon {s : State} (c : Nat) (bytes : List Byte) (h_s : s.canon = true) :
    State.canon (State.hostPut s c bytes) = true := by
  unfold State.hostPut
  try dsimp only
  with_reducible repeat' (first | assumption | intro _ | apply State.ringOut_canon | apply State.writeBack_canon | apply State.wr_canon | apply canon_ite | apply canon_foldl | simp only [canon_mk] | split)

theorem State.overflowMark_canon {s : State} (c : Nat) (first : Nat) (h_s : s.canon = true) :
    State.canon (State.overflowMark s c first) = true := by
  unfold State.overflowMark
  try dsimp only
  with_reducible repeat' (first | assumption | intro _ | apply State.markBytes_canon | apply State.count_canon | apply State.hostPut_canon | apply canon_ite | apply canon_foldl | simp only [canon_mk] | split)

theorem State.hostCopy_canon {s : State} (c : Nat) (h_s : s.canon = true) :
    State.canon (State.hostCopy s c) = true := by
  unfold State.hostCopy
  try dsimp only
  with_reducible repeat' (first | assumption | intro _ | apply State.hostPut_canon | apply State.setAcq_canon | apply State.overflowMark_canon | apply State.acqStop_canon | apply canon_ite | apply canon_foldl | simp only [canon_mk] | split)

theorem State.acqLinkStop_canon {s : State} (c : Nat) (h_s : s.canon = true) :
    State.canon (State.acqLinkStop s c) = true := by
  unfold State.acqLinkStop
  try dsimp only
  with_reducible repeat' (first | assumption | intro _ | apply State.acqStop_canon | apply State.setAcq_canon | apply canon_ite | apply canon_foldl | simp only [canon_mk] | split)

theorem State.acqLinkUp_canon {s : State} (c : Nat) (h_s : s.canon = true) :
    State.canon (State.acqLinkUp s c) = true := by
  unfold State.acqLinkUp
  try dsimp only
  with_reducible repeat' (first | assumption | intro _ | apply State.overflowMark_canon | apply State.setAcq_canon | apply canon_ite | apply canon_foldl | simp only [canon_mk] | split)

theorem State.acqCommit_canon {s : State} (c : Nat) (a : Nat) (old : Word) (tmatch : Bool) (h_s : s.canon = true) :
    State.canon (State.acqCommit s c a old tmatch) = true := by
  unfold State.acqCommit
  try dsimp only
  with_reducible repeat' (first | assumption | intro _ | apply State.setAcq_canon | apply State.acqMark_canon | apply State.wr_canon | apply State.flushMarks_canon | apply canon_ite | apply canon_foldl | simp only [canon_mk] | split)

theorem State.ruleForeign_canon {s : State} (n : Nat) (h_s : s.canon = true) :
    State.canon (State.ruleForeign s n) = true := by
  unfold State.ruleForeign
  try dsimp only
  with_reducible repeat' (first | assumption | intro _ | apply State.count_canon | apply State.flag_canon | apply canon_ite | apply canon_foldl | simp only [canon_mk] | split)

theorem State.parLast_canon {s : State} (n : Nat) (r : Nat) (x : Flight) (h_s : s.canon = true) :
    State.canon (State.parLast s n r x) = true := by
  unfold State.parLast
  try dsimp only
  with_reducible repeat' (first | assumption | intro _ | apply State.wr_canon | apply canon_ite | apply canon_foldl | simp only [canon_mk] | split)

theorem State.xorFrames_canon {s : State} (f word skip : Nat) (h_s : s.canon = true) :
    State.canon (State.xorFrames s f word skip) = true := by
  unfold State.xorFrames
  try dsimp only
  with_reducible repeat' (first | assumption | intro _ | apply State.wr_canon | apply canon_ite | apply canon_foldl | simp only [canon_mk] | split)

theorem State.portResolve_canon {s : State} (n : Nat) (r : Nat) (b : Nat) (qual : Nat) (value : Nat) (word : Nat) (shot : Option Nat) (h_s : s.canon = true) :
    State.canon (State.portResolve s n r b qual value word shot) = true := by
  unfold State.portResolve
  try dsimp only
  with_reducible repeat' (first | assumption | intro _ | apply State.ruleForeign_canon | apply State.setSlot_canon | apply State.postDone_canon | apply State.xorFrames_canon | apply State.occur_canon | apply State.markShot_canon | apply canon_ite | apply canon_foldl | simp only [canon_mk] | split)

theorem State.ruleEvent_canon {s : State} (n : Nat) (r : Nat) (qual : Nat) (value : Nat) (h_s : s.canon = true) :
    State.canon (State.ruleEvent s n r qual value) = true := by
  unfold State.ruleEvent
  try dsimp only
  with_reducible repeat' (first | assumption | intro _ | apply State.ruleForeign_canon | apply canon_ite | apply canon_foldl | simp only [canon_mk] | split)

theorem State.ruleQueue_canon {s : State} (n : Nat) (r : Nat) (round : Nat) (qual : Nat) (value : Nat) (word : Nat) (h_s : s.canon = true) :
    State.canon (State.ruleQueue s n r round qual value word) = true := by
  unfold State.ruleQueue
  try dsimp only
  with_reducible repeat' (first | assumption | intro _ | apply State.count_canon | apply State.flag_canon | apply State.ruleForeign_canon | apply State.sendItem_canon | apply canon_ite | apply canon_foldl | simp only [canon_mk] | split)

theorem State.noteLate_canon {s : State} (n r : Nat) (x : Flight) (h_s : s.canon = true) :
    State.canon (State.noteLate s n r x) = true := by
  unfold State.noteLate
  try dsimp only
  with_reducible repeat' (first | assumption | intro _ | apply State.mapSorus_canon | apply canon_ite | apply canon_foldl | simp only [canon_mk] | split)

theorem State.resolve_canon {s : State} (n : Nat) (r : Nat) (x : Flight) (qual : Nat) (value : Nat) (word : Nat) (h_s : s.canon = true) :
    State.canon (State.resolve s n r x qual value word) = true := by
  unfold State.resolve
  try dsimp only
  with_reducible repeat' (first | assumption | intro _ | apply State.setFlight_canon | apply State.parLast_canon | apply State.wr_canon | apply State.count_canon | apply State.flag_canon | apply State.unicast_canon | apply State.ruleQueue_canon | apply State.ruleEvent_canon | apply State.portResolve_canon | apply State.mapSorus_canon | apply State.noteLate_canon | apply canon_ite | apply canon_foldl | simp only [canon_mk] | split)

theorem State.export_canon {s : State} (n : Nat) (r : Nat) (x : Flight) (h_s : s.canon = true) :
    State.canon (State.export s n r x) = true := by
  unfold State.export
  try dsimp only
  with_reducible repeat' (first | assumption | intro _ | apply State.unicast_canon | apply State.setFlight_canon | apply State.parLast_canon | apply canon_ite | apply canon_foldl | simp only [canon_mk] | split)

theorem State.evaluate_canon {s : State} (n : Nat) (r : Nat) (h_s : s.canon = true) :
    State.canon (State.evaluate s n r) = true := by
  unfold State.evaluate
  try dsimp only
  with_reducible repeat' (first | assumption | intro _ | apply State.setFlight_canon | apply State.ruleForeign_canon | apply canon_ite | apply canon_foldl | simp only [canon_mk] | split)

theorem State.conclude_canon {s : State} (n : Nat) (r : Nat) (x : Flight) (h_s : s.canon = true) :
    State.canon (State.conclude s n r x) = true := by
  unfold State.conclude
  try dsimp only
  with_reducible repeat' (first | assumption | intro _ | apply State.resolve_canon | apply State.ruleForeign_canon | apply State.export_canon | apply canon_ite | apply canon_foldl | simp only [canon_mk] | split)

theorem State.extDiscard_canon {s : State} (h_s : s.canon = true) :
    State.canon (State.extDiscard s) = true := by
  unfold State.extDiscard
  try dsimp only
  with_reducible repeat' (first | assumption | intro _ | apply State.flag_canon | apply State.count_canon | apply canon_ite | apply canon_foldl | simp only [canon_mk] | split)

theorem State.staleExt_canon {s : State} (n : Nat) (h_s : s.canon = true) :
    State.canon (State.staleExt s n) = true := by
  unfold State.staleExt
  try dsimp only
  with_reducible repeat' (first | assumption | intro _ | apply State.flag_canon | apply State.count_canon | apply canon_ite | apply canon_foldl | simp only [canon_mk] | split)

theorem State.externTake_canon {s : State} (w : BitVec 64) (mm : Bool) (h_s : s.canon = true) :
    State.canon (State.externTake s w mm) = true := by
  unfold State.externTake
  try dsimp only
  with_reducible repeat' (first | assumption | intro _ | apply State.extDiscard_canon | apply State.staleExt_canon | apply State.mapSorus_canon | apply State.resolve_canon | apply canon_ite | apply canon_foldl | simp only [canon_mk] | split)

theorem State.concludeDue_canon {s : State} (h_s : s.canon = true) :
    State.canon (State.concludeDue s) = true := by
  unfold State.concludeDue
  try dsimp only
  with_reducible repeat' (first | assumption | intro _ | apply State.conclude_canon | apply State.externTake_canon | apply State.mapSorus_canon | apply canon_ite | apply canon_foldl | simp only [canon_mk] | split)

theorem State.slotPending_canon {s : State} (n : Nat) (r : Nat) (shot : Option Nat) (h_s : s.canon = true) :
    State.canon (State.slotPending s n r shot) = true := by
  unfold State.slotPending
  try dsimp only
  with_reducible repeat' (first | assumption | intro _ | apply State.setSlot_canon | apply canon_ite | apply canon_foldl | simp only [canon_mk] | split)

theorem State.arm_canon {s : State} (n : Nat) (r : Nat) (i : Nat) (h_s : s.canon = true) :
    State.canon (State.arm s n r i) = true := by
  unfold State.arm
  try dsimp only
  with_reducible repeat' (first | assumption | intro _ | apply State.flag_canon | apply State.abandon_canon | apply State.setFlight_canon | apply State.mapSorus_canon | apply State.slotPending_canon | apply State.evaluate_canon | apply canon_ite | apply canon_foldl | simp only [canon_mk] | split)

theorem State.armWindow_canon {s : State} (f : Nat) (t : Nat) (h_s : s.canon = true) :
    State.canon (State.armWindow s f t) = true := by
  unfold State.armWindow
  try dsimp only
  with_reducible repeat' (first | assumption | intro _ | apply State.arm_canon | apply canon_ite | apply canon_foldl | simp only [canon_mk] | split)

theorem State.portPending_canon {s : State} (n : Nat) (r : Nat) (i : Nat) (h_s : s.canon = true) :
    State.canon (State.portPending s n r i) = true := by
  unfold State.portPending
  try dsimp only
  with_reducible repeat' (first | assumption | intro _ | apply State.slotPending_canon | apply canon_ite | apply canon_foldl | simp only [canon_mk] | split)

theorem State.deadline_canon {s : State} (n : Nat) (r : Nat) (heard : Bool) (h_s : s.canon = true) :
    State.canon (State.deadline s n r heard) = true := by
  unfold State.deadline
  try dsimp only
  with_reducible repeat' (first | assumption | intro _ | apply State.resolve_canon | apply State.ruleForeign_canon | apply canon_ite | apply canon_foldl | simp only [canon_mk] | split)

theorem State.lateInput_canon {s : State} (n r w : Nat) (keys taken : List Nat) (h_s : s.canon = true) :
    State.canon (State.lateInput s n r w keys taken) = true := by
  unfold State.lateInput
  try dsimp only
  with_reducible repeat' (first | assumption | intro _ | apply State.mapSorus_canon | apply State.count_canon | apply canon_ite | apply canon_foldl | simp only [canon_mk] | split)

theorem State.input_canon {s0 : State} (n r f : Nat) (res : Res) (h_s0 : s0.canon = true) :
    State.canon (State.input s0 n r f res) = true := by
  unfold State.input
  try dsimp only
  with_reducible repeat' (first | assumption | intro _ | apply State.ruleForeign_canon | apply State.evaluate_canon | apply State.setFlight_canon | apply State.deadline_canon | apply State.lateInput_canon | apply canon_ite | apply canon_foldl | simp only [canon_mk] | split)

theorem State.unitRecord_canon {s : State} (unit : Nat) (rec_ : BusRec) (h_s : s.canon = true) :
    State.canon (State.unitRecord s unit rec_) = true := by
  unfold State.unitRecord
  try dsimp only
  with_reducible repeat' (first | assumption | intro _ | apply State.portPending_canon | apply State.input_canon | apply canon_ite | apply canon_foldl | simp only [canon_mk] | split)

theorem State.taintRule_canon {s : State} (n : Nat) (r : Nat) (i : Nat) (own : Bool) (h_s : s.canon = true) :
    State.canon (State.taintRule s n r i own) = true := by
  unfold State.taintRule
  try dsimp only
  with_reducible repeat' (first | assumption | intro _ | apply State.mapSorus_canon | apply State.flag_canon | apply State.count_canon | apply State.setFlight_canon | apply State.arm_canon | apply canon_ite | apply canon_foldl | simp only [canon_mk] | split)

theorem State.unitDiscard_canon {s : State} (unit : Nat) (rec_ : BusRec) (h_s : s.canon = true) :
    State.canon (State.unitDiscard s unit rec_) = true := by
  unfold State.unitDiscard
  try dsimp only
  with_reducible repeat' (first | assumption | intro _ | apply State.flag_canon | apply State.occur_canon | apply State.wr_canon | apply State.portPending_canon | apply State.taintRule_canon | apply canon_ite | apply canon_foldl | simp only [canon_mk] | split)

theorem State.eventRule_canon {s0 : State} (n r c : Nat) (h_s0 : s0.canon = true) :
    State.canon (State.eventRule s0 n r c) = true := by
  unfold State.eventRule
  try dsimp only
  with_reducible repeat' (first | assumption | intro _ | apply State.count_canon | apply State.setFlight_canon | apply State.ruleForeign_canon | apply State.deadline_canon | apply canon_ite | apply canon_foldl | simp only [canon_mk] | split)

theorem State.unlockSlot_canon {s : State} (n r : Nat) (h_s : s.canon = true) :
    State.canon (State.unlockSlot s n r) = true := by
  unfold State.unlockSlot
  try dsimp only
  with_reducible repeat' (first | assumption | intro _ | apply State.setSlot_canon | apply canon_ite | apply canon_foldl | simp only [canon_mk] | split)

theorem State.armNotice_canon {s : State} (f : Nat) (h_s : s.canon = true) :
    State.canon (State.armNotice s f) = true := by
  unfold State.armNotice
  try dsimp only
  with_reducible repeat' (first | assumption | intro _ | apply State.mapSorus_canon | apply State.slotPending_canon | apply State.unlockSlot_canon | apply canon_ite | apply canon_foldl | simp only [canon_mk] | split)

theorem State.slotResolution_canon {s : State} (f : Nat) (h_s : s.canon = true) :
    State.canon (State.slotResolution s f) = true := by
  unfold State.slotResolution
  try dsimp only
  with_reducible repeat' (first | assumption | intro _ | apply State.mapSorus_canon | apply State.portResolve_canon | apply canon_ite | apply canon_foldl | simp only [canon_mk] | split)

theorem State.portDiscard_canon {s : State} (f : Nat) (h_s : s.canon = true) :
    State.canon (State.portDiscard s f) = true := by
  unfold State.portDiscard
  try dsimp only
  with_reducible repeat' (first | assumption | intro _ | apply State.flag_canon | apply State.occur_canon | apply State.wr_canon | apply State.mapSorus_canon | apply State.setSlot_canon | apply canon_ite | apply canon_foldl | simp only [canon_mk] | split)

theorem State.markMM_canon {s : State} (unit : Nat) (h_s : s.canon = true) :
    State.canon (State.markMM s unit) = true := by
  unfold State.markMM
  try dsimp only
  with_reducible repeat' (first | assumption | intro _ | apply State.setFlight_canon | apply State.mapSorus_canon | apply canon_ite | apply canon_foldl | simp only [canon_mk] | split)

theorem State.ndeorExport_canon {s : State} (h_s : s.canon = true) :
    State.canon (State.ndeorExport s) = true := by
  unfold State.ndeorExport
  exact canon_ite h_s (State.count_canon _ _ _ (State.flag_canon _ _ h_s))

theorem State.ndeorDecision_canon {s : State} (w : BitVec 64) (h_s : s.canon = true) :
    State.canon (State.ndeorDecision s w) = true := by
  unfold State.ndeorDecision
  try dsimp only
  with_reducible repeat' (first | assumption | intro _ | apply State.mapSorus_canon | apply State.setFlight_canon | apply State.extDiscard_canon | apply State.staleExt_canon | apply State.deadline_canon | apply canon_ite | apply canon_foldl | simp only [canon_mk] | split)

theorem State.lockstep_canon {s : State} (unit : Nat) (frames : List (Nat × Nat)) (h_s : s.canon = true) :
    State.canon (State.lockstep s unit frames) = true := by
  unfold State.lockstep
  try dsimp only
  with_reducible repeat' (first | assumption | intro _ | apply State.resolve_canon | apply State.mapSorus_canon | apply State.count_canon | apply State.wr_canon | apply State.flag_canon | apply State.wrF_canon | apply State.markShot_canon | apply canon_ite | apply canon_foldl | simp only [canon_mk] | split)

theorem State.frameOp_canon {s : State} (f op q word lost : Nat) (h_s : s.canon = true) :
    State.canon (State.frameOp s f op q word lost) = true := by
  unfold State.frameOp
  try dsimp only
  with_reducible repeat' (first | assumption | intro _ | apply State.wrF_canon | apply State.xorFrames_canon | apply State.clearFrames_canon | apply canon_ite | apply canon_foldl | simp only [canon_mk] | split)

theorem State.sorusHold_canon {s : State} (h_s : s.canon = true) :
    State.canon (State.sorusHold s) = true := by
  unfold State.sorusHold
  try dsimp only
  with_reducible repeat' (first | assumption | intro _ | apply State.abandon_canon | apply State.setSlot_canon | apply State.mapSorus_canon | apply State.wr_canon | apply canon_ite | apply canon_foldl | simp only [canon_mk] | split)

theorem State.clrCount_canon {s : State} (n : Nat) (h_s : s.canon = true) :
    State.canon (State.clrCount s n) = true := by
  unfold State.clrCount
  try dsimp only
  with_reducible repeat' (first | assumption | intro _ | apply State.count_canon | apply canon_ite | apply canon_foldl | simp only [canon_mk] | split)

theorem State.pauseCount_canon {s : State} (n : Nat) (h_s : s.canon = true) :
    State.canon (State.pauseCount s n) = true := by
  unfold State.pauseCount
  try dsimp only
  with_reducible repeat' (first | assumption | intro _ | apply State.count_canon | apply canon_ite | apply canon_foldl | simp only [canon_mk] | split)

theorem State.passBeats_canon {s0 : State} (n : Nat) (h_s0 : s0.canon = true) :
    State.canon (State.passBeats s0 n) = true := by
  unfold State.passBeats
  try dsimp only
  with_reducible repeat' (first | assumption | intro _ | apply State.cntAdd_canon | apply State.clrCount_canon | apply State.pauseCount_canon | apply canon_ite | apply canon_foldl | simp only [canon_mk] | split)

theorem State.queuesLeave_canon {s : State} (h_s : s.canon = true) :
    State.canon (State.queuesLeave s) = true := by
  unfold State.queuesLeave
  try dsimp only
  with_reducible repeat' (first | assumption | intro _ | apply State.setQueue_canon | apply canon_ite | apply canon_foldl | simp only [canon_mk] | split)

theorem State.switchDue_canon {s : State} (f : Nat) (h_s : s.canon = true) :
    State.canon (State.switchDue s f) = true := by
  unfold State.switchDue
  try dsimp only
  with_reducible repeat' (first | assumption | intro _ | apply State.feMark_canon | apply State.setFe_canon | apply canon_ite | apply canon_foldl | simp only [canon_mk] | split)

theorem State.switchesDue_canon {s : State} (h_s : s.canon = true) :
    State.canon (State.switchesDue s) = true := by
  unfold State.switchesDue
  try dsimp only
  with_reducible repeat' (first | assumption | intro _ | apply State.switchDue_canon | apply canon_ite | apply canon_foldl | simp only [canon_mk] | split)

theorem State.setGrp_canon {s : State} (g : Nat) (x : Group) (h_s : s.canon = true) :
    State.canon (State.setGrp s g x) = true := by
  unfold State.setGrp
  try dsimp only
  with_reducible repeat' (first | assumption | intro _ | apply canon_ite | apply canon_foldl | simp only [canon_mk] | split)

theorem State.sendCopy_canon {s : State} (g : Nat) (h_s : s.canon = true) :
    State.canon (State.sendCopy s g) = true := by
  unfold State.sendCopy
  try dsimp only
  with_reducible repeat' (first | assumption | intro _ | apply State.unicast_canon | apply State.setGrp_canon | apply canon_ite | apply canon_foldl | simp only [canon_mk] | split)

theorem State.grpRefuse_canon {s : State} (g : Nat) (cause : Nat) (h_s : s.canon = true) :
    State.canon (State.grpRefuse s g cause) = true := by
  unfold State.grpRefuse
  try dsimp only
  with_reducible repeat' (first | assumption | intro _ | apply State.recErr_canon | apply canon_ite | apply canon_foldl | simp only [canon_mk] | split)

theorem State.setPageState_canon {s : State} (p : Pg) (st : Nat) (h_s : s.canon = true) :
    State.canon (State.setPageState s p st) = true := by
  unfold State.setPageState
  try dsimp only
  with_reducible repeat' (first | assumption | intro _ | apply State.wrF_canon | apply canon_ite | apply canon_foldl | simp only [canon_mk] | split)

theorem State.bindPage_canon {s : State} (p : Pg) (g : Option Nat) (h_s : s.canon = true) :
    State.canon (State.bindPage s p g) = true := by
  unfold State.bindPage
  try dsimp only
  with_reducible repeat' (first | assumption | intro _ | apply State.wr_canon | apply State.setPageState_canon | apply canon_ite | apply canon_foldl | simp only [canon_mk] | split)

theorem State.commitBit_canon {s : State} (off : Nat) (g : Nat) (b : Bool) (h_s : s.canon = true) :
    State.canon (State.commitBit s off g b) = true := by
  unfold State.commitBit
  try dsimp only
  with_reducible repeat' (first | assumption | intro _ | apply State.wrB_canon | apply canon_ite | apply canon_foldl | simp only [canon_mk] | split)

theorem State.setGrpState_canon {s : State} (g : Nat) (st : Nat) (h_s : s.canon = true) :
    State.canon (State.setGrpState s g st) = true := by
  unfold State.setGrpState
  try dsimp only
  with_reducible repeat' (first | assumption | intro _ | apply State.commitBit_canon | apply State.wrF_canon | apply State.wrB_canon | apply canon_ite | apply canon_foldl | simp only [canon_mk] | split)

theorem State.outcome_canon {s : State} (g : Nat) (out : Nat) (cause : Nat) (h_s : s.canon = true) :
    State.canon (State.outcome s g out cause) = true := by
  unfold State.outcome
  try dsimp only
  with_reducible repeat' (first | assumption | intro _ | apply State.setGrp_canon | apply State.wr64_canon | apply State.wr_canon | apply State.setGrpState_canon | apply canon_ite | apply canon_foldl | simp only [canon_mk] | split)

theorem State.showClaims_canon {s : State} (g : Nat) (h_s : s.canon = true) :
    State.canon (State.showClaims s g) = true := by
  unfold State.showClaims
  try dsimp only
  with_reducible repeat' (first | assumption | intro _ | apply State.wrF_canon | apply canon_ite | apply canon_foldl | simp only [canon_mk] | split)

theorem State.reclaim_canon {s : State} (h_s : s.canon = true) :
    State.canon (State.reclaim s) = true := by
  unfold State.reclaim
  try dsimp only
  with_reducible repeat' (first | assumption | intro _ | apply State.showClaims_canon | apply canon_ite | apply canon_foldl | simp only [canon_mk] | split)

theorem State.abort63_canon {s : State} (cause : Nat) (h_s : s.canon = true) :
    State.canon (State.abort63 s cause) = true := by
  unfold State.abort63
  try dsimp only
  with_reducible repeat' (first | assumption | intro _ | apply State.count_canon | apply State.flag_canon | apply State.mapCal_canon | apply canon_ite | apply canon_foldl | simp only [canon_mk] | split)

theorem State.abortGrp_canon {s : State} (g : Nat) (cause : Nat) (h_s : s.canon = true) :
    State.canon (State.abortGrp s g cause) = true := by
  unfold State.abortGrp
  try dsimp only
  with_reducible repeat' (first | assumption | intro _ | apply State.bindPage_canon | apply State.flag_canon | apply State.count_canon | apply State.outcome_canon | apply State.reclaim_canon | apply State.wrF_canon | apply State.abort63_canon | apply canon_ite | apply canon_foldl | simp only [canon_mk] | split)

theorem State.abortActs_canon {s : State} (g b : Nat) (h_s : s.canon = true) :
    State.canon (State.abortActs s g b) = true := by
  unfold State.abortActs
  try dsimp only
  with_reducible repeat' (first | assumption | intro _ | apply State.grpRefuse_canon | apply State.abortGrp_canon | apply canon_ite | apply canon_foldl | simp only [canon_mk] | split)

theorem State.fixBeats_canon {s : State} (g : Nat) (d : Nat) (a : Nat) (h_s : s.canon = true) :
    State.canon (State.fixBeats s g d a) = true := by
  unfold State.fixBeats
  try dsimp only
  with_reducible repeat' (first | assumption | intro _ | apply State.setGrp_canon | apply canon_ite | apply canon_foldl | simp only [canon_mk] | split)

theorem State.stretchDue_canon {s : State} (g : Nat) (h_s : s.canon = true) :
    State.canon (State.stretchDue s g) = true := by
  unfold State.stretchDue
  try dsimp only
  with_reducible repeat' (first | assumption | intro _ | apply State.setGrp_canon | apply State.fixBeats_canon | apply canon_ite | apply canon_foldl | simp only [canon_mk] | split)

theorem State.groupDue_canon {s : State} (g : Nat) (h_s : s.canon = true) :
    State.canon (State.groupDue s g) = true := by
  unfold State.groupDue
  try dsimp only
  with_reducible repeat' (first | assumption | intro _ | apply State.sendCopy_canon | apply State.setGrp_canon | apply State.abortActs_canon | apply State.stretchDue_canon | apply canon_ite | apply canon_foldl | simp only [canon_mk] | split)

theorem State.groupsDue_canon {s : State} (h_s : s.canon = true) :
    State.canon (State.groupsDue s) = true := by
  unfold State.groupsDue
  try dsimp only
  with_reducible repeat' (first | assumption | intro _ | apply State.groupDue_canon | apply canon_ite | apply canon_foldl | simp only [canon_mk] | split)

theorem State.trigsDue_canon {s : State} (h_s : s.canon = true) :
    State.canon (State.trigsDue s) = true := by
  unfold State.trigsDue
  try dsimp only
  with_reducible repeat' (first | assumption | intro _ | apply State.trigger_canon | apply canon_ite | apply canon_foldl | simp only [canon_mk] | split)

theorem State.slotBefore_canon {s : State} (n : Nat) (h_s : s.canon = true) :
    State.canon (State.slotBefore s n) = true := by
  unfold State.slotBefore
  try dsimp only
  with_reducible repeat' (first | assumption | intro _ | apply State.ruleLeaves_canon | apply canon_ite | apply canon_foldl | simp only [canon_mk] | split)

theorem State.swap_canon {s : State} (ps : List Pg) (h_s : s.canon = true) : State.canon (s.swap ps) = true :=
  canon_foldl _ h_s (fun _ _ ha => State.wrA_canon _ _ ha)

theorem State.commit63_canon {s : State} (h_s : s.canon = true) :
    State.canon (State.commit63 s) = true := by
  unfold State.commit63
  try dsimp only
  with_reducible repeat' (first | assumption | intro _ | apply State.wrA_canon | apply State.wrF_canon | apply canon_ite | apply canon_foldl | simp only [canon_mk] | split)

theorem State.clearHead_canon {s : State} (p : Pg) (h_s : s.canon = true) :
    State.canon (State.clearHead s p) = true := by
  unfold State.clearHead
  try dsimp only
  with_reducible repeat' (first | assumption | intro _ | apply State.resetRange_canon | apply State.wr_canon | apply canon_ite | apply canon_foldl | simp only [canon_mk] | split)

theorem State.clearBlock_canon {s0 s : State} (p : Pg) (h_s0 : s0.canon = true) (h_s : s.canon = true) :
    State.canon (State.clearBlock s0 s p) = true := by
  unfold State.clearBlock
  rw [canon_iff] at h_s ⊢
  exact ⟨Tab.wf_filter h_s.1 _, h_s.2⟩

theorem State.owner63_canon {s : State} (f : Nat) (h_s : s.canon = true) :
    State.canon (State.owner63 s f) = true := by
  unfold State.owner63
  try dsimp only
  with_reducible repeat' (first | assumption | intro _ | apply State.abortGrp_canon | apply canon_ite | apply canon_foldl | simp only [canon_mk] | split)

theorem canon_cutFrond {s : State} (h : s.canon = true) (a b c d e k l m n p : Nat) :
    State.canon { s with
                  cs := Tab.cut s.cs a b, descs := Tab.cut s.descs c d, lists := Tab.cut s.lists e k,
                  sram := Tab.cut s.sram l m, wmem := Tab.cut s.wmem n p } = true := by
  rw [canon_iff] at *
  exact ⟨h.1, h.2.1, Tab.wf_filter h.2.2.1 _, Tab.wf_filter h.2.2.2.1 _, Tab.wf_filter h.2.2.2.2.1 _,
    Tab.wf_filter h.2.2.2.2.2.1 _, Tab.wf_filter h.2.2.2.2.2.2.1 _, h.2.2.2.2.2.2.2⟩

theorem State.biasClear_canon {s : State} (f : Nat) (h_s : s.canon = true) :
    State.canon (State.biasClear s f) = true := by
  unfold State.biasClear
  try dsimp only
  with_reducible repeat' (first | assumption | intro _ | apply State.wr_canon | apply canon_ite | apply canon_foldl | simp only [canon_mk] | split)

theorem State.keepBall_canon {s : State} (b a : Nat) (v : Word) (h_s : s.canon = true) :
    State.canon (State.keepBall s b a v) = true := by
  unfold State.keepBall
  try dsimp only
  with_reducible repeat' (first | assumption | intro _ | apply canon_ite | apply canon_foldl | simp only [canon_mk] | split)

theorem State.ballApply_canon {s0 s : State} (a : Nat) (p : Pg) (h_s0 : s0.canon = true) (h_s : s.canon = true) :
    State.canon (State.ballApply s0 s a p) = true := by
  unfold State.ballApply
  try dsimp only
  with_reducible repeat' (first | assumption | intro _ | apply State.keepBall_canon | apply canon_ite | apply canon_foldl | simp only [canon_mk] | split)

theorem State.frondArrives_canon {s0 s : State} (f a : Nat) (h_s0 : s0.canon = true) (h_s : s.canon = true) :
    State.canon (State.frondArrives s0 s f a) = true := by
  unfold State.frondArrives
  have h1 : ((followPages f).foldl (fun t p => (t.clearHead p).wrF p 0x08 4 0 (s.frondOwner f)) (s.clearHead (pCrozier f))).canon
      = true := canon_foldl _ (State.clearHead_canon _ h_s) (fun a p ha => State.wrF_canon _ _ _ _ _ (State.clearHead_canon _ ha))
  have h2 := canon_foldl (pCrozier f :: (followPages f).filter (fun p => p.kind != .calf)) (f := fun t p => State.clearBlock s0 t p) h1
    (fun a p ha => State.clearBlock_canon _ h_s0 ha)
  refine State.owner63_canon _ (State.wrB_canon _ _ _ _ ?_)
  refine canon_foldl _ (canon_foldl _ (State.feCommit_canon _ _ _ (canon_cutFrond ?_ _ _ _ _ _ _ _ _ _ _)) (fun b k hb => ?_))
    (fun b p hb => State.ballApply_canon _ _ h_s0 hb)
  · exact canon_foldl _ (State.biasClear_canon _ (State.setCrz_canon _ _ (State.wr_canon _ _ _ h2)))
      (fun b r hb => State.setRing_canon _ _ _ hb)
  · exact canon_ite hb (State.toneCommit_canon _ _ _ hb)

theorem State.mapHypha_canon {s : State} (g : Hypha → Hypha) (h_s : s.canon = true) :
    State.canon (State.mapHypha s g) = true := by
  unfold State.mapHypha
  try dsimp only
  with_reducible repeat' (first | assumption | intro _ | apply canon_ite | apply canon_foldl | simp only [canon_mk] | split)

theorem State.cellReset_canon {s : State} (k : Nat) (b : Nat) (h_s : s.canon = true) :
    State.canon (State.cellReset s k b) = true := by
  unfold State.cellReset
  try dsimp only
  with_reducible repeat' (first | assumption | intro _ | apply State.wr_canon | apply State.mapHypha_canon | apply canon_ite | apply canon_foldl | simp only [canon_mk] | split)

theorem State.arrives_canon {s0 : State} {s : State} (p : Pg) (a : Nat) (h_s0 : s0.canon = true) (h_s : s.canon = true) :
    State.canon (State.arrives s0 s p a) = true := by
  unfold State.arrives
  try dsimp only
  with_reducible repeat' (first | assumption | intro _ | apply State.frondArrives_canon | apply State.clearBlock_canon | apply State.clearHead_canon | apply State.setAcq_canon | apply State.setQ_canon | apply State.cellReset_canon | apply State.mapHypha_canon | apply canon_ite | apply canon_foldl | simp only [canon_mk] | split)

theorem State.swapTags_canon {s : State} (p : Pg) (off : Nat) (h_s : s.canon = true) :
    State.canon (State.swapTags s p off) = true := by
  unfold State.swapTags
  try dsimp only
  with_reducible repeat' (first | assumption | intro _ | apply State.wr_canon | apply canon_ite | apply canon_foldl | simp only [canon_mk] | split)

theorem State.crzStart_canon {s : State} (f : Nat) (a : Nat) (h_s : s.canon = true) :
    State.canon (State.crzStart s f a) = true := by
  unfold State.crzStart
  try dsimp only
  with_reducible repeat' (first | assumption | intro _ | apply State.setLc_canon | apply State.setStack_canon | apply State.wr_canon | apply State.wrB_canon | apply State.wrF_canon | apply State.setCrzState_canon | apply State.setPc_canon | apply State.setTc_canon | apply State.setCrz_canon | apply canon_ite | apply canon_foldl | simp only [canon_mk] | split)

theorem State.runCtrl_canon {s : State} (f : Nat) (a : Nat) (h_s : s.canon = true) :
    State.canon (State.runCtrl s f a) = true := by
  unfold State.runCtrl
  try dsimp only
  with_reducible repeat' (first | assumption | intro _ | apply State.crzStart_canon | apply State.setCrzState_canon | apply State.unpause_canon | apply canon_ite | apply canon_foldl | simp only [canon_mk] | split)

theorem State.crozierApply_canon {s0 : State} {s : State} (f : Nat) (a : Nat) (h_s0 : s0.canon = true) (h_s : s.canon = true) :
    State.canon (State.crozierApply s0 s f a) = true := by
  unfold State.crozierApply
  try dsimp only
  with_reducible repeat' (first | assumption | intro _ | apply State.setCrz_canon | apply State.swapTags_canon | apply State.runCtrl_canon | apply State.flag_canon | apply State.count_canon | apply canon_ite | apply canon_foldl | simp only [canon_mk] | split)

theorem State.ringApply_canon {s0 : State} {s : State} (f : Nat) (r : Nat) (a : Nat) (h_s0 : s0.canon = true) (h_s : s.canon = true) :
    State.canon (State.ringApply s0 s f r a) = true := by
  unfold State.ringApply
  try dsimp only
  with_reducible repeat' (first | assumption | intro _ | apply State.wrB_canon | apply State.count_canon | apply State.flag_canon | apply State.setPlayer_canon | apply State.markShot_canon | apply State.setRing_canon | apply State.wr_canon | apply State.ringLevels_canon | apply canon_ite | apply canon_foldl | simp only [canon_mk] | split)

theorem State.waveformApply_canon {s0 : State} {s : State} (f : Nat) (a : Nat) (h_s0 : s0.canon = true) (h_s : s.canon = true) :
    State.canon (State.waveformApply s0 s f a) = true := by
  unfold State.waveformApply
  try dsimp only
  with_reducible repeat' (first | assumption | intro _ | apply State.swapTags_canon | apply State.ringApply_canon | apply canon_ite | apply canon_foldl | simp only [canon_mk] | split)

theorem State.readoutApply_canon {s0 : State} {s : State} (f : Nat) (a : Nat) (h_s0 : s0.canon = true) (h_s : s.canon = true) :
    State.canon (State.readoutApply s0 s f a) = true := by
  unfold State.readoutApply
  try dsimp only
  with_reducible repeat' (first | assumption | intro _ | apply State.feCommit_canon | apply State.toneCommit_canon | apply canon_ite | apply canon_foldl | simp only [canon_mk] | split)

theorem State.evaluateAll_canon {s : State} (h_s : s.canon = true) :
    State.canon (State.evaluateAll s) = true := by
  unfold State.evaluateAll
  try dsimp only
  with_reducible repeat' (first | assumption | intro _ | apply State.evaluate_canon | apply canon_ite | apply canon_foldl | simp only [canon_mk] | split)

theorem State.slotApply_canon {s0 : State} {s : State} (n : Nat) (h_s0 : s0.canon = true) (h_s : s.canon = true) :
    State.canon (State.slotApply s0 s n) = true := by
  unfold State.slotApply
  try dsimp only
  with_reducible repeat' (first | assumption | intro _ | apply State.setSlot_canon | apply State.evaluateAll_canon | apply canon_ite | apply canon_foldl | simp only [canon_mk] | split)

theorem State.sorusApply_canon {s0 : State} {s : State} (h_s0 : s0.canon = true) (h_s : s.canon = true) :
    State.canon (State.sorusApply s0 s) = true := by
  unfold State.sorusApply
  try dsimp only
  with_reducible repeat' (first | assumption | intro _ | apply State.mapSorus_canon | apply canon_ite | apply canon_foldl | simp only [canon_mk] | split)

theorem State.hcellApply_canon {s0 : State} {s : State} (n : Nat) (a : Nat) (h_s0 : s0.canon = true) (h_s : s.canon = true) :
    State.canon (State.hcellApply s0 s n a) = true := by
  unfold State.hcellApply
  try dsimp only
  with_reducible repeat' (first | assumption | intro _ | apply State.cellReset_canon | apply canon_ite | apply canon_foldl | simp only [canon_mk] | split)

theorem State.cntApply_canon {s0 : State} {s : State} (n : Nat) (h_s0 : s0.canon = true) (h_s : s.canon = true) :
    State.canon (State.cntApply s0 s n) = true := by
  unfold State.cntApply
  try dsimp only
  with_reducible repeat' (first | assumption | intro _ | apply State.wr64_canon | apply canon_ite | apply canon_foldl | simp only [canon_mk] | split)

theorem State.tuftApply_canon {s0 : State} {s : State} (t : Nat) (h_s0 : s0.canon = true) (h_s : s.canon = true) :
    State.canon (State.tuftApply s0 s t) = true := by
  unfold State.tuftApply
  try dsimp only
  with_reducible repeat' (first | assumption | intro _ | apply State.wrB_canon | apply State.resetRange_canon | apply canon_ite | apply canon_foldl | simp only [canon_mk] | split)

theorem canon_cutGddr {s : State} (h : s.canon = true) (lo n : Nat) : State.canon { s with gddr := Tab.cut s.gddr lo n } = true := by
  rw [canon_iff] at *
  exact ⟨h.1, Tab.wf_filter (d := fun _ => (0 : Byte)) h.2.1 _, h.2.2⟩

theorem State.granuleApply_canon {s0 s : State} (h_s0 : s0.canon = true) (h_s : s.canon = true) :
    State.canon (State.granuleApply s0 s) = true := by
  unfold State.granuleApply
  refine canon_foldl _ h_s (fun a k ha => canon_ite ha ?_)
  exact canon_cutGddr (State.wrF_canon _ _ _ _ _ (State.wrB_canon _ _ _ _ ha)) _ _

theorem State.biasOut_canon {s : State} (f : Nat) (k : Nat) (h_s : s.canon = true) :
    State.canon (State.biasOut s f k) = true := by
  unfold State.biasOut
  try dsimp only
  with_reducible repeat' (first | assumption | intro _ | apply State.wrF_canon | apply canon_ite | apply canon_foldl | simp only [canon_mk] | split)

theorem State.mapHk_canon {s : State} (g : Hk → Hk) (h_s : s.canon = true) :
    State.canon (State.mapHk s g) = true := by
  unfold State.mapHk
  try dsimp only
  with_reducible repeat' (first | assumption | intro _ | apply canon_ite | apply canon_foldl | simp only [canon_mk] | split)

theorem State.bankSkip_canon {s : State} (j : Nat) (h_s : s.canon = true) :
    State.canon (State.bankSkip s j) = true := by
  unfold State.bankSkip
  try dsimp only
  with_reducible repeat' (first | assumption | intro _ | apply State.wrB_canon | apply State.mapHk_canon | apply canon_ite | apply canon_foldl | simp only [canon_mk] | split)

theorem State.bankStaged_canon {s : State} (f : Nat) (h_s : s.canon = true) :
    State.canon (State.bankStaged s f) = true := by
  unfold State.bankStaged
  try dsimp only
  with_reducible repeat' (first | assumption | intro _ | apply State.bankSkip_canon | apply canon_ite | apply canon_foldl | simp only [canon_mk] | split)

theorem State.biasPut_canon {s : State} (f : Nat) (k : Nat) (h_s : s.canon = true) :
    State.canon (State.biasPut s f k) = true := by
  unfold State.biasPut
  try dsimp only
  with_reducible repeat' (first | assumption | intro _ | apply State.count_canon | apply State.wr_canon | apply canon_ite | apply canon_foldl | simp only [canon_mk] | split)

theorem State.biasStage_canon {s : State} (f : Nat) (k : Nat) (h_s : s.canon = true) :
    State.canon (State.biasStage s f k) = true := by
  unfold State.biasStage
  try dsimp only
  with_reducible repeat' (first | assumption | intro _ | apply State.count_canon | apply State.wrB_canon | apply State.bankStaged_canon | apply State.biasPut_canon | apply canon_ite | apply canon_foldl | simp only [canon_mk] | split)

theorem State.biasApply_canon {s0 : State} {s : State} (f : Nat) (h_s0 : s0.canon = true) (h_s : s.canon = true) :
    State.canon (State.biasApply s0 s f) = true := by
  unfold State.biasApply
  try dsimp only
  with_reducible repeat' (first | assumption | intro _ | apply State.biasOut_canon | apply State.biasStage_canon | apply canon_ite | apply canon_foldl | simp only [canon_mk] | split)

theorem State.calhkApply_canon {s0 : State} {s : State} (a : Nat) (info : Nat → Option (Nat × Nat)) (h_s0 : s0.canon = true) (h_s : s.canon = true) :
    State.canon (State.calhkApply s0 s a info) = true := by
  unfold State.calhkApply
  try dsimp only
  with_reducible repeat' (first | assumption | intro _ | apply State.wr64_canon | apply State.wr_canon | apply canon_ite | apply canon_foldl | simp only [canon_mk] | split)

theorem State.calfApply_canon {s0 : State} {s : State} (f : Nat) (a : Nat) (info : Nat → Option (Nat × Nat)) (h_s0 : s0.canon = true) (h_s : s.canon = true) :
    State.canon (State.calfApply s0 s f a info) = true := by
  unfold State.calfApply
  try dsimp only
  with_reducible repeat' (first | assumption | intro _ | apply State.mapCal_canon | apply State.wrB_canon | apply State.wr64_canon | apply State.wr_canon | apply State.flag_canon | apply canon_ite | apply canon_foldl | simp only [canon_mk] | split)

theorem State.pageApply_canon {s0 s1 : State} (g a : Nat) (own : Bool) (p : Pg) (h_s0 : s0.canon = true) (h_s1 : s1.canon = true) :
    State.canon (State.pageApply s0 s1 g a own p) = true := by
  unfold State.pageApply
  try dsimp only
  with_reducible repeat' (first | assumption | intro _ | apply State.crozierApply_canon | apply State.waveformApply_canon | apply State.readoutApply_canon | apply State.acqCommit_canon | apply State.flushQ_canon | apply State.slotApply_canon | apply State.sorusApply_canon | apply State.hcellApply_canon | apply State.cntApply_canon | apply State.tuftApply_canon | apply State.granuleApply_canon | apply State.biasApply_canon | apply State.calhkApply_canon | apply State.calfApply_canon | apply State.ballApply_canon | apply canon_ite | apply canon_foldl | simp only [canon_mk] | split)

theorem State.applyPages_canon {s : State} (g a : Nat) (ps : List Pg) (h_s : s.canon = true) :
    State.canon (State.applyPages s g a ps) = true := by
  unfold State.applyPages
  try dsimp only
  with_reducible repeat' (first | assumption | intro _ | apply State.leaves_canon | apply State.slotBefore_canon | apply State.swap_canon | apply State.commit63_canon | apply State.arrives_canon | apply State.pageApply_canon | apply canon_ite | apply canon_foldl | simp only [canon_mk] | split)

theorem State.swapHeld_canon {s : State} (h : HeldPages) (h_s : s.canon = true) :
    State.canon (State.swapHeld s h) = true := by
  unfold State.swapHeld
  try dsimp only
  with_reducible repeat' (first | assumption | intro _ | apply State.applyPages_canon | apply canon_ite | apply canon_foldl | simp only [canon_mk] | split)

theorem State.showTufts_canon {s : State} (h_s : s.canon = true) :
    State.canon (State.showTufts s) = true := by
  unfold State.showTufts
  try dsimp only
  with_reducible repeat' (first | assumption | intro _ | apply State.wrF_canon | apply State.wr_canon | apply canon_ite | apply canon_foldl | simp only [canon_mk] | split)

theorem State.showResv_canon {s : State} (h_s : s.canon = true) :
    State.canon (State.showResv s) = true := by
  unfold State.showResv
  try dsimp only
  with_reducible repeat' (first | assumption | intro _ | apply State.wr_canon | apply canon_ite | apply canon_foldl | simp only [canon_mk] | split)

theorem State.showAll_canon {s : State} (h_s : s.canon = true) :
    State.canon (State.showAll s) = true := by
  unfold State.showAll
  try dsimp only
  with_reducible repeat' (first | assumption | intro _ | apply State.showTufts_canon | apply State.reclaim_canon | apply State.showResv_canon | apply canon_ite | apply canon_foldl | simp only [canon_mk] | split)

theorem State.pagesDue_canon {s : State} (h_s : s.canon = true) :
    State.canon (State.pagesDue s) = true := by
  unfold State.pagesDue
  try dsimp only
  with_reducible repeat' (first | assumption | intro _ | apply State.swapHeld_canon | apply State.mapTime_canon | apply State.showAll_canon | apply canon_ite | apply canon_foldl | simp only [canon_mk] | split)

theorem canon_cutSlice {s : State} (h : s.canon = true) {cr : Tab Croz} {pl : Tab Player} {ch : Tab FluxChain} {ri : Tab Ring}
    {fe : Tab Fe} {sl : Tab Slot} (a b c d e k l m n p : Nat) :
    State.canon { s with
                  croz := cr, cs := Tab.cut s.cs a b, players := pl, chains := ch, rings := ri, descs := Tab.cut s.descs c d,
                  lists := Tab.cut s.lists e k, sram := Tab.cut s.sram l m, fes := fe, wmem := Tab.cut s.wmem n p, slots := sl } = true := by
  rw [canon_iff] at *
  exact ⟨h.1, h.2.1, Tab.wf_filter h.2.2.1 _, Tab.wf_filter h.2.2.2.1 _, Tab.wf_filter h.2.2.2.2.1 _,
    Tab.wf_filter h.2.2.2.2.2.1 _, Tab.wf_filter h.2.2.2.2.2.2.1 _, h.2.2.2.2.2.2.2⟩

theorem State.sliceOff_canon {s : State} (k : Nat) (h_s : s.canon = true) : State.canon (s.sliceOff k) = true := by
  unfold State.sliceOff
  exact canon_cutSlice (canon_foldl _ h_s (fun a i ha => canon_foldl _ (State.idlePlayers_canon _ (State.crzDrop_canon _ ha))
    (fun b p hb => State.resetRange_canon _ _ _ hb))) _ _ _ _ _ _ _ _ _ _

theorem State.switchDom_canon {s : State} (d : Nat) (on : Bool) (h_s : s.canon = true) :
    State.canon (State.switchDom s d on) = true := by
  unfold State.switchDom
  try dsimp only
  with_reducible repeat' (first | assumption | intro _ | apply State.sliceOff_canon | apply State.wrB_canon | apply canon_ite | apply canon_foldl | simp only [canon_mk] | split)

theorem State.mapBoot_canon {s : State} (g : Boot → Boot) (h_s : s.canon = true) :
    State.canon (State.mapBoot s g) = true := by
  unfold State.mapBoot
  try dsimp only
  with_reducible repeat' (first | assumption | intro _ | apply canon_ite | apply canon_foldl | simp only [canon_mk] | split)

theorem State.powerDue_canon {s : State} (h_s : s.canon = true) :
    State.canon (State.powerDue s) = true := by
  unfold State.powerDue
  try dsimp only
  with_reducible repeat' (first | assumption | intro _ | apply State.switchDom_canon | apply State.mapBoot_canon | apply canon_ite | apply canon_foldl | simp only [canon_mk] | split)

theorem State.beatTick_canon {s : State} (h_s : s.canon = true) :
    State.canon (State.beatTick s) = true := by
  unfold State.beatTick
  try dsimp only
  with_reducible repeat' (first | assumption | intro _ | apply State.driveTick_canon | apply State.passBeats_canon | apply State.hyphaTick_canon | apply State.haltDue_canon | apply State.concludeDue_canon | apply State.switchesDue_canon | apply State.groupsDue_canon | apply State.queuesLeave_canon | apply State.trigsDue_canon | apply State.pagesDue_canon | apply State.powerDue_canon | apply canon_ite | apply canon_foldl | simp only [canon_mk] | split)

theorem State.ticks_canon (n : Nat) {s : State} (h_s : s.canon = true) : State.canon (State.ticks n s) = true := by
  induction n generalizing s with
  | zero => exact h_s
  | succ n ih => exact ih (State.beatTick_canon h_s)

theorem State.at_canon {s : State} (b : Nat) (h_s : s.canon = true) :
    State.canon (State.at s b) = true := by
  unfold State.at
  try dsimp only
  with_reducible repeat' (first | assumption | intro _ | apply State.passBeats_canon | apply State.ticks_canon | apply State.queuesLeave_canon | apply State.powerDue_canon | apply canon_ite | apply canon_foldl | simp only [canon_mk] | split)

theorem State.trigIn_canon {s : State} (i : Nat) (b : Nat) (falling : Bool) (held : Nat) (h_s : s.canon = true) :
    State.canon (State.trigIn s i b falling held) = true := by
  unfold State.trigIn
  try dsimp only
  with_reducible repeat' (first | assumption | intro _ | apply State.trigger_canon | apply State.srcEvent_canon | apply State.count_canon | apply canon_ite | apply canon_foldl | simp only [canon_mk] | split)

theorem execTrigIn_canon (b : Nat) (i : Fin 4) (falling : Bool) (held : Nat) {s : State} (h_s : s.canon = true) :
    outCanon (execTrigIn b i falling held s) := by
  unfold execTrigIn
  try dsimp only
  with_reducible repeat' (first | assumption | intro _ | apply outCanon_next | apply State.at_canon | apply State.trigIn_canon | apply canon_ite | apply canon_foldl | simp only [canon_mk] | split)

theorem execTimeMatch_canon (b : Nat) (c : Fin 16) {s : State} (h_s : s.canon = true) :
    outCanon (execTimeMatch b c s) := by
  unfold execTimeMatch
  try dsimp only
  with_reducible repeat' (first | assumption | intro _ | apply outCanon_next | apply State.timeMatch_canon | apply State.at_canon | apply canon_ite | apply canon_foldl | simp only [canon_mk] | split)

theorem State.swTrig_canon {s : State} (c : Nat) (h_s : s.canon = true) :
    State.canon (State.swTrig s c) = true := by
  unfold State.swTrig
  try dsimp only
  with_reducible repeat' (first | assumption | intro _ | apply canon_ite | apply canon_foldl | simp only [canon_mk] | split)

theorem State.rowWrite_canon {s : State} (path : Path) (p : Pg) (off : Nat) (v : Word) (k : Word → State → State) (h_s : s.canon = true) (h_k : ∀ t x, x.canon = true → State.canon (k t x) = true) :
    State.canon (State.rowWrite s path p off v k) = true := by
  unfold State.rowWrite
  try dsimp only
  with_reducible repeat' (first | assumption | intro _ | apply State.rowTurn_canon | apply State.withWrite_canon | apply h_k | apply canon_ite | apply canon_foldl | simp only [canon_mk] | split)

theorem execSwtrigFire_canon (path : Path) (c : Fin 16) {s : State} (h_s : s.canon = true) :
    outCanon (execSwtrigFire path c s) := by
  unfold execSwtrigFire
  try dsimp only
  with_reducible repeat' (first | assumption | intro _ | apply outCanon_next | apply State.swTrig_canon | apply State.rowWrite_canon | apply canon_ite | apply canon_foldl | simp only [canon_mk] | split)

theorem execAutoTrigger_canon (b : Nat) (c : Fin 16) {s : State} (h_s : s.canon = true) :
    outCanon (execAutoTrigger b c s) := by
  unfold execAutoTrigger
  try dsimp only
  with_reducible repeat' (first | assumption | intro _ | apply outCanon_next | apply State.autoTrigger_canon | apply State.at_canon | apply canon_ite | apply canon_foldl | simp only [canon_mk] | split)

theorem State.captureEnd_canon {s : State} (c : Nat) (h_s : s.canon = true) :
    State.canon (State.captureEnd s c) = true := by
  unfold State.captureEnd
  try dsimp only
  with_reducible repeat' (first | assumption | intro _ | apply State.setAcqState_canon | apply canon_ite | apply canon_foldl | simp only [canon_mk] | split)

theorem execCaptureEnd_canon (b : Nat) (c : Fin 16) {s : State} (h_s : s.canon = true) :
    outCanon (execCaptureEnd b c s) := by
  unfold execCaptureEnd
  try dsimp only
  with_reducible repeat' (first | assumption | intro _ | apply outCanon_next | apply State.captureEnd_canon | apply State.at_canon | apply canon_ite | apply canon_foldl | simp only [canon_mk] | split)

theorem execHoldoffEnd_canon (b : Nat) (c : Fin 16) {s : State} (h_s : s.canon = true) :
    outCanon (execHoldoffEnd b c s) := by
  unfold execHoldoffEnd
  try dsimp only
  with_reducible repeat' (first | assumption | intro _ | apply outCanon_next | apply State.acqStep_canon | apply State.at_canon | apply canon_ite | apply canon_foldl | simp only [canon_mk] | split)

theorem execDataRecord_canon (b : Nat) (c : Fin 16) (raw : List (List (BitVec 12))) (demod : List DemodUnit) (lost : List Nat) {s : State} (h_s : s.canon = true) :
    outCanon (execDataRecord b c raw demod lost s) := by
  unfold execDataRecord
  try dsimp only
  with_reducible repeat' (first | assumption | intro _ | apply outCanon_next | apply State.dataRecord_canon | apply State.at_canon | apply canon_ite | apply canon_foldl | simp only [canon_mk] | split)

theorem execHostCopy_canon (b : Nat) (c : Fin 16) {s : State} (h_s : s.canon = true) :
    outCanon (execHostCopy b c s) := by
  unfold execHostCopy
  try dsimp only
  with_reducible repeat' (first | assumption | intro _ | apply outCanon_next | apply State.hostCopy_canon | apply State.at_canon | apply canon_ite | apply canon_foldl | simp only [canon_mk] | split)

theorem execHostRd_canon (path : Path) (c : Fin 16) (v : Word) (bell : Bool) {s : State} (h_s : s.canon = true) :
    outCanon (execHostRd path c v bell s) := by
  unfold execHostRd
  try dsimp only
  with_reducible repeat' (first | assumption | intro _ | apply outCanon_next | apply State.viaBell_canon | apply State.hostRdWrite_canon | apply canon_ite | apply canon_foldl | simp only [canon_mk] | split)

theorem State.mapInst_canon {s : State} (n : Nat) (g : PtpInst → PtpInst) (h_s : s.canon = true) :
    State.canon (State.mapInst s n g) = true := by
  unfold State.mapInst
  try dsimp only
  with_reducible repeat' (first | assumption | intro _ | apply State.mapTime_canon | apply canon_ite | apply canon_foldl | simp only [canon_mk] | split)

theorem State.setPortSt_canon {s : State} (n : Nat) (p : Nat) (v : Nat) (h_s : s.canon = true) :
    State.canon (State.setPortSt s n p v) = true := by
  unfold State.setPortSt
  try dsimp only
  with_reducible repeat' (first | assumption | intro _ | apply State.flag_canon | apply State.wrF_canon | apply canon_ite | apply canon_foldl | simp only [canon_mk] | split)

theorem State.autoSwitch_canon {s : State} (n : Nat) (h_s : s.canon = true) :
    State.canon (State.autoSwitch s n) = true := by
  unfold State.autoSwitch
  try dsimp only
  with_reducible repeat' (first | assumption | intro _ | apply State.setSel_canon | apply canon_ite | apply canon_foldl | simp only [canon_mk] | split)

theorem State.setLock_canon {s : State} (n : Nat) (v : Nat) (h_s : s.canon = true) :
    State.canon (State.setLock s n v) = true := by
  unfold State.setLock
  try dsimp only
  with_reducible repeat' (first | assumption | intro _ | apply State.wrF_canon | apply State.autoSwitch_canon | apply State.mapInst_canon | apply State.flag_canon | apply canon_ite | apply canon_foldl | simp only [canon_mk] | split)

theorem State.dropMaster_canon {s : State} (n : Nat) (h_s : s.canon = true) :
    State.canon (State.dropMaster s n) = true := by
  unfold State.dropMaster
  try dsimp only
  with_reducible repeat' (first | assumption | intro _ | apply State.setLock_canon | apply State.mapInst_canon | apply canon_ite | apply canon_foldl | simp only [canon_mk] | split)

theorem State.offset_canon {s : State} (n : Nat) (o : Int) (steps : Nat) (h_s : s.canon = true) :
    State.canon (State.offset s n o steps) = true := by
  unfold State.offset
  try dsimp only
  with_reducible repeat' (first | assumption | intro _ | apply State.wr64_canon | apply State.setLock_canon | apply State.mapInst_canon | apply State.count_canon | apply State.flag_canon | apply State.mapTime_canon | apply State.servoUpdate_canon | apply canon_ite | apply canon_foldl | simp only [canon_mk] | split)

theorem State.tryOffset_canon {s : State} (n : Nat) (p : Nat) (h_s : s.canon = true) :
    State.canon (State.tryOffset s n p) = true := by
  unfold State.tryOffset
  try dsimp only
  with_reducible repeat' (first | assumption | intro _ | apply State.offset_canon | apply State.mapInst_canon | apply State.setPortSt_canon | apply canon_ite | apply canon_foldl | simp only [canon_mk] | split)

theorem State.syncPair_canon {s : State} (n : Nat) (p : Nat) (t1 : Int) (t2 : Int) (steps : Nat) (h_s : s.canon = true) :
    State.canon (State.syncPair s n p t1 t2 steps) = true := by
  unfold State.syncPair
  try dsimp only
  with_reducible repeat' (first | assumption | intro _ | apply State.mapInst_canon | apply State.draw_canon | apply State.offset_canon | apply State.tryOffset_canon | apply canon_ite | apply canon_foldl | simp only [canon_mk] | split)

theorem State.ptpSync_canon {s : State} (n : Nat) (x : PtpMsg) (h_s : s.canon = true) :
    State.canon (State.ptpSync s n x) = true := by
  unfold State.ptpSync
  try dsimp only
  with_reducible repeat' (first | assumption | intro _ | apply State.count_canon | apply State.mapInst_canon | apply State.syncPair_canon | apply canon_ite | apply canon_foldl | simp only [canon_mk] | split)

theorem State.ptpFollow_canon {s : State} (n : Nat) (x : PtpMsg) (h_s : s.canon = true) :
    State.canon (State.ptpFollow s n x) = true := by
  unfold State.ptpFollow
  try dsimp only
  with_reducible repeat' (first | assumption | intro _ | apply State.syncPair_canon | apply State.mapInst_canon | apply canon_ite | apply canon_foldl | simp only [canon_mk] | split)

theorem State.setDelay_canon {s : State} (n : Nat) (p : Nat) (d : Int) (h_s : s.canon = true) :
    State.canon (State.setDelay s n p d) = true := by
  unfold State.setDelay
  try dsimp only
  with_reducible repeat' (first | assumption | intro _ | apply State.wr64_canon | apply State.mapInst_canon | apply canon_ite | apply canon_foldl | simp only [canon_mk] | split)

theorem State.ptpReply_canon {s : State} (x : PtpMsg) (kind : Nat) (ts corr : Int) (h_s : s.canon = true) :
    State.canon (State.ptpReply s x kind ts corr) = true := by
  unfold State.ptpReply
  try dsimp only
  with_reducible repeat' (first | assumption | intro _ | apply State.emit_canon | apply canon_ite | apply canon_foldl | simp only [canon_mk] | split)

theorem State.ptpDelayReq_canon {s : State} (n : Nat) (x : PtpMsg) (h_s : s.canon = true) :
    State.canon (State.ptpDelayReq s n x) = true := by
  unfold State.ptpDelayReq
  try dsimp only
  with_reducible repeat' (first | assumption | intro _ | apply State.count_canon | apply State.ptpReply_canon | apply canon_ite | apply canon_foldl | simp only [canon_mk] | split)

theorem State.ptpDelayResp_canon {s : State} (n : Nat) (x : PtpMsg) (h_s : s.canon = true) :
    State.canon (State.ptpDelayResp s n x) = true := by
  unfold State.ptpDelayResp
  try dsimp only
  with_reducible repeat' (first | assumption | intro _ | apply State.mapInst_canon | apply State.tryOffset_canon | apply State.setDelay_canon | apply canon_ite | apply canon_foldl | simp only [canon_mk] | split)

theorem State.macFix_canon {s : State} (mo : Nat) (h_s : s.canon = true) :
    State.canon (State.macFix s mo) = true := by
  unfold State.macFix
  try dsimp only
  with_reducible repeat' (first | assumption | intro _ | apply State.macTo_canon | apply canon_ite | apply canon_foldl | simp only [canon_mk] | split)

theorem State.ptpPdelayReq_canon {s : State} (n : Nat) (x : PtpMsg) (h_s : s.canon = true) :
    State.canon (State.ptpPdelayReq s n x) = true := by
  unfold State.ptpPdelayReq
  try dsimp only
  with_reducible repeat' (first | assumption | intro _ | apply State.count_canon | apply State.macFix_canon | apply State.ptpReply_canon | apply canon_ite | apply canon_foldl | simp only [canon_mk] | split)

theorem State.peerDone_canon {s : State} (n : Nat) (p : Nat) (sum : Int) (steps : Nat) (h_s : s.canon = true) :
    State.canon (State.peerDone s n p sum steps) = true := by
  unfold State.peerDone
  try dsimp only
  with_reducible repeat' (first | assumption | intro _ | apply State.count_canon | apply State.mapInst_canon | apply State.tryOffset_canon | apply State.setDelay_canon | apply canon_ite | apply canon_foldl | simp only [canon_mk] | split)

theorem State.ptpPdelayResp_canon {s : State} (n : Nat) (x : PtpMsg) (h_s : s.canon = true) :
    State.canon (State.ptpPdelayResp s n x) = true := by
  unfold State.ptpPdelayResp
  try dsimp only
  with_reducible repeat' (first | assumption | intro _ | apply State.mapInst_canon | apply State.peerDone_canon | apply canon_ite | apply canon_foldl | simp only [canon_mk] | split)

theorem State.ptpPdelayFollow_canon {s : State} (n : Nat) (x : PtpMsg) (h_s : s.canon = true) :
    State.canon (State.ptpPdelayFollow s n x) = true := by
  unfold State.ptpPdelayFollow
  try dsimp only
  with_reducible repeat' (first | assumption | intro _ | apply State.peerDone_canon | apply canon_ite | apply canon_foldl | simp only [canon_mk] | split)

theorem State.ptpDecide_canon {s : State} (n : Nat) (timedOut : Option Nat) (h_s : s.canon = true) :
    State.canon (State.ptpDecide s n timedOut) = true := by
  unfold State.ptpDecide
  try dsimp only
  with_reducible repeat' (first | assumption | intro _ | apply State.mapInst_canon | apply State.wr64_canon | apply State.setPortSt_canon | apply State.setLock_canon | apply State.dropMaster_canon | apply canon_ite | apply canon_foldl | simp only [canon_mk] | split)

theorem State.ptpAnnounce_canon {s : State} (n : Nat) (x : PtpMsg) (h_s : s.canon = true) :
    State.canon (State.ptpAnnounce s n x) = true := by
  unfold State.ptpAnnounce
  try dsimp only
  with_reducible repeat' (first | assumption | intro _ | apply State.count_canon | apply State.mapInst_canon | apply State.ptpDecide_canon | apply canon_ite | apply canon_foldl | simp only [canon_mk] | split)

theorem State.ptpForward_canon {s : State} (kind : Nat) (x : PtpMsg) (t2 : Int) (h_s : s.canon = true) :
    State.canon (State.ptpForward s kind x t2) = true := by
  unfold State.ptpForward
  try dsimp only
  with_reducible repeat' (first | assumption | intro _ | apply State.count_canon | apply State.emit_canon | apply State.macFix_canon | apply canon_ite | apply canon_foldl | simp only [canon_mk] | split)

theorem State.ptpRx_canon {s : State} (kind : Nat) (x : PtpMsg) (own : State → Nat → State) (h_s : s.canon = true) (h_own : ∀ t x, t.canon = true → (own t x).canon = true) :
    State.canon (State.ptpRx s kind x own) = true := by
  unfold State.ptpRx
  try dsimp only
  with_reducible repeat' (first | assumption | intro _ | apply State.macTo_canon | apply State.ptpForward_canon | apply h_own | apply canon_ite | apply canon_foldl | simp only [canon_mk] | split)

theorem State.ptpSeq_canon {s : State} (n : Nat) (p : Nat) (kind : Nat) (h_s : s.canon = true) :
    State.canon (State.ptpSeq s n p kind).2 = true := by
  unfold State.ptpSeq
  try dsimp only
  with_reducible repeat' (first | assumption | intro _ | apply State.mapInst_canon | apply canon_ite | apply canon_foldl | simp only [canon_mk] | split)

theorem State.ptpOut_canon {s : State} (n p kind seq : Nat) (ts corr : Int) (ds : List Nat) (h_s : s.canon = true) :
    State.canon (State.ptpOut s n p kind seq ts corr ds) = true := by
  unfold State.ptpOut
  try dsimp only
  with_reducible repeat' (first | assumption | intro _ | apply State.emit_canon | apply canon_ite | apply canon_foldl | simp only [canon_mk] | split)

theorem State.ptpSend_canon {s0 : State} (n p kind m : Nat) (h_s0 : s0.canon = true) :
    State.canon (State.ptpSend s0 n p kind m) = true := by
  unfold State.ptpSend
  try dsimp only
  with_reducible repeat' (first | assumption | intro _ | apply State.ptpSeq_canon | apply State.count_canon | apply State.mapInst_canon | apply State.ptpOut_canon | apply canon_ite | apply canon_foldl | simp only [canon_mk] | split)

theorem State.ptpTimeout_canon {s : State} (n : Nat) (p : Nat) (ann : Bool) (h_s : s.canon = true) :
    State.canon (State.ptpTimeout s n p ann) = true := by
  unfold State.ptpTimeout
  try dsimp only
  with_reducible repeat' (first | assumption | intro _ | apply State.setLock_canon | apply State.dropMaster_canon | apply State.mapInst_canon | apply State.ptpDecide_canon | apply canon_ite | apply canon_foldl | simp only [canon_mk] | split)

theorem State.ptpCfg_canon {s : State} (n : Nat) (v : Word) (h_s : s.canon = true) :
    State.canon (State.ptpCfg s n v) = true := by
  unfold State.ptpCfg
  try dsimp only
  with_reducible repeat' (first | assumption | intro _ | apply State.wr_canon | apply State.dropMaster_canon | apply State.setPortSt_canon | apply State.mapInst_canon | apply canon_ite | apply canon_foldl | simp only [canon_mk] | split)

theorem State.lay_canon {s : State} (keep : Nat → Bool) (h_s : s.canon = true) :
    State.canon (State.lay s keep) = true := by
  unfold State.lay
  try dsimp only
  with_reducible repeat' (first | assumption | intro _ | apply State.wrA_canon | apply canon_ite | apply canon_foldl | simp only [canon_mk] | split)

theorem State.overlay_canon {s : State} (g : Nat) (h_s : s.canon = true) :
    State.canon (State.overlay s g) = true := by
  unfold State.overlay
  try dsimp only
  with_reducible repeat' (first | assumption | intro _ | apply State.lay_canon | apply canon_ite | apply canon_foldl | simp only [canon_mk] | split)

theorem State.overlayOwn_canon {s : State} (g : Nat) (h_s : s.canon = true) :
    State.canon (State.overlayOwn s g) = true := by
  unfold State.overlayOwn
  try dsimp only
  with_reducible repeat' (first | assumption | intro _ | apply State.lay_canon | apply canon_ite | apply canon_foldl | simp only [canon_mk] | split)

theorem State.doom_canon {s : State} (g : Nat) (h_s : s.canon = true) :
    State.canon (State.doom s g) = true := by
  unfold State.doom
  try dsimp only
  with_reducible repeat' (first | assumption | intro _ | apply State.flag_canon | apply State.count_canon | apply State.wrB_canon | apply State.setPageState_canon | apply canon_ite | apply canon_foldl | simp only [canon_mk] | split)

theorem State.shadowWrite_canon {s : State} (g : Nat) (p : Pg) (off : Nat) (v : Word) (h_s : s.canon = true) :
    State.canon (State.shadowWrite s g p off v) = true := by
  unfold State.shadowWrite
  try dsimp only
  with_reducible repeat' (first | assumption | intro _ | apply State.doom_canon | apply State.wr_canon | apply State.bindPage_canon | apply State.setGrp_canon | apply State.setPageState_canon | apply canon_ite | apply canon_foldl | simp only [canon_mk] | split)

theorem State.rwcWrite_canon {s : State} (path : Path) (p : Pg) (off : Nat) (v : Word) (h_s : s.canon = true) :
    State.canon (State.rwcWrite s path p off v) = true := by
  unfold State.rwcWrite
  try dsimp only
  with_reducible repeat' (first | assumption | intro _ | apply State.recErr_canon | apply State.shadowWrite_canon | apply canon_ite | apply canon_foldl | simp only [canon_mk] | split)

theorem State.grpOpen_canon {s : State} (path : Path) (g : Nat) (h_s : s.canon = true) :
    State.canon (State.grpOpen s path g) = true := by
  unfold State.grpOpen
  try dsimp only
  with_reducible repeat' (first | assumption | intro _ | apply State.grpRefuse_canon | apply State.setGrp_canon | apply State.setGrpState_canon | apply State.wr_canon | apply canon_ite | apply canon_foldl | simp only [canon_mk] | split)

theorem State.grpArm_canon {s : State} (g : Nat) (h_s : s.canon = true) :
    State.canon (State.grpArm s g) = true := by
  unfold State.grpArm
  try dsimp only
  with_reducible repeat' (first | assumption | intro _ | apply State.grpRefuse_canon | apply State.setGrp_canon | apply State.wrF_canon | apply State.setGrpState_canon | apply State.setPageState_canon | apply canon_ite | apply canon_foldl | simp only [canon_mk] | split)

theorem State.grpAbortCmd_canon {s : State} (g : Nat) (b : Nat) (h_s : s.canon = true) :
    State.canon (State.grpAbortCmd s g b) = true := by
  unfold State.grpAbortCmd
  try dsimp only
  with_reducible repeat' (first | assumption | intro _ | apply State.grpRefuse_canon | apply State.abortGrp_canon | apply State.setGrp_canon | apply State.abortActs_canon | apply canon_ite | apply canon_foldl | simp only [canon_mk] | split)

theorem State.grpCmd_canon {s : State} (path : Path) (g : Nat) (v : Word) (h_s : s.canon = true) :
    State.canon (State.grpCmd s path g v) = true := by
  unfold State.grpCmd
  try dsimp only
  with_reducible repeat' (first | assumption | intro _ | apply State.grpRefuse_canon | apply State.grpOpen_canon | apply State.grpArm_canon | apply State.grpAbortCmd_canon | apply canon_ite | apply canon_foldl | simp only [canon_mk] | split)

theorem State.modeAborts_canon {s : State} (hold : Bool) (h_s : s.canon = true) :
    State.canon (State.modeAborts s hold) = true := by
  unfold State.modeAborts
  try dsimp only
  with_reducible repeat' (first | assumption | intro _ | apply State.abortGrp_canon | apply State.flag_canon | apply canon_ite | apply canon_foldl | simp only [canon_mk] | split)

theorem State.pathReset_canon {s : State} (path : Path) (h_s : s.canon = true) :
    State.canon (State.pathReset s path) = true := by
  unfold State.pathReset
  try dsimp only
  with_reducible repeat' (first | assumption | intro _ | apply State.abortGrp_canon | apply canon_ite | apply canon_foldl | simp only [canon_mk] | split)

theorem State.tuftAborts_canon {s : State} (t : Nat) (h_s : s.canon = true) :
    State.canon (State.tuftAborts s t) = true := by
  unfold State.tuftAborts
  try dsimp only
  with_reducible repeat' (first | assumption | intro _ | apply State.abortGrp_canon | apply canon_ite | apply canon_foldl | simp only [canon_mk] | split)

theorem wf_fill {α : Type} [DecidableEq α] (d : α) {t : Tab α} (h : Tab.wf (fun _ => d) t = true) (lo n : Nat)
    (l : List (Nat × α)) : Tab.wf (fun _ => d) (Tab.fill d t lo n l) = true := by
  have h1 := Tab.wf_filter h (fun (e : Nat × α) => !(decide (lo ≤ e.1) && decide (e.1 < lo + n)))
  unfold Tab.fill
  generalize List.filter (fun (e : Nat × α) => !(decide (lo ≤ e.1) && decide (e.1 < lo + n))) t = m at h1 ⊢
  induction l generalizing m with
  | nil => exact h1
  | cons e l ih => exact ih _ (Tab.wf_set (d := fun _ => d) h1 _ _)

theorem wf_setAll {α : Type} [DecidableEq α] (d : α) {t : Tab α} (h : Tab.wf (fun _ => d) t = true) (l : List Nat) (k : Nat → Nat)
    (v : Nat → α) : Tab.wf (fun _ => d) (l.foldl (fun t i => Tab.set d t (k i) (v i)) t) = true := by
  induction l generalizing t with
  | nil => exact h
  | cons i l ih => exact ih (Tab.wf_set (d := fun _ => d) h _ _)

theorem State.loadCs_canon {s : State} (f a : Nat) (h_s : s.canon = true) : State.canon (s.loadCs f a) = true := by
  unfold State.loadCs
  refine State.wrF_canon _ _ _ _ _ ?_
  rw [canon_iff] at *
  exact ⟨h_s.1, h_s.2.1, wf_fill _ h_s.2.2.1 _ _ _, h_s.2.2.2⟩

theorem State.loadLibSect_canon {s : State} (f : Nat) (x : Sect) (h_s : s.canon = true) :
    State.canon (s.loadLibSect f x) = true := by
  unfold State.loadLibSect
  have h := (canon_iff s).1 h_s
  dsimp only
  split
  · exact (canon_iff _).2 ⟨h.1, h.2.1, h.2.2.1, wf_setAll 0 h.2.2.2.1 _ _ _, h.2.2.2.2⟩
  · exact (canon_iff _).2 ⟨h.1, h.2.1, h.2.2.1, h.2.2.2.1, wf_setAll 0 h.2.2.2.2.1 _ _ _, h.2.2.2.2.2⟩
  · exact canon_ite (State.count_canon _ _ _ (State.flag_canon _ _ (canon_setSram h_s _ _ _))) (canon_setSram h_s _ _ _)

theorem State.loadLib_canon {s : State} (f a : Nat) (l : List Sect) (h_s : s.canon = true) : State.canon (s.loadLib f a l) = true := by
  unfold State.loadLib
  have h := (canon_iff s).1 h_s
  refine State.wrF_canon _ _ _ _ _ (canon_foldl _ ?_ (fun t x ht => State.loadLibSect_canon _ _ ht))
  exact (canon_iff _).2 ⟨h.1, h.2.1, h.2.2.1, wf_fill _ h.2.2.2.1 _ _ _, wf_fill _ h.2.2.2.2.1 _ _ _, h.2.2.2.2.2⟩

theorem State.loadKimg_canon {s : State} (f a : Nat) (l : List Sect) (h_s : s.canon = true) :
    State.canon (s.loadKimg f a l) = true := by
  unfold State.loadKimg
  refine State.wrF_canon _ _ _ _ _ (canon_foldl _ h_s (fun t x ht => ?_))
  have h := (canon_iff t).1 ht
  have h1 : State.canon { t with wmem := (List.range x.count).foldl (fun m i => Tab.set 0 m ((16 * f + x.type) * 32768 + x.first + i)
      (BitVec.ofNat 40 (t.gnum (x.data + 8 * i) 5))) t.wmem } = true :=
    (canon_iff _).2 ⟨h.1, h.2.1, h.2.2.1, h.2.2.2.1, h.2.2.2.2.1, h.2.2.2.2.2.1, wf_setAll 0 h.2.2.2.2.2.2.1 _ _ _, h.2.2.2.2.2.2.2⟩
  exact canon_ite (State.count_canon _ _ _ (State.flag_canon _ _ h1)) h1

theorem State.loadLut_canon {s : State} (n : Nat) (a : Nat) (l : List Sect) (h_s : s.canon = true) :
    State.canon (State.loadLut s n a l) = true := by
  unfold State.loadLut
  try dsimp only
  with_reducible repeat' (first | assumption | intro _ | apply State.wrF_canon | apply canon_ite | apply canon_foldl | simp only [canon_mk] | split)

theorem State.setLog_canon {s : State} (p : Pg) (off : Nat) (b : List Byte) (h_s : s.canon = true) :
    State.canon (State.setLog s p off b) = true := by
  unfold State.setLog
  try dsimp only
  with_reducible repeat' (first | assumption | intro _ | apply State.wr_canon | apply canon_ite | apply canon_foldl | simp only [canon_mk] | split)

theorem State.extendLog_canon {s : State} (own : Nat) (digest : List Byte) (h_s : s.canon = true) :
    State.canon (State.extendLog s own digest) = true := by
  unfold State.extendLog
  try dsimp only
  with_reducible repeat' (first | assumption | intro _ | apply State.setLog_canon | apply canon_ite | apply canon_foldl | simp only [canon_mk] | split)

theorem State.loadImage_canon {s : State} (own : Nat) (p : Pg) (a : Nat) (h_s : s.canon = true) :
    State.canon (State.loadImage s own p a) = true := by
  unfold State.loadImage
  try dsimp only
  with_reducible repeat' (first | assumption | intro _ | apply State.extendLog_canon | apply State.loadCs_canon | apply State.loadLib_canon | apply State.loadKimg_canon | apply State.loadLut_canon | apply canon_ite | apply canon_foldl | simp only [canon_mk] | split)

theorem State.sigFail_canon {s : State} (h_s : s.canon = true) :
    State.canon (State.sigFail s) = true := by
  unfold State.sigFail
  try dsimp only
  with_reducible repeat' (first | assumption | intro _ | apply State.count_canon | apply State.flag_canon | apply canon_ite | apply canon_foldl | simp only [canon_mk] | split)

theorem State.biasClearAll_canon {s : State} (h_s : s.canon = true) :
    State.canon (State.biasClearAll s) = true := by
  unfold State.biasClearAll
  try dsimp only
  with_reducible repeat' (first | assumption | intro _ | apply State.biasClear_canon | apply canon_ite | apply canon_foldl | simp only [canon_mk] | split)

theorem State.strobe_canon {s : State} (n : Nat) (b : Nat) (h_s : s.canon = true) :
    State.canon (State.strobe s n b) = true := by
  unfold State.strobe
  try dsimp only
  with_reducible repeat' (first | assumption | intro _ | apply State.count_canon | apply State.mapHk_canon | apply canon_ite | apply canon_foldl | simp only [canon_mk] | split)

theorem State.bankTurns_canon {s : State} (h : Nat) (h_s : s.canon = true) :
    State.canon (State.bankTurns s h) = true := by
  unfold State.bankTurns
  try dsimp only
  with_reducible repeat' (first | assumption | intro _ | apply State.bankSkip_canon | apply canon_ite | apply canon_foldl | simp only [canon_mk] | split)

theorem State.hkTo_canon {s9 : State} (h : Nat) (h_s9 : s9.canon = true) :
    State.canon (State.hkTo s9 h) = true := by
  unfold State.hkTo
  try dsimp only
  with_reducible repeat' (first | assumption | intro _ | apply State.wr_canon | apply State.mapHk_canon | apply State.bankTurns_canon | apply canon_ite | apply canon_foldl | simp only [canon_mk] | split)

theorem State.tmrCapture_canon {s : State} (src : Nat) (h_s : s.canon = true) :
    State.canon (State.tmrCapture s src) = true := by
  unfold State.tmrCapture
  try dsimp only
  with_reducible repeat' (first | assumption | intro _ | apply State.flag_canon | apply State.wr_canon | apply canon_ite | apply canon_foldl | simp only [canon_mk] | split)

theorem State.setAdcState_canon {s : State} (st : Nat) (h_s : s.canon = true) :
    State.canon (State.setAdcState s st) = true := by
  unfold State.setAdcState
  try dsimp only
  with_reducible repeat' (first | assumption | intro _ | apply State.wrF_canon | apply canon_ite | apply canon_foldl | simp only [canon_mk] | split)

theorem State.mapAdc_canon {s : State} (g : AdcSt → AdcSt) (h_s : s.canon = true) :
    State.canon (State.mapAdc s g) = true := by
  unfold State.mapAdc
  try dsimp only
  with_reducible repeat' (first | assumption | intro _ | apply State.mapHk_canon | apply canon_ite | apply canon_foldl | simp only [canon_mk] | split)

theorem State.adcEntry_canon {s : State} (e : Nat) (h_s : s.canon = true) :
    State.canon (State.adcEntry s e) = true := by
  unfold State.adcEntry
  try dsimp only
  with_reducible repeat' (first | assumption | intro _ | apply State.mapAdc_canon | apply State.setAdcState_canon | apply State.wrF_canon | apply canon_ite | apply canon_foldl | simp only [canon_mk] | split)

theorem State.adcDrop_canon {s : State} (h_s : s.canon = true) :
    State.canon (State.adcDrop s) = true := by
  unfold State.adcDrop
  try dsimp only
  with_reducible repeat' (first | assumption | intro _ | apply State.mapAdc_canon | apply canon_ite | apply canon_foldl | simp only [canon_mk] | split)

theorem State.adcInject_canon {s : State} (h_s : s.canon = true) :
    State.canon (State.adcInject s) = true := by
  unfold State.adcInject
  try dsimp only
  with_reducible repeat' (first | assumption | intro _ | apply State.mapAdc_canon | apply State.setAdcState_canon | apply State.adcDrop_canon | apply canon_ite | apply canon_foldl | simp only [canon_mk] | split)

theorem State.injRequest_canon {s : State} (h_s : s.canon = true) :
    State.canon (State.injRequest s) = true := by
  unfold State.injRequest
  try dsimp only
  with_reducible repeat' (first | assumption | intro _ | apply State.count_canon | apply State.flag_canon | apply State.mapAdc_canon | apply State.adcInject_canon | apply canon_ite | apply canon_foldl | simp only [canon_mk] | split)

theorem State.adcNext_canon {s9 : State} (h_s9 : s9.canon = true) :
    State.canon (State.adcNext s9) = true := by
  unfold State.adcNext
  try dsimp only
  with_reducible repeat' (first | assumption | intro _ | apply State.wrF_canon | apply State.mapAdc_canon | apply State.setAdcState_canon | apply State.adcInject_canon | apply State.adcEntry_canon | apply State.adcDrop_canon | apply State.mapHk_canon | apply canon_ite | apply canon_foldl | simp only [canon_mk] | split)

theorem State.adcResult_canon {s : State} (e : Nat) (a : Nat) (h_s : s.canon = true) :
    State.canon (State.adcResult s e a) = true := by
  unfold State.adcResult
  try dsimp only
  with_reducible repeat' (first | assumption | intro _ | apply State.mapAdc_canon | apply State.wr_canon | apply State.tmrCapture_canon | apply State.count_canon | apply State.flag_canon | apply State.adcEntry_canon | apply State.wrF_canon | apply State.setAdcState_canon | apply State.wrB_canon | apply canon_ite | apply canon_foldl | simp only [canon_mk] | split)

theorem State.openLevel_canon {s : State} (i : Nat) (h_s : s.canon = true) :
    State.canon (State.openLevel s i).2 = true := by
  unfold State.openLevel
  try dsimp only
  with_reducible repeat' (first | assumption | intro _ | apply State.draw_canon | apply canon_ite | apply canon_foldl | simp only [canon_mk] | split)

theorem State.adcInput_canon {s : State} (m : Nat) (x : Option Int) (h_s : s.canon = true) :
    State.canon (State.adcInput s m x).2 = true := by
  unfold State.adcInput
  try dsimp only
  with_reducible repeat' (first | assumption | intro _ | apply State.openLevel_canon | apply canon_ite | apply canon_foldl | simp only [canon_mk] | split)

theorem State.conversion_canon {s0 : State} (x9 : Option Int) (h_s0 : s0.canon = true) :
    State.canon (State.conversion s0 x9) = true := by
  unfold State.conversion
  try dsimp only
  with_reducible repeat' (first | assumption | intro _ | apply State.adcNext_canon | apply State.count_canon | apply State.mapAdc_canon | apply State.flag_canon | apply State.tmrCapture_canon | apply State.wr_canon | apply State.adcResult_canon | apply State.adcInject_canon | apply State.adcInput_canon | apply canon_ite | apply canon_foldl | simp only [canon_mk] | split)

theorem State.setWin_canon {s : State} (w : Nat) (x : WinSt) (h_s : s.canon = true) :
    State.canon (State.setWin s w x) = true := by
  unfold State.setWin
  try dsimp only
  with_reducible repeat' (first | assumption | intro _ | apply State.mapHk_canon | apply State.wrB_canon | apply canon_ite | apply canon_foldl | simp only [canon_mk] | split)

theorem State.mapWin_canon {s : State} (w : Nat) (g : WinSt → WinSt) (h_s : s.canon = true) :
    State.canon (State.mapWin s w g) = true := by
  unfold State.mapWin
  try dsimp only
  with_reducible repeat' (first | assumption | intro _ | apply State.mapHk_canon | apply canon_ite | apply canon_foldl | simp only [canon_mk] | split)

theorem State.winLatch_canon {s : State} (w h : Nat) (h_s : s.canon = true) :
    State.canon (State.winLatch s w h).1 = true := by
  unfold State.winLatch
  try dsimp only
  with_reducible repeat' (first | assumption | intro _ | apply State.wrB_canon | apply State.mapWin_canon | apply canon_ite | apply canon_foldl | simp only [canon_mk] | split)

theorem State.winCycle_canon {s : State} (w h v : Nat) (h_s : s.canon = true) :
    State.canon (State.winCycle s w h v).1 = true := by
  unfold State.winCycle
  try dsimp only
  with_reducible repeat' (first | assumption | intro _ | apply State.setWin_canon | apply State.count_canon | apply State.wrB_canon | apply State.winLatch_canon | apply canon_ite | apply canon_foldl | simp only [canon_mk] | split)

theorem State.ainLevel_canon {s : State} (i h : Nat) (v : Option Nat) (h_s : s.canon = true) :
    State.canon (State.ainLevel s i h v).2 = true := by
  unfold State.ainLevel
  try dsimp only
  with_reducible repeat' (first | assumption | intro _ | apply State.openLevel_canon | apply State.mapHk_canon | apply canon_ite | apply canon_foldl | simp only [canon_mk] | split)

theorem State.winRun_canon {s : State} (w h : Nat) (l : List (Option Nat)) (h_s : s.canon = true) : State.canon (s.winRun w h l).1 = true := by
  induction l generalizing s h with
  | nil => exact h_s
  | cons v t ih => exact ih _ (State.winCycle_canon _ _ _ (State.ainLevel_canon _ _ _ h_s))

theorem State.winEnable_canon {s : State} (w : Nat) (h_s : s.canon = true) :
    State.canon (State.winEnable s w) = true := by
  unfold State.winEnable
  try dsimp only
  with_reducible repeat' (first | assumption | intro _ | apply State.setWin_canon | apply canon_ite | apply canon_foldl | simp only [canon_mk] | split)

theorem State.winCfg_canon {s : State} (w : Nat) (v : Word) (h_s : s.canon = true) :
    State.canon (State.winCfg s w v) = true := by
  unfold State.winCfg
  try dsimp only
  with_reducible repeat' (first | assumption | intro _ | apply State.wr_canon | apply State.winEnable_canon | apply canon_ite | apply canon_foldl | simp only [canon_mk] | split)

theorem State.winSet_canon {s : State} (w : Nat) (b : Nat) (h_s : s.canon = true) :
    State.canon (State.winSet s w b) = true := by
  unfold State.winSet
  try dsimp only
  with_reducible repeat' (first | assumption | intro _ | apply State.acqWin_canon | apply State.srcEvent_canon | apply State.flag_canon | apply State.tmrCapture_canon | apply State.injRequest_canon | apply canon_ite | apply canon_foldl | simp only [canon_mk] | split)

theorem State.winClear_canon {s : State} (w : Nat) (h_s : s.canon = true) :
    State.canon (State.winClear s w) = true := by
  unfold State.winClear
  try dsimp only
  with_reducible repeat' (first | assumption | intro _ | apply State.mapWin_canon | apply State.wrB_canon | apply canon_ite | apply canon_foldl | simp only [canon_mk] | split)

theorem State.timerPeriod_canon {s : State} (n : Nat) (h_s : s.canon = true) :
    State.canon (State.timerPeriod s n) = true := by
  unfold State.timerPeriod
  try dsimp only
  with_reducible repeat' (first | assumption | intro _ | apply State.count_canon | apply State.flag_canon | apply State.mapHk_canon | apply State.injRequest_canon | apply State.winClear_canon | apply canon_ite | apply canon_foldl | simp only [canon_mk] | split)

theorem State.strobeLoad_canon {s : State} (n : Nat) (h_s : s.canon = true) :
    State.canon (State.strobeLoad s n) = true := by
  unfold State.strobeLoad
  try dsimp only
  with_reducible repeat' (first | assumption | intro _ | apply State.tmrCapture_canon | apply State.mapHk_canon | apply State.count_canon | apply State.biasPut_canon | apply canon_ite | apply canon_foldl | simp only [canon_mk] | split)

theorem State.setThermo_canon {s : State} (c : Nat) (x : Thermo) (h_s : s.canon = true) :
    State.canon (State.setThermo s c x) = true := by
  unfold State.setThermo
  try dsimp only
  with_reducible repeat' (first | assumption | intro _ | apply State.mapHk_canon | apply canon_ite | apply canon_foldl | simp only [canon_mk] | split)

theorem State.thRestart_canon {s : State} (c : Nat) (h_s : s.canon = true) :
    State.canon (State.thRestart s c) = true := by
  unfold State.thRestart
  try dsimp only
  with_reducible repeat' (first | assumption | intro _ | apply State.count_canon | apply State.setThermo_canon | apply State.wrB_canon | apply canon_ite | apply canon_foldl | simp only [canon_mk] | split)

theorem State.amonOff_canon {s : State} (h_s : s.canon = true) :
    State.canon (State.amonOff s) = true := by
  unfold State.amonOff
  try dsimp only
  with_reducible repeat' (first | assumption | intro _ | apply State.mapHk_canon | apply canon_ite | apply canon_foldl | simp only [canon_mk] | split)

theorem State.thExc_canon {s : State} (c : Nat) (v : Word) (h_s : s.canon = true) :
    State.canon (State.thExc s c v) = true := by
  unfold State.thExc
  try dsimp only
  with_reducible repeat' (first | assumption | intro _ | apply State.amonOff_canon | apply State.thRestart_canon | apply State.wr_canon | apply canon_ite | apply canon_foldl | simp only [canon_mk] | split)

theorem State.amonUpdate_canon {s : State} (c : Nat) (t : Nat) (fault : Bool) (h_s : s.canon = true) :
    State.canon (State.amonUpdate s c t fault) = true := by
  unfold State.amonUpdate
  try dsimp only
  with_reducible repeat' (first | assumption | intro _ | apply State.mapHk_canon | apply canon_ite | apply canon_foldl | simp only [canon_mk] | split)

theorem State.thermoResult_canon {s9 : State} (c : Nat) (m : ThermoMeas) (h_s9 : s9.canon = true) :
    State.canon (State.thermoResult s9 c m) = true := by
  unfold State.thermoResult
  try dsimp only
  with_reducible repeat' (first | assumption | intro _ | apply State.count_canon | apply State.wrF_canon | apply State.wr_canon | apply State.flag_canon | apply State.setThermo_canon | apply State.amonUpdate_canon | apply State.draw_canon | apply canon_ite | apply canon_foldl | simp only [canon_mk] | split)

theorem State.thReverse_canon {s : State} (c : Nat) (h_s : s.canon = true) :
    State.canon (State.thReverse s c) = true := by
  unfold State.thReverse
  try dsimp only
  with_reducible repeat' (first | assumption | intro _ | apply State.setThermo_canon | apply canon_ite | apply canon_foldl | simp only [canon_mk] | split)

theorem State.retap_canon {s : State} (h_s : s.canon = true) :
    State.canon (State.retap s) = true := by
  unfold State.retap
  try dsimp only
  with_reducible repeat' (first | assumption | intro _ | apply State.mapHypha_canon | apply State.wrB_canon | apply State.wrF_canon | apply State.count_canon | apply State.flag_canon | apply canon_ite | apply canon_foldl | simp only [canon_mk] | split)

theorem State.reloop_canon {s : State} (h_s : s.canon = true) :
    State.canon (State.reloop s) = true := by
  unfold State.reloop
  try dsimp only
  with_reducible repeat' (first | assumption | intro _ | apply State.wrB_canon | apply State.wr_canon | apply State.count_canon | apply State.flag_canon | apply canon_ite | apply canon_foldl | simp only [canon_mk] | split)

theorem State.hyphaHold_canon {s : State} (h_s : s.canon = true) :
    State.canon (State.hyphaHold s) = true := by
  unfold State.hyphaHold
  try dsimp only
  with_reducible repeat' (first | assumption | intro _ | apply State.mapHypha_canon | apply State.cellReset_canon | apply canon_ite | apply canon_foldl | simp only [canon_mk] | split)

theorem State.evinEvent_canon {s : State} (c : Nat) (task : Nat) (h_s : s.canon = true) :
    State.canon (State.evinEvent s c task) = true := by
  unfold State.evinEvent
  try dsimp only
  with_reducible repeat' (first | assumption | intro _ | apply State.count_canon | apply State.setEvin_canon | apply State.wrB_canon | apply canon_ite | apply canon_foldl | simp only [canon_mk] | split)

theorem State.task_canon {s : State} (c : Nat) (t : Nat) (b : Nat) (h_s : s.canon = true) :
    State.canon (State.task s c t b) = true := by
  unfold State.task
  try dsimp only
  with_reducible repeat' (first | assumption | intro _ | apply State.evinEvent_canon | apply State.trigger_canon | apply State.strobe_canon | apply State.eventRule_canon | apply State.cntAdd_canon | apply canon_ite | apply canon_foldl | simp only [canon_mk] | split)

theorem State.deliver_canon {s : State} (c : Nat) (b : Nat) (h_s : s.canon = true) :
    State.canon (State.deliver s c b) = true := by
  unfold State.deliver
  try dsimp only
  with_reducible repeat' (first | assumption | intro _ | apply State.wrB_canon | apply State.flag_canon | apply State.task_canon | apply canon_ite | apply canon_foldl | simp only [canon_mk] | split)

theorem State.channelEvent_canon {s : State} (b : Nat) (c : Nat) (h_s : s.canon = true) :
    State.canon (State.channelEvent s b c) = true := by
  unfold State.channelEvent
  try dsimp only
  with_reducible repeat' (first | assumption | intro _ | apply State.deliver_canon | apply State.mapHypha_canon | apply canon_ite | apply canon_foldl | simp only [canon_mk] | split)

theorem State.swPulse_canon {s : State} (p : Nat) (j : Nat) (v : Word) (h_s : s.canon = true) :
    State.canon (State.swPulse s p j v) = true := by
  unfold State.swPulse
  try dsimp only
  with_reducible repeat' (first | assumption | intro _ | apply State.srcEvent_canon | apply State.count_canon | apply canon_ite | apply canon_foldl | simp only [canon_mk] | split)

theorem State.checkImages_canon (own : Nat) (l : List (Pg × Nat)) {s : State} (h_s : s.canon = true) :
    State.canon (State.checkImages own l s).1 = true := by
  induction l generalizing s with
  | nil => exact h_s
  | cons r t ih =>
    unfold State.checkImages
    split
    · exact ih (State.loadImage_canon _ _ _ h_s)
    · exact State.sigFail_canon h_s

theorem State.checkRead_canon (own : Nat) (imgs : List (Pg × Nat)) (k : Option Nat) {s : State} (h_s : s.canon = true) :
    State.canon (State.checkRead own imgs k s).1 = true := by
  unfold State.checkRead
  try dsimp only
  with_reducible repeat' (first | assumption | intro _ | apply State.checkImages_canon | apply State.sigFail_canon | apply canon_ite | apply canon_foldl | simp only [canon_mk] | split)

theorem State.checksLate_canon {s : State} (g : Nat) (h_s : s.canon = true) :
    State.canon (State.checksLate s g) = true := by
  unfold State.checksLate
  try dsimp only
  with_reducible repeat' (first | assumption | intro _ | apply State.checkRead_canon | apply State.abortGrp_canon | apply State.showClaims_canon | apply State.overlayOwn_canon | apply State.overlay_canon | apply State.setGrp_canon | apply State.setGrpState_canon | apply canon_ite | apply canon_foldl | simp only [canon_mk] | split)

theorem State.validate_canon {s : State} (g : Nat) (h_s : s.canon = true) :
    State.canon (State.validate s g) = true := by
  unfold State.validate
  try dsimp only
  with_reducible repeat' (first | assumption | intro _ | apply State.abortGrp_canon | apply State.checksLate_canon | apply canon_ite | apply canon_foldl | simp only [canon_mk] | split)

theorem State.readyIdle_canon {s : State} (g t r : Nat) (h_s : s.canon = true) :
    State.canon (State.readyIdle s g t r) = true := by
  unfold State.readyIdle
  try dsimp only
  with_reducible repeat' (first | assumption | intro _ | apply State.setGrp_canon | apply State.fixBeats_canon | apply canon_ite | apply canon_foldl | simp only [canon_mk] | split)

theorem State.readyShot_canon {s : State} (g r : Nat) (h_s : s.canon = true) :
    State.canon (State.readyShot s g r) = true := by
  unfold State.readyShot
  try dsimp only
  with_reducible repeat' (first | assumption | intro _ | apply State.fixBeats_canon | apply State.readyIdle_canon | apply canon_ite | apply canon_foldl | simp only [canon_mk] | split)

theorem State.readyBeat_canon {s : State} (g : Nat) (h_s : s.canon = true) :
    State.canon (State.readyBeat s g) = true := by
  unfold State.readyBeat
  try dsimp only
  with_reducible repeat' (first | assumption | intro _ | apply State.abortGrp_canon | apply State.setGrp_canon | apply State.fixBeats_canon | apply State.readyShot_canon | apply canon_ite | apply canon_foldl | simp only [canon_mk] | split)

theorem State.boundary_canon {s : State} (t : Nat) (num : Nat) (b : Nat) (h_s : s.canon = true) :
    State.canon (State.boundary s t num b) = true := by
  unfold State.boundary
  try dsimp only
  with_reducible repeat' (first | assumption | intro _ | apply State.fixBeats_canon | apply canon_ite | apply canon_foldl | simp only [canon_mk] | split)

theorem State.shotEndSeen_canon {s : State} (r : BusRec) (h_s : s.canon = true) :
    State.canon (State.shotEndSeen s r) = true := by
  unfold State.shotEndSeen
  try dsimp only
  with_reducible repeat' (first | assumption | intro _ | apply State.setCrz_canon | apply State.boundary_canon | apply canon_ite | apply canon_foldl | simp only [canon_mk] | split)

theorem State.syncSeen_canon {s : State} (f : Nat) (i : Nat) (g : Nat) (h_s : s.canon = true) :
    State.canon (State.syncSeen s f i g) = true := by
  unfold State.syncSeen
  try dsimp only
  with_reducible repeat' (first | assumption | intro _ | apply State.count_canon | apply State.abortGrp_canon | apply State.fixBeats_canon | apply State.setGrp_canon | apply canon_ite | apply canon_foldl | simp only [canon_mk] | split)

theorem State.expire_canon {s : State} (g : Nat) (h_s : s.canon = true) :
    State.canon (State.expire s g) = true := by
  unfold State.expire
  try dsimp only
  with_reducible repeat' (first | assumption | intro _ | apply State.abortGrp_canon | apply canon_ite | apply canon_foldl | simp only [canon_mk] | split)

theorem State.beginShot_canon {s : State} (f : Nat) (st : Nat) (h_s : s.canon = true) :
    State.canon (State.beginShot s f st) = true := by
  unfold State.beginShot
  try dsimp only
  with_reducible repeat' (first | assumption | intro _ | apply State.setCrz_canon | apply State.wr64_canon | apply State.wr_canon | apply State.setSlot_canon | apply canon_ite | apply canon_foldl | simp only [canon_mk] | split)

theorem State.closeShot_canon {s : State} (f : Nat) (st : Nat) (h_s : s.canon = true) :
    State.canon (State.closeShot s f st) = true := by
  unfold State.closeShot
  try dsimp only
  with_reducible repeat' (first | assumption | intro _ | apply State.setCrz_canon | apply canon_ite | apply canon_foldl | simp only [canon_mk] | split)

theorem State.post_canon {s : State} (f : Nat) (u : Uw) (st : Nat) (h_s : s.canon = true) :
    State.canon (State.post s f u st) = true := by
  unfold State.post
  try dsimp only
  with_reducible repeat' (first | assumption | intro _ | apply State.markShot_canon | apply State.flag_canon | apply State.count_canon | apply State.setCrz_canon | apply State.setQueue_canon | apply State.setSlot_canon | apply canon_ite | apply canon_foldl | simp only [canon_mk] | split)

theorem State.setPar_canon {s : State} (f : Nat) (p : Nat) (v : Nat) (h_s : s.canon = true) :
    State.canon (State.setPar s f p v) = true := by
  unfold State.setPar
  try dsimp only
  with_reducible repeat' (first | assumption | intro _ | apply State.flag_canon | apply State.count_canon | apply State.wr_canon | apply State.setCrz_canon | apply canon_ite | apply canon_foldl | simp only [canon_mk] | split)

theorem State.alu_canon {s : State} (f : Nat) (u : Uw) (r : State) (h_s : s.canon = true) :
    State.canon (State.alu s f u r) = true := by
  unfold State.alu
  try dsimp only
  with_reducible repeat' (first | assumption | intro _ | apply State.setPar_canon | apply State.setLc_canon | apply State.markShot_canon | apply canon_ite | apply canon_foldl | simp only [canon_mk] | split)

theorem State.goto_canon {s : State} (f : Nat) (pc : Nat) (cost : Nat) (h_s : s.canon = true) :
    State.canon (State.goto s f pc cost) = true := by
  unfold State.goto
  try dsimp only
  with_reducible repeat' (first | assumption | intro _ | apply State.setPc_canon | apply State.setCrz_canon | apply canon_ite | apply canon_foldl | simp only [canon_mk] | split)

theorem State.branch_canon {s : State} (f : Nat) (u : Uw) (want : Bool) (p0 : Nat) (r : State) (h_s : s.canon = true) :
    State.canon (State.branch s f u want p0 r) = true := by
  unfold State.branch
  try dsimp only
  with_reducible repeat' (first | assumption | intro _ | apply State.consume_canon | apply State.goto_canon | apply State.markShot_canon | apply canon_ite | apply canon_foldl | simp only [canon_mk] | split)

theorem State.seqOp_canon {s : State} (f : Nat) (u : Uw) (p0 : Nat) (r : State) (h_s : s.canon = true) :
    State.canon (State.seqOp s f u p0 r) = true := by
  unfold State.seqOp
  try dsimp only
  with_reducible repeat' (first | assumption | intro _ | apply State.goto_canon | apply State.branch_canon | apply State.setStack_canon | apply State.wrB_canon | apply State.setLc_canon | apply State.markShot_canon | apply State.crzHalt_canon | apply State.consume_canon | apply State.wr_canon | apply State.flag_canon | apply State.setCrz_canon | apply canon_ite | apply canon_foldl | simp only [canon_mk] | split)

theorem State.wordRun_canon {s : State} (f : Nat) (u : Uw) (h_s : s.canon = true) :
    State.canon (State.wordRun s f u) = true := by
  unfold State.wordRun
  try dsimp only
  with_reducible repeat' (first | assumption | intro _ | apply State.setCrzState_canon | apply State.setTc_canon | apply State.beginShot_canon | apply State.post_canon | apply State.closeShot_canon | apply State.count_canon | apply State.alu_canon | apply State.seqOp_canon | apply canon_ite | apply canon_foldl | simp only [canon_mk] | split)

theorem State.pause_canon {s : State} (f : Nat) (st : Nat) (h_s : s.canon = true) :
    State.canon (State.pause s f st) = true := by
  unfold State.pause
  try dsimp only
  with_reducible repeat' (first | assumption | intro _ | apply State.setCrzState_canon | apply State.setCrz_canon | apply canon_ite | apply canon_foldl | simp only [canon_mk] | split)

theorem State.bankSwitch_canon {s : State} (f : Nat) (h_s : s.canon = true) :
    State.canon (State.bankSwitch s f) = true := by
  unfold State.bankSwitch
  try dsimp only
  with_reducible repeat' (first | assumption | intro _ | apply State.flag_canon | apply State.setStack_canon | apply State.wrB_canon | apply State.setLc_canon | apply State.goto_canon | apply State.setCrzState_canon | apply State.setCrz_canon | apply canon_ite | apply canon_foldl | simp only [canon_mk] | split)

theorem State.word_canon {s : State} (f : Nat) (ecc : Ecc) (h_s : s.canon = true) :
    State.canon (State.word s f ecc) = true := by
  unfold State.word
  try dsimp only
  with_reducible repeat' (first | assumption | intro _ | apply State.count_canon | apply State.crzFault_canon | apply State.unpause_canon | apply State.setCrzState_canon | apply State.pause_canon | apply State.bankSwitch_canon | apply State.wordRun_canon | apply canon_ite | apply canon_foldl | simp only [canon_mk] | split)

theorem State.wordAt_canon {s : State} (e : WordEv) (h_s : s.canon = true) :
    State.canon (State.wordAt s e) = true := by
  unfold State.wordAt
  try dsimp only
  with_reducible repeat' (first | assumption | intro _ | apply State.at_canon | apply canon_ite | apply canon_foldl | simp only [canon_mk] | split)

theorem wordRow_canon (e : WordEv) (p : Uw → Bool) {s : State} (h_s : s.canon = true) :
    outCanon (wordRow e p s) := by
  unfold wordRow
  try dsimp only
  with_reducible repeat' (first | assumption | intro _ | apply outCanon_next | apply State.wordAt_canon | apply State.word_canon | apply canon_ite | apply canon_foldl | simp only [canon_mk] | split)

theorem seqRow_canon (e : WordEv) (op : Nat) {s : State} (h_s : s.canon = true) :
    outCanon (seqRow e op s) := by
  unfold seqRow
  try dsimp only
  with_reducible repeat' (first | assumption | intro _ | apply outCanon_next | apply wordRow_canon | apply canon_ite | apply canon_foldl | simp only [canon_mk] | split)

theorem aluRow_canon (e : WordEv) (op : Nat) {s : State} (h_s : s.canon = true) :
    outCanon (aluRow e op s) := by
  unfold aluRow
  try dsimp only
  with_reducible repeat' (first | assumption | intro _ | apply outCanon_next | apply wordRow_canon | apply canon_ite | apply canon_foldl | simp only [canon_mk] | split)

theorem waitRow_canon (e : WordEv) (m : Nat) {s : State} (h_s : s.canon = true) :
    outCanon (waitRow e m s) := by
  unfold waitRow
  try dsimp only
  with_reducible repeat' (first | assumption | intro _ | apply outCanon_next | apply wordRow_canon | apply canon_ite | apply canon_foldl | simp only [canon_mk] | split)

theorem resumeRow_canon (e : WordEv) (st : Nat) {s : State} (h_s : s.canon = true) :
    outCanon (resumeRow e st s) := by
  unfold resumeRow
  try dsimp only
  with_reducible repeat' (first | assumption | intro _ | apply outCanon_next | apply State.wordAt_canon | apply State.word_canon | apply canon_ite | apply canon_foldl | simp only [canon_mk] | split)

theorem execUwNext_canon (e : WordEv) {s : State} (h_s : s.canon = true) :
    outCanon (execUwNext e s) := by
  unfold execUwNext
  try dsimp only
  with_reducible repeat' (first | assumption | intro _ | apply outCanon_next | apply seqRow_canon | apply canon_ite | apply canon_foldl | simp only [canon_mk] | split)

theorem execUwGoto_canon (e : WordEv) {s : State} (h_s : s.canon = true) :
    outCanon (execUwGoto e s) := by
  unfold execUwGoto
  try dsimp only
  with_reducible repeat' (first | assumption | intro _ | apply outCanon_next | apply seqRow_canon | apply canon_ite | apply canon_foldl | simp only [canon_mk] | split)

theorem execUwBrt_canon (e : WordEv) {s : State} (h_s : s.canon = true) :
    outCanon (execUwBrt e s) := by
  unfold execUwBrt
  try dsimp only
  with_reducible repeat' (first | assumption | intro _ | apply outCanon_next | apply seqRow_canon | apply canon_ite | apply canon_foldl | simp only [canon_mk] | split)

theorem execUwBrf_canon (e : WordEv) {s : State} (h_s : s.canon = true) :
    outCanon (execUwBrf e s) := by
  unfold execUwBrf
  try dsimp only
  with_reducible repeat' (first | assumption | intro _ | apply outCanon_next | apply seqRow_canon | apply canon_ite | apply canon_foldl | simp only [canon_mk] | split)

theorem execUwCall_canon (e : WordEv) {s : State} (h_s : s.canon = true) :
    outCanon (execUwCall e s) := by
  unfold execUwCall
  try dsimp only
  with_reducible repeat' (first | assumption | intro _ | apply outCanon_next | apply seqRow_canon | apply canon_ite | apply canon_foldl | simp only [canon_mk] | split)

theorem execUwRet_canon (e : WordEv) {s : State} (h_s : s.canon = true) :
    outCanon (execUwRet e s) := by
  unfold execUwRet
  try dsimp only
  with_reducible repeat' (first | assumption | intro _ | apply outCanon_next | apply seqRow_canon | apply canon_ite | apply canon_foldl | simp only [canon_mk] | split)

theorem execUwLoop_canon (e : WordEv) {s : State} (h_s : s.canon = true) :
    outCanon (execUwLoop e s) := by
  unfold execUwLoop
  try dsimp only
  with_reducible repeat' (first | assumption | intro _ | apply outCanon_next | apply seqRow_canon | apply canon_ite | apply canon_foldl | simp only [canon_mk] | split)

theorem execUwDispatch_canon (e : WordEv) {s : State} (h_s : s.canon = true) :
    outCanon (execUwDispatch e s) := by
  unfold execUwDispatch
  try dsimp only
  with_reducible repeat' (first | assumption | intro _ | apply outCanon_next | apply seqRow_canon | apply canon_ite | apply canon_foldl | simp only [canon_mk] | split)

theorem execUwShotBegin_canon (e : WordEv) {s : State} (h_s : s.canon = true) :
    outCanon (execUwShotBegin e s) := by
  unfold execUwShotBegin
  try dsimp only
  with_reducible repeat' (first | assumption | intro _ | apply outCanon_next | apply seqRow_canon | apply canon_ite | apply canon_foldl | simp only [canon_mk] | split)

theorem execUwShotEnd_canon (e : WordEv) {s : State} (h_s : s.canon = true) :
    outCanon (execUwShotEnd e s) := by
  unfold execUwShotEnd
  try dsimp only
  with_reducible repeat' (first | assumption | intro _ | apply outCanon_next | apply seqRow_canon | apply canon_ite | apply canon_foldl | simp only [canon_mk] | split)

theorem execUwSync_canon (e : WordEv) {s : State} (h_s : s.canon = true) :
    outCanon (execUwSync e s) := by
  unfold execUwSync
  try dsimp only
  with_reducible repeat' (first | assumption | intro _ | apply outCanon_next | apply seqRow_canon | apply canon_ite | apply canon_foldl | simp only [canon_mk] | split)

theorem execUwHalt_canon (e : WordEv) {s : State} (h_s : s.canon = true) :
    outCanon (execUwHalt e s) := by
  unfold execUwHalt
  try dsimp only
  with_reducible repeat' (first | assumption | intro _ | apply outCanon_next | apply seqRow_canon | apply canon_ite | apply canon_foldl | simp only [canon_mk] | split)

theorem execUwWaitev_canon (e : WordEv) {s : State} (h_s : s.canon = true) :
    outCanon (execUwWaitev e s) := by
  unfold execUwWaitev
  try dsimp only
  with_reducible repeat' (first | assumption | intro _ | apply outCanon_next | apply seqRow_canon | apply canon_ite | apply canon_foldl | simp only [canon_mk] | split)

theorem execUwIrq_canon (e : WordEv) {s : State} (h_s : s.canon = true) :
    outCanon (execUwIrq e s) := by
  unfold execUwIrq
  try dsimp only
  with_reducible repeat' (first | assumption | intro _ | apply outCanon_next | apply seqRow_canon | apply canon_ite | apply canon_foldl | simp only [canon_mk] | split)

theorem execAluMovi_canon (e : WordEv) {s : State} (h_s : s.canon = true) :
    outCanon (execAluMovi e s) := by
  unfold execAluMovi
  try dsimp only
  with_reducible repeat' (first | assumption | intro _ | apply outCanon_next | apply aluRow_canon | apply canon_ite | apply canon_foldl | simp only [canon_mk] | split)

theorem execAluAddi_canon (e : WordEv) {s : State} (h_s : s.canon = true) :
    outCanon (execAluAddi e s) := by
  unfold execAluAddi
  try dsimp only
  with_reducible repeat' (first | assumption | intro _ | apply outCanon_next | apply aluRow_canon | apply canon_ite | apply canon_foldl | simp only [canon_mk] | split)

end Sys2Proof.Machine
end

