-- ==== Sys2Proof/Laws/Canon2.lean ====
section
/-! SUPPORT. Every operation keeps the canonical form of the register file and of the memories: second half, and one lemma per
command. -/
namespace Sys2Proof.Machine

theorem execAluSubi_canon (e : WordEv) {s : State} (h_s : s.canon = true) :
    outCanon (execAluSubi e s) := by
  unfold execAluSubi
  try dsimp only
  with_reducible repeat' (first | assumption | intro _ | apply outCanon_next | apply aluRow_canon | apply canon_ite | apply canon_foldl | simp only [canon_mk] | split)

theorem execAluMov_canon (e : WordEv) {s : State} (h_s : s.canon = true) :
    outCanon (execAluMov e s) := by
  unfold execAluMov
  try dsimp only
  with_reducible repeat' (first | assumption | intro _ | apply outCanon_next | apply aluRow_canon | apply canon_ite | apply canon_foldl | simp only [canon_mk] | split)

theorem execAluAdd_canon (e : WordEv) {s : State} (h_s : s.canon = true) :
    outCanon (execAluAdd e s) := by
  unfold execAluAdd
  try dsimp only
  with_reducible repeat' (first | assumption | intro _ | apply outCanon_next | apply aluRow_canon | apply canon_ite | apply canon_foldl | simp only [canon_mk] | split)

theorem execAluSub_canon (e : WordEv) {s : State} (h_s : s.canon = true) :
    outCanon (execAluSub e s) := by
  unfold execAluSub
  try dsimp only
  with_reducible repeat' (first | assumption | intro _ | apply outCanon_next | apply aluRow_canon | apply canon_ite | apply canon_foldl | simp only [canon_mk] | split)

theorem execAluShl6_canon (e : WordEv) {s : State} (h_s : s.canon = true) :
    outCanon (execAluShl6 e s) := by
  unfold execAluShl6
  try dsimp only
  with_reducible repeat' (first | assumption | intro _ | apply outCanon_next | apply aluRow_canon | apply canon_ite | apply canon_foldl | simp only [canon_mk] | split)

theorem execAluLdlc_canon (e : WordEv) {s : State} (h_s : s.canon = true) :
    outCanon (execAluLdlc e s) := by
  unfold execAluLdlc
  try dsimp only
  with_reducible repeat' (first | assumption | intro _ | apply outCanon_next | apply aluRow_canon | apply canon_ite | apply canon_foldl | simp only [canon_mk] | split)

theorem execAluLdlci_canon (e : WordEv) {s : State} (h_s : s.canon = true) :
    outCanon (execAluLdlci e s) := by
  unfold execAluLdlci
  try dsimp only
  with_reducible repeat' (first | assumption | intro _ | apply outCanon_next | apply aluRow_canon | apply canon_ite | apply canon_foldl | simp only [canon_mk] | split)

theorem execAluRdslot_canon (e : WordEv) {s : State} (h_s : s.canon = true) :
    outCanon (execAluRdslot e s) := by
  unfold execAluRdslot
  try dsimp only
  with_reducible repeat' (first | assumption | intro _ | apply outCanon_next | apply aluRow_canon | apply canon_ite | apply canon_foldl | simp only [canon_mk] | split)

theorem execAluRdlc_canon (e : WordEv) {s : State} (h_s : s.canon = true) :
    outCanon (execAluRdlc e s) := by
  unfold execAluRdlc
  try dsimp only
  with_reducible repeat' (first | assumption | intro _ | apply outCanon_next | apply aluRow_canon | apply canon_ite | apply canon_foldl | simp only [canon_mk] | split)

theorem execAluRdshot_canon (e : WordEv) {s : State} (h_s : s.canon = true) :
    outCanon (execAluRdshot e s) := by
  unfold execAluRdshot
  try dsimp only
  with_reducible repeat' (first | assumption | intro _ | apply outCanon_next | apply aluRow_canon | apply canon_ite | apply canon_foldl | simp only [canon_mk] | split)

theorem execWaitAdd_canon (e : WordEv) {s : State} (h_s : s.canon = true) :
    outCanon (execWaitAdd e s) := by
  unfold execWaitAdd
  try dsimp only
  with_reducible repeat' (first | assumption | intro _ | apply outCanon_next | apply waitRow_canon | apply canon_ite | apply canon_foldl | simp only [canon_mk] | split)

theorem execWaitParam_canon (e : WordEv) {s : State} (h_s : s.canon = true) :
    outCanon (execWaitParam e s) := by
  unfold execWaitParam
  try dsimp only
  with_reducible repeat' (first | assumption | intro _ | apply outCanon_next | apply waitRow_canon | apply canon_ite | apply canon_foldl | simp only [canon_mk] | split)

theorem execWaitClamp_canon (e : WordEv) {s : State} (h_s : s.canon = true) :
    outCanon (execWaitClamp e s) := by
  unfold execWaitClamp
  try dsimp only
  with_reducible repeat' (first | assumption | intro _ | apply outCanon_next | apply waitRow_canon | apply canon_ite | apply canon_foldl | simp only [canon_mk] | split)

theorem execStallRelease_canon (e : WordEv) {s : State} (h_s : s.canon = true) :
    outCanon (execStallRelease e s) := by
  unfold execStallRelease
  try dsimp only
  with_reducible repeat' (first | assumption | intro _ | apply outCanon_next | apply resumeRow_canon | apply canon_ite | apply canon_foldl | simp only [canon_mk] | split)

theorem execWaitResume_canon (e : WordEv) {s : State} (h_s : s.canon = true) :
    outCanon (execWaitResume e s) := by
  unfold execWaitResume
  try dsimp only
  with_reducible repeat' (first | assumption | intro _ | apply outCanon_next | apply resumeRow_canon | apply canon_ite | apply canon_foldl | simp only [canon_mk] | split)

theorem execHoldRelease_canon (e : WordEv) {s : State} (h_s : s.canon = true) :
    outCanon (execHoldRelease e s) := by
  unfold execHoldRelease
  try dsimp only
  with_reducible repeat' (first | assumption | intro _ | apply outCanon_next | apply resumeRow_canon | apply canon_ite | apply canon_foldl | simp only [canon_mk] | split)

theorem State.interrupt_canon {s : State} (f : Nat) (i : Nat) (h_s : s.canon = true) :
    State.canon (State.interrupt s f i) = true := by
  unfold State.interrupt
  try dsimp only
  with_reducible repeat' (first | assumption | intro _ | apply State.setEvin_canon | apply State.unpause_canon | apply State.crzFault_canon | apply State.setStack_canon | apply State.setCrz_canon | apply State.goto_canon | apply State.wrB_canon | apply canon_ite | apply canon_foldl | simp only [canon_mk] | split)

theorem execInterruptEntry_canon (e : FrondEv) {s : State} (h_s : s.canon = true) :
    outCanon (execInterruptEntry e s) := by
  unfold execInterruptEntry
  try dsimp only
  with_reducible repeat' (first | assumption | intro _ | apply outCanon_next | apply State.at_canon | apply State.interrupt_canon | apply canon_ite | apply canon_foldl | simp only [canon_mk] | split)

theorem State.cmdHalt_canon {s : State} (f : Nat) (v : Word) (h_s : s.canon = true) :
    State.canon (State.cmdHalt s f v) = true := by
  unfold State.cmdHalt
  try dsimp only
  with_reducible repeat' (first | assumption | intro _ | apply State.setCrz_canon | apply canon_ite | apply canon_foldl | simp only [canon_mk] | split)

theorem execCmdHalt_canon (path : Path) (e : FrondEv) (key : BitVec 16) {s : State} (h_s : s.canon = true) :
    outCanon (execCmdHalt path e key s) := by
  unfold execCmdHalt
  try dsimp only
  with_reducible repeat' (first | assumption | intro _ | apply outCanon_next | apply State.at_canon | apply State.cmdHalt_canon | apply State.rowWrite_canon | apply canon_ite | apply canon_foldl | simp only [canon_mk] | split)

theorem State.issued_canon {s : State} (f : Nat) (g : Bundle → Bundle) (h_s : s.canon = true) :
    State.canon (State.issued s f g) = true := by
  unfold State.issued
  try dsimp only
  with_reducible repeat' (first | assumption | intro _ | apply State.setQueue_canon | apply canon_ite | apply canon_foldl | simp only [canon_mk] | split)

theorem State.collide_canon {s : State} (f : Nat) (n : Nat) (h_s : s.canon = true) :
    State.canon (State.collide s f n) = true := by
  unfold State.collide
  try dsimp only
  with_reducible repeat' (first | assumption | intro _ | apply State.flag_canon | apply State.count_canon | apply canon_ite | apply canon_foldl | simp only [canon_mk] | split)

theorem State.gateStarts_canon {s : State} (f : Nat) (l : List StartField) (h_s : s.canon = true) :
    State.canon (s.gateStarts f l).1 = true := by
  unfold State.gateStarts
  have key : ∀ (l : List StartField) (a : State × List StartField), a.1.canon = true →
      (l.foldl (fun (a : State × List StartField) x =>
        match a.1.gate f x.ch.cond x.b.cslot (x.b.issue - 2) with
        | some tag => (a.1.suppress f x.b.shot tag, a.2)
        | none => (a.1, a.2 ++ [x])) a).1.canon = true := by
    intro l
    induction l with
    | nil => intro a h; exact h
    | cons x t ih =>
      intro a h
      rw [List.foldl_cons]
      refine ih _ ?_
      split
      · exact State.suppress_canon _ _ _ h
      · exact h
  exact key l _ h_s

theorem State.startAll_canon (f : Nat) (l : List StartField) {s : State} (h_s : s.canon = true) :
    State.canon (State.startAll f l s) = true := by
  induction l generalizing s with
  | nil => exact h_s
  | cons x t ih =>
    unfold State.startAll
    split
    · exact ih (State.collide_canon _ _ h_s)
    · exact ih (State.startTone_canon _ _ _ _ _ _ _ h_s)

theorem State.issueStarts_canon {s : State} (f : Nat) (l : List StartField) (h_s : s.canon = true) :
    State.canon (State.issueStarts s f l) = true := by
  unfold State.issueStarts
  try dsimp only
  with_reducible repeat' (first | assumption | intro _ | apply State.gateStarts_canon | apply State.startAll_canon | apply canon_ite | apply canon_foldl | simp only [canon_mk] | split)

theorem State.xyStart_canon {s : State} (f : Nat) (h_s : s.canon = true) :
    State.canon (State.xyStart s f) = true := by
  unfold State.xyStart
  try dsimp only
  with_reducible repeat' (first | assumption | intro _ | apply State.issueStarts_canon | apply State.issued_canon | apply canon_ite | apply canon_foldl | simp only [canon_mk] | split)

theorem State.probeStart_canon {s : State} (f : Nat) (h_s : s.canon = true) :
    State.canon (State.probeStart s f) = true := by
  unfold State.probeStart
  try dsimp only
  with_reducible repeat' (first | assumption | intro _ | apply State.issueStarts_canon | apply State.issued_canon | apply canon_ite | apply canon_foldl | simp only [canon_mk] | split)

theorem State.fluxAll_canon (f : Nat) (l : List Bundle) {s : State} (h_s : s.canon = true) :
    State.canon (State.fluxAll f l s) = true := by
  induction l generalizing s with
  | nil => exact h_s
  | cons b t ih =>
    unfold State.fluxAll
    exact ih (canon_foldl _ (State.collide_canon _ _ h_s) (fun a n ha => State.startFlux_canon _ _ _ _ _ ha))

theorem State.fluxStart_canon {s : State} (f : Nat) (h_s : s.canon = true) :
    State.canon (State.fluxStart s f) = true := by
  unfold State.fluxStart
  try dsimp only
  with_reducible repeat' (first | assumption | intro _ | apply State.issued_canon | apply State.fluxAll_canon | apply canon_ite | apply canon_foldl | simp only [canon_mk] | split)

theorem State.notOpened_canon {s : State} (f : Nat) (t : Nat) (uid : Nat) (h_s : s.canon = true) :
    State.canon (State.notOpened s f t uid) = true := by
  unfold State.notOpened
  try dsimp only
  with_reducible repeat' (first | assumption | intro _ | apply State.postDone_canon | apply canon_ite | apply canon_foldl | simp only [canon_mk] | split)

theorem State.windowAll_canon (f : Nat) (l : List Bundle) {s : State} (h_s : s.canon = true) :
    State.canon (State.windowAll f l s) = true := by
  induction l generalizing s with
  | nil => exact h_s
  | cons b t ih =>
    unfold State.windowAll
    refine ih (canon_foldl _ h_s (fun a n ha => ?_))
    have ho : ∀ c : Bool, State.canon (if c = true then a.collide f 1
        else a.openWindow f n b.roOfs b.shot ((((s.crz f).shots.find? (fun h => h.uid == b.shot)).map (·.num)).getD 0)) = true :=
      fun c => canon_ite (State.collide_canon _ _ ha) (State.openWindow_canon _ _ _ _ _ ha)
    dsimp only
    exact canon_ite (State.notOpened_canon _ _ _ (ho _)) (State.armWindow_canon _ _ (ho _))

theorem State.readoutWindow_canon {s : State} (f : Nat) (h_s : s.canon = true) :
    State.canon (State.readoutWindow s f) = true := by
  unfold State.readoutWindow
  try dsimp only
  with_reducible repeat' (first | assumption | intro _ | apply State.issued_canon | apply State.windowAll_canon | apply canon_ite | apply canon_foldl | simp only [canon_mk] | split)

theorem State.jumpRequest_canon {s : State} (f : Nat) (h_s : s.canon = true) :
    State.canon (State.jumpRequest s f) = true := by
  unfold State.jumpRequest
  try dsimp only
  with_reducible repeat' (first | assumption | intro _ | apply State.handJump_canon | apply State.setCrz_canon | apply State.jumpAsStart_canon | apply canon_ite | apply canon_foldl | simp only [canon_mk] | split)

theorem State.evPulse_canon {s : State} (f : Nat) (h_s : s.canon = true) :
    State.canon (State.evPulse s f) = true := by
  unfold State.evPulse
  try dsimp only
  with_reducible repeat' (first | assumption | intro _ | apply State.acqEv_canon | apply State.srcEvent_canon | apply State.mapCal_canon | apply State.issued_canon | apply canon_ite | apply canon_foldl | simp only [canon_mk] | split)

theorem State.frameResolve_canon {s : State} (f : Nat) (h_s : s.canon = true) :
    State.canon (State.frameResolve s f) = true := by
  unfold State.frameResolve
  try dsimp only
  with_reducible repeat' (first | assumption | intro _ | apply State.suppress_canon | apply State.issued_canon | apply State.collide_canon | apply canon_ite | apply canon_foldl | simp only [canon_mk] | split)

theorem State.frameRow_canon {s : State} (f : Nat) (op : Nat) (h_s : s.canon = true) :
    State.canon (State.frameRow s f op) = true := by
  unfold State.frameRow
  try dsimp only
  with_reducible repeat' (first | assumption | intro _ | apply State.frameResolve_canon | apply State.frameOp_canon | apply State.issued_canon | apply canon_ite | apply canon_foldl | simp only [canon_mk] | split)

theorem State.shotEndIssue_canon {s : State} (f : Nat) (h_s : s.canon = true) :
    State.canon (State.shotEndIssue s f) = true := by
  unfold State.shotEndIssue
  try dsimp only
  with_reducible repeat' (first | assumption | intro _ | apply State.count_canon | apply State.mapShot_canon | apply State.setSlot_canon | apply State.issued_canon | apply State.busShotEnd_canon | apply State.abortAtEnd_canon | apply canon_ite | apply canon_foldl | simp only [canon_mk] | split)

theorem State.syncIssue_canon {s : State} (f : Nat) (h_s : s.canon = true) :
    State.canon (State.syncIssue s f) = true := by
  unfold State.syncIssue
  try dsimp only
  with_reducible repeat' (first | assumption | intro _ | apply State.issued_canon | apply State.busPut_canon | apply canon_ite | apply canon_foldl | simp only [canon_mk] | split)

theorem State.shotStatus_canon {s : State} (f : Nat) (h_s : s.canon = true) :
    State.canon (State.shotStatus s f) = true := by
  unfold State.shotStatus
  try dsimp only
  with_reducible repeat' (first | assumption | intro _ | apply State.writeStatus_canon | apply canon_ite | apply canon_foldl | simp only [canon_mk] | split)

theorem execXyStart_canon (e : FrondEv) {s : State} (h_s : s.canon = true) :
    outCanon (execXyStart e s) := by
  unfold execXyStart
  try dsimp only
  with_reducible repeat' (first | assumption | intro _ | apply outCanon_next | apply State.xyStart_canon | apply State.at_canon | apply canon_ite | apply canon_foldl | simp only [canon_mk] | split)

theorem execProbeStart_canon (e : FrondEv) {s : State} (h_s : s.canon = true) :
    outCanon (execProbeStart e s) := by
  unfold execProbeStart
  try dsimp only
  with_reducible repeat' (first | assumption | intro _ | apply outCanon_next | apply State.probeStart_canon | apply State.at_canon | apply canon_ite | apply canon_foldl | simp only [canon_mk] | split)

theorem execFluxStart_canon (e : FrondEv) {s : State} (h_s : s.canon = true) :
    outCanon (execFluxStart e s) := by
  unfold execFluxStart
  try dsimp only
  with_reducible repeat' (first | assumption | intro _ | apply outCanon_next | apply State.fluxStart_canon | apply State.at_canon | apply canon_ite | apply canon_foldl | simp only [canon_mk] | split)

theorem execJumpRequest_canon (e : FrondEv) {s : State} (h_s : s.canon = true) :
    outCanon (execJumpRequest e s) := by
  unfold execJumpRequest
  try dsimp only
  with_reducible repeat' (first | assumption | intro _ | apply outCanon_next | apply State.jumpRequest_canon | apply State.at_canon | apply canon_ite | apply canon_foldl | simp only [canon_mk] | split)

theorem execReadoutWindow_canon (e : FrondEv) {s : State} (h_s : s.canon = true) :
    outCanon (execReadoutWindow e s) := by
  unfold execReadoutWindow
  try dsimp only
  with_reducible repeat' (first | assumption | intro _ | apply outCanon_next | apply State.readoutWindow_canon | apply State.at_canon | apply canon_ite | apply canon_foldl | simp only [canon_mk] | split)

theorem execEvPulse_canon (e : FrondEv) {s : State} (h_s : s.canon = true) :
    outCanon (execEvPulse e s) := by
  unfold execEvPulse
  try dsimp only
  with_reducible repeat' (first | assumption | intro _ | apply outCanon_next | apply State.evPulse_canon | apply State.at_canon | apply canon_ite | apply canon_foldl | simp only [canon_mk] | split)

theorem execFrameToggleX_canon (e : FrondEv) {s : State} (h_s : s.canon = true) :
    outCanon (execFrameToggleX e s) := by
  unfold execFrameToggleX
  try dsimp only
  with_reducible repeat' (first | assumption | intro _ | apply outCanon_next | apply State.frameRow_canon | apply State.at_canon | apply canon_ite | apply canon_foldl | simp only [canon_mk] | split)

theorem execFrameToggleZ_canon (e : FrondEv) {s : State} (h_s : s.canon = true) :
    outCanon (execFrameToggleZ e s) := by
  unfold execFrameToggleZ
  try dsimp only
  with_reducible repeat' (first | assumption | intro _ | apply outCanon_next | apply State.frameRow_canon | apply State.at_canon | apply canon_ite | apply canon_foldl | simp only [canon_mk] | split)

theorem execFrameToggleXz_canon (e : FrondEv) {s : State} (h_s : s.canon = true) :
    outCanon (execFrameToggleXz e s) := by
  unfold execFrameToggleXz
  try dsimp only
  with_reducible repeat' (first | assumption | intro _ | apply outCanon_next | apply State.frameRow_canon | apply State.at_canon | apply canon_ite | apply canon_foldl | simp only [canon_mk] | split)

theorem execFrameClear_canon (e : FrondEv) {s : State} (h_s : s.canon = true) :
    outCanon (execFrameClear e s) := by
  unfold execFrameClear
  try dsimp only
  with_reducible repeat' (first | assumption | intro _ | apply outCanon_next | apply State.frameRow_canon | apply State.at_canon | apply canon_ite | apply canon_foldl | simp only [canon_mk] | split)

theorem execFrameClearAll_canon (e : FrondEv) {s : State} (h_s : s.canon = true) :
    outCanon (execFrameClearAll e s) := by
  unfold execFrameClearAll
  try dsimp only
  with_reducible repeat' (first | assumption | intro _ | apply outCanon_next | apply State.frameRow_canon | apply State.at_canon | apply canon_ite | apply canon_foldl | simp only [canon_mk] | split)

theorem execFrameXorSlot_canon (e : FrondEv) {s : State} (h_s : s.canon = true) :
    outCanon (execFrameXorSlot e s) := by
  unfold execFrameXorSlot
  try dsimp only
  with_reducible repeat' (first | assumption | intro _ | apply outCanon_next | apply State.frameRow_canon | apply State.at_canon | apply canon_ite | apply canon_foldl | simp only [canon_mk] | split)

theorem execShotEndIssue_canon (e : FrondEv) {s : State} (h_s : s.canon = true) :
    outCanon (execShotEndIssue e s) := by
  unfold execShotEndIssue
  try dsimp only
  with_reducible repeat' (first | assumption | intro _ | apply outCanon_next | apply State.shotEndIssue_canon | apply State.at_canon | apply canon_ite | apply canon_foldl | simp only [canon_mk] | split)

theorem execSyncIssue_canon (e : FrondEv) {s : State} (h_s : s.canon = true) :
    outCanon (execSyncIssue e s) := by
  unfold execSyncIssue
  try dsimp only
  with_reducible repeat' (first | assumption | intro _ | apply outCanon_next | apply State.syncIssue_canon | apply State.at_canon | apply canon_ite | apply canon_foldl | simp only [canon_mk] | split)

theorem execShotStatusItem_canon (e : FrondEv) {s : State} (h_s : s.canon = true) :
    outCanon (execShotStatusItem e s) := by
  unfold execShotStatusItem
  try dsimp only
  with_reducible repeat' (first | assumption | intro _ | apply outCanon_next | apply State.shotStatus_canon | apply State.at_canon | apply canon_ite | apply canon_foldl | simp only [canon_mk] | split)

theorem State.freePages_canon {s : State} (ps : List Pg) (h_s : s.canon = true) : State.canon (s.freePages ps) = true := by
  unfold State.freePages
  dsimp only
  refine canon_foldl _ h_s (fun a p ha => ?_)
  exact (canon_mk _).trans (State.bindPage_canon _ _ (State.wrF_canon _ _ _ _ _ ha))

theorem State.applyGrp_canon {s0 : State} (g a : Nat) (h_s0 : s0.canon = true) :
    State.canon (State.applyGrp s0 g a) = true := by
  unfold State.applyGrp
  try dsimp only
  with_reducible repeat' (first | assumption | intro _ | apply State.showTufts_canon | apply State.reloop_canon | apply State.retap_canon | apply State.srcEvent_canon | apply State.strobe_canon | apply State.flag_canon | apply State.count_canon | apply State.wr64_canon | apply State.outcome_canon | apply State.showResv_canon | apply State.reclaim_canon | apply State.mapCal_canon | apply State.applyPages_canon | apply State.mapTime_canon | apply State.freePages_canon | apply State.pagesDue_canon | apply canon_ite | apply canon_foldl | simp only [canon_mk] | split)

theorem State.noteTx_canon {s : State} (txid : Nat) (owner : Nat) (t : Nat) (h_s : s.canon = true) :
    State.canon (State.noteTx s txid owner t) = true := by
  unfold State.noteTx
  try dsimp only
  with_reducible repeat' (first | assumption | intro _ | apply canon_ite | apply canon_foldl | simp only [canon_mk] | split)

theorem State.voteNow_canon {s : State} (g : Nat) (h_s : s.canon = true) :
    State.canon (State.voteNow s g) = true := by
  unfold State.voteNow
  try dsimp only
  with_reducible repeat' (first | assumption | intro _ | apply State.noteTx_canon | apply State.setGrp_canon | apply State.unicast_canon | apply State.wrB_canon | apply State.abortGrp_canon | apply canon_ite | apply canon_foldl | simp only [canon_mk] | split)

theorem State.voteArrives_canon {s : State} (w : BitVec 64) (h_s : s.canon = true) :
    State.canon (State.voteArrives s w) = true := by
  unfold State.voteArrives
  try dsimp only
  with_reducible repeat' (first | assumption | intro _ | apply State.setGrp_canon | apply canon_ite | apply canon_foldl | simp only [canon_mk] | split)

theorem State.decideNow_canon {s : State} (g : Nat) (h_s : s.canon = true) :
    State.canon (State.decideNow s g) = true := by
  unfold State.decideNow
  try dsimp only
  with_reducible repeat' (first | assumption | intro _ | apply State.setGrp_canon | apply State.sendCopy_canon | apply canon_ite | apply canon_foldl | simp only [canon_mk] | split)

theorem State.decideArrives_canon {s : State} (w : BitVec 64) (h_s : s.canon = true) :
    State.canon (State.decideArrives s w) = true := by
  unfold State.decideArrives
  try dsimp only
  with_reducible repeat' (first | assumption | intro _ | apply State.setGrp_canon | apply canon_ite | apply canon_foldl | simp only [canon_mk] | split)

theorem State.split_canon {s : State} (x : Tx) (h_s : s.canon = true) :
    State.canon (State.split s x) = true := by
  unfold State.split
  try dsimp only
  with_reducible repeat' (first | assumption | intro _ | apply State.flag_canon | apply State.setCrz_canon | apply canon_ite | apply canon_foldl | simp only [canon_mk] | split)

theorem State.newCast_canon {s : State} (src : Nat) (type : Nat) (num : Nat) (h_s : s.canon = true) :
    State.canon (State.newCast s src type num).2 = true := by
  unfold State.newCast
  try dsimp only
  with_reducible repeat' (first | assumption | intro _ | apply canon_ite | apply canon_foldl | simp only [canon_mk] | split)

theorem State.lostNow_canon {s : State} (g : Nat) (h_s : s.canon = true) :
    State.canon (State.lostNow s g) = true := by
  unfold State.lostNow
  try dsimp only
  with_reducible repeat' (first | assumption | intro _ | apply State.split_canon | apply State.broadcast_canon | apply State.newCast_canon | apply canon_ite | apply canon_foldl | simp only [canon_mk] | split)

theorem State.outcomeArrives_canon {s : State} (port : Nat) (w : BitVec 64) (h_s : s.canon = true) :
    State.canon (State.outcomeArrives s port w) = true := by
  unfold State.outcomeArrives
  try dsimp only
  with_reducible repeat' (first | assumption | intro _ | apply State.newCast_canon | apply State.broadcast_canon | apply State.split_canon | apply canon_ite | apply canon_foldl | simp only [canon_mk] | split)

theorem State.decisionBeat_canon {s : State} (g : Nat) (h_s : s.canon = true) :
    State.canon (State.decisionBeat s g) = true := by
  unfold State.decisionBeat
  try dsimp only
  with_reducible repeat' (first | assumption | intro _ | apply State.setGrp_canon | apply State.setGrpState_canon | apply State.abortGrp_canon | apply State.lostNow_canon | apply canon_ite | apply canon_foldl | simp only [canon_mk] | split)

theorem State.applyBeat_canon {s : State} (g : Nat) (h_s : s.canon = true) :
    State.canon (State.applyBeat s g) = true := by
  unfold State.applyBeat
  try dsimp only
  with_reducible repeat' (first | assumption | intro _ | apply State.applyGrp_canon | apply State.decisionBeat_canon | apply State.split_canon | apply canon_ite | apply canon_foldl | simp only [canon_mk] | split)

theorem State.busRecord_canon {s : State} (f : Nat) (r : Nat) (dst : Nat) (perr : Bool) (h_s : s.canon = true) :
    State.canon (State.busRecord s f r dst perr) = true := by
  unfold State.busRecord
  try dsimp only
  with_reducible repeat' (first | assumption | intro _ | apply State.unitDiscard_canon | apply State.unitRecord_canon | apply State.shotEndSeen_canon | apply State.syncSeen_canon | apply canon_ite | apply canon_foldl | simp only [canon_mk] | split)

theorem State.accept_canon {s : State} (p : Pg) (q : Quant) (x : CalPair) (src : Nat) (temp : Nat) (h_s : s.canon = true) :
    State.canon (State.accept s p q x src temp) = true := by
  unfold State.accept
  try dsimp only
  with_reducible repeat' (first | assumption | intro _ | apply State.mapCal_canon | apply canon_ite | apply canon_foldl | simp only [canon_mk] | split)

theorem State.reject_canon {s : State} (p : Pg) (u : Nat) (h_s : s.canon = true) :
    State.canon (State.reject s p u) = true := by
  unfold State.reject
  try dsimp only
  with_reducible repeat' (first | assumption | intro _ | apply State.wrF_canon | apply State.flag_canon | apply State.count_canon | apply canon_ite | apply canon_foldl | simp only [canon_mk] | split)

theorem State.judge_canon {s : State} (f : Nat) (q : Quant) (x : CalPair) (src : Nat) (h_s : s.canon = true) :
    State.canon (State.judge s f q x src) = true := by
  unfold State.judge
  try dsimp only
  with_reducible repeat' (first | assumption | intro _ | apply State.accept_canon | apply State.mapCal_canon | apply State.reject_canon | apply canon_ite | apply canon_foldl | simp only [canon_mk] | split)

theorem State.feSet_canon {s : State} (f b range input : Nat) (h_s : s.canon = true) :
    State.canon (State.feSet s f b range input) = true := by
  unfold State.feSet
  try dsimp only
  with_reducible repeat' (first | assumption | intro _ | apply State.setFe_canon | apply canon_ite | apply canon_foldl | simp only [canon_mk] | split)

theorem State.feRoute_canon {s : State} (f : Nat) (b : Nat) (input : Nat) (h_s : s.canon = true) :
    State.canon (State.feRoute s f b input) = true := by
  unfold State.feRoute
  try dsimp only
  with_reducible repeat' (first | assumption | intro _ | apply State.feSet_canon | apply canon_ite | apply canon_foldl | simp only [canon_mk] | split)

theorem State.feBack_canon {s : State} (f : Nat) (b : Nat) (h_s : s.canon = true) :
    State.canon (State.feBack s f b) = true := by
  unfold State.feBack
  try dsimp only
  with_reducible repeat' (first | assumption | intro _ | apply State.feRoute_canon | apply State.setFe_canon | apply canon_ite | apply canon_foldl | simp only [canon_mk] | split)

theorem State.adcRanges_canon {s : State} (f b : Nat) (h_s : s.canon = true) :
    State.canon (State.adcRanges s f b) = true := by
  unfold State.adcRanges
  try dsimp only
  with_reducible repeat' (first | assumption | intro _ | apply State.draw_canon | apply State.feSet_canon | apply canon_ite | apply canon_foldl | simp only [canon_mk] | split)

theorem State.feKeep_canon {s : State} (f : Nat) (h_s : s.canon = true) :
    State.canon (State.feKeep s f) = true := by
  unfold State.feKeep
  try dsimp only
  with_reducible repeat' (first | assumption | intro _ | apply State.feSet_canon | apply canon_ite | apply canon_foldl | simp only [canon_mk] | split)

theorem State.adcPart_canon {s : State} (f : Nat) (h_s : s.canon = true) :
    State.canon (State.adcPart s f) = true := by
  unfold State.adcPart
  try dsimp only
  with_reducible repeat' (first | assumption | intro _ | apply State.feRoute_canon | apply State.setFe_canon | apply State.wrB_canon | apply State.adcRanges_canon | apply State.feSet_canon | apply State.feKeep_canon | apply canon_ite | apply canon_foldl | simp only [canon_mk] | split)

theorem State.loopTurn_canon {s : State} (f b n : Nat) (h_s : s.canon = true) :
    State.canon (State.loopTurn s f b n) = true := by
  unfold State.loopTurn
  try dsimp only
  with_reducible repeat' (first | assumption | intro _ | apply State.draw_canon | apply State.feRoute_canon | apply canon_ite | apply canon_foldl | simp only [canon_mk] | split)

theorem State.dacPart_canon {s : State} (f : Nat) (h_s : s.canon = true) :
    State.canon (State.dacPart s f) = true := by
  unfold State.dacPart
  try dsimp only
  with_reducible repeat' (first | assumption | intro _ | apply State.feRoute_canon | apply State.loopTurn_canon | apply State.feKeep_canon | apply canon_ite | apply canon_foldl | simp only [canon_mk] | split)

theorem State.startRun_canon {s : State} (f : Nat) (adc : Bool) (dac : Bool) (full : Bool) (h_s : s.canon = true) :
    State.canon (State.startRun s f adc dac full) = true := by
  unfold State.startRun
  try dsimp only
  with_reducible repeat' (first | assumption | intro _ | apply State.mapCal_canon | apply State.wrB_canon | apply State.bindPage_canon | apply State.adcPart_canon | apply State.dacPart_canon | apply canon_ite | apply canon_foldl | simp only [canon_mk] | split)

theorem State.endRun_canon {s : State} (f : Nat) (h_s : s.canon = true) :
    State.canon (State.endRun s f) = true := by
  unfold State.endRun
  try dsimp only
  with_reducible repeat' (first | assumption | intro _ | apply State.wrB_canon | apply State.mapCal_canon | apply State.feBack_canon | apply State.bindPage_canon | apply canon_ite | apply canon_foldl | simp only [canon_mk] | split)

theorem State.adcCmd_canon {s : State} (path : Path) (f : Nat) (v : Word) (h_s : s.canon = true) :
    State.canon (State.adcCmd s path f v) = true := by
  unfold State.adcCmd
  try dsimp only
  with_reducible repeat' (first | assumption | intro _ | apply State.recErr_canon | apply State.startRun_canon | apply canon_ite | apply canon_foldl | simp only [canon_mk] | split)

theorem State.calfCmd_canon {s : State} (f : Nat) (v : Word) (h_s : s.canon = true) :
    State.canon (State.calfCmd s f v) = true := by
  unfold State.calfCmd
  try dsimp only
  with_reducible repeat' (first | assumption | intro _ | apply State.recErr_canon | apply State.startRun_canon | apply canon_ite | apply canon_foldl | simp only [canon_mk] | split)

theorem State.carry63_canon {s : State} (ps : List Pg) (h_s : s.canon = true) :
    State.canon (State.carry63 s ps) = true := by
  unfold State.carry63
  try dsimp only
  with_reducible repeat' (first | assumption | intro _ | apply State.mapCal_canon | apply State.shadowWrite_canon | apply canon_ite | apply canon_foldl | simp only [canon_mk] | split)

theorem State.serve63_canon {s : State} (ps : List Pg) (own : Nat) (shot : Bool) (h_s : s.canon = true) :
    State.canon (State.serve63 s ps own shot) = true := by
  unfold State.serve63
  try dsimp only
  with_reducible repeat' (first | assumption | intro _ | apply State.wrF_canon | apply State.setGrp_canon | apply State.setGrpState_canon | apply State.wr_canon | apply State.carry63_canon | apply State.wr64_canon | apply State.grpArm_canon | apply canon_ite | apply canon_foldl | simp only [canon_mk] | split)

theorem State.dueRuns_canon {s : State} (h_s : s.canon = true) :
    State.canon (State.dueRuns s) = true := by
  unfold State.dueRuns
  try dsimp only
  with_reducible repeat' (first | assumption | intro _ | apply State.startRun_canon | apply canon_ite | apply canon_foldl | simp only [canon_mk] | split)

theorem State.round63_canon {s0 : State} (h_s0 : s0.canon = true) :
    State.canon (State.round63 s0) = true := by
  unfold State.round63
  try dsimp only
  with_reducible repeat' (first | assumption | intro _ | apply State.dueRuns_canon | apply State.flag_canon | apply State.count_canon | apply State.mapCal_canon | apply State.serve63_canon | apply canon_ite | apply canon_foldl | simp only [canon_mk] | split)

theorem State.commitPart_canon {s : State} (f : Nat) (h_s : s.canon = true) :
    State.canon (State.commitPart s f) = true := by
  unfold State.commitPart
  try dsimp only
  with_reducible repeat' (first | assumption | intro _ | apply State.serve63_canon | apply canon_ite | apply canon_foldl | simp only [canon_mk] | split)

theorem State.fullOver_canon {s : State} (f : Nat) (r : CalRun) (pass : Bool) (h_s : s.canon = true) :
    State.canon (State.fullOver s f r pass) = true := by
  unfold State.fullOver
  try dsimp only
  with_reducible repeat' (first | assumption | intro _ | apply State.mapCal_canon | apply State.wr_canon | apply State.wrB_canon | apply canon_ite | apply canon_foldl | simp only [canon_mk] | split)

/-- A fold that carries a state beside what it gathers keeps what its steps keep. -/
theorem foldl_snd_canon {α β : Type} (g : β × State → α → β × State) (hg : ∀ r k, State.canon r.2 = true → State.canon (g r k).2 = true) (l : List α) (r : β × State)
    (h : State.canon r.2 = true) : State.canon (l.foldl g r).2 = true := by
  induction l generalizing r with
  | nil => exact h
  | cons k t ih => exact ih _ (hg _ _ h)

theorem State.measured_canon {s : State} (adc : Bool) (pairs : List CalPair) (h_s : State.canon s = true) :
    State.canon (State.measured s adc pairs).2 = true := by
  unfold State.measured
  refine foldl_snd_canon _ (fun r k h => ?_) _ _ h_s
  dsimp only
  split
  · exact h
  · split
    · exact h
    · exact State.draw_canon (State.draw_canon h)

theorem State.adcDone_canon {s : State} (f : Nat) (pairs : List CalPair) (h_s : s.canon = true) :
    State.canon (State.adcDone s f pairs) = true := by
  unfold State.adcDone
  try dsimp only
  with_reducible repeat' (first | assumption | intro _ | apply State.wr_canon | apply State.count_canon | apply State.flag_canon | apply State.wrF_canon | apply State.endRun_canon | apply State.fullOver_canon | apply State.judge_canon | apply State.wrB_canon | apply State.commitPart_canon | apply State.dacPart_canon | apply State.mapCal_canon | apply State.measured_canon | apply canon_ite | apply canon_foldl | simp only [canon_mk] | split)

theorem State.dacDone_canon {s : State} (f : Nat) (pairs : List CalPair) (h_s : s.canon = true) :
    State.canon (State.dacDone s f pairs) = true := by
  unfold State.dacDone
  try dsimp only
  with_reducible repeat' (first | assumption | intro _ | apply State.wr_canon | apply State.endRun_canon | apply State.count_canon | apply State.flag_canon | apply State.wrF_canon | apply State.fullOver_canon | apply State.judge_canon | apply State.commitPart_canon | apply State.measured_canon | apply canon_ite | apply canon_foldl | simp only [canon_mk] | split)

theorem State.abortRuns_canon {s : State} (h_s : s.canon = true) :
    State.canon (State.abortRuns s) = true := by
  unfold State.abortRuns
  try dsimp only
  with_reducible repeat' (first | assumption | intro _ | apply State.flag_canon | apply State.wr_canon | apply State.endRun_canon | apply canon_ite | apply canon_foldl | simp only [canon_mk] | split)

theorem State.dueStep_canon {s : State} (f : Nat) (k : Nat) (start : Nat) (h_s : s.canon = true) :
    State.canon (State.dueStep s f k start) = true := by
  unfold State.dueStep
  try dsimp only
  with_reducible repeat' (first | assumption | intro _ | apply State.mapCal_canon | apply State.wr_canon | apply State.wrB_canon | apply canon_ite | apply canon_foldl | simp only [canon_mk] | split)

theorem State.estimate_canon {s : State} (f : Nat) (q : Quant) (x : CalEst) (h_s : s.canon = true) :
    State.canon (State.estimate s f q x) = true := by
  unfold State.estimate
  try dsimp only
  with_reducible repeat' (first | assumption | intro _ | apply State.mapCal_canon | apply State.dueStep_canon | apply State.judge_canon | apply canon_ite | apply canon_foldl | simp only [canon_mk] | split)

theorem State.gather_canon {s : State} (f : Nat) (h_s : s.canon = true) :
    State.canon (State.gather s f) = true := by
  unfold State.gather
  try dsimp only
  with_reducible repeat' (first | assumption | intro _ | apply State.mapCal_canon | apply canon_ite | apply canon_foldl | simp only [canon_mk] | split)

theorem State.estimates_canon {s9 : State} (f : Nat) (ests : List CalEst) (weak : Bool) (h_s9 : s9.canon = true) :
    State.canon (State.estimates s9 f ests weak) = true := by
  unfold State.estimates
  try dsimp only
  with_reducible repeat' (first | assumption | intro _ | apply State.count_canon | apply State.mapCal_canon | apply State.estimate_canon | apply State.gather_canon | apply canon_ite | apply canon_foldl | simp only [canon_mk] | split)

theorem State.slotDecision_canon {s9 : State} (f : Nat) (found : Bool) (h_s9 : s9.canon = true) :
    State.canon (State.slotDecision s9 f found) = true := by
  unfold State.slotDecision
  try dsimp only
  with_reducible repeat' (first | assumption | intro _ | apply State.mapCal_canon | apply State.count_canon | apply State.feRoute_canon | apply State.gather_canon | apply canon_ite | apply canon_foldl | simp only [canon_mk] | split)

theorem State.calHold_canon {s : State} (h_s : s.canon = true) :
    State.canon (State.calHold s) = true := by
  unfold State.calHold
  try dsimp only
  with_reducible repeat' (first | assumption | intro _ | apply State.abortRuns_canon | apply State.feBack_canon | apply State.mapCal_canon | apply canon_ite | apply canon_foldl | simp only [canon_mk] | split)

theorem State.dueNow_canon {s : State} (f : Nat) (h_s : s.canon = true) :
    State.canon (State.dueNow s f) = true := by
  unfold State.dueNow
  try dsimp only
  with_reducible repeat' (first | assumption | intro _ | apply State.dueRuns_canon | apply State.mapCal_canon | apply State.wrB_canon | apply State.flag_canon | apply canon_ite | apply canon_foldl | simp only [canon_mk] | split)

theorem State.overdue_canon {s : State} (f : Nat) (h_s : s.canon = true) :
    State.canon (State.overdue s f) = true := by
  unfold State.overdue
  try dsimp only
  with_reducible repeat' (first | assumption | intro _ | apply State.flag_canon | apply canon_ite | apply canon_foldl | simp only [canon_mk] | split)

theorem State.marginEffect_canon {s : State} (f : Nat) (h_s : s.canon = true) :
    State.canon (State.marginEffect s f) = true := by
  unfold State.marginEffect
  try dsimp only
  with_reducible repeat' (first | assumption | intro _ | apply State.mapCal_canon | apply canon_ite | apply canon_foldl | simp only [canon_mk] | split)

theorem State.trimEffect_canon {s9 : State} (f u : Nat) (h_s9 : s9.canon = true) :
    State.canon (State.trimEffect s9 f u) = true := by
  unfold State.trimEffect
  try dsimp only
  with_reducible repeat' (first | assumption | intro _ | apply State.mapCal_canon | apply State.wrB_canon | apply State.keepBall_canon | apply State.marginEffect_canon | apply canon_ite | apply canon_foldl | simp only [canon_mk] | split)

theorem State.bandSet_canon {s : State} (f : Nat) (band : Nat) (h_s : s.canon = true) :
    State.canon (State.bandSet s f band) = true := by
  unfold State.bandSet
  try dsimp only
  with_reducible repeat' (first | assumption | intro _ | apply State.mapCal_canon | apply State.wrF_canon | apply canon_ite | apply canon_foldl | simp only [canon_mk] | split)

theorem State.loadBaseline_canon {s : State} (h_s : s.canon = true) :
    State.canon (State.loadBaseline s) = true := by
  unfold State.loadBaseline
  try dsimp only
  with_reducible repeat' (first | assumption | intro _ | apply State.wrF_canon | apply State.wrB_canon | apply State.wr_canon | apply canon_ite | apply canon_foldl | simp only [canon_mk] | split)

theorem State.fuseCmd_canon {s : State} (v : Word) (h_s : s.canon = true) :
    State.canon (State.fuseCmd s v) = true := by
  unfold State.fuseCmd
  try dsimp only
  with_reducible repeat' (first | assumption | intro _ | apply State.recErr_canon | apply State.mapCal_canon | apply State.count_canon | apply State.wrB_canon | apply canon_ite | apply canon_foldl | simp only [canon_mk] | split)

theorem State.burnDone_canon {s : State} (ok : Bool) (h_s : s.canon = true) :
    State.canon (State.burnDone s ok) = true := by
  unfold State.burnDone
  try dsimp only
  with_reducible repeat' (first | assumption | intro _ | apply State.mapCal_canon | apply State.wrF_canon | apply State.wrB_canon | apply canon_ite | apply canon_foldl | simp only [canon_mk] | split)

theorem State.revokeDone_canon {s : State} (h_s : s.canon = true) :
    State.canon (State.revokeDone s) = true := by
  unfold State.revokeDone
  try dsimp only
  with_reducible repeat' (first | assumption | intro _ | apply State.mapCal_canon | apply State.wrB_canon | apply canon_ite | apply canon_foldl | simp only [canon_mk] | split)

theorem State.burnCut_canon {s : State} (h_s : s.canon = true) :
    State.canon (State.burnCut s) = true := by
  unfold State.burnCut
  try dsimp only
  with_reducible repeat' (first | assumption | intro _ | apply State.mapCal_canon | apply State.wrF_canon | apply State.wrB_canon | apply canon_ite | apply canon_foldl | simp only [canon_mk] | split)

theorem State.hkCalStart_canon {s : State} (parts : Nat) (h_s : s.canon = true) :
    State.canon (State.hkCalStart s parts) = true := by
  unfold State.hkCalStart
  try dsimp only
  with_reducible repeat' (first | assumption | intro _ | apply State.mapHk_canon | apply State.wrB_canon | apply State.wrF_canon | apply State.thRestart_canon | apply State.mapAdc_canon | apply State.flag_canon | apply State.setAdcState_canon | apply State.adcDrop_canon | apply canon_ite | apply canon_foldl | simp only [canon_mk] | split)

theorem State.hkCalCmd_canon {s : State} (v : Word) (h_s : s.canon = true) :
    State.canon (State.hkCalCmd s v) = true := by
  unfold State.hkCalCmd
  try dsimp only
  with_reducible repeat' (first | assumption | intro _ | apply State.recErr_canon | apply State.hkCalStart_canon | apply canon_ite | apply canon_foldl | simp only [canon_mk] | split)

theorem State.hkCalDone_canon {s : State} (pairs : List CalPair) (h_s : s.canon = true) :
    State.canon (State.hkCalDone s pairs) = true := by
  unfold State.hkCalDone
  try dsimp only
  with_reducible repeat' (first | assumption | intro _ | apply State.mapCal_canon | apply State.reject_canon | apply State.mapHk_canon | apply State.wrB_canon | apply State.adcNext_canon | apply State.mapAdc_canon | apply State.serve63_canon | apply canon_ite | apply canon_foldl | simp only [canon_mk] | split)

theorem State.routeOff_canon {s : State} (f : Nat) (h_s : s.canon = true) :
    State.canon (State.routeOff s f) = true := by
  unfold State.routeOff
  try dsimp only
  with_reducible repeat' (first | assumption | intro _ | apply State.feBack_canon | apply canon_ite | apply canon_foldl | simp only [canon_mk] | split)

theorem State.routeSet_canon {s : State} (f : Nat) (h_s : s.canon = true) :
    State.canon (State.routeSet s f) = true := by
  unfold State.routeSet
  try dsimp only
  with_reducible repeat' (first | assumption | intro _ | apply State.feRoute_canon | apply State.routeOff_canon | apply canon_ite | apply canon_foldl | simp only [canon_mk] | split)

theorem State.svcStart_canon {s0 : State} (h_s0 : s0.canon = true) :
    State.canon (State.svcStart s0) = true := by
  unfold State.svcStart
  try dsimp only
  with_reducible repeat' (first | assumption | intro _ | apply State.wrB_canon | apply State.mapCal_canon | apply State.startRun_canon | apply State.hkCalStart_canon | apply State.routeSet_canon | apply canon_ite | apply canon_foldl | simp only [canon_mk] | split)

theorem State.svcEnd_canon {s : State} (h_s : s.canon = true) :
    State.canon (State.svcEnd s) = true := by
  unfold State.svcEnd
  try dsimp only
  with_reducible repeat' (first | assumption | intro _ | apply State.wrB_canon | apply State.mapCal_canon | apply State.routeOff_canon | apply canon_ite | apply canon_foldl | simp only [canon_mk] | split)

theorem State.setCs_canon {s : State} (v : Nat) (h_s : s.canon = true) :
    State.canon (State.setCs s v) = true := by
  unfold State.setCs
  try dsimp only
  with_reducible repeat' (first | assumption | intro _ | apply State.wrF_canon | apply canon_ite | apply canon_foldl | simp only [canon_mk] | split)

theorem State.dropReq_canon {s : State} (h_s : s.canon = true) :
    State.canon (State.dropReq s) = true := by
  unfold State.dropReq
  try dsimp only
  with_reducible repeat' (first | assumption | intro _ | apply State.count_canon | apply State.mapTime_canon | apply canon_ite | apply canon_foldl | simp only [canon_mk] | split)

theorem State.csFail_canon {s : State} (cause : Nat) (h_s : s.canon = true) :
    State.canon (State.csFail s cause) = true := by
  unfold State.csFail
  try dsimp only
  with_reducible repeat' (first | assumption | intro _ | apply State.mapTime_canon | apply State.recErr_canon | apply State.flag_canon | apply State.setCs_canon | apply State.dropReq_canon | apply canon_ite | apply canon_foldl | simp only [canon_mk] | split)

theorem State.alignLost_canon {s : State} (h_s : s.canon = true) :
    State.canon (State.alignLost s) = true := by
  unfold State.alignLost
  try dsimp only
  with_reducible repeat' (first | assumption | intro _ | apply State.flag_canon | apply State.setCs_canon | apply State.dropReq_canon | apply canon_ite | apply canon_foldl | simp only [canon_mk] | split)

theorem State.sendPings_canon {s : State} (h_s : s.canon = true) :
    State.canon (State.sendPings s) = true := by
  unfold State.sendPings
  try dsimp only
  with_reducible repeat' (first | assumption | intro _ | apply State.mapTime_canon | apply State.wrB_canon | apply State.unicast_canon | apply canon_ite | apply canon_foldl | simp only [canon_mk] | split)

theorem State.aligned_canon {s : State} (depth : Nat) (h_s : s.canon = true) :
    State.canon (State.aligned s depth) = true := by
  unfold State.aligned
  try dsimp only
  with_reducible repeat' (first | assumption | intro _ | apply State.mapTime_canon | apply State.flag_canon | apply State.wr_canon | apply State.wrF_canon | apply State.setCs_canon | apply State.sendPings_canon | apply State.dropReq_canon | apply canon_ite | apply canon_foldl | simp only [canon_mk] | split)

theorem State.csJoin_canon {s : State} (h_s : s.canon = true) :
    State.canon (State.csJoin s) = true := by
  unfold State.csJoin
  try dsimp only
  with_reducible repeat' (first | assumption | intro _ | apply State.recErr_canon | apply State.mapTime_canon | apply State.wrB_canon | apply State.wrF_canon | apply State.setCs_canon | apply State.aligned_canon | apply State.dropReq_canon | apply canon_ite | apply canon_foldl | simp only [canon_mk] | split)

theorem State.csLeave_canon {s : State} (h_s : s.canon = true) :
    State.canon (State.csLeave s) = true := by
  unfold State.csLeave
  try dsimp only
  with_reducible repeat' (first | assumption | intro _ | apply State.recErr_canon | apply State.mapTime_canon | apply State.wrB_canon | apply State.wrF_canon | apply State.setCs_canon | apply State.dropReq_canon | apply canon_ite | apply canon_foldl | simp only [canon_mk] | split)

theorem State.csRemeasure_canon {s : State} (h_s : s.canon = true) :
    State.canon (State.csRemeasure s) = true := by
  unfold State.csRemeasure
  try dsimp only
  with_reducible repeat' (first | assumption | intro _ | apply State.sendPings_canon | apply canon_ite | apply canon_foldl | simp only [canon_mk] | split)

theorem State.csCmd_canon {s : State} (v : Word) (h_s : s.canon = true) :
    State.canon (State.csCmd s v) = true := by
  unfold State.csCmd
  try dsimp only
  with_reducible repeat' (first | assumption | intro _ | apply State.csJoin_canon | apply State.csLeave_canon | apply State.csRemeasure_canon | apply canon_ite | apply canon_foldl | simp only [canon_mk] | split)

theorem State.syncReqSend_canon {s : State} (phi : Nat) (h_s : s.canon = true) :
    State.canon (State.syncReqSend s phi) = true := by
  unfold State.syncReqSend
  try dsimp only
  with_reducible repeat' (first | assumption | intro _ | apply State.sendOn_canon | apply State.mapTime_canon | apply State.dropReq_canon | apply canon_ite | apply canon_foldl | simp only [canon_mk] | split)

theorem State.syncReq_canon {s : State} (port : Nat) (phi : Nat) (turn : Nat) (w : BitVec 64) (h_s : s.canon = true) :
    State.canon (State.syncReq s port phi turn w) = true := by
  unfold State.syncReq
  try dsimp only
  with_reducible repeat' (first | assumption | intro _ | apply State.mapTime_canon | apply State.count_canon | apply State.sendOn_canon | apply canon_ite | apply canon_foldl | simp only [canon_mk] | split)

theorem State.rotate_canon {s : State} (n : Int) (h_s : s.canon = true) :
    State.canon (State.rotate s n) = true := by
  unfold State.rotate
  try dsimp only
  with_reducible repeat' (first | assumption | intro _ | apply State.count_canon | apply State.mapTime_canon | apply canon_ite | apply canon_foldl | simp only [canon_mk] | split)

theorem State.measuring_canon {s : State} (d : Int) (th : Int) (h_s : s.canon = true) :
    State.canon (State.measuring s d th) = true := by
  unfold State.measuring
  try dsimp only
  with_reducible repeat' (first | assumption | intro _ | apply State.mapTime_canon | apply State.setCs_canon | apply State.rotate_canon | apply canon_ite | apply canon_foldl | simp only [canon_mk] | split)

theorem State.track_canon {s : State} (e : Int) (k : Int) (h_s : s.canon = true) :
    State.canon (State.track s e k) = true := by
  unfold State.track
  try dsimp only
  with_reducible repeat' (first | assumption | intro _ | apply State.rotate_canon | apply State.wr_canon | apply canon_ite | apply canon_foldl | simp only [canon_mk] | split)

theorem State.tracking_canon {s : State} (th : Int) (h_s : s.canon = true) :
    State.canon (State.tracking s th) = true := by
  unfold State.tracking
  try dsimp only
  with_reducible repeat' (first | assumption | intro _ | apply State.mapTime_canon | apply State.flag_canon | apply State.alignLost_canon | apply State.track_canon | apply canon_ite | apply canon_foldl | simp only [canon_mk] | split)

theorem State.resync_canon {s : State} (th : Int) (h_s : s.canon = true) :
    State.canon (State.resync s th) = true := by
  unfold State.resync
  try dsimp only
  with_reducible repeat' (first | assumption | intro _ | apply State.mapTime_canon | apply State.track_canon | apply State.flag_canon | apply State.setCs_canon | apply State.alignLost_canon | apply canon_ite | apply canon_foldl | simp only [canon_mk] | split)

theorem State.syncResp_canon {s : State} (port : Nat) (phi : Nat) (w : BitVec 64) (h_s : s.canon = true) :
    State.canon (State.syncResp s port phi w) = true := by
  unfold State.syncResp
  try dsimp only
  with_reducible repeat' (first | assumption | intro _ | apply State.mapTime_canon | apply State.csFail_canon | apply State.wr_canon | apply State.count_canon | apply State.setCs_canon | apply State.measuring_canon | apply State.tracking_canon | apply State.resync_canon | apply canon_ite | apply canon_foldl | simp only [canon_mk] | split)

theorem State.startSend_canon {s : State} (h_s : s.canon = true) :
    State.canon (State.startSend s) = true := by
  unfold State.startSend
  try dsimp only
  with_reducible repeat' (first | assumption | intro _ | apply State.sendOn_canon | apply canon_ite | apply canon_foldl | simp only [canon_mk] | split)

theorem State.startHi_canon {s : State} (port : Nat) (w : BitVec 64) (h_s : s.canon = true) :
    State.canon (State.startHi s port w) = true := by
  unfold State.startHi
  try dsimp only
  with_reducible repeat' (first | assumption | intro _ | apply State.mapTime_canon | apply canon_ite | apply canon_foldl | simp only [canon_mk] | split)

theorem State.startLo_canon {s : State} (port : Nat) (w : BitVec 64) (h_s : s.canon = true) :
    State.canon (State.startLo s port w) = true := by
  unfold State.startLo
  try dsimp only
  with_reducible repeat' (first | assumption | intro _ | apply State.mapTime_canon | apply State.csFail_canon | apply canon_ite | apply canon_foldl | simp only [canon_mk] | split)

theorem State.moveFronds_canon {s : State} (o : Nat) (n : Nat) (h_s : s.canon = true) :
    State.canon (State.moveFronds s o n) = true := by
  unfold State.moveFronds
  try dsimp only
  with_reducible repeat' (first | assumption | intro _ | apply canon_ite | apply canon_foldl | simp only [canon_mk] | split)

theorem State.moveRest_canon {s : State} (o : Nat) (n : Nat) (h_s : s.canon = true) :
    State.canon (State.moveRest s o n) = true := by
  unfold State.moveRest
  try dsimp only
  with_reducible repeat' (first | assumption | intro _ | apply canon_ite | apply canon_foldl | simp only [canon_mk] | split)

theorem State.loadBeat_canon {s : State} (n : Nat) (h_s : s.canon = true) :
    State.canon (State.loadBeat s n) = true := by
  unfold State.loadBeat
  try dsimp only
  with_reducible repeat' (first | assumption | intro _ | apply State.flag_canon | apply State.clearMap_canon | apply State.moveRest_canon | apply State.moveFronds_canon | apply canon_ite | apply canon_foldl | simp only [canon_mk] | split)

theorem State.counterLoad_canon {s : State} (h_s : s.canon = true) :
    State.canon (State.counterLoad s) = true := by
  unfold State.counterLoad
  try dsimp only
  with_reducible repeat' (first | assumption | intro _ | apply State.aligned_canon | apply State.loadBeat_canon | apply canon_ite | apply canon_foldl | simp only [canon_mk] | split)

theorem State.ping_canon {s : State} (w : BitVec 64) (h_s : s.canon = true) :
    State.canon (State.ping s w) = true := by
  unfold State.ping
  try dsimp only
  with_reducible repeat' (first | assumption | intro _ | apply State.unicast_canon | apply canon_ite | apply canon_foldl | simp only [canon_mk] | split)

theorem State.pong_canon {s : State} (w : BitVec 64) (h_s : s.canon = true) :
    State.canon (State.pong s w) = true := by
  unfold State.pong
  try dsimp only
  with_reducible repeat' (first | assumption | intro _ | apply State.mapTime_canon | apply State.wrF_canon | apply State.wrB_canon | apply canon_ite | apply canon_foldl | simp only [canon_mk] | split)

theorem State.parentLoss_canon {s : State} (h_s : s.canon = true) :
    State.canon (State.parentLoss s) = true := by
  unfold State.parentLoss
  try dsimp only
  with_reducible repeat' (first | assumption | intro _ | apply State.mapTime_canon | apply State.flag_canon | apply State.setCs_canon | apply State.dropReq_canon | apply canon_ite | apply canon_foldl | simp only [canon_mk] | split)

theorem State.holdMs_canon {s : State} (h_s : s.canon = true) :
    State.canon (State.holdMs s) = true := by
  unfold State.holdMs
  try dsimp only
  with_reducible repeat' (first | assumption | intro _ | apply State.alignLost_canon | apply canon_ite | apply canon_foldl | simp only [canon_mk] | split)

theorem State.joinMs_canon {s : State} (h_s : s.canon = true) :
    State.canon (State.joinMs s) = true := by
  unfold State.joinMs
  try dsimp only
  with_reducible repeat' (first | assumption | intro _ | apply State.csFail_canon | apply canon_ite | apply canon_foldl | simp only [canon_mk] | split)

theorem State.csUnlock_canon {s : State} (h_s : s.canon = true) :
    State.canon (State.csUnlock s) = true := by
  unfold State.csUnlock
  try dsimp only
  with_reducible repeat' (first | assumption | intro _ | apply State.alignLost_canon | apply canon_ite | apply canon_foldl | simp only [canon_mk] | split)

theorem State.setMode_canon {s : State} (m : Nat) (h_s : s.canon = true) :
    State.canon (State.setMode s m) = true := by
  unfold State.setMode
  try dsimp only
  with_reducible repeat' (first | assumption | intro _ | apply State.wrF_canon | apply canon_ite | apply canon_foldl | simp only [canon_mk] | split)

theorem State.setTarget_canon {s : State} (t : Option Nat) (h_s : s.canon = true) :
    State.canon (State.setTarget s t) = true := by
  unfold State.setTarget
  try dsimp only
  with_reducible repeat' (first | assumption | intro _ | apply State.wrB_canon | apply State.mapBoot_canon | apply canon_ite | apply canon_foldl | simp only [canon_mk] | split)

theorem State.bootLog_canon {s : State} (outcome : Nat) (step : Nat) (unit : Nat) (cause : Nat) (time : Nat) (detail : Word) (h_s : s.canon = true) :
    State.canon (State.bootLog s outcome step unit cause time detail) = true := by
  unfold State.bootLog
  try dsimp only
  with_reducible repeat' (first | assumption | intro _ | apply State.wrF_canon | apply State.mapBoot_canon | apply canon_ite | apply canon_foldl | simp only [canon_mk] | split)

theorem State.mirrorLog_canon {s : State} (h_s : s.canon = true) :
    State.canon (State.mirrorLog s) = true := by
  unfold State.mirrorLog
  try dsimp only
  with_reducible repeat' (first | assumption | intro _ | apply State.mapBoot_canon | apply canon_ite | apply canon_foldl | simp only [canon_mk] | split)

theorem State.bootEnd_canon {s : State} (result : Nat) (step : Nat) (outcome : Nat) (unit : Nat) (cause : Nat) (t : Nat) (h_s : s.canon = true) :
    State.canon (State.bootEnd s result step outcome unit cause t) = true := by
  unfold State.bootEnd
  try dsimp only
  with_reducible repeat' (first | assumption | intro _ | apply State.wr_canon | apply State.wrF_canon | apply State.mirrorLog_canon | apply State.bootLog_canon | apply canon_ite | apply canon_foldl | simp only [canon_mk] | split)

theorem State.ownCast_canon {s : State} (type : Nat) (h_s : s.canon = true) :
    State.canon (State.ownCast s type) = true := by
  unfold State.ownCast
  try dsimp only
  with_reducible repeat' (first | assumption | intro _ | apply State.broadcast_canon | apply State.newCast_canon | apply canon_ite | apply canon_foldl | simp only [canon_mk] | split)

theorem State.killShots_canon {s : State} (h_s : s.canon = true) :
    State.canon (State.killShots s) = true := by
  unfold State.killShots
  try dsimp only
  with_reducible repeat' (first | assumption | intro _ | apply State.setCrz_canon | apply canon_ite | apply canon_foldl | simp only [canon_mk] | split)

theorem canon_pins {s : State} (p : Pins) (h : s.canon = true) : State.canon { s with pins := p } = true := h

theorem State.haltSoon_canon {s : State} (f : Nat) (h_s : s.canon = true) :
    State.canon (State.haltSoon s f) = true := by
  unfold State.haltSoon
  try dsimp only
  with_reducible repeat' (first | assumption | intro _ | apply State.setQueue_canon | apply State.idlePlayers_canon | apply State.setCrz_canon | apply State.haltStep_canon | apply State.crzStop_canon | apply canon_ite | apply canon_foldl | simp only [canon_mk] | split)

theorem State.forceNow_canon {s : State} (h_s : s.canon = true) :
    State.canon (State.forceNow s) = true := by
  unfold State.forceNow
  try dsimp only
  with_reducible repeat' (first | assumption | intro _ | apply canon_ite | apply canon_foldl | simp only [canon_mk] | split)

theorem State.holdUnits_canon {s : State} (h_s : s.canon = true) : State.canon (s.holdUnits) = true := by
  unfold State.holdUnits
  try dsimp only
  with_reducible repeat' (first | assumption | intro _ | apply State.haltSoon_canon | apply State.killShots_canon | apply State.sorusHold_canon | apply State.hyphaHold_canon | apply State.biasClearAll_canon | apply State.modeAborts_canon | apply State.calHold_canon | apply State.burnCut_canon | apply canon_ite | apply canon_foldl | simp only [canon_mk] | split)

theorem State.abortOut_canon {s : State} (cause : Nat) (h_s : s.canon = true) :
    State.canon (State.abortOut s cause) = true := by
  unfold State.abortOut
  try dsimp only
  with_reducible repeat' (first | assumption | intro _ | apply State.count_canon | apply State.ownCast_canon | apply canon_ite | apply canon_foldl | simp only [canon_mk] | split)

theorem State.abortStat_canon {s : State} (i : Nat) (fn : Nat) (h_s : s.canon = true) :
    State.canon (State.abortStat s i fn) = true := by
  unfold State.abortStat
  try dsimp only
  with_reducible repeat' (first | assumption | intro _ | apply State.flag_canon | apply State.wrB_canon | apply State.wrF_canon | apply canon_ite | apply canon_foldl | simp only [canon_mk] | split)

theorem State.abortCause_canon {s : State} (cause : Nat) (h_s : s.canon = true) :
    State.canon (State.abortCause s cause) = true := by
  unfold State.abortCause
  try dsimp only
  with_reducible repeat' (first | assumption | intro _ | apply State.abortStat_canon | apply canon_ite | apply canon_foldl | simp only [canon_mk] | split)

theorem State.bootTime_canon {s : State} (h_s : s.canon = true) :
    State.canon (State.bootTime s).2 = true := by
  unfold State.bootTime
  try dsimp only
  with_reducible repeat' (first | assumption | intro _ | apply State.draw_canon | apply canon_ite | apply canon_foldl | simp only [canon_mk] | split)

theorem State.bootHeld_canon {s : State} (h_s : s.canon = true) :
    State.canon (State.bootHeld s) = true := by
  unfold State.bootHeld
  try dsimp only
  with_reducible repeat' (first | assumption | intro _ | apply State.bootTime_canon | apply State.bootEnd_canon | apply canon_ite | apply canon_foldl | simp only [canon_mk] | split)

theorem State.holdForce_canon {s : State} (cause : Nat) (h_s : s.canon = true) :
    State.canon (State.holdForce s cause) = true := by
  unfold State.holdForce
  try dsimp only
  with_reducible repeat' (first | assumption | intro _ | apply State.forceFrom_canon | apply State.forceNow_canon | apply canon_ite | apply canon_foldl | simp only [canon_mk] | split)

theorem State.enterHold_canon {s : State} (cause : Nat) (h_s : s.canon = true) :
    State.canon (State.enterHold s cause) = true := by
  unfold State.enterHold
  try dsimp only
  with_reducible repeat' (first | assumption | intro _ | apply State.wrB_canon | apply State.abortCause_canon | apply State.setTarget_canon | apply State.wrF_canon | apply State.mapBoot_canon | apply State.abortOut_canon | apply State.setMode_canon | apply State.holdUnits_canon | apply State.bootHeld_canon | apply State.svcEnd_canon | apply State.holdForce_canon | apply State.forceNow_canon | apply canon_ite | apply canon_foldl | simp only [canon_mk] | split)

theorem State.fatal_canon {s : State} (h_s : s.canon = true) :
    State.canon (State.fatal s) = true := by
  unfold State.fatal
  try dsimp only
  with_reducible repeat' (first | assumption | intro _ | apply State.enterHold_canon | apply canon_ite | apply canon_foldl | simp only [canon_mk] | split)

theorem State.mapLink_canon {s : State} (g : Link → Link) (h_s : s.canon = true) :
    State.canon (State.mapLink s g) = true := by
  unfold State.mapLink
  try dsimp only
  with_reducible repeat' (first | assumption | intro _ | apply canon_ite | apply canon_foldl | simp only [canon_mk] | split)

theorem State.setPort_canon {s : State} (p : Nat) (v : Nat) (h_s : s.canon = true) :
    State.canon (State.setPort s p v) = true := by
  unfold State.setPort
  try dsimp only
  with_reducible repeat' (first | assumption | intro _ | apply State.wrF_canon | apply canon_ite | apply canon_foldl | simp only [canon_mk] | split)

theorem State.showMbox_canon {s : State} (h_s : s.canon = true) :
    State.canon (State.showMbox s) = true := by
  unfold State.showMbox
  try dsimp only
  with_reducible repeat' (first | assumption | intro _ | apply State.wrF_canon | apply canon_ite | apply canon_foldl | simp only [canon_mk] | split)

theorem State.bulkIn_canon {s : State} (port : Nat) (w : BitVec 64) (h_s : s.canon = true) :
    State.canon (State.bulkIn s port w) = true := by
  unfold State.bulkIn
  try dsimp only
  with_reducible repeat' (first | assumption | intro _ | apply State.count_canon | apply State.showMbox_canon | apply State.mapLink_canon | apply canon_ite | apply canon_foldl | simp only [canon_mk] | split)

theorem State.mboxSend_canon {s : State} (h_s : s.canon = true) :
    optCanon (State.mboxSend s) := by
  unfold State.mboxSend
  try dsimp only
  with_reducible repeat' (first | assumption | intro _ | apply optCanon_some | apply optCanon_none | apply State.mapLink_canon | apply State.unicast_canon | apply State.sendOn_canon | apply State.bulkIn_canon | apply canon_ite | apply canon_foldl | simp only [canon_mk] | split)

theorem State.mboxDrain_canon (n : Nat) {s : State} (h_s : s.canon = true) : State.canon (State.mboxDrain n s) = true := by
  induction n generalizing s with
  | zero => exact h_s
  | succ n ih =>
    unfold State.mboxDrain
    split
    · next t e => exact ih (optCanon_get e (State.mboxSend_canon h_s))
    · exact h_s

theorem State.creditBack_canon {s : State} (p : Nat) (h_s : s.canon = true) :
    State.canon (State.creditBack s p) = true := by
  unfold State.creditBack
  try dsimp only
  with_reducible repeat' (first | assumption | intro _ | apply State.sendOn_canon | apply canon_ite | apply canon_foldl | simp only [canon_mk] | split)

theorem State.fwdWord_canon {s : State} (x : Nat × Nat × BitVec 64) (h_s : s.canon = true) :
    State.canon (State.fwdWord s x) = true := by
  unfold State.fwdWord
  try dsimp only
  with_reducible repeat' (first | assumption | intro _ | apply State.unicast_canon | apply State.creditBack_canon | apply State.mapLink_canon | apply State.sendOn_canon | apply canon_ite | apply canon_foldl | simp only [canon_mk] | split)

theorem State.fwdGo_canon {s : State} (h_s : s.canon = true) :
    State.canon (State.fwdGo s) = true := by
  unfold State.fwdGo
  try dsimp only
  with_reducible repeat' (first | assumption | intro _ | apply State.fwdWord_canon | apply State.mapLink_canon | apply canon_ite | apply canon_foldl | simp only [canon_mk] | split)

theorem State.mboxGo_canon {s : State} (h_s : s.canon = true) :
    State.canon (State.mboxGo s) = true := by
  unfold State.mboxGo
  try dsimp only
  with_reducible repeat' (first | assumption | intro _ | apply State.showMbox_canon | apply State.mboxDrain_canon | apply State.fwdGo_canon | apply canon_ite | apply canon_foldl | simp only [canon_mk] | split)

theorem State.mboxTx_canon {s : State} (w : BitVec 64) (h_s : s.canon = true) :
    State.canon (State.mboxTx s w) = true := by
  unfold State.mboxTx
  try dsimp only
  with_reducible repeat' (first | assumption | intro _ | apply State.recErr_canon | apply State.mboxGo_canon | apply State.mapLink_canon | apply canon_ite | apply canon_foldl | simp only [canon_mk] | split)

theorem State.mboxRead_canon {s : State} (path : Path) (h_s : s.canon = true) :
    State.canon (State.mboxRead s path) = true := by
  unfold State.mboxRead
  try dsimp only
  with_reducible repeat' (first | assumption | intro _ | apply State.answerPair_canon | apply State.showMbox_canon | apply State.mapLink_canon | apply State.creditBack_canon | apply canon_ite | apply canon_foldl | simp only [canon_mk] | split)

theorem State.laneFlits_canon {s : State} (p : Nat) (w : Nat → BitVec 64) (h_s : s.canon = true) :
    State.canon (State.laneFlits s p w) = true := by
  unfold State.laneFlits
  try dsimp only
  with_reducible repeat' (first | assumption | intro _ | apply State.emit_canon | apply canon_ite | apply canon_foldl | simp only [canon_mk] | split)

theorem State.portIdle_canon {s : State} (p : Nat) (h_s : s.canon = true) :
    State.canon (State.portIdle s p) = true := by
  unfold State.portIdle
  try dsimp only
  with_reducible repeat' (first | assumption | intro _ | apply State.laneFlits_canon | apply State.setPort_canon | apply canon_ite | apply canon_foldl | simp only [canon_mk] | split)

theorem State.portActive_canon {s : State} (p : Nat) (h_s : s.canon = true) :
    State.canon (State.portActive s p) = true := by
  unfold State.portActive
  try dsimp only
  with_reducible repeat' (first | assumption | intro _ | apply State.mboxGo_canon | apply State.mapLink_canon | apply State.setPort_canon | apply State.portIdle_canon | apply canon_ite | apply canon_foldl | simp only [canon_mk] | split)

theorem State.portDown_canon {s : State} (p : Nat) (cause : Nat) (h_s : s.canon = true) :
    State.canon (State.portDown s p cause) = true := by
  unfold State.portDown
  try dsimp only
  with_reducible repeat' (first | assumption | intro _ | apply State.setPort_canon | apply State.wrF_canon | apply State.mapTime_canon | apply State.parentLoss_canon | apply canon_ite | apply canon_foldl | simp only [canon_mk] | split)

theorem State.lanesSend_canon {s : State} (p what : Nat) (h_s : s.canon = true) :
    State.canon (State.lanesSend s p what) = true := by
  unfold State.lanesSend
  try dsimp only
  with_reducible repeat' (first | assumption | intro _ | apply State.emit_canon | apply canon_ite | apply canon_foldl | simp only [canon_mk] | split)

theorem State.portTrain_canon {s : State} (p : Nat) (h_s : s.canon = true) :
    State.canon (State.portTrain s p) = true := by
  unfold State.portTrain
  try dsimp only
  with_reducible repeat' (first | assumption | intro _ | apply State.mapLink_canon | apply State.wrF_canon | apply State.setPort_canon | apply State.portDown_canon | apply State.lanesSend_canon | apply canon_ite | apply canon_foldl | simp only [canon_mk] | split)

theorem State.portCtrl_canon {s : State} (p : Nat) (v : Word) (h_s : s.canon = true) :
    State.canon (State.portCtrl s p v) = true := by
  unfold State.portCtrl
  try dsimp only
  with_reducible repeat' (first | assumption | intro _ | apply State.recErr_canon | apply State.wr_canon | apply State.portDown_canon | apply State.portTrain_canon | apply State.portIdle_canon | apply canon_ite | apply canon_foldl | simp only [canon_mk] | split)

theorem State.fastExit_canon {s : State} (p : Nat) (h_s : s.canon = true) :
    State.canon (State.fastExit s p) = true := by
  unfold State.fastExit
  try dsimp only
  with_reducible repeat' (first | assumption | intro _ | apply State.count_canon | apply State.setPort_canon | apply State.sendOn_canon | apply State.lanesSend_canon | apply canon_ite | apply canon_foldl | simp only [canon_mk] | split)

theorem State.slipTo_canon {s : State} (n : Nat) (pos : Nat) (h_s : s.canon = true) :
    State.canon (State.slipTo s n pos) = true := by
  unfold State.slipTo
  try dsimp only
  with_reducible repeat' (first | assumption | intro _ | apply State.count_canon | apply State.wrF_canon | apply canon_ite | apply canon_foldl | simp only [canon_mk] | split)

theorem State.sendTrain_canon {s : State} (p : Nat) (ack : Bool) (h_s : s.canon = true) :
    State.canon (State.sendTrain s p ack) = true := by
  unfold State.sendTrain
  try dsimp only
  with_reducible repeat' (first | assumption | intro _ | apply State.draw_canon | apply State.laneFlits_canon | apply canon_ite | apply canon_foldl | simp only [canon_mk] | split)

theorem State.trainDone_canon {s : State} (p : Nat) (vals : List Nat) (dev : Nat) (h_s : s.canon = true) :
    State.canon (State.trainDone s p vals dev) = true := by
  unfold State.trainDone
  try dsimp only
  with_reducible repeat' (first | assumption | intro _ | apply State.setPort_canon | apply State.wrB_canon | apply State.slipTo_canon | apply State.wrF_canon | apply State.portActive_canon | apply State.sendTrain_canon | apply canon_ite | apply canon_foldl | simp only [canon_mk] | split)

theorem State.trainTimeout_canon {s : State} (p : Nat) (alt : Bool) (h_s : s.canon = true) :
    State.canon (State.trainTimeout s p alt) = true := by
  unfold State.trainTimeout
  try dsimp only
  with_reducible repeat' (first | assumption | intro _ | apply State.portDown_canon | apply State.wrB_canon | apply canon_ite | apply canon_foldl | simp only [canon_mk] | split)

theorem State.laneForce_canon {s : State} (n : Nat) (h_s : s.canon = true) :
    State.canon (State.laneForce s n) = true := by
  unfold State.laneForce
  try dsimp only
  with_reducible repeat' (first | assumption | intro _ | apply State.portDown_canon | apply canon_ite | apply canon_foldl | simp only [canon_mk] | split)

theorem State.slip_canon {s : State} (n : Nat) (h_s : s.canon = true) :
    State.canon (State.slip s n) = true := by
  unfold State.slip
  try dsimp only
  with_reducible repeat' (first | assumption | intro _ | apply State.mapLink_canon | apply State.wrB_canon | apply State.slipTo_canon | apply canon_ite | apply canon_foldl | simp only [canon_mk] | split)

theorem State.resume_canon {s : State} (n : Nat) (h_s : s.canon = true) :
    State.canon (State.resume s n) = true := by
  unfold State.resume
  try dsimp only
  with_reducible repeat' (first | assumption | intro _ | apply State.setPort_canon | apply canon_ite | apply canon_foldl | simp only [canon_mk] | split)

theorem State.laneLive_canon {s : State} (n : Nat) (off : Nat) (h_s : s.canon = true) :
    State.canon (State.laneLive s n off) = true := by
  unfold State.laneLive
  try dsimp only
  with_reducible repeat' (first | assumption | intro _ | apply State.draw_canon | apply State.wr_canon | apply canon_ite | apply canon_foldl | simp only [canon_mk] | split)

theorem State.laneCtrl_canon {s0 : State} (n : Nat) (v : Word) (h_s0 : s0.canon = true) :
    State.canon (State.laneCtrl s0 n v) = true := by
  unfold State.laneCtrl
  try dsimp only
  with_reducible repeat' (first | assumption | intro _ | apply State.recErr_canon | apply State.laneForce_canon | apply State.wr_canon | apply State.slip_canon | apply State.resume_canon | apply State.laneLive_canon | apply State.emit_canon | apply canon_ite | apply canon_foldl | simp only [canon_mk] | split)

theorem State.laneInj_canon {s : State} (n : Nat) (v : Word) (h_s : s.canon = true) :
    State.canon (State.laneInj s n v) = true := by
  unfold State.laneInj
  try dsimp only
  with_reducible repeat' (first | assumption | intro _ | apply State.recErr_canon | apply State.wr_canon | apply State.emit_canon | apply State.laneForce_canon | apply canon_ite | apply canon_foldl | simp only [canon_mk] | split)

theorem State.abortArrives_canon {s : State} (port : Nat) (w : BitVec 64) (h_s : s.canon = true) :
    State.canon (State.abortArrives s port w) = true := by
  unfold State.abortArrives
  try dsimp only
  with_reducible repeat' (first | assumption | intro _ | apply State.newCast_canon | apply State.count_canon | apply State.broadcast_canon | apply State.enterHold_canon | apply canon_ite | apply canon_foldl | simp only [canon_mk] | split)

theorem State.trainFlit_canon {s : State} (port : Nat) (w : BitVec 64) (h_s : s.canon = true) :
    State.canon (State.trainFlit s port w) = true := by
  unfold State.trainFlit
  try dsimp only
  with_reducible repeat' (first | assumption | intro _ | apply State.wrF_canon | apply State.mapLink_canon | apply State.sendTrain_canon | apply State.portActive_canon | apply canon_ite | apply canon_foldl | simp only [canon_mk] | split)

theorem State.idleFlit_canon {s : State} (port : Nat) (w : BitVec 64) (h_s : s.canon = true) :
    State.canon (State.idleFlit s port w) = true := by
  unfold State.idleFlit
  try dsimp only
  with_reducible repeat' (first | assumption | intro _ | apply State.mboxGo_canon | apply State.mapLink_canon | apply State.trainFlit_canon | apply canon_ite | apply canon_foldl | simp only [canon_mk] | split)

theorem State.record_canon {s : State} (port : Nat) (phi : Nat) (turn : Nat) (w : BitVec 64) (h_s : s.canon = true) :
    State.canon (State.record s port phi turn w) = true := by
  unfold State.record
  try dsimp only
  with_reducible repeat' (first | assumption | intro _ | apply State.ndeorDecision_canon | apply State.ndeorExport_canon | apply State.abortArrives_canon | apply State.syncReq_canon | apply State.syncResp_canon | apply State.startHi_canon | apply State.startLo_canon | apply State.ping_canon | apply State.pong_canon | apply State.voteArrives_canon | apply State.decideArrives_canon | apply State.outcomeArrives_canon | apply canon_ite | apply canon_foldl | simp only [canon_mk] | split)

theorem State.flitIn_canon {s : State} (port : Nat) (mode : Nat) (dst : Nat) (cls : Nat) (phi : Nat) (turn : Nat) (w : BitVec 64) (h_s : s.canon = true) :
    State.canon (State.flitIn s port mode dst cls phi turn w) = true := by
  unfold State.flitIn
  try dsimp only
  with_reducible repeat' (first | assumption | intro _ | apply State.idleFlit_canon | apply State.count_canon | apply State.bulkIn_canon | apply State.unicast_canon | apply State.record_canon | apply State.mapLink_canon | apply State.mboxGo_canon | apply canon_ite | apply canon_foldl | simp only [canon_mk] | split)

theorem State.badFrame_canon {s : State} (port : Nat) (lane : Nat) (cls : Nat) (h_s : s.canon = true) :
    State.canon (State.badFrame s port lane cls) = true := by
  unfold State.badFrame
  try dsimp only
  with_reducible repeat' (first | assumption | intro _ | apply State.mapLink_canon | apply State.count_canon | apply State.wr_canon | apply State.portDown_canon | apply State.portTrain_canon | apply canon_ite | apply canon_foldl | simp only [canon_mk] | split)

theorem State.goodFrame_canon {s : State} (port : Nat) (lane : Nat) (h_s : s.canon = true) :
    State.canon (State.goodFrame s port lane) = true := by
  unfold State.goodFrame
  try dsimp only
  with_reducible repeat' (first | assumption | intro _ | apply State.mapLink_canon | apply State.wrB_canon | apply canon_ite | apply canon_foldl | simp only [canon_mk] | split)

theorem State.frameIn_canon {s : State} (port lane : Nat) (crc : BitVec 15) (mode dst cls phi turn : Nat) (w : BitVec 64) (h_s : s.canon = true) :
    State.canon (State.frameIn s port lane crc mode dst cls phi turn w) = true := by
  unfold State.frameIn
  try dsimp only
  with_reducible repeat' (first | assumption | intro _ | apply State.count_canon | apply State.flitIn_canon | apply State.goodFrame_canon | apply State.badFrame_canon | apply canon_ite | apply canon_foldl | simp only [canon_mk] | split)

theorem State.mapSec_canon {s : State} (g : Sec → Sec) (h_s : s.canon = true) :
    State.canon (State.mapSec s g) = true := by
  unfold State.mapSec
  try dsimp only
  with_reducible repeat' (first | assumption | intro _ | apply canon_ite | apply canon_foldl | simp only [canon_mk] | split)

theorem State.dropKeys_canon {s : State} (h_s : s.canon = true) : State.canon (s.dropKeys) = true := by
  unfold State.dropKeys
  exact canon_noGddr (canon_foldl _ (State.wr_canon _ _ _ h_s) (fun a x ha => State.wrB_canon _ _ _ _ ha))

theorem State.lcRefuse_canon {s : State} (cause : Nat) (h_s : s.canon = true) :
    State.canon (State.lcRefuse s cause) = true := by
  unfold State.lcRefuse
  try dsimp only
  with_reducible repeat' (first | assumption | intro _ | apply State.recErr_canon | apply canon_ite | apply canon_foldl | simp only [canon_mk] | split)

theorem State.lcStart_canon {s : State} (op : Nat) (key : List Byte) (h_s : s.canon = true) :
    State.canon (State.lcStart s op key) = true := by
  unfold State.lcStart
  try dsimp only
  with_reducible repeat' (first | assumption | intro _ | apply State.count_canon | apply State.mapSec_canon | apply canon_ite | apply canon_foldl | simp only [canon_mk] | split)

theorem State.lcCmd_canon {s : State} (v : Word) (h_s : s.canon = true) :
    State.canon (State.lcCmd s v) = true := by
  unfold State.lcCmd
  try dsimp only
  with_reducible repeat' (first | assumption | intro _ | apply State.lcRefuse_canon | apply State.lcStart_canon | apply State.count_canon | apply State.mapSec_canon | apply State.wrF_canon | apply canon_ite | apply canon_foldl | simp only [canon_mk] | split)

theorem State.lcDone_canon {s : State} (h_s : s.canon = true) :
    State.canon (State.lcDone s) = true := by
  unfold State.lcDone
  try dsimp only
  with_reducible repeat' (first | assumption | intro _ | apply State.mapSec_canon | apply State.wrF_canon | apply State.wrB_canon | apply State.wr_canon | apply State.dropKeys_canon | apply State.flag_canon | apply canon_ite | apply canon_foldl | simp only [canon_mk] | split)

theorem State.newChallenge_canon {s : State} (h_s : s.canon = true) :
    State.canon (State.newChallenge s) = true := by
  unfold State.newChallenge
  try dsimp only
  with_reducible repeat' (first | assumption | intro _ | apply State.draw_canon | apply State.wr64_canon | apply canon_ite | apply canon_foldl | simp only [canon_mk] | split)

theorem State.unlockFail_canon {s : State} (path : Path) (cause : Nat) (h_s : s.canon = true) :
    State.canon (State.unlockFail s path cause) = true := by
  unfold State.unlockFail
  try dsimp only
  with_reducible repeat' (first | assumption | intro _ | apply State.count_canon | apply State.violate_canon | apply State.recErr_canon | apply canon_ite | apply canon_foldl | simp only [canon_mk] | split)

theorem State.debugUnlock_canon {s : State} (path : Path) (h_s : s.canon = true) :
    State.canon (State.debugUnlock s path) = true := by
  unfold State.debugUnlock
  try dsimp only
  with_reducible repeat' (first | assumption | intro _ | apply State.newChallenge_canon | apply State.unlockFail_canon | apply State.sigFail_canon | apply State.count_canon | apply State.mapSec_canon | apply State.wrF_canon | apply State.wrB_canon | apply canon_ite | apply canon_foldl | simp only [canon_mk] | split)

theorem State.debugLock_canon {s : State} (h_s : s.canon = true) :
    State.canon (State.debugLock s) = true := by
  unfold State.debugLock
  try dsimp only
  with_reducible repeat' (first | assumption | intro _ | apply State.wrB_canon | apply canon_ite | apply canon_foldl | simp only [canon_mk] | split)

theorem State.debugCmd_canon {s : State} (path : Path) (v : Word) (h_s : s.canon = true) :
    State.canon (State.debugCmd s path v) = true := by
  unfold State.debugCmd
  try dsimp only
  with_reducible repeat' (first | assumption | intro _ | apply State.debugUnlock_canon | apply State.debugLock_canon | apply canon_ite | apply canon_foldl | simp only [canon_mk] | split)

theorem State.tamper_canon {s : State} (src : Nat) (h_s : s.canon = true) :
    State.canon (State.tamper s src) = true := by
  unfold State.tamper
  try dsimp only
  with_reducible repeat' (first | assumption | intro _ | apply State.enterHold_canon | apply State.dropKeys_canon | apply State.flag_canon | apply State.wrB_canon | apply canon_ite | apply canon_foldl | simp only [canon_mk] | split)

theorem State.frondScrubEnd_canon {s : State} (f : Nat) (h_s : s.canon = true) :
    State.canon (State.frondScrubEnd s f) = true := by
  unfold State.frondScrubEnd
  try dsimp only
  with_reducible repeat' (first | assumption | intro _ | apply State.wrB_canon | apply canon_ite | apply canon_foldl | simp only [canon_mk] | split)

theorem State.granuleScrubEnd_canon {s : State} (k : Nat) (h_s : s.canon = true) :
    State.canon (State.granuleScrubEnd s k) = true := by
  unfold State.granuleScrubEnd
  try dsimp only
  with_reducible repeat' (first | assumption | intro _ | apply State.showTufts_canon | apply State.count_canon | apply State.wrF_canon | apply State.wrB_canon | apply canon_ite | apply canon_foldl | simp only [canon_mk] | split)

theorem State.bar2Miss_canon {s : State} (path : Path) (off : Nat) (write : Bool) (x4 : Bar2) (h_s : s.canon = true) :
    State.canon (State.bar2Miss s path off write x4) = true := by
  unfold State.bar2Miss
  try dsimp only
  with_reducible repeat' (first | assumption | intro _ | apply State.count_canon | apply State.violate_canon | apply canon_ite | apply canon_foldl | simp only [canon_mk] | split)

theorem State.bar2Read_canon {s : State} (path : Path) (off : Nat) (n : Nat) (h_s : s.canon = true) :
    State.canon (State.bar2Read s path off n) = true := by
  unfold State.bar2Read
  try dsimp only
  with_reducible repeat' (first | assumption | intro _ | apply State.emit_canon | apply State.bar2Miss_canon | apply canon_ite | apply canon_foldl | simp only [canon_mk] | split)

theorem State.bar2Write_canon {s : State} (path : Path) (off : Nat) (bytes : List Byte) (h_s : s.canon = true) :
    State.canon (State.bar2Write s path off bytes) = true := by
  unfold State.bar2Write
  try dsimp only
  with_reducible repeat' (first | assumption | intro _ | apply State.count_canon | apply State.gput_canon | apply State.bar2Miss_canon | apply canon_ite | apply canon_foldl | simp only [canon_mk] | split)

theorem State.crcError_canon {s : State} (c : Nat) (kind : CrcKind) (persist : Bool) (h_s : s.canon = true) :
    State.canon (State.crcError s c kind persist) = true := by
  unfold State.crcError
  try dsimp only
  with_reducible repeat' (first | assumption | intro _ | apply State.occur_canon | apply State.count_canon | apply State.ringRefillBad_canon | apply State.setGrp_canon | apply State.emit_canon | apply canon_ite | apply canon_foldl | simp only [canon_mk] | split)

theorem State.spdmReq_canon {s : State} (ver : Nat) (stage : Nat) (k : State → State) (h_s : s.canon = true) (h_k : ∀ t, t.canon = true → (k t).canon = true) :
    State.canon (State.spdmReq s ver stage k) = true := by
  unfold State.spdmReq
  try dsimp only
  with_reducible repeat' (first | assumption | intro _ | apply State.emit_canon | apply h_k | apply canon_ite | apply canon_foldl | simp only [canon_mk] | split)

theorem State.spdmGetVersion_canon {s : State} (h_s : s.canon = true) :
    State.canon (State.spdmGetVersion s) = true := by
  unfold State.spdmGetVersion
  try dsimp only
  with_reducible repeat' (first | assumption | intro _ | apply State.emit_canon | apply State.mapSec_canon | apply canon_ite | apply canon_foldl | simp only [canon_mk] | split)

theorem State.spdmCapabilities_canon {s : State} (ver : Nat) (h_s : s.canon = true) :
    State.canon (State.spdmCapabilities s ver) = true := by
  unfold State.spdmCapabilities
  try dsimp only
  with_reducible repeat' (first | assumption | intro _ | apply State.spdmReq_canon | apply State.emit_canon | apply State.mapSec_canon | apply canon_ite | apply canon_foldl | simp only [canon_mk] | split)

theorem State.spdmAlgorithms_canon {s : State} (ver : Nat) (asym : Nat) (hash : Nat) (dhe : Nat) (aead : Nat) (h_s : s.canon = true) :
    State.canon (State.spdmAlgorithms s ver asym hash dhe aead) = true := by
  unfold State.spdmAlgorithms
  try dsimp only
  with_reducible repeat' (first | assumption | intro _ | apply State.spdmReq_canon | apply State.emit_canon | apply State.mapSec_canon | apply canon_ite | apply canon_foldl | simp only [canon_mk] | split)

theorem State.spdmDigests_canon {s : State} (ver : Nat) (h_s : s.canon = true) :
    State.canon (State.spdmDigests s ver) = true := by
  unfold State.spdmDigests
  try dsimp only
  with_reducible repeat' (first | assumption | intro _ | apply State.spdmReq_canon | apply State.emit_canon | apply canon_ite | apply canon_foldl | simp only [canon_mk] | split)

theorem State.spdmCertificate_canon {s : State} (ver : Nat) (slot : Nat) (off : Nat) (len : Nat) (h_s : s.canon = true) :
    State.canon (State.spdmCertificate s ver slot off len) = true := by
  unfold State.spdmCertificate
  try dsimp only
  with_reducible repeat' (first | assumption | intro _ | apply State.spdmReq_canon | apply State.emit_canon | apply canon_ite | apply canon_foldl | simp only [canon_mk] | split)

theorem State.spdmChallenge_canon {s : State} (ver : Nat) (slot : Nat) (nonce : List Byte) (h_s : s.canon = true) :
    State.canon (State.spdmChallenge s ver slot nonce) = true := by
  unfold State.spdmChallenge
  try dsimp only
  with_reducible repeat' (first | assumption | intro _ | apply State.spdmReq_canon | apply State.emit_canon | apply canon_ite | apply canon_foldl | simp only [canon_mk] | split)

theorem State.spdmMeasurements_canon {s : State} (ver : Nat) (index : Nat) (sign : Bool) (nonce : List Byte) (h_s : s.canon = true) :
    State.canon (State.spdmMeasurements s ver index sign nonce) = true := by
  unfold State.spdmMeasurements
  try dsimp only
  with_reducible repeat' (first | assumption | intro _ | apply State.spdmReq_canon | apply State.emit_canon | apply canon_ite | apply canon_foldl | simp only [canon_mk] | split)

theorem State.spdmKeyExchange_canon {s : State} (ver : Nat) (slot : Nat) (sid : Nat) (pub : List Byte) (h_s : s.canon = true) :
    State.canon (State.spdmKeyExchange s ver slot sid pub) = true := by
  unfold State.spdmKeyExchange
  try dsimp only
  with_reducible repeat' (first | assumption | intro _ | apply State.spdmReq_canon | apply State.emit_canon | apply State.mapSec_canon | apply canon_ite | apply canon_foldl | simp only [canon_mk] | split)

theorem State.spdmFinish_canon {s : State} (ver : Nat) (sid : Nat) (mac : List Byte) (h_s : s.canon = true) :
    State.canon (State.spdmFinish s ver sid mac) = true := by
  unfold State.spdmFinish
  try dsimp only
  with_reducible repeat' (first | assumption | intro _ | apply State.spdmReq_canon | apply State.emit_canon | apply State.mapSec_canon | apply canon_ite | apply canon_foldl | simp only [canon_mk] | split)

theorem State.spdmInSession_canon {s : State} (ver : Nat) (sid : Nat) (k : State → State) (h_s : s.canon = true) (h_k : ∀ t, t.canon = true → (k t).canon = true) :
    State.canon (State.spdmInSession s ver sid k) = true := by
  unfold State.spdmInSession
  try dsimp only
  with_reducible repeat' (first | assumption | intro _ | apply State.spdmReq_canon | apply State.emit_canon | apply h_k | apply canon_ite | apply canon_foldl | simp only [canon_mk] | split)

theorem State.spdmHeartbeat_canon {s : State} (ver : Nat) (sid : Nat) (h_s : s.canon = true) :
    State.canon (State.spdmHeartbeat s ver sid) = true := by
  unfold State.spdmHeartbeat
  try dsimp only
  with_reducible repeat' (first | assumption | intro _ | apply State.spdmInSession_canon | apply State.emit_canon | apply canon_ite | apply canon_foldl | simp only [canon_mk] | split)

theorem State.spdmKeyUpdate_canon {s : State} (ver : Nat) (sid : Nat) (op : Nat) (h_s : s.canon = true) :
    State.canon (State.spdmKeyUpdate s ver sid op) = true := by
  unfold State.spdmKeyUpdate
  try dsimp only
  with_reducible repeat' (first | assumption | intro _ | apply State.spdmInSession_canon | apply State.emit_canon | apply canon_ite | apply canon_foldl | simp only [canon_mk] | split)

theorem State.spdmEnd_canon {s : State} (ver : Nat) (sid : Nat) (h_s : s.canon = true) :
    State.canon (State.spdmEnd s ver sid) = true := by
  unfold State.spdmEnd
  try dsimp only
  with_reducible repeat' (first | assumption | intro _ | apply State.spdmInSession_canon | apply State.emit_canon | apply State.mapSec_canon | apply canon_ite | apply canon_foldl | simp only [canon_mk] | split)

theorem State.modeRefuse_canon {s : State} (cause : Nat) (off : Nat) (h_s : s.canon = true) :
    State.canon (State.modeRefuse s cause off) = true := by
  unfold State.modeRefuse
  try dsimp only
  with_reducible repeat' (first | assumption | intro _ | apply State.flag_canon | apply State.recErr_canon | apply canon_ite | apply canon_foldl | simp only [canon_mk] | split)

theorem State.powerFlush_canon {s : State} (h_s : s.canon = true) :
    State.canon (State.powerFlush s) = true := by
  unfold State.powerFlush
  try dsimp only
  with_reducible repeat' (first | assumption | intro _ | apply State.switchDom_canon | apply State.mapBoot_canon | apply canon_ite | apply canon_foldl | simp only [canon_mk] | split)

theorem State.domains_canon {s : State} (l : List Nat) (on : Bool) (h_s : s.canon = true) :
    State.canon (State.domains s l on) = true := by
  unfold State.domains
  try dsimp only
  with_reducible repeat' (first | assumption | intro _ | apply State.switchDom_canon | apply State.powerFlush_canon | apply State.mapBoot_canon | apply State.powerDue_canon | apply canon_ite | apply canon_foldl | simp only [canon_mk] | split)

theorem State.applyGates_canon {s : State} (h_s : s.canon = true) :
    State.canon (State.applyGates s) = true := by
  unfold State.applyGates
  try dsimp only
  with_reducible repeat' (first | assumption | intro _ | apply State.domains_canon | apply canon_ite | apply canon_foldl | simp only [canon_mk] | split)

theorem State.toReady_canon {s : State} (h_s : s.canon = true) :
    State.canon (State.toReady s) = true := by
  unfold State.toReady
  try dsimp only
  with_reducible repeat' (first | assumption | intro _ | apply State.applyGates_canon | apply State.setMode_canon | apply State.setTarget_canon | apply canon_ite | apply canon_foldl | simp only [canon_mk] | split)

theorem State.runStopped_canon {s : State} (h_s : s.canon = true) :
    State.canon (State.runStopped s) = true := by
  unfold State.runStopped
  try dsimp only
  with_reducible repeat' (first | assumption | intro _ | apply State.toReady_canon | apply State.forceFrom_canon | apply canon_ite | apply canon_foldl | simp only [canon_mk] | split)

theorem State.runStopComplete_canon {s : State} (h_s : s.canon = true) :
    State.canon (State.runStopComplete s) = true := by
  unfold State.runStopComplete
  try dsimp only
  with_reducible repeat' (first | assumption | intro _ | apply State.runStopped_canon | apply canon_ite | apply canon_foldl | simp only [canon_mk] | split)

theorem State.forceFrond_canon {s : State} (f : Nat) (h_s : s.canon = true) :
    State.canon (State.forceFrond s f) = true := by
  unfold State.forceFrond
  try dsimp only
  with_reducible repeat' (first | assumption | intro _ | apply State.setCrz_canon | apply canon_ite | apply canon_foldl | simp only [canon_mk] | split)

theorem State.leaveOpen_canon {s : State} (f : Nat) (h_s : s.canon = true) :
    State.canon (State.leaveOpen s f) = true := by
  unfold State.leaveOpen
  try dsimp only
  with_reducible repeat' (first | assumption | intro _ | apply State.leaveBy_canon | apply canon_ite | apply canon_foldl | simp only [canon_mk] | split)

theorem State.stopExpired_canon {s : State} (h_s : s.canon = true) :
    State.canon (State.stopExpired s) = true := by
  unfold State.stopExpired
  try dsimp only
  with_reducible repeat' (first | assumption | intro _ | apply State.forceFrond_canon | apply State.crzHalt_canon | apply State.mapBoot_canon | apply State.runStopped_canon | apply State.flag_canon | apply State.leaveOpen_canon | apply canon_ite | apply canon_foldl | simp only [canon_mk] | split)

theorem State.stopTimeout_canon {s : State} (h_s : s.canon = true) :
    State.canon (State.stopTimeout s) = true := by
  unfold State.stopTimeout
  try dsimp only
  with_reducible repeat' (first | assumption | intro _ | apply State.stopExpired_canon | apply canon_ite | apply canon_foldl | simp only [canon_mk] | split)

theorem State.modeStart_canon {s : State} (t : Nat) (h_s : s.canon = true) :
    State.canon (State.modeStart s t) = true := by
  unfold State.modeStart
  try dsimp only
  with_reducible repeat' (first | assumption | intro _ | apply State.setTarget_canon | apply State.mapBoot_canon | apply State.stopExpired_canon | apply canon_ite | apply canon_foldl | simp only [canon_mk] | split)

theorem State.modeReq_canon {s : State} (v : Word) (h_s : s.canon = true) :
    State.canon (State.modeReq s v) = true := by
  unfold State.modeReq
  try dsimp only
  with_reducible repeat' (first | assumption | intro _ | apply State.modeRefuse_canon | apply State.enterHold_canon | apply State.modeStart_canon | apply canon_ite | apply canon_foldl | simp only [canon_mk] | split)

theorem State.modeReset_canon {s : State} (v : Word) (h_s : s.canon = true) :
    State.canon (State.modeReset s v) = true := by
  unfold State.modeReset
  try dsimp only
  with_reducible repeat' (first | assumption | intro _ | apply State.modeRefuse_canon | apply State.setTarget_canon | apply canon_ite | apply canon_foldl | simp only [canon_mk] | split)

theorem keepRegs_wf {t : Tab Word} (h : Tab.wf regReset t = true) (mask : Nat → Word) : Tab.wf regReset (keepRegs mask t) = true := by
  rw [Tab.wf_iff] at *
  have hk : ∀ e ∈ keepRegs mask t, (∃ v, (e.1, v) ∈ t) ∧ e.2 ≠ regReset e.1 := by
    intro e he
    simp only [keepRegs, List.mem_filterMap] at he
    obtain ⟨x, hx, hy⟩ := he
    split at hy
    · cases hy
    · next hne => cases hy; exact ⟨⟨x.2, hx⟩, hne⟩
  refine ⟨?_, fun e he => (hk e he).2⟩
  have h1 := h.1
  clear h hk
  induction t with
  | nil => exact List.Pairwise.nil
  | cons x t ih =>
    have h2 := List.pairwise_cons.1 h1
    unfold keepRegs
    rw [List.filterMap_cons]
    dsimp only
    split
    · exact ih h2.2
    · next b hb =>
      refine List.pairwise_cons.2 ⟨fun e he => ?_, ih h2.2⟩
      simp only [List.mem_filterMap] at he
      obtain ⟨y, hy, hz⟩ := he
      have hy1 := h2.1 y hy
      split at hz
      · cases hz
      · split at hb
        · cases hb
        · cases hz; cases hb; exact hy1

theorem State.cleared_canon {s : State} (mask : Nat → Word) (boot : Boot) (h_s : s.canon = true) :
    State.canon (s.cleared mask boot) = true := by
  unfold State.cleared
  refine State.newChallenge_canon ?_
  rw [canon_iff] at *
  exact ⟨keepRegs_wf h_s.1 mask, rfl, rfl, rfl, rfl, rfl, rfl, rfl⟩

theorem State.domainsOff_canon {s : State} (h_s : s.canon = true) :
    State.canon (State.domainsOff s) = true := by
  unfold State.domainsOff
  try dsimp only
  with_reducible repeat' (first | assumption | intro _ | apply State.wr_canon | apply State.wrB_canon | apply canon_ite | apply canon_foldl | simp only [canon_mk] | split)

theorem State.warmClear_canon {s : State} (h_s : s.canon = true) :
    State.canon (State.warmClear s) = true := by
  unfold State.warmClear
  try dsimp only
  with_reducible repeat' (first | assumption | intro _ | apply State.wrB_canon | apply State.domainsOff_canon | apply State.cleared_canon | apply canon_ite | apply canon_foldl | simp only [canon_mk] | split)

theorem State.pinReset_canon {s0 : State} (h_s0 : s0.canon = true) :
    State.canon (State.pinReset s0) = true := by
  unfold State.pinReset
  try dsimp only
  with_reducible repeat' (first | assumption | intro _ | apply State.burnCut_canon | apply State.cleared_canon | apply canon_ite | apply canon_foldl | simp only [canon_mk] | split)

theorem State.supplyReset_canon {s0 : State} (h_s0 : s0.canon = true) :
    State.canon (State.supplyReset s0) = true := by
  unfold State.supplyReset
  try dsimp only
  with_reducible repeat' (first | assumption | intro _ | apply State.burnCut_canon | apply State.cleared_canon | apply State.wrF_canon | apply canon_ite | apply canon_foldl | simp only [canon_mk] | split)

theorem State.pgoodLost_canon {s : State} (d : Nat) (h_s : s.canon = true) :
    State.canon (State.pgoodLost s d) = true := by
  unfold State.pgoodLost
  try dsimp only
  with_reducible repeat' (first | assumption | intro _ | apply State.fatal_canon | apply State.wrB_canon | apply canon_ite | apply canon_foldl | simp only [canon_mk] | split)

theorem State.lockPowerOff_canon {s : State} (h_s : s.canon = true) :
    State.canon (State.lockPowerOff s) = true := by
  unfold State.lockPowerOff
  try dsimp only
  with_reducible repeat' (first | assumption | intro _ | apply State.portDown_canon | apply State.domains_canon | apply canon_ite | apply canon_foldl | simp only [canon_mk] | split)

theorem State.unlockNow_canon {s : State} (ref : Bool) (h_s : s.canon = true) :
    State.canon (State.unlockNow s ref) = true := by
  unfold State.unlockNow
  try dsimp only
  with_reducible repeat' (first | assumption | intro _ | apply State.csUnlock_canon | apply State.flag_canon | apply State.setGrp_canon | apply State.enterHold_canon | apply State.wrB_canon | apply State.setCrz_canon | apply State.crzHalt_canon | apply State.powerFlush_canon | apply State.forceNow_canon | apply canon_ite | apply canon_foldl | simp only [canon_mk] | split)

theorem State.relock_canon {s : State} (h_s : s.canon = true) :
    State.canon (State.relock s) = true := by
  unfold State.relock
  try dsimp only
  with_reducible repeat' (first | assumption | intro _ | apply State.clearMap_canon | apply State.wrF_canon | apply State.mapTime_canon | apply State.beatTick_canon | apply canon_ite | apply canon_foldl | simp only [canon_mk] | split)

theorem State.tuftAbort_canon {s : State} (t : Nat) (fn : Nat) (h_s : s.canon = true) :
    State.canon (State.tuftAbort s t fn) = true := by
  unfold State.tuftAbort
  try dsimp only
  with_reducible repeat' (first | assumption | intro _ | apply State.idlePlayers_canon | apply State.abandonTo_canon | apply State.emptySlots_canon | apply State.flag_canon | apply State.biasClear_canon | apply State.forceFrond_canon | apply State.abortStat_canon | apply State.tuftAborts_canon | apply State.crzDrop_canon | apply State.clearFrames_canon | apply canon_ite | apply canon_foldl | simp only [canon_mk] | split)

theorem State.abortBell_canon {s : State} (fn : Fin 32) (v : Word) (h_s : s.canon = true) :
    State.canon (State.abortBell s fn v) = true := by
  unfold State.abortBell
  try dsimp only
  with_reducible repeat' (first | assumption | intro _ | apply State.enterHold_canon | apply State.tuftAbort_canon | apply State.count_canon | apply State.violate_canon | apply canon_ite | apply canon_foldl | simp only [canon_mk] | split)

theorem State.clearLatches_canon {s : State} (fn : Fin 32) (h_s : s.canon = true) :
    State.canon (State.clearLatches s fn) = true := by
  unfold State.clearLatches
  try dsimp only
  with_reducible repeat' (first | assumption | intro _ | apply State.setQ_canon | apply canon_ite | apply canon_foldl | simp only [canon_mk] | split)

theorem State.flr_canon {s : State} (fn : Fin 32) (h_s : s.canon = true) :
    State.canon (State.flr s fn) = true := by
  unfold State.flr
  try dsimp only
  with_reducible repeat' (first | assumption | intro _ | apply State.clearLatches_canon | apply State.pathReset_canon | apply State.acqLinkStop_canon | apply canon_ite | apply canon_foldl | simp only [canon_mk] | split)

theorem State.perst_canon {s : State} (h_s : s.canon = true) :
    State.canon (State.perst s) = true := by
  unfold State.perst
  try dsimp only
  with_reducible repeat' (first | assumption | intro _ | apply State.clearLatches_canon | apply State.pathReset_canon | apply State.acqLinkStop_canon | apply State.wr_canon | apply canon_ite | apply canon_foldl | simp only [canon_mk] | split)

theorem State.hostSetup_canon {s : State} (relaxed : Bool) (masked : List (Nat × Nat)) (h_s : s.canon = true) :
    State.canon (State.hostSetup s relaxed masked) = true := by
  unfold State.hostSetup
  try dsimp only
  with_reducible repeat' (first | assumption | intro _ | apply State.msix_canon | apply canon_ite | apply canon_foldl | simp only [canon_mk] | split)

theorem State.pcieUp_canon {s : State} (width : Nat) (up : PcieUp) (h_s : s.canon = true) :
    State.canon (State.pcieUp s width up) = true := by
  unfold State.pcieUp
  try dsimp only
  with_reducible repeat' (first | assumption | intro _ | apply State.acqLinkUp_canon | apply State.wr_canon | apply State.hostSetup_canon | apply canon_ite | apply canon_foldl | simp only [canon_mk] | split)

theorem State.domGate_canon {s : State} (v : Word) (h_s : s.canon = true) :
    State.canon (State.domGate s v) = true := by
  unfold State.domGate
  try dsimp only
  with_reducible repeat' (first | assumption | intro _ | apply State.wr_canon | apply State.recErr_canon | apply State.applyGates_canon | apply canon_ite | apply canon_foldl | simp only [canon_mk] | split)

theorem State.logCtrl_canon {s : State} (v : Word) (h_s : s.canon = true) :
    State.canon (State.logCtrl s v) = true := by
  unfold State.logCtrl
  try dsimp only
  with_reducible repeat' (first | assumption | intro _ | apply State.wr_canon | apply State.mirrorLog_canon | apply canon_ite | apply canon_foldl | simp only [canon_mk] | split)

theorem State.setBand_canon {s : State} (lo : Nat) (new : Nat) (h_s : s.canon = true) :
    State.canon (State.setBand s lo new) = true := by
  unfold State.setBand
  try dsimp only
  with_reducible repeat' (first | assumption | intro _ | apply State.count_canon | apply State.flag_canon | apply State.wrF_canon | apply canon_ite | apply canon_foldl | simp only [canon_mk] | split)

theorem State.thermBands_canon {s : State} (h_s : s.canon = true) :
    State.canon (State.thermBands s) = true := by
  unfold State.thermBands
  try dsimp only
  with_reducible repeat' (first | assumption | intro _ | apply State.setBand_canon | apply State.wr_canon | apply State.bandSet_canon | apply canon_ite | apply canon_foldl | simp only [canon_mk] | split)

theorem State.setStretch_canon {s : State} (f : Nat) (h_s : s.canon = true) :
    State.canon (State.setStretch s f) = true := by
  unfold State.setStretch
  try dsimp only
  with_reducible repeat' (first | assumption | intro _ | apply State.wrF_canon | apply canon_ite | apply canon_foldl | simp only [canon_mk] | split)

theorem canon_therm {s : State} (x : Therm) (h : s.canon = true) : State.canon { s with therm := x } = true := h

theorem State.thermEval_canon {s : State} (h_s : s.canon = true) : State.canon s.thermEval = true := by
  unfold State.thermEval
  split
  · exact h_s
  · extract_lets s1 s2 s3 warn s4 thr s5 f s6 hot th s7
    have h1 : s1.canon = true := State.wr_canon _ _ _ h_s
    have h2 : s2.canon = true := canon_ite (State.wr_canon _ _ _ h1) h1
    have h3 : s3.canon = true := State.thermBands_canon h2
    have h4 : s4.canon = true := canon_ite (State.count_canon _ _ _ (State.flag_canon _ _ (State.wrB_canon _ _ _ _ h3)))
      (canon_ite (State.wrB_canon _ _ _ _ h3) h3)
    have h5 : s5.canon = true := canon_ite (State.count_canon _ _ _ (State.flag_canon _ _ (State.wrB_canon _ _ _ _ h4)))
      (canon_ite (State.wrB_canon _ _ _ _ h4) h4)
    have h6 : s6.canon = true := State.wrB_canon _ _ _ _ (State.setStretch_canon _ h5)
    have h7 : s7.canon = true := canon_therm _ h6
    exact canon_ite h3 (canon_ite (State.enterHold_canon _ h7) h7)

theorem State.thermStart_canon {s : State} (h_s : s.canon = true) : State.canon s.thermStart = true := by
  unfold State.thermStart
  exact canon_therm _ (canon_foldl _ (canon_foldl _ h_s (fun a i ha => State.wr_canon _ _ _ ha))
    (fun a i ha => State.wr_canon _ _ _ (State.draw_canon ha)))

theorem State.modelStep_canon {s : State} (nodes : List Int) (h_s : s.canon = true) : State.canon (s.modelStep nodes) = true := by
  unfold State.modelStep
  exact canon_ite h_s (State.thermEval_canon (canon_foldl _ (State.draw_canon h_s) (fun a x ha => State.wr_canon _ _ _ ha)))

theorem canon_diodeMark (s : State) (i : Nat) (h_s : s.canon = true) :
    State.canon (
      let c := { s with therm := { s.therm with late := mset s.therm.late i } }
      if (dieDiodes (dieOf i)).all (fun j => c.rdB pDiode (0x100 + 4 * j) 30) then c.flag pTherm 4 else c) = true :=
  canon_ite (State.flag_canon _ _ (canon_therm _ h_s)) (canon_therm _ h_s)

theorem canon_diodeJudge (v : State) (i : Nat) (h : v.canon = true) :
    State.canon (
      if !v.therm.running then v
      else match v.deviates i with
        | none => v
        | some false => v.wrF pDiode (0x100 + 4 * i) 17 16 0
        | some true =>
          if v.rdF pDiode (0x100 + 4 * i) 17 16 < 3 then v.wrF pDiode (0x100 + 4 * i) 17 16 (v.rdF pDiode (0x100 + 4 * i) 17 16 + 1)
          else
            let b := (((v.wrB pDiode (0x100 + 4 * i) 31 false).wrB pDiode (0x100 + 4 * i) 30 true).flag pTherm 2).count pTherm 3 1
            let c := { b with therm := { b.therm with late := mset b.therm.late i } }
            if (dieDiodes (dieOf i)).all (fun j => c.rdB pDiode (0x100 + 4 * j) 30) then c.flag pTherm 4 else c) = true := by
  refine canon_ite h ?_
  split
  · exact h
  · exact State.wrF_canon _ _ _ _ _ h
  · exact canon_ite (State.wrF_canon _ _ _ _ _ h) (canon_diodeMark _ _ (State.count_canon _ _ _ (State.flag_canon _ _
      (State.wrB_canon _ _ _ _ (State.wrB_canon _ _ _ _ h)))))

theorem State.diodeReading_canon {s : State} (i : Nat) (t : BitVec 16) (h_s : s.canon = true) :
    State.canon (s.diodeReading i t) = true := by
  unfold State.diodeReading
  have h4 : ∀ s2 : State, s2.canon = true → State.canon (if i = 39 ∧ !s2.therm.running then s2.thermEval else s2) = true :=
    fun s2 h => canon_ite (State.thermEval_canon h) h
  have h5 : ∀ s1 : State, s1.canon = true → State.canon (if s1.rdB pDiode (0x100 + 4 * i) 30 then s1 else
      let v := s1.wrB pDiode (0x100 + 4 * i) 31 true
      if !v.therm.running then v
      else match v.deviates i with
        | none => v
        | some false => v.wrF pDiode (0x100 + 4 * i) 17 16 0
        | some true =>
          if v.rdF pDiode (0x100 + 4 * i) 17 16 < 3 then v.wrF pDiode (0x100 + 4 * i) 17 16 (v.rdF pDiode (0x100 + 4 * i) 17 16 + 1)
          else
            let b := (((v.wrB pDiode (0x100 + 4 * i) 31 false).wrB pDiode (0x100 + 4 * i) 30 true).flag pTherm 2).count pTherm 3 1
            let c := { b with therm := { b.therm with late := mset b.therm.late i } }
            if (dieDiodes (dieOf i)).all (fun j => c.rdB pDiode (0x100 + 4 * j) 30) then c.flag pTherm 4 else c) = true :=
    fun s1 h => canon_ite h (canon_diodeJudge _ i (State.wrB_canon _ _ _ _ h))
  exact canon_ite h_s (h4 _ (h5 _ (State.wrF_canon _ _ _ _ _ (canon_therm _ h_s))))

theorem State.diodeCmd_canon {s : State} (v : Word) (h_s : s.canon = true) : State.canon (s.diodeCmd v) = true := by
  unfold State.diodeCmd
  refine canon_ite (State.recErr_canon _ _ _ h_s) (canon_ite (canon_therm _ ?_) h_s)
  exact State.wrB_canon _ _ _ _ (State.wrF_canon _ _ _ _ _ (State.wrB_canon _ _ _ _ h_s))

theorem State.powerSample_canon {s : State} (p : List (BitVec 16)) (h_s : s.canon = true) :
    State.canon (State.powerSample s p) = true := by
  unfold State.powerSample
  try dsimp only
  with_reducible repeat' (first | assumption | intro _ | apply State.wr_canon | apply canon_ite | apply canon_foldl | simp only [canon_mk] | split)

theorem State.refresh_canon {s : State} (temps : List (Option (BitVec 16))) (h_s : s.canon = true) :
    State.canon (State.refresh s temps) = true := by
  unfold State.refresh
  try dsimp only
  with_reducible repeat' (first | assumption | intro _ | apply State.wrF_canon | apply State.setBand_canon | apply canon_ite | apply canon_foldl | simp only [canon_mk] | split)

theorem State.snapCounters_canon {s : State} (p : Nat) (h_s : s.canon = true) :
    State.canon (State.snapCounters s p) = true := by
  unfold State.snapCounters
  try dsimp only
  with_reducible repeat' (first | assumption | intro _ | apply State.wr64_canon | apply canon_ite | apply canon_foldl | simp only [canon_mk] | split)

theorem State.cntCmd_canon {s : State} (p : Nat) (v : Word) (b : Nat) (h_s : s.canon = true) :
    State.canon (State.cntCmd s p v b) = true := by
  unfold State.cntCmd
  try dsimp only
  with_reducible repeat' (first | assumption | intro _ | apply State.recErr_canon | apply State.snapCounters_canon | apply State.at_canon | apply canon_ite | apply canon_foldl | simp only [canon_mk] | split)

theorem State.failSet_canon {s : State} (step : Nat) (unit : Nat) (failed : Bool) (h_s : s.canon = true) :
    State.canon (State.failSet s step unit failed) = true := by
  unfold State.failSet
  try dsimp only
  with_reducible repeat' (first | assumption | intro _ | apply State.wrF_canon | apply canon_ite | apply canon_foldl | simp only [canon_mk] | split)

theorem State.phyOff_canon {s : State} (step : Nat) (h_s : s.canon = true) :
    State.canon (State.phyOff s step) = true := by
  unfold State.phyOff
  try dsimp only
  with_reducible repeat' (first | assumption | intro _ | apply State.domains_canon | apply canon_ite | apply canon_foldl | simp only [canon_mk] | split)

theorem State.fence_canon {s : State} (step u : Nat) (late : Bool) (h_s : s.canon = true) :
    State.canon (State.fence s step u late) = true := by
  unfold State.fence
  try dsimp only
  with_reducible repeat' (first | assumption | intro _ | apply State.mapBoot_canon | apply State.domains_canon | apply State.phyOff_canon | apply State.setPort_canon | apply State.portDown_canon | apply canon_ite | apply canon_foldl | simp only [canon_mk] | split)

theorem State.fenceForced_canon {s : State} (step : Nat) (u : Nat) (t : Nat) (h_s : s.canon = true) :
    State.canon (State.fenceForced s step u t) = true := by
  unfold State.fenceForced
  try dsimp only
  with_reducible repeat' (first | assumption | intro _ | apply State.fence_canon | apply State.bootLog_canon | apply canon_ite | apply canon_foldl | simp only [canon_mk] | split)

theorem State.stepOn_canon {s : State} (n : Nat) (h_s : s.canon = true) :
    State.canon (State.stepOn s n) = true := by
  unfold State.stepOn
  try dsimp only
  with_reducible repeat' (first | assumption | intro _ | apply State.domains_canon | apply State.startRun_canon | apply State.hkCalStart_canon | apply State.wrB_canon | apply State.portTrain_canon | apply canon_ite | apply canon_foldl | simp only [canon_mk] | split)

theorem State.startStep_canon {s : State} (n : Nat) (t : Nat) (h_s : s.canon = true) :
    State.canon (State.startStep s n t) = true := by
  unfold State.startStep
  try dsimp only
  with_reducible repeat' (first | assumption | intro _ | apply State.mapBoot_canon | apply State.wrF_canon | apply State.stepOn_canon | apply State.fenceForced_canon | apply canon_ite | apply canon_foldl | simp only [canon_mk] | split)

theorem State.enterBoot_canon {s : State} (h_s : s.canon = true) :
    State.canon (State.enterBoot s) = true := by
  unfold State.enterBoot
  try dsimp only
  with_reducible repeat' (first | assumption | intro _ | apply State.wr_canon | apply State.mapBoot_canon | apply State.startStep_canon | apply State.wrB_canon | apply State.setMode_canon | apply canon_ite | apply canon_foldl | simp only [canon_mk] | split)

theorem State.bootNow_canon {s : State} (t : Nat) (h_s : s.canon = true) :
    State.canon (State.bootNow s t) = true := by
  unfold State.bootNow
  try dsimp only
  with_reducible repeat' (first | assumption | intro _ | apply State.mapBoot_canon | apply canon_ite | apply canon_foldl | simp only [canon_mk] | split)

theorem State.bootStop_canon {s : State} (step : Nat) (cause : Nat) (t : Nat) (detail : Nat) (h_s : s.canon = true) :
    State.canon (State.bootStop s step cause t detail) = true := by
  unfold State.bootStop
  try dsimp only
  with_reducible repeat' (first | assumption | intro _ | apply State.bootLog_canon | apply State.enterHold_canon | apply State.bootEnd_canon | apply State.bootNow_canon | apply canon_ite | apply canon_foldl | simp only [canon_mk] | split)

theorem State.bootReady_canon {s : State} (t : Nat) (h_s : s.canon = true) :
    State.canon (State.bootReady s t) = true := by
  unfold State.bootReady
  try dsimp only
  with_reducible repeat' (first | assumption | intro _ | apply State.applyGates_canon | apply State.setMode_canon | apply State.bootEnd_canon | apply canon_ite | apply canon_foldl | simp only [canon_mk] | split)

theorem State.bootNext_canon {s : State} (step : Nat) (t : Nat) (h_s : s.canon = true) :
    State.canon (State.bootNext s step t) = true := by
  unfold State.bootNext
  try dsimp only
  with_reducible repeat' (first | assumption | intro _ | apply State.bootReady_canon | apply State.startStep_canon | apply canon_ite | apply canon_foldl | simp only [canon_mk] | split)

theorem State.restoreLog_canon {s : State} (bad : Bool) (h_s : s.canon = true) :
    State.canon (State.restoreLog s bad) = true := by
  unfold State.restoreLog
  try dsimp only
  with_reducible repeat' (first | assumption | intro _ | apply State.mapBoot_canon | apply State.wrB_canon | apply State.wr_canon | apply State.wrF_canon | apply canon_ite | apply canon_foldl | simp only [canon_mk] | split)

theorem State.stepDone_canon {s : State} (step : Nat) (r : BootRes) (h_s : s.canon = true) :
    State.canon (State.stepDone s step r) = true := by
  unfold State.stepDone
  try dsimp only
  with_reducible repeat' (first | assumption | intro _ | apply State.loadBaseline_canon | apply State.restoreLog_canon | apply State.wrB_canon | apply State.wrF_canon | apply State.wr_canon | apply State.pcieUp_canon | apply State.mapSec_canon | apply State.mapBoot_canon | apply State.thermStart_canon | apply canon_ite | apply canon_foldl | simp only [canon_mk] | split)

theorem State.stepPass_canon {s : State} (step : Nat) (r : BootRes) (h_s : s.canon = true) :
    State.canon (State.stepPass s step r) = true := by
  unfold State.stepPass
  try dsimp only
  with_reducible repeat' (first | assumption | intro _ | apply State.bootLog_canon | apply State.failSet_canon | apply State.bootNext_canon | apply State.stepDone_canon | apply State.bootNow_canon | apply canon_ite | apply canon_foldl | simp only [canon_mk] | split)

theorem State.stepFences_canon {s : State} (step : Nat) (bad : List BootUnit) (h_s : s.canon = true) :
    State.canon (State.stepFences s step bad) = true := by
  unfold State.stepFences
  try dsimp only
  with_reducible repeat' (first | assumption | intro _ | apply State.fence_canon | apply State.bootLog_canon | apply State.failSet_canon | apply canon_ite | apply canon_foldl | simp only [canon_mk] | split)

theorem State.hkLock_canon {s : State} (step cause : Nat) (h_s : s.canon = true) :
    State.canon (State.hkLock s step cause) = true := by
  unfold State.hkLock
  try dsimp only
  with_reducible repeat' (first | assumption | intro _ | apply State.draw_canon | apply State.wrB_canon | apply canon_ite | apply canon_foldl | simp only [canon_mk] | split)

theorem State.stepEnds_canon {s0 : State} (r : BootRes) (h_s0 : s0.canon = true) :
    State.canon (State.stepEnds s0 r) = true := by
  unfold State.stepEnds
  try dsimp only
  with_reducible repeat' (first | assumption | intro _ | apply State.stepPass_canon | apply State.mapBoot_canon | apply State.stepFences_canon | apply State.sigFail_canon | apply State.failSet_canon | apply State.bootStop_canon | apply State.hkLock_canon | apply State.bootNow_canon | apply State.wrF_canon | apply canon_ite | apply canon_foldl | simp only [canon_mk] | split)

theorem State.stepTimeout_canon {s : State} (t : Nat) (units : List Nat) (h_s : s.canon = true) :
    State.canon (State.stepTimeout s t units) = true := by
  unfold State.stepTimeout
  try dsimp only
  with_reducible repeat' (first | assumption | intro _ | apply State.stepEnds_canon | apply canon_ite | apply canon_foldl | simp only [canon_mk] | split)

theorem State.wake_canon {s : State} (h_s : s.canon = true) :
    State.canon (State.wake s) = true := by
  unfold State.wake
  try dsimp only
  with_reducible repeat' (first | assumption | intro _ | apply State.mapBoot_canon | apply State.enterBoot_canon | apply canon_ite | apply canon_foldl | simp only [canon_mk] | split)

theorem State.powerOn_canon {s : State} (h_s : s.canon = true) :
    State.canon (State.powerOn s) = true := by
  unfold State.powerOn
  try dsimp only
  with_reducible repeat' (first | assumption | intro _ | apply State.wrB_canon | apply State.mapBoot_canon | apply State.wake_canon | apply canon_ite | apply canon_foldl | simp only [canon_mk] | split)

theorem State.leaveHold_canon {s : State} (h_s : s.canon = true) :
    State.canon (State.leaveHold s) = true := by
  unfold State.leaveHold
  try dsimp only
  with_reducible repeat' (first | assumption | intro _ | apply State.wrF_canon | apply State.wr_canon | apply canon_ite | apply canon_foldl | simp only [canon_mk] | split)

theorem State.modeDone_canon {s : State} (h_s : s.canon = true) : State.canon s.modeDone = true := by
  unfold State.modeDone
  split
  · have h1 := State.forceFrom_canon (s.beat + 24) true (State.setMode_canon 3 (State.abortRuns_canon (State.setTarget_canon none h_s)))
    exact State.mapBoot_canon _ (canon_foldl _ h1 (fun a f ha => State.setCrz_canon _ _ ha))
  · exact State.svcStart_canon (canon_pins _ (State.setMode_canon _ (State.modeAborts_canon _ (State.setTarget_canon _ h_s))))
  · refine canon_ite h_s (canon_ite (State.toReady_canon (canon_pins _ (State.svcEnd_canon h_s))) ?_)
    exact State.toReady_canon (State.leaveHold_canon h_s)
  · exact State.warmClear_canon (State.setMode_canon _ (State.mirrorLog_canon h_s))
  · exact State.enterBoot_canon (State.warmClear_canon h_s)
  · exact h_s

theorem execSwpulse_canon (path : Path) (p : Fin 16) (j : Fin 2) (v : Word) {s : State} (h_s : s.canon = true) :
    outCanon (execSwpulse path p j v s) := by
  unfold execSwpulse
  try dsimp only
  with_reducible repeat' (first | assumption | intro _ | apply outCanon_next | apply State.swPulse_canon | apply State.rowWrite_canon | apply canon_ite | apply canon_foldl | simp only [canon_mk] | split)

theorem execChannelEvent_canon (b : Nat) (c : Fin 1024) {s : State} (h_s : s.canon = true) :
    outCanon (execChannelEvent b c s) := by
  unfold execChannelEvent
  try dsimp only
  with_reducible repeat' (first | assumption | intro _ | apply outCanon_next | apply State.at_canon | apply State.channelEvent_canon | apply canon_ite | apply canon_foldl | simp only [canon_mk] | split)

theorem State.stbSw_canon {s : State} (v : Word) (h_s : s.canon = true) :
    State.canon (State.stbSw s v) = true := by
  unfold State.stbSw
  try dsimp only
  with_reducible repeat' (first | assumption | intro _ | apply State.strobe_canon | apply canon_ite | apply canon_foldl | simp only [canon_mk] | split)

theorem execStbSw_canon (path : Path) (v : BitVec 8) {s : State} (h_s : s.canon = true) :
    outCanon (execStbSw path v s) := by
  unfold execStbSw
  try dsimp only
  with_reducible repeat' (first | assumption | intro _ | apply outCanon_next | apply State.stbSw_canon | apply State.rowWrite_canon | apply canon_ite | apply canon_foldl | simp only [canon_mk] | split)

theorem execLdacN_canon (b : Nat) (k : Fin 4) {s : State} (h_s : s.canon = true) :
    outCanon (execLdacN b k s) := by
  unfold execLdacN
  try dsimp only
  with_reducible repeat' (first | assumption | intro _ | apply outCanon_next | apply State.at_canon | apply State.strobe_canon | apply canon_ite | apply canon_foldl | simp only [canon_mk] | split)

theorem execStrobeLoad_canon (h : Nat) (n : Fin 8) {s : State} (h_s : s.canon = true) :
    outCanon (execStrobeLoad h n s) := by
  unfold execStrobeLoad
  try dsimp only
  with_reducible repeat' (first | assumption | intro _ | apply outCanon_next | apply State.strobeLoad_canon | apply State.hkTo_canon | apply canon_ite | apply canon_foldl | simp only [canon_mk] | split)

theorem State.winEvent_canon {s : State} (w b : Nat) (levels : List (Option Nat)) (ph : Bool) (h_s : s.canon = true) :
    State.canon (State.winEvent s w b levels ph) = true := by
  unfold State.winEvent
  try dsimp only
  with_reducible repeat' (first | assumption | intro _ | apply State.winSet_canon | apply State.winRun_canon | apply canon_ite | apply canon_foldl | simp only [canon_mk] | split)

theorem execWindowBecomesSet_canon (b h : Nat) (w : Fin 16) (levels : List (Option Nat)) (ph : Bool) {s : State} (h_s : s.canon = true) :
    outCanon (execWindowBecomesSet b h w levels ph s) := by
  unfold execWindowBecomesSet
  try dsimp only
  with_reducible repeat' (first | assumption | intro _ | apply outCanon_next | apply State.hkTo_canon | apply State.at_canon | apply State.winEvent_canon | apply canon_ite | apply canon_foldl | simp only [canon_mk] | split)

theorem execWinmonResolve_canon (b h : Nat) (w : Fin 16) (levels : List (Option Nat)) (ph : Bool) {s : State} (h_s : s.canon = true) :
    outCanon (execWinmonResolve b h w levels ph s) := by
  unfold execWinmonResolve
  try dsimp only
  with_reducible repeat' (first | assumption | intro _ | apply outCanon_next | apply State.hkTo_canon | apply State.at_canon | apply State.winEvent_canon | apply canon_ite | apply canon_foldl | simp only [canon_mk] | split)

theorem execWinmonEnable_canon (path : Path) (w : Fin 16) (v : Word) {s : State} (h_s : s.canon = true) :
    outCanon (execWinmonEnable path w v s) := by
  unfold execWinmonEnable
  try dsimp only
  with_reducible repeat' (first | assumption | intro _ | apply outCanon_next | apply State.winCfg_canon | apply State.rowWrite_canon | apply canon_ite | apply canon_foldl | simp only [canon_mk] | split)

theorem execThermoExc_canon (path : Path) (h : Nat) (c : Fin 16) (v : Word) {s : State} (h_s : s.canon = true) :
    outCanon (execThermoExc path h c v s) := by
  unfold execThermoExc
  try dsimp only
  with_reducible repeat' (first | assumption | intro _ | apply outCanon_next | apply State.hkTo_canon | apply State.thExc_canon | apply State.rowWrite_canon | apply canon_ite | apply canon_foldl | simp only [canon_mk] | split)

theorem execThermoResult_canon (h : Nat) (c : Fin 16) (m : ThermoMeas) {s : State} (h_s : s.canon = true) :
    outCanon (execThermoResult h c m s) := by
  unfold execThermoResult
  try dsimp only
  with_reducible repeat' (first | assumption | intro _ | apply outCanon_next | apply State.hkTo_canon | apply State.thermoResult_canon | apply canon_ite | apply canon_foldl | simp only [canon_mk] | split)

theorem execPolarityReversal_canon (h : Nat) (c : Fin 16) {s : State} (h_s : s.canon = true) :
    outCanon (execPolarityReversal h c s) := by
  unfold execPolarityReversal
  try dsimp only
  with_reducible repeat' (first | assumption | intro _ | apply outCanon_next | apply State.thReverse_canon | apply State.hkTo_canon | apply canon_ite | apply canon_foldl | simp only [canon_mk] | split)

theorem execHkConversion_canon (h : Nat) (x : Option Int) {s : State} (h_s : s.canon = true) :
    outCanon (execHkConversion h x s) := by
  unfold execHkConversion
  try dsimp only
  with_reducible repeat' (first | assumption | intro _ | apply outCanon_next | apply State.conversion_canon | apply State.hkTo_canon | apply canon_ite | apply canon_foldl | simp only [canon_mk] | split)

theorem State.hkadcCmd_canon {s : State} (v : Word) (h_s : s.canon = true) :
    State.canon (State.hkadcCmd s v) = true := by
  unfold State.hkadcCmd
  try dsimp only
  with_reducible repeat' (first | assumption | intro _ | apply State.injRequest_canon | apply canon_ite | apply canon_foldl | simp only [canon_mk] | split)

theorem execHkInject_canon (path : Path) (h : Nat) (key : BitVec 16) {s : State} (h_s : s.canon = true) :
    outCanon (execHkInject path h key s) := by
  unfold execHkInject
  try dsimp only
  with_reducible repeat' (first | assumption | intro _ | apply outCanon_next | apply State.hkTo_canon | apply State.hkadcCmd_canon | apply State.rowWrite_canon | apply canon_ite | apply canon_foldl | simp only [canon_mk] | split)

theorem execTimerPeriod_canon (h : Nat) (n : Fin 4) {s : State} (h_s : s.canon = true) :
    outCanon (execTimerPeriod h n s) := by
  unfold execTimerPeriod
  try dsimp only
  with_reducible repeat' (first | assumption | intro _ | apply outCanon_next | apply State.timerPeriod_canon | apply State.hkTo_canon | apply canon_ite | apply canon_foldl | simp only [canon_mk] | split)

theorem State.clrAssert_canon {s : State} (b : Nat) (h_s : s.canon = true) :
    State.canon (State.clrAssert s b) = true := by
  unfold State.clrAssert
  try dsimp only
  with_reducible repeat' (first | assumption | intro _ | apply State.flag_canon | apply State.biasClearAll_canon | apply canon_ite | apply canon_foldl | simp only [canon_mk] | split)

theorem execClrNAssert_canon (b : Nat) {s : State} (h_s : s.canon = true) :
    outCanon (execClrNAssert b s) := by
  unfold execClrNAssert
  try dsimp only
  with_reducible repeat' (first | assumption | intro _ | apply outCanon_next | apply State.at_canon | apply State.clrAssert_canon | apply canon_ite | apply canon_foldl | simp only [canon_mk] | split)

theorem State.clrRelease_canon {s : State} (b : Nat) (h_s : s.canon = true) :
    State.canon (State.clrRelease s b) = true := by
  unfold State.clrRelease
  try dsimp only
  with_reducible repeat' (first | assumption | intro _ | apply canon_ite | apply canon_foldl | simp only [canon_mk] | split)

theorem execClrNRelease_canon (b : Nat) {s : State} (h_s : s.canon = true) :
    outCanon (execClrNRelease b s) := by
  unfold execClrNRelease
  try dsimp only
  with_reducible repeat' (first | assumption | intro _ | apply outCanon_next | apply State.at_canon | apply State.clrRelease_canon | apply canon_ite | apply canon_foldl | simp only [canon_mk] | split)

theorem State.activeRead_canon {s : State} (path : Path) (p : Pg) (off : Nat) (h_s : s.canon = true) :
    State.canon (State.activeRead s path p off) = true := by
  unfold State.activeRead
  try dsimp only
  with_reducible repeat' (first | assumption | intro _ | apply State.headRead_canon | apply State.mboxRead_canon | apply State.laneLive_canon | apply State.answerPair_canon | apply State.answer_canon | apply canon_ite | apply canon_foldl | simp only [canon_mk] | split)

theorem State.shadowRead_canon {s : State} (path : Path) (p : Pg) (off : Nat) (h_s : s.canon = true) :
    State.canon (State.shadowRead s path p off) = true := by
  unfold State.shadowRead
  try dsimp only
  with_reducible repeat' (first | assumption | intro _ | apply State.answerPair_canon | apply State.answer_canon | apply canon_ite | apply canon_foldl | simp only [canon_mk] | split)

theorem State.readNow_canon {s : State} (path : Path) (a : Nat) (h_s : s.canon = true) :
    State.canon (State.readNow s path a) = true := by
  unfold State.readNow
  try dsimp only
  with_reducible repeat' (first | assumption | intro _ | apply State.answer_canon | apply State.unmapped_canon | apply State.violate_canon | apply State.activeRead_canon | apply State.shadowRead_canon | apply canon_ite | apply canon_foldl | simp only [canon_mk] | split)

theorem State.readDword_canon {s : State} (path : Path) (a : Nat) (skip : Option Nat) (h_s : s.canon = true) :
    State.canon (State.readDword s path a skip) = true := by
  unfold State.readDword
  try dsimp only
  with_reducible repeat' (first | assumption | intro _ | apply State.putBehind_canon | apply State.readNow_canon | apply canon_ite | apply canon_foldl | simp only [canon_mk] | split)

theorem State.afterWrite_canon {s : State} (p : Pg) (off : Nat) (h_s : s.canon = true) :
    State.canon (State.afterWrite s p off) = true := by
  unfold State.afterWrite
  try dsimp only
  with_reducible repeat' (first | assumption | intro _ | apply State.wr64_canon | apply State.alarmLate_canon | apply State.routeSet_canon | apply canon_ite | apply canon_foldl | simp only [canon_mk] | split)

theorem State.plainWrite_canon {s : State} (p : Pg) (off : Nat) (v : Word) (h_s : s.canon = true) :
    State.canon (State.plainWrite s p off v) = true := by
  unfold State.plainWrite
  try dsimp only
  with_reducible repeat' (first | assumption | intro _ | apply State.afterWrite_canon | apply State.wr_canon | apply canon_ite | apply canon_foldl | simp only [canon_mk] | split)

theorem State.ctrlWrite_canon {s : State} (p : Pg) (v : Word) (h_s : s.canon = true) :
    State.canon (State.ctrlWrite s p v) = true := by
  unfold State.ctrlWrite
  try dsimp only
  with_reducible repeat' (first | assumption | intro _ | apply State.plainWrite_canon | apply State.cntClr_canon | apply State.wrF_canon | apply State.wr_canon | apply canon_ite | apply canon_foldl | simp only [canon_mk] | split)

theorem State.tmoWrite_canon {s : State} (q : Nat) (v : Word) (h_s : s.canon = true) :
    State.canon (State.tmoWrite s q v) = true := by
  unfold State.tmoWrite
  try dsimp only
  with_reducible repeat' (first | assumption | intro _ | apply State.wr_canon | apply State.setQ_canon | apply canon_ite | apply canon_foldl | simp only [canon_mk] | split)

theorem State.ptpDataset_canon {s : State} (n off : Nat) (v : Word) (h_s : s.canon = true) :
    State.canon (State.ptpDataset s n off v) = true := by
  unfold State.ptpDataset
  try dsimp only
  with_reducible repeat' (first | assumption | intro _ | apply State.wr_canon | apply State.ptpDecide_canon | apply canon_ite | apply canon_foldl | simp only [canon_mk] | split)

theorem State.adcStart_canon {s : State} (h_s : s.canon = true) :
    State.canon (State.adcStart s) = true := by
  unfold State.adcStart
  try dsimp only
  with_reducible repeat' (first | assumption | intro _ | apply State.adcNext_canon | apply canon_ite | apply canon_foldl | simp only [canon_mk] | split)

theorem State.special_canon {s : State} (path : Path) (p : Pg) (off : Nat) (v : Word) (h_s : s.canon = true) :
    optCanon (State.special s path p off v) := by
  unfold State.special
  try dsimp only
  with_reducible repeat' (first | assumption | intro _ | apply optCanon_some | apply optCanon_none | apply State.amonOff_canon | apply State.retap_canon | apply State.plainWrite_canon | apply State.modeReq_canon | apply State.modeReset_canon | apply State.logCtrl_canon | apply State.domGate_canon | apply State.lcCmd_canon | apply State.grpCmd_canon | apply State.clockCmd_canon | apply State.ptpCfg_canon | apply State.servoCtrl_canon | apply State.csCmd_canon | apply State.swPulse_canon | apply State.qCmd_canon | apply State.hostRdWrite_canon | apply State.swTrig_canon | apply State.portCtrl_canon | apply State.laneCtrl_canon | apply State.laneInj_canon | apply State.debugCmd_canon | apply State.fuseCmd_canon | apply State.calfCmd_canon | apply State.diodeCmd_canon | apply State.cntCmd_canon | apply State.stbSw_canon | apply State.hkCalCmd_canon | apply State.thExc_canon | apply State.winCfg_canon | apply State.hkadcCmd_canon | apply State.cmdHalt_canon | apply State.ringWrite_canon | apply State.adcCmd_canon | apply State.tmoWrite_canon | apply State.ptpDataset_canon | apply State.winClear_canon | apply State.adcStart_canon | apply canon_ite | apply canon_foldl | simp only [canon_mk] | split)

theorem State.pairWrite_canon {s0 : State} (path : Path) (p : Pg) (off : Nat) (v : Word) (h_s0 : s0.canon = true) :
    State.canon (State.pairWrite s0 path p off v) = true := by
  unfold State.pairWrite
  try dsimp only
  with_reducible repeat' (first | assumption | intro _ | apply State.rwcWrite_canon | apply State.mboxTx_canon | apply State.wr_canon | apply State.plainWrite_canon | apply canon_ite | apply canon_foldl | simp only [canon_mk] | split)

theorem State.regWrite_canon {s : State} (path : Path) (p : Pg) (off : Nat) (v : Word) (h_s : s.canon = true) :
    State.canon (State.regWrite s path p off v) = true := by
  unfold State.regWrite
  try dsimp only
  with_reducible repeat' (first | assumption | intro _ | apply State.ctrlWrite_canon | apply State.flagsClear_canon | apply State.flagsEn_canon | apply State.flagsSet_canon | apply State.recErr_canon | apply State.pairWrite_canon | apply State.special_canon | apply State.plainWrite_canon | apply State.rwcWrite_canon | apply canon_ite | apply canon_foldl | simp only [canon_mk] | exact optCanon_get (by assumption) (by first | apply State.special_canon <;> assumption) | split)

theorem State.writeNow_canon {s : State} (path : Path) (a : Nat) (v : Word) (h_s : s.canon = true) :
    State.canon (State.writeNow s path a v) = true := by
  unfold State.writeNow
  try dsimp only
  with_reducible repeat' (first | assumption | intro _ | apply State.unmapped_canon | apply State.withWrite_canon | apply State.regWrite_canon | apply State.recErr_canon | apply canon_ite | apply canon_foldl | simp only [canon_mk] | split)

theorem State.writeDword_canon {s : State} (path : Path) (a : Nat) (v : Word) (skip : Option Nat) (h_s : s.canon = true) :
    State.canon (State.writeDword s path a v skip) = true := by
  unfold State.writeDword
  try dsimp only
  with_reducible repeat' (first | assumption | intro _ | apply State.putBehind_canon | apply State.writeNow_canon | apply canon_ite | apply canon_foldl | simp only [canon_mk] | split)

theorem State.takeTurns_canon (q n : Nat) {s : State} (h_s : s.canon = true) : State.canon (State.takeTurns q n s) = true := by
  induction n generalizing s with
  | zero => exact h_s
  | succ n ih =>
    unfold State.takeTurns
    split
    · refine ih ?_
      split
      · exact State.readDword_canon _ _ _ (State.setQ_canon _ _ h_s)
      · exact State.writeDword_canon _ _ _ _ (State.setQ_canon _ _ h_s)
    · exact h_s

theorem State.turns_canon {s : State} (h_s : s.canon = true) :
    State.canon (State.turns s) = true := by
  unfold State.turns
  try dsimp only
  with_reducible repeat' (first | assumption | intro _ | apply State.takeTurns_canon | apply canon_ite | apply canon_foldl | simp only [canon_mk] | split)

theorem State.inTurn_canon {s : State} (path : Path) (q : Nat) (off : Nat) (v : Option Word) (k : State → State) (h_s : s.canon = true) (h_k : ∀ t, t.canon = true → (k t).canon = true) :
    State.canon (State.inTurn s path q off v k) = true := by
  unfold State.inTurn
  try dsimp only
  with_reducible repeat' (first | assumption | intro _ | apply State.putBehind_canon | apply h_k | apply canon_ite | apply canon_foldl | simp only [canon_mk] | split)

theorem State.badAccess_canon {s : State} (path : Path) (a : Nat) (write : Bool) (h_s : s.canon = true) :
    State.canon (State.badAccess s path a write) = true := by
  unfold State.badAccess
  try dsimp only
  with_reducible repeat' (first | assumption | intro _ | apply State.unmapped_canon | apply State.withWrite_canon | apply State.recErr_canon | apply State.violate_canon | apply canon_ite | apply canon_foldl | simp only [canon_mk] | split)

theorem State.busWrite_canon {s : State} (path : Path) (a : Nat) (l : List Word) (be : Bool) (h_s : s.canon = true) :
    State.canon (State.busWrite s path a l be) = true := by
  unfold State.busWrite
  try dsimp only
  with_reducible repeat' (first | assumption | intro _ | apply State.writeDword_canon | apply State.badAccess_canon | apply canon_ite | apply canon_foldl | simp only [canon_mk] | split)

theorem State.busRead_canon {s : State} (path : Path) (a : Nat) (n : Nat) (be : Bool) (h_s : s.canon = true) :
    State.canon (State.busRead s path a n be) = true := by
  unfold State.busRead
  try dsimp only
  with_reducible repeat' (first | assumption | intro _ | apply State.readDword_canon | apply State.answer_canon | apply State.badAccess_canon | apply canon_ite | apply canon_foldl | simp only [canon_mk] | split)

theorem State.smbusRead_canon {s : State} (a : Nat) (h_s : s.canon = true) :
    State.canon (State.smbusRead s a) = true := by
  unfold State.smbusRead
  try dsimp only
  with_reducible repeat' (first | assumption | intro _ | apply State.emit_canon | apply State.busRead_canon | apply canon_ite | apply canon_foldl | simp only [canon_mk] | split)

theorem State.smbusWrite_canon {s : State} (a : Nat) (v : Word) (h_s : s.canon = true) :
    State.canon (State.smbusWrite s a v) = true := by
  unfold State.smbusWrite
  try dsimp only
  with_reducible repeat' (first | assumption | intro _ | apply State.emit_canon | apply State.busWrite_canon | apply canon_ite | apply canon_foldl | simp only [canon_mk] | split)

theorem State.jtag_canon {s : State} (a : Nat) (v : Option Word) (h_s : s.canon = true) :
    State.canon (State.jtag s a v) = true := by
  unfold State.jtag
  try dsimp only
  with_reducible repeat' (first | assumption | intro _ | apply State.busWrite_canon | apply State.busRead_canon | apply State.emit_canon | apply canon_ite | apply canon_foldl | simp only [canon_mk] | split)

theorem execRegisterWrite_canon (path : Path) (a : BitVec 25) (v : List Word) (be : Bool) {s : State} (h_s : s.canon = true) :
    outCanon (execRegisterWrite path a v be s) := by
  unfold execRegisterWrite
  try dsimp only
  with_reducible repeat' (first | assumption | intro _ | apply outCanon_next | apply State.busWrite_canon | apply canon_ite | apply canon_foldl | simp only [canon_mk] | split)

theorem execLoRead_canon (path : Path) (a : BitVec 25) (dw : Nat) (be : Bool) {s : State} (h_s : s.canon = true) :
    outCanon (execLoRead path a dw be s) := by
  unfold execLoRead
  try dsimp only
  with_reducible repeat' (first | assumption | intro _ | apply outCanon_next | apply State.busRead_canon | apply canon_ite | apply canon_foldl | simp only [canon_mk] | split)

theorem execLoWrite_canon (path : Path) (a : BitVec 25) (v : Word) {s : State} (h_s : s.canon = true) :
    outCanon (execLoWrite path a v s) := by
  unfold execLoWrite
  try dsimp only
  with_reducible repeat' (first | assumption | intro _ | apply outCanon_next | apply State.busWrite_canon | apply canon_ite | apply canon_foldl | simp only [canon_mk] | split)

theorem execHiWrite_canon (path : Path) (a : BitVec 25) (v : Word) {s : State} (h_s : s.canon = true) :
    outCanon (execHiWrite path a v s) := by
  unfold execHiWrite
  try dsimp only
  with_reducible repeat' (first | assumption | intro _ | apply outCanon_next | apply State.busWrite_canon | apply canon_ite | apply canon_foldl | simp only [canon_mk] | split)

theorem execFlagsClear_canon (path : Path) (a : BitVec 25) (v : Word) {s : State} (h_s : s.canon = true) :
    outCanon (execFlagsClear path a v s) := by
  unfold execFlagsClear
  try dsimp only
  with_reducible repeat' (first | assumption | intro _ | apply outCanon_next | apply State.busWrite_canon | apply canon_ite | apply canon_foldl | simp only [canon_mk] | split)

theorem execFlagsSet_canon (path : Path) (a : BitVec 25) (v : Word) {s : State} (h_s : s.canon = true) :
    outCanon (execFlagsSet path a v s) := by
  unfold execFlagsSet
  try dsimp only
  with_reducible repeat' (first | assumption | intro _ | apply outCanon_next | apply State.busWrite_canon | apply canon_ite | apply canon_foldl | simp only [canon_mk] | split)

theorem execFlagsEnWrite_canon (path : Path) (a : BitVec 25) (v : Word) {s : State} (h_s : s.canon = true) :
    outCanon (execFlagsEnWrite path a v s) := by
  unfold execFlagsEnWrite
  try dsimp only
  with_reducible repeat' (first | assumption | intro _ | apply outCanon_next | apply State.busWrite_canon | apply canon_ite | apply canon_foldl | simp only [canon_mk] | split)

theorem execCntClr_canon (path : Path) (a : BitVec 25) {s : State} (h_s : s.canon = true) :
    outCanon (execCntClr path a s) := by
  unfold execCntClr
  try dsimp only
  with_reducible repeat' (first | assumption | intro _ | apply outCanon_next | apply State.busWrite_canon | apply canon_ite | apply canon_foldl | simp only [canon_mk] | split)

theorem execShadowWrite_canon (path : Path) (a : BitVec 25) (v : Word) {s : State} (h_s : s.canon = true) :
    outCanon (execShadowWrite path a v s) := by
  unfold execShadowWrite
  try dsimp only
  with_reducible repeat' (first | assumption | intro _ | apply outCanon_next | apply State.busWrite_canon | apply canon_ite | apply canon_foldl | simp only [canon_mk] | split)

theorem execSmbusRegRead_canon (a : BitVec 32) {s : State} (h_s : s.canon = true) :
    outCanon (execSmbusRegRead a s) := by
  unfold execSmbusRegRead
  try dsimp only
  with_reducible repeat' (first | assumption | intro _ | apply outCanon_next | apply State.smbusRead_canon | apply canon_ite | apply canon_foldl | simp only [canon_mk] | split)

theorem execSmbusRegWrite_canon (a : BitVec 32) (v : Word) {s : State} (h_s : s.canon = true) :
    outCanon (execSmbusRegWrite a v s) := by
  unfold execSmbusRegWrite
  try dsimp only
  with_reducible repeat' (first | assumption | intro _ | apply outCanon_next | apply State.smbusWrite_canon | apply canon_ite | apply canon_foldl | simp only [canon_mk] | split)

theorem execJtagDebug_canon (a : BitVec 32) (v : Option Word) {s : State} (h_s : s.canon = true) :
    outCanon (execJtagDebug a v s) := by
  unfold execJtagDebug
  try dsimp only
  with_reducible repeat' (first | assumption | intro _ | apply outCanon_next | apply State.jtag_canon | apply canon_ite | apply canon_foldl | simp only [canon_mk] | split)

theorem execSelfcal_canon (path : Path) (f : Fin 32) (key : BitVec 16) {s : State} (h_s : s.canon = true) :
    outCanon (execSelfcal path f key s) := by
  unfold execSelfcal
  try dsimp only
  with_reducible repeat' (first | assumption | intro _ | apply outCanon_next | apply State.adcCmd_canon | apply State.rowWrite_canon | apply canon_ite | apply canon_foldl | simp only [canon_mk] | split)

theorem execSelfcalDone_canon (e : FrondEv) (pairs : List CalPair) {s : State} (h_s : s.canon = true) :
    outCanon (execSelfcalDone e pairs s) := by
  unfold execSelfcalDone
  try dsimp only
  with_reducible repeat' (first | assumption | intro _ | apply outCanon_next | apply State.adcDone_canon | apply State.at_canon | apply canon_ite | apply canon_foldl | simp only [canon_mk] | split)

theorem execCalFull_canon (path : Path) (f : Fin 32) (key : BitVec 16) {s : State} (h_s : s.canon = true) :
    outCanon (execCalFull path f key s) := by
  unfold execCalFull
  try dsimp only
  with_reducible repeat' (first | assumption | intro _ | apply outCanon_next | apply State.calfCmd_canon | apply State.rowWrite_canon | apply canon_ite | apply canon_foldl | simp only [canon_mk] | split)

theorem execCalDac_canon (path : Path) (f : Fin 32) (key : BitVec 16) {s : State} (h_s : s.canon = true) :
    outCanon (execCalDac path f key s) := by
  unfold execCalDac
  try dsimp only
  with_reducible repeat' (first | assumption | intro _ | apply outCanon_next | apply State.calfCmd_canon | apply State.rowWrite_canon | apply canon_ite | apply canon_foldl | simp only [canon_mk] | split)

theorem execDacCalDone_canon (e : FrondEv) (pairs : List CalPair) {s : State} (h_s : s.canon = true) :
    outCanon (execDacCalDone e pairs s) := by
  unfold execDacCalDone
  try dsimp only
  with_reducible repeat' (first | assumption | intro _ | apply outCanon_next | apply State.dacDone_canon | apply State.at_canon | apply canon_ite | apply canon_foldl | simp only [canon_mk] | split)

theorem execEstimateDone_canon (e : FrondEv) (ests : List CalEst) (weak : Bool) {s : State} (h_s : s.canon = true) :
    outCanon (execEstimateDone e ests weak s) := by
  unfold execEstimateDone
  try dsimp only
  with_reducible repeat' (first | assumption | intro _ | apply outCanon_next | apply State.estimates_canon | apply State.at_canon | apply canon_ite | apply canon_foldl | simp only [canon_mk] | split)

theorem execQuietSlotDecision_canon (e : FrondEv) (found : Bool) {s : State} (h_s : s.canon = true) :
    outCanon (execQuietSlotDecision e found s) := by
  unfold execQuietSlotDecision
  try dsimp only
  with_reducible repeat' (first | assumption | intro _ | apply outCanon_next | apply State.slotDecision_canon | apply State.at_canon | apply canon_ite | apply canon_foldl | simp only [canon_mk] | split)

theorem execCalDue_canon (e : FrondEv) {s : State} (h_s : s.canon = true) :
    outCanon (execCalDue e s) := by
  unfold execCalDue
  try dsimp only
  with_reducible repeat' (first | assumption | intro _ | apply outCanon_next | apply State.dueNow_canon | apply State.at_canon | apply canon_ite | apply canon_foldl | simp only [canon_mk] | split)

theorem execCalOverdue_canon (e : FrondEv) {s : State} (h_s : s.canon = true) :
    outCanon (execCalOverdue e s) := by
  unfold execCalOverdue
  try dsimp only
  with_reducible repeat' (first | assumption | intro _ | apply outCanon_next | apply State.overdue_canon | apply State.at_canon | apply canon_ite | apply canon_foldl | simp only [canon_mk] | split)

theorem execGroup63Round_canon (b : Nat) {s : State} (h_s : s.canon = true) :
    outCanon (execGroup63Round b s) := by
  unfold execGroup63Round
  try dsimp only
  with_reducible repeat' (first | assumption | intro _ | apply outCanon_next | apply State.round63_canon | apply State.at_canon | apply canon_ite | apply canon_foldl | simp only [canon_mk] | split)

theorem execTrimTakeEffect_canon (e : FrondEv) (u : Fin 12) {s : State} (h_s : s.canon = true) :
    outCanon (execTrimTakeEffect e u s) := by
  unfold execTrimTakeEffect
  try dsimp only
  with_reducible repeat' (first | assumption | intro _ | apply outCanon_next | apply State.trimEffect_canon | apply State.at_canon | apply canon_ite | apply canon_foldl | simp only [canon_mk] | split)

theorem execFuseBurn_canon (path : Path) (key : BitVec 16) {s : State} (h_s : s.canon = true) :
    outCanon (execFuseBurn path key s) := by
  unfold execFuseBurn
  try dsimp only
  with_reducible repeat' (first | assumption | intro _ | apply outCanon_next | apply State.fuseCmd_canon | apply State.rowWrite_canon | apply canon_ite | apply canon_foldl | simp only [canon_mk] | split)

theorem execFuseBurnDone_canon (ok : Bool) {s : State} (h_s : s.canon = true) :
    outCanon (execFuseBurnDone ok s) := by
  unfold execFuseBurnDone
  try dsimp only
  with_reducible repeat' (first | assumption | intro _ | apply outCanon_next | apply State.burnDone_canon | apply canon_ite | apply canon_foldl | simp only [canon_mk] | split)

theorem execFuseRevoke_canon (path : Path) (key : BitVec 16) (g : Fin 8) {s : State} (h_s : s.canon = true) :
    outCanon (execFuseRevoke path key g s) := by
  unfold execFuseRevoke
  try dsimp only
  with_reducible repeat' (first | assumption | intro _ | apply outCanon_next | apply State.fuseCmd_canon | apply State.rowWrite_canon | apply canon_ite | apply canon_foldl | simp only [canon_mk] | split)

theorem execFuseRevokeDone_canon {s : State} (h_s : s.canon = true) :
    outCanon (execFuseRevokeDone s) := by
  unfold execFuseRevokeDone
  try dsimp only
  with_reducible repeat' (first | assumption | intro _ | apply outCanon_next | apply State.revokeDone_canon | apply canon_ite | apply canon_foldl | simp only [canon_mk] | split)

theorem execHkCalAdc_canon (path : Path) (h : Nat) (key : BitVec 16) {s : State} (h_s : s.canon = true) :
    outCanon (execHkCalAdc path h key s) := by
  unfold execHkCalAdc
  try dsimp only
  with_reducible repeat' (first | assumption | intro _ | apply outCanon_next | apply State.hkTo_canon | apply State.hkCalCmd_canon | apply State.rowWrite_canon | apply canon_ite | apply canon_foldl | simp only [canon_mk] | split)

theorem execHkCalBias_canon (path : Path) (h : Nat) (key : BitVec 16) {s : State} (h_s : s.canon = true) :
    outCanon (execHkCalBias path h key s) := by
  unfold execHkCalBias
  try dsimp only
  with_reducible repeat' (first | assumption | intro _ | apply outCanon_next | apply State.hkTo_canon | apply State.hkCalCmd_canon | apply State.rowWrite_canon | apply canon_ite | apply canon_foldl | simp only [canon_mk] | split)

theorem execHkCalThermo_canon (path : Path) (h : Nat) (key : BitVec 16) {s : State} (h_s : s.canon = true) :
    outCanon (execHkCalThermo path h key s) := by
  unfold execHkCalThermo
  try dsimp only
  with_reducible repeat' (first | assumption | intro _ | apply outCanon_next | apply State.hkTo_canon | apply State.hkCalCmd_canon | apply State.rowWrite_canon | apply canon_ite | apply canon_foldl | simp only [canon_mk] | split)

theorem execHkCalDone_canon (b : Nat) (h : Nat) (pairs : List CalPair) {s : State} (h_s : s.canon = true) :
    outCanon (execHkCalDone b h pairs s) := by
  unfold execHkCalDone
  try dsimp only
  with_reducible repeat' (first | assumption | intro _ | apply outCanon_next | apply State.hkCalDone_canon | apply State.hkTo_canon | apply State.at_canon | apply canon_ite | apply canon_foldl | simp only [canon_mk] | split)

theorem execClockSet_canon (path : Path) (m : Nat) (key : BitVec 16) {s : State} (h_s : s.canon = true) :
    outCanon (execClockSet path m key s) := by
  unfold execClockSet
  try dsimp only
  with_reducible repeat' (first | assumption | intro _ | apply outCanon_next | apply State.macTo_canon | apply State.clockCmd_canon | apply State.rowWrite_canon | apply canon_ite | apply canon_foldl | simp only [canon_mk] | split)

theorem execClockAdj_canon (path : Path) (m : Nat) (key : BitVec 16) {s : State} (h_s : s.canon = true) :
    outCanon (execClockAdj path m key s) := by
  unfold execClockAdj
  try dsimp only
  with_reducible repeat' (first | assumption | intro _ | apply outCanon_next | apply State.macTo_canon | apply State.clockCmd_canon | apply State.rowWrite_canon | apply canon_ite | apply canon_foldl | simp only [canon_mk] | split)

theorem execClockSnap_canon (path : Path) (m : Nat) (key : BitVec 16) {s : State} (h_s : s.canon = true) :
    outCanon (execClockSnap path m key s) := by
  unfold execClockSnap
  try dsimp only
  with_reducible repeat' (first | assumption | intro _ | apply outCanon_next | apply State.macTo_canon | apply State.clockCmd_canon | apply State.rowWrite_canon | apply canon_ite | apply canon_foldl | simp only [canon_mk] | split)

theorem execClockAlarm_canon (m : Nat) (n : Fin 2) {s : State} (h_s : s.canon = true) :
    outCanon (execClockAlarm m n s) := by
  unfold execClockAlarm
  try dsimp only
  with_reducible repeat' (first | assumption | intro _ | apply outCanon_next | apply State.alarmFire_canon | apply State.macTo_canon | apply canon_ite | apply canon_foldl | simp only [canon_mk] | split)

theorem execMappingPair_canon (b : Nat) (m : Nat) (ph : Fin 64) {s : State} (h_s : s.canon = true) :
    outCanon (execMappingPair b m ph s) := by
  unfold execMappingPair
  try dsimp only
  with_reducible repeat' (first | assumption | intro _ | apply outCanon_next | apply State.mapPair_canon | apply State.macTo_canon | apply State.at_canon | apply canon_ite | apply canon_foldl | simp only [canon_mk] | split)

theorem execOpenGroup_canon (path : Path) (g : Fin 64) (key : BitVec 16) {s : State} (h_s : s.canon = true) :
    outCanon (execOpenGroup path g key s) := by
  unfold execOpenGroup
  try dsimp only
  with_reducible repeat' (first | assumption | intro _ | apply outCanon_next | apply State.grpCmd_canon | apply State.rowWrite_canon | apply canon_ite | apply canon_foldl | simp only [canon_mk] | split)

theorem execArmGroup_canon (path : Path) (g : Fin 64) (key : BitVec 16) {s : State} (h_s : s.canon = true) :
    outCanon (execArmGroup path g key s) := by
  unfold execArmGroup
  try dsimp only
  with_reducible repeat' (first | assumption | intro _ | apply outCanon_next | apply State.grpCmd_canon | apply State.rowWrite_canon | apply canon_ite | apply canon_foldl | simp only [canon_mk] | split)

theorem execAbortGroup_canon (path : Path) (g : Fin 64) (key : BitVec 16) {s : State} (h_s : s.canon = true) :
    outCanon (execAbortGroup path g key s) := by
  unfold execAbortGroup
  try dsimp only
  with_reducible repeat' (first | assumption | intro _ | apply outCanon_next | apply State.grpCmd_canon | apply State.rowWrite_canon | apply canon_ite | apply canon_foldl | simp only [canon_mk] | split)

theorem execValidationComplete_canon (b : Nat) (g : Fin 64) {s : State} (h_s : s.canon = true) :
    outCanon (execValidationComplete b g s) := by
  unfold execValidationComplete
  try dsimp only
  with_reducible repeat' (first | assumption | intro _ | apply outCanon_next | apply State.validate_canon | apply State.at_canon | apply canon_ite | apply canon_foldl | simp only [canon_mk] | split)

theorem execReadyBeat_canon (b : Nat) (g : Fin 64) {s : State} (h_s : s.canon = true) :
    outCanon (execReadyBeat b g s) := by
  unfold execReadyBeat
  try dsimp only
  with_reducible repeat' (first | assumption | intro _ | apply outCanon_next | apply State.readyBeat_canon | apply State.at_canon | apply canon_ite | apply canon_foldl | simp only [canon_mk] | split)

theorem execDecisionBeat_canon (b : Nat) (g : Fin 64) {s : State} (h_s : s.canon = true) :
    outCanon (execDecisionBeat b g s) := by
  unfold execDecisionBeat
  try dsimp only
  with_reducible repeat' (first | assumption | intro _ | apply outCanon_next | apply State.decisionBeat_canon | apply State.at_canon | apply canon_ite | apply canon_foldl | simp only [canon_mk] | split)

theorem execApplyBeat_canon (b : Nat) (g : Fin 64) {s : State} (h_s : s.canon = true) :
    outCanon (execApplyBeat b g s) := by
  unfold execApplyBeat
  try dsimp only
  with_reducible repeat' (first | assumption | intro _ | apply outCanon_next | apply State.turns_canon | apply State.applyBeat_canon | apply State.at_canon | apply canon_ite | apply canon_foldl | simp only [canon_mk] | split)

theorem execGroupExpired_canon (b : Nat) (g : Fin 64) {s : State} (h_s : s.canon = true) :
    outCanon (execGroupExpired b g s) := by
  unfold execGroupExpired
  try dsimp only
  with_reducible repeat' (first | assumption | intro _ | apply outCanon_next | apply State.expire_canon | apply State.at_canon | apply canon_ite | apply canon_foldl | simp only [canon_mk] | split)

theorem execClusterVote_canon (b : Nat) (g : Fin 64) {s : State} (h_s : s.canon = true) :
    outCanon (execClusterVote b g s) := by
  unfold execClusterVote
  try dsimp only
  with_reducible repeat' (first | assumption | intro _ | apply outCanon_next | apply State.voteNow_canon | apply State.at_canon | apply canon_ite | apply canon_foldl | simp only [canon_mk] | split)

theorem execVoteReceived_canon (b : Nat) (dst : Fin 32) (w : BitVec 64) {s : State} (h_s : s.canon = true) :
    outCanon (execVoteReceived b dst w s) := by
  unfold execVoteReceived
  try dsimp only
  with_reducible repeat' (first | assumption | intro _ | apply outCanon_next | apply State.at_canon | apply State.voteArrives_canon | apply State.unicast_canon | apply canon_ite | apply canon_foldl | simp only [canon_mk] | split)

theorem execClusterDecide_canon (b : Nat) (g : Fin 64) {s : State} (h_s : s.canon = true) :
    outCanon (execClusterDecide b g s) := by
  unfold execClusterDecide
  try dsimp only
  with_reducible repeat' (first | assumption | intro _ | apply outCanon_next | apply State.decideNow_canon | apply State.at_canon | apply canon_ite | apply canon_foldl | simp only [canon_mk] | split)

theorem execDecideReceived_canon (b : Nat) (dst : Fin 32) (w : BitVec 64) {s : State} (h_s : s.canon = true) :
    outCanon (execDecideReceived b dst w s) := by
  unfold execDecideReceived
  try dsimp only
  with_reducible repeat' (first | assumption | intro _ | apply outCanon_next | apply State.at_canon | apply State.decideArrives_canon | apply State.unicast_canon | apply canon_ite | apply canon_foldl | simp only [canon_mk] | split)

theorem execOutcomeLost_canon (b : Nat) (port : Fin 4) (w : BitVec 64) {s : State} (h_s : s.canon = true) :
    outCanon (execOutcomeLost b port w s) := by
  unfold execOutcomeLost
  try dsimp only
  with_reducible repeat' (first | assumption | intro _ | apply outCanon_next | apply State.outcomeArrives_canon | apply State.at_canon | apply canon_ite | apply canon_foldl | simp only [canon_mk] | split)

theorem execDecisionBusRecord_canon (b : Nat) (f : Fin 32) (r : Nat) (dst : Fin 33) (perr : Bool) {s : State} (h_s : s.canon = true) :
    outCanon (execDecisionBusRecord b f r dst perr s) := by
  unfold execDecisionBusRecord
  try dsimp only
  with_reducible repeat' (first | assumption | intro _ | apply outCanon_next | apply State.busRecord_canon | apply State.at_canon | apply canon_ite | apply canon_foldl | simp only [canon_mk] | split)

theorem State.countSample_canon {s : State} (h_s : s.canon = true) :
    State.canon (State.countSample s) = true := by
  unfold State.countSample
  try dsimp only
  with_reducible repeat' (first | assumption | intro _ | apply State.swapHeld_canon | apply State.mapTime_canon | apply State.retap_canon | apply State.showAll_canon | apply canon_ite | apply canon_foldl | simp only [canon_mk] | split)

theorem execBeatCountSample_canon (b : Nat) {s : State} (h_s : s.canon = true) :
    outCanon (execBeatCountSample b s) := by
  unfold execBeatCountSample
  try dsimp only
  with_reducible repeat' (first | assumption | intro _ | apply outCanon_next | apply State.at_canon | apply State.countSample_canon | apply canon_ite | apply canon_foldl | simp only [canon_mk] | split)

theorem execSyncMessage_canon (x : PtpMsg) {s : State} (h_s : s.canon = true) :
    outCanon (execSyncMessage x s) := by
  unfold execSyncMessage
  try dsimp only
  with_reducible repeat' (first | assumption | intro _ | apply outCanon_next | apply State.ptpRx_canon | apply State.ptpSync_canon | apply canon_ite | apply canon_foldl | simp only [canon_mk] | split)

theorem execFollowUp_canon (x : PtpMsg) {s : State} (h_s : s.canon = true) :
    outCanon (execFollowUp x s) := by
  unfold execFollowUp
  try dsimp only
  with_reducible repeat' (first | assumption | intro _ | apply outCanon_next | apply State.ptpRx_canon | apply State.ptpFollow_canon | apply canon_ite | apply canon_foldl | simp only [canon_mk] | split)

theorem execDelayResp_canon (x : PtpMsg) {s : State} (h_s : s.canon = true) :
    outCanon (execDelayResp x s) := by
  unfold execDelayResp
  try dsimp only
  with_reducible repeat' (first | assumption | intro _ | apply outCanon_next | apply State.ptpRx_canon | apply State.ptpDelayResp_canon | apply canon_ite | apply canon_foldl | simp only [canon_mk] | split)

theorem execPdelayResp_canon (x : PtpMsg) {s : State} (h_s : s.canon = true) :
    outCanon (execPdelayResp x s) := by
  unfold execPdelayResp
  try dsimp only
  with_reducible repeat' (first | assumption | intro _ | apply outCanon_next | apply State.ptpRx_canon | apply State.ptpPdelayResp_canon | apply canon_ite | apply canon_foldl | simp only [canon_mk] | split)

theorem execPdelayRespFollowUp_canon (x : PtpMsg) {s : State} (h_s : s.canon = true) :
    outCanon (execPdelayRespFollowUp x s) := by
  unfold execPdelayRespFollowUp
  try dsimp only
  with_reducible repeat' (first | assumption | intro _ | apply outCanon_next | apply State.ptpRx_canon | apply State.ptpPdelayFollow_canon | apply canon_ite | apply canon_foldl | simp only [canon_mk] | split)

theorem execAnnounce_canon (x : PtpMsg) {s : State} (h_s : s.canon = true) :
    outCanon (execAnnounce x s) := by
  unfold execAnnounce
  try dsimp only
  with_reducible repeat' (first | assumption | intro _ | apply outCanon_next | apply State.ptpRx_canon | apply State.ptpAnnounce_canon | apply canon_ite | apply canon_foldl | simp only [canon_mk] | split)

theorem execDelayReq_canon (x : PtpMsg) {s : State} (h_s : s.canon = true) :
    outCanon (execDelayReq x s) := by
  unfold execDelayReq
  try dsimp only
  with_reducible repeat' (first | assumption | intro _ | apply outCanon_next | apply State.ptpRx_canon | apply State.ptpDelayReq_canon | apply canon_ite | apply canon_foldl | simp only [canon_mk] | split)

theorem execPdelayReq_canon (x : PtpMsg) {s : State} (h_s : s.canon = true) :
    outCanon (execPdelayReq x s) := by
  unfold execPdelayReq
  try dsimp only
  with_reducible repeat' (first | assumption | intro _ | apply outCanon_next | apply State.ptpRx_canon | apply State.ptpPdelayReq_canon | apply canon_ite | apply canon_foldl | simp only [canon_mk] | split)

theorem execSignaling_canon (x : PtpMsg) {s : State} (h_s : s.canon = true) :
    outCanon (execSignaling x s) := by
  unfold execSignaling
  try dsimp only
  with_reducible repeat' (first | assumption | intro _ | apply outCanon_next | apply State.ptpRx_canon | apply State.count_canon | apply canon_ite | apply canon_foldl | simp only [canon_mk] | split)

theorem State.ethPlace_canon {s : State} (port : Nat) (bytes : List Byte) (full : Bool) (h_s : s.canon = true) :
    State.canon (State.ethPlace s port bytes full) = true := by
  unfold State.ethPlace
  try dsimp only
  with_reducible repeat' (first | assumption | intro _ | apply State.count_canon | apply State.emit_canon | apply canon_ite | apply canon_foldl | simp only [canon_mk] | split)

theorem State.mgmtPlace_canon {s : State} (x : PtpMsg) (raw : List Byte) (full : Bool) (h_s : s.canon = true) :
    State.canon (State.mgmtPlace s x raw full) = true := by
  unfold State.mgmtPlace
  try dsimp only
  with_reducible repeat' (first | assumption | intro _ | apply State.ethPlace_canon | apply canon_ite | apply canon_foldl | simp only [canon_mk] | split)

theorem execManagement_canon (x : PtpMsg) (raw : List Byte) (full : Bool) {s : State} (h_s : s.canon = true) :
    outCanon (execManagement x raw full s) := by
  unfold execManagement
  try dsimp only
  with_reducible repeat' (first | assumption | intro _ | apply outCanon_next | apply State.mgmtPlace_canon | apply State.ptpRx_canon | apply State.count_canon | apply State.flag_canon | apply canon_ite | apply canon_foldl | simp only [canon_mk] | split)

theorem execPtpMessageTx_canon (m : Nat) (n : Fin 2) (port : Fin 2) (kind : Nat) {s : State} (h_s : s.canon = true) :
    outCanon (execPtpMessageTx m n port kind s) := by
  unfold execPtpMessageTx
  try dsimp only
  with_reducible repeat' (first | assumption | intro _ | apply outCanon_next | apply State.ptpSend_canon | apply State.macFix_canon | apply canon_ite | apply canon_foldl | simp only [canon_mk] | split)

theorem execAnnounceTimeout_canon (m : Nat) (n : Fin 2) (port : Fin 2) (ann : Bool) {s : State} (h_s : s.canon = true) :
    outCanon (execAnnounceTimeout m n port ann s) := by
  unfold execAnnounceTimeout
  try dsimp only
  with_reducible repeat' (first | assumption | intro _ | apply outCanon_next | apply State.ptpTimeout_canon | apply State.macTo_canon | apply canon_ite | apply canon_foldl | simp only [canon_mk] | split)

theorem execServoSel_canon (path : Path) (m : Nat) (v : Word) {s : State} (h_s : s.canon = true) :
    outCanon (execServoSel path m v s) := by
  unfold execServoSel
  try dsimp only
  with_reducible repeat' (first | assumption | intro _ | apply outCanon_next | apply State.macTo_canon | apply State.servoCtrl_canon | apply State.rowWrite_canon | apply canon_ite | apply canon_foldl | simp only [canon_mk] | split)

theorem execSyncReqSend_canon (b : Nat) (phi : Fin 2048) {s : State} (h_s : s.canon = true) :
    outCanon (execSyncReqSend b phi s) := by
  unfold execSyncReqSend
  try dsimp only
  with_reducible repeat' (first | assumption | intro _ | apply outCanon_next | apply State.syncReqSend_canon | apply State.at_canon | apply canon_ite | apply canon_foldl | simp only [canon_mk] | split)

theorem execSyncReq_canon (b : Nat) (port : Fin 4) (phi : Fin 2048) (turn : Nat) (w : BitVec 64) {s : State} (h_s : s.canon = true) :
    outCanon (execSyncReq b port phi turn w s) := by
  unfold execSyncReq
  try dsimp only
  with_reducible repeat' (first | assumption | intro _ | apply outCanon_next | apply State.syncReq_canon | apply State.at_canon | apply canon_ite | apply canon_foldl | simp only [canon_mk] | split)

theorem execSyncResp_canon (b : Nat) (port : Fin 4) (phi : Fin 2048) (w : BitVec 64) {s : State} (h_s : s.canon = true) :
    outCanon (execSyncResp b port phi w s) := by
  unfold execSyncResp
  try dsimp only
  with_reducible repeat' (first | assumption | intro _ | apply outCanon_next | apply State.syncResp_canon | apply State.at_canon | apply canon_ite | apply canon_foldl | simp only [canon_mk] | split)

theorem execStartSend_canon (b : Nat) {s : State} (h_s : s.canon = true) :
    outCanon (execStartSend b s) := by
  unfold execStartSend
  try dsimp only
  with_reducible repeat' (first | assumption | intro _ | apply outCanon_next | apply State.startSend_canon | apply State.at_canon | apply canon_ite | apply canon_foldl | simp only [canon_mk] | split)

theorem execStartHi_canon (b : Nat) (port : Fin 4) (w : BitVec 64) {s : State} (h_s : s.canon = true) :
    outCanon (execStartHi b port w s) := by
  unfold execStartHi
  try dsimp only
  with_reducible repeat' (first | assumption | intro _ | apply outCanon_next | apply State.startHi_canon | apply State.at_canon | apply canon_ite | apply canon_foldl | simp only [canon_mk] | split)

theorem execStartLo_canon (b : Nat) (port : Fin 4) (w : BitVec 64) {s : State} (h_s : s.canon = true) :
    outCanon (execStartLo b port w s) := by
  unfold execStartLo
  try dsimp only
  with_reducible repeat' (first | assumption | intro _ | apply outCanon_next | apply State.startLo_canon | apply State.at_canon | apply canon_ite | apply canon_foldl | simp only [canon_mk] | split)

theorem execBeatCounterLoad_canon (b : Nat) {s : State} (h_s : s.canon = true) :
    outCanon (execBeatCounterLoad b s) := by
  unfold execBeatCounterLoad
  try dsimp only
  with_reducible repeat' (first | assumption | intro _ | apply outCanon_next | apply State.counterLoad_canon | apply State.at_canon | apply canon_ite | apply canon_foldl | simp only [canon_mk] | split)

theorem execCsyncPing_canon (b : Nat) (dst : Fin 32) (w : BitVec 64) {s : State} (h_s : s.canon = true) :
    outCanon (execCsyncPing b dst w s) := by
  unfold execCsyncPing
  try dsimp only
  with_reducible repeat' (first | assumption | intro _ | apply outCanon_next | apply State.at_canon | apply State.ping_canon | apply State.unicast_canon | apply canon_ite | apply canon_foldl | simp only [canon_mk] | split)

theorem execCsyncPong_canon (b : Nat) (dst : Fin 32) (w : BitVec 64) {s : State} (h_s : s.canon = true) :
    outCanon (execCsyncPong b dst w s) := by
  unfold execCsyncPong
  try dsimp only
  with_reducible repeat' (first | assumption | intro _ | apply outCanon_next | apply State.at_canon | apply State.pong_canon | apply State.unicast_canon | apply canon_ite | apply canon_foldl | simp only [canon_mk] | split)

theorem execCsyncJoin_canon (path : Path) (key : BitVec 16) {s : State} (h_s : s.canon = true) :
    outCanon (execCsyncJoin path key s) := by
  unfold execCsyncJoin
  try dsimp only
  with_reducible repeat' (first | assumption | intro _ | apply outCanon_next | apply State.csCmd_canon | apply State.rowWrite_canon | apply canon_ite | apply canon_foldl | simp only [canon_mk] | split)

theorem execCsyncLeave_canon (path : Path) (key : BitVec 16) {s : State} (h_s : s.canon = true) :
    outCanon (execCsyncLeave path key s) := by
  unfold execCsyncLeave
  try dsimp only
  with_reducible repeat' (first | assumption | intro _ | apply outCanon_next | apply State.csCmd_canon | apply State.rowWrite_canon | apply canon_ite | apply canon_foldl | simp only [canon_mk] | split)

theorem execCsyncRemeasure_canon (path : Path) (key : BitVec 16) {s : State} (h_s : s.canon = true) :
    outCanon (execCsyncRemeasure path key s) := by
  unfold execCsyncRemeasure
  try dsimp only
  with_reducible repeat' (first | assumption | intro _ | apply outCanon_next | apply State.csCmd_canon | apply State.rowWrite_canon | apply canon_ite | apply canon_foldl | simp only [canon_mk] | split)

theorem execParentLinkLoss_canon (b : Nat) {s : State} (h_s : s.canon = true) :
    outCanon (execParentLinkLoss b s) := by
  unfold execParentLinkLoss
  try dsimp only
  with_reducible repeat' (first | assumption | intro _ | apply outCanon_next | apply State.parentLoss_canon | apply State.at_canon | apply canon_ite | apply canon_foldl | simp only [canon_mk] | split)

theorem execHoldMs_canon (b : Nat) {s : State} (h_s : s.canon = true) :
    outCanon (execHoldMs b s) := by
  unfold execHoldMs
  try dsimp only
  with_reducible repeat' (first | assumption | intro _ | apply outCanon_next | apply State.holdMs_canon | apply State.at_canon | apply canon_ite | apply canon_foldl | simp only [canon_mk] | split)

theorem execJoinMs_canon (b : Nat) {s : State} (h_s : s.canon = true) :
    outCanon (execJoinMs b s) := by
  unfold execJoinMs
  try dsimp only
  with_reducible repeat' (first | assumption | intro _ | apply outCanon_next | apply State.joinMs_canon | apply State.at_canon | apply canon_ite | apply canon_foldl | simp only [canon_mk] | split)

theorem execEthFrameRx_canon (port : Fin 2) (kind : Nat) (bytes : List Byte) (full : Bool) {s : State} (h_s : s.canon = true) :
    outCanon (execEthFrameRx port kind bytes full s) := by
  unfold execEthFrameRx
  try dsimp only
  with_reducible repeat' (first | assumption | intro _ | apply outCanon_next | apply State.ethPlace_canon | apply canon_ite | apply canon_foldl | simp only [canon_mk] | split)

theorem execEthFrameTx_canon (port : Fin 2) (bytes : List Byte) {s : State} (h_s : s.canon = true) :
    outCanon (execEthFrameTx port bytes s) := by
  unfold execEthFrameTx
  try dsimp only
  with_reducible repeat' (first | assumption | intro _ | apply outCanon_next | apply State.emit_canon | apply canon_ite | apply canon_foldl | simp only [canon_mk] | split)

theorem execNdeorFrame_canon (b : Nat) (port lane : Fin 4) (crc : BitVec 15) (mode : Fin 4) (dst : Fin 32) (cls : Fin 4) (phi : Fin 2048) (turn : Nat) (w : BitVec 64) {s : State} (h_s : s.canon = true) :
    outCanon (execNdeorFrame b port lane crc mode dst cls phi turn w s) := by
  unfold execNdeorFrame
  try dsimp only
  with_reducible repeat' (first | assumption | intro _ | apply outCanon_next | apply State.frameIn_canon | apply State.at_canon | apply canon_ite | apply canon_foldl | simp only [canon_mk] | split)

theorem execTrainingStateDone_canon (b : Nat) (p : Fin 4) (vals : List Nat) (dev : Fin 32) {s : State} (h_s : s.canon = true) :
    outCanon (execTrainingStateDone b p vals dev s) := by
  unfold execTrainingStateDone
  try dsimp only
  with_reducible repeat' (first | assumption | intro _ | apply outCanon_next | apply State.trainDone_canon | apply State.at_canon | apply canon_ite | apply canon_foldl | simp only [canon_mk] | split)

theorem execTrainingTimeout_canon (b : Nat) (p : Fin 4) (alt : Bool) {s : State} (h_s : s.canon = true) :
    outCanon (execTrainingTimeout b p alt s) := by
  unfold execTrainingTimeout
  try dsimp only
  with_reducible repeat' (first | assumption | intro _ | apply outCanon_next | apply State.trainTimeout_canon | apply State.at_canon | apply canon_ite | apply canon_foldl | simp only [canon_mk] | split)

theorem execPortRetrain_canon (path : Path) (p : Fin 4) (v : Word) {s : State} (h_s : s.canon = true) :
    outCanon (execPortRetrain path p v s) := by
  unfold execPortRetrain
  try dsimp only
  with_reducible repeat' (first | assumption | intro _ | apply outCanon_next | apply State.portCtrl_canon | apply State.rowWrite_canon | apply canon_ite | apply canon_foldl | simp only [canon_mk] | split)

theorem execPortEidle_canon (path : Path) (p : Fin 4) (v : Word) {s : State} (h_s : s.canon = true) :
    outCanon (execPortEidle path p v s) := by
  unfold execPortEidle
  try dsimp only
  with_reducible repeat' (first | assumption | intro _ | apply outCanon_next | apply State.portCtrl_canon | apply State.rowWrite_canon | apply canon_ite | apply canon_foldl | simp only [canon_mk] | split)

theorem execFastExit_canon (b : Nat) (p : Fin 4) {s : State} (h_s : s.canon = true) :
    outCanon (execFastExit b p s) := by
  unfold execFastExit
  try dsimp only
  with_reducible repeat' (first | assumption | intro _ | apply outCanon_next | apply State.fastExit_canon | apply State.at_canon | apply canon_ite | apply canon_foldl | simp only [canon_mk] | split)

theorem execLaneSlip_canon (path : Path) (n : Fin 16) (v : Word) {s : State} (h_s : s.canon = true) :
    outCanon (execLaneSlip path n v s) := by
  unfold execLaneSlip
  try dsimp only
  with_reducible repeat' (first | assumption | intro _ | apply outCanon_next | apply State.laneCtrl_canon | apply State.rowWrite_canon | apply canon_ite | apply canon_foldl | simp only [canon_mk] | split)

theorem execLaneResume_canon (path : Path) (n : Fin 16) (v : Word) {s : State} (h_s : s.canon = true) :
    outCanon (execLaneResume path n v s) := by
  unfold execLaneResume
  try dsimp only
  with_reducible repeat' (first | assumption | intro _ | apply outCanon_next | apply State.laneCtrl_canon | apply State.rowWrite_canon | apply canon_ite | apply canon_foldl | simp only [canon_mk] | split)

theorem execPrbsChk_canon (path : Path) (n : Fin 16) (v : Word) {s : State} (h_s : s.canon = true) :
    outCanon (execPrbsChk path n v s) := by
  unfold execPrbsChk
  try dsimp only
  with_reducible repeat' (first | assumption | intro _ | apply outCanon_next | apply State.laneCtrl_canon | apply State.rowWrite_canon | apply canon_ite | apply canon_foldl | simp only [canon_mk] | split)

theorem execPrbsGen_canon (path : Path) (n : Fin 16) (v : Word) {s : State} (h_s : s.canon = true) :
    outCanon (execPrbsGen path n v s) := by
  unfold execPrbsGen
  try dsimp only
  with_reducible repeat' (first | assumption | intro _ | apply outCanon_next | apply State.laneCtrl_canon | apply State.rowWrite_canon | apply canon_ite | apply canon_foldl | simp only [canon_mk] | split)

theorem execInjFire_canon (path : Path) (n : Fin 16) (v : Word) {s : State} (h_s : s.canon = true) :
    outCanon (execInjFire path n v s) := by
  unfold execInjFire
  try dsimp only
  with_reducible repeat' (first | assumption | intro _ | apply outCanon_next | apply State.laneInj_canon | apply State.rowWrite_canon | apply canon_ite | apply canon_foldl | simp only [canon_mk] | split)

theorem execMboxTx_canon (path : Path) (w : BitVec 64) {s : State} (h_s : s.canon = true) :
    outCanon (execMboxTx path w s) := by
  unfold execMboxTx
  try dsimp only
  with_reducible repeat' (first | assumption | intro _ | apply outCanon_next | apply State.mboxTx_canon | apply State.rowTurn_canon | apply State.rowWrite_canon | apply canon_ite | apply canon_foldl | simp only [canon_mk] | split)

theorem State.rowRead_canon {s : State} (path : Path) (p : Pg) (off : Nat) (k : State → State) (h_s : s.canon = true) (h_k : ∀ t, t.canon = true → State.canon (k t) = true) :
    State.canon (State.rowRead s path p off k) = true := by
  unfold State.rowRead
  try dsimp only
  with_reducible repeat' (first | assumption | intro _ | apply State.rowTurn_canon | apply State.withRead_canon | apply h_k | apply canon_ite | apply canon_foldl | simp only [canon_mk] | split)

theorem execMboxRxLoRead_canon (path : Path) {s : State} (h_s : s.canon = true) :
    outCanon (execMboxRxLoRead path s) := by
  unfold execMboxRxLoRead
  try dsimp only
  with_reducible repeat' (first | assumption | intro _ | apply outCanon_next | apply State.mboxRead_canon | apply State.rowRead_canon | apply canon_ite | apply canon_foldl | simp only [canon_mk] | split)

theorem execNdeorAbort_canon (b : Nat) (port : Fin 4) (w : BitVec 64) {s : State} (h_s : s.canon = true) :
    outCanon (execNdeorAbort b port w s) := by
  unfold execNdeorAbort
  try dsimp only
  with_reducible repeat' (first | assumption | intro _ | apply outCanon_next | apply State.abortArrives_canon | apply State.at_canon | apply canon_ite | apply canon_foldl | simp only [canon_mk] | split)

theorem execPowerOnReset_canon {s : State} (h_s : s.canon = true) :
    outCanon (execPowerOnReset s) := by
  unfold execPowerOnReset
  try dsimp only
  with_reducible repeat' (first | assumption | intro _ | apply outCanon_next | apply State.powerOn_canon | apply canon_ite | apply canon_foldl | simp only [canon_mk] | split)

theorem execPinReset_canon {s : State} (h_s : s.canon = true) :
    outCanon (execPinReset s) := by
  unfold execPinReset
  try dsimp only
  with_reducible repeat' (first | assumption | intro _ | apply outCanon_next | apply State.pinReset_canon | apply canon_ite | apply canon_foldl | simp only [canon_mk] | split)

theorem execSupplyReset_canon {s : State} (h_s : s.canon = true) :
    outCanon (execSupplyReset s) := by
  unfold execSupplyReset
  try dsimp only
  with_reducible repeat' (first | assumption | intro _ | apply outCanon_next | apply State.supplyReset_canon | apply canon_ite | apply canon_foldl | simp only [canon_mk] | split)

theorem execWakeN_canon {s : State} (h_s : s.canon = true) :
    outCanon (execWakeN s) := by
  unfold execWakeN
  try dsimp only
  with_reducible repeat' (first | assumption | intro _ | apply outCanon_next | apply State.wake_canon | apply canon_ite | apply canon_foldl | simp only [canon_mk] | split)

theorem execBootStepComplete_canon (b : Nat) (r : BootRes) {s : State} (h_s : s.canon = true) :
    outCanon (execBootStepComplete b r s) := by
  unfold execBootStepComplete
  try dsimp only
  with_reducible repeat' (first | assumption | intro _ | apply outCanon_next | apply State.stepEnds_canon | apply State.at_canon | apply canon_ite | apply canon_foldl | simp only [canon_mk] | split)

theorem execBootStepTimeout_canon (b : Nat) (t : Nat) (units : List Nat) {s : State} (h_s : s.canon = true) :
    outCanon (execBootStepTimeout b t units s) := by
  unfold execBootStepTimeout
  try dsimp only
  with_reducible repeat' (first | assumption | intro _ | apply outCanon_next | apply State.stepTimeout_canon | apply State.at_canon | apply canon_ite | apply canon_foldl | simp only [canon_mk] | split)

theorem execModeReqRun_canon (path : Path) (key : BitVec 16) {s : State} (h_s : s.canon = true) :
    outCanon (execModeReqRun path key s) := by
  unfold execModeReqRun
  try dsimp only
  with_reducible repeat' (first | assumption | intro _ | apply outCanon_next | apply State.modeReq_canon | apply State.rowWrite_canon | apply canon_ite | apply canon_foldl | simp only [canon_mk] | split)

theorem execModeReqReady_canon (path : Path) (key : BitVec 16) {s : State} (h_s : s.canon = true) :
    outCanon (execModeReqReady path key s) := by
  unfold execModeReqReady
  try dsimp only
  with_reducible repeat' (first | assumption | intro _ | apply outCanon_next | apply State.modeReq_canon | apply State.rowWrite_canon | apply canon_ite | apply canon_foldl | simp only [canon_mk] | split)

theorem execModeReqService_canon (path : Path) (key : BitVec 16) {s : State} (h_s : s.canon = true) :
    outCanon (execModeReqService path key s) := by
  unfold execModeReqService
  try dsimp only
  with_reducible repeat' (first | assumption | intro _ | apply outCanon_next | apply State.modeReq_canon | apply State.rowWrite_canon | apply canon_ite | apply canon_foldl | simp only [canon_mk] | split)

theorem execModeReqDormant_canon (path : Path) (key : BitVec 16) {s : State} (h_s : s.canon = true) :
    outCanon (execModeReqDormant path key s) := by
  unfold execModeReqDormant
  try dsimp only
  with_reducible repeat' (first | assumption | intro _ | apply outCanon_next | apply State.modeReq_canon | apply State.rowWrite_canon | apply canon_ite | apply canon_foldl | simp only [canon_mk] | split)

theorem execModeReqHold_canon (path : Path) (key : BitVec 16) {s : State} (h_s : s.canon = true) :
    outCanon (execModeReqHold path key s) := by
  unfold execModeReqHold
  try dsimp only
  with_reducible repeat' (first | assumption | intro _ | apply outCanon_next | apply State.modeReq_canon | apply State.rowWrite_canon | apply canon_ite | apply canon_foldl | simp only [canon_mk] | split)

theorem execRunStopComplete_canon (b : Nat) {s : State} (h_s : s.canon = true) :
    outCanon (execRunStopComplete b s) := by
  unfold execRunStopComplete
  try dsimp only
  with_reducible repeat' (first | assumption | intro _ | apply outCanon_next | apply State.runStopComplete_canon | apply State.at_canon | apply canon_ite | apply canon_foldl | simp only [canon_mk] | split)

theorem execStopTimeout_canon (b : Nat) {s : State} (h_s : s.canon = true) :
    outCanon (execStopTimeout b s) := by
  unfold execStopTimeout
  try dsimp only
  with_reducible repeat' (first | assumption | intro _ | apply outCanon_next | apply State.stopTimeout_canon | apply State.at_canon | apply canon_ite | apply canon_foldl | simp only [canon_mk] | split)

theorem execModeTransitionDone_canon (b : Nat) {s : State} (h_s : s.canon = true) :
    outCanon (execModeTransitionDone b s) := by
  unfold execModeTransitionDone
  try dsimp only
  with_reducible repeat' (first | assumption | intro _ | apply outCanon_next | apply State.modeDone_canon | apply State.at_canon | apply canon_ite | apply canon_foldl | simp only [canon_mk] | split)

theorem execWarmReset_canon (path : Path) (key : BitVec 16) {s : State} (h_s : s.canon = true) :
    outCanon (execWarmReset path key s) := by
  unfold execWarmReset
  try dsimp only
  with_reducible repeat' (first | assumption | intro _ | apply outCanon_next | apply State.modeReset_canon | apply State.rowWrite_canon | apply canon_ite | apply canon_foldl | simp only [canon_mk] | split)

theorem execThermalLockPowerOff_canon (b : Nat) {s : State} (h_s : s.canon = true) :
    outCanon (execThermalLockPowerOff b s) := by
  unfold execThermalLockPowerOff
  try dsimp only
  with_reducible repeat' (first | assumption | intro _ | apply outCanon_next | apply State.lockPowerOff_canon | apply State.at_canon | apply canon_ite | apply canon_foldl | simp only [canon_mk] | split)

theorem execPgoodLost_canon (b : Nat) (d : Fin 26) {s : State} (h_s : s.canon = true) :
    outCanon (execPgoodLost b d s) := by
  unfold execPgoodLost
  try dsimp only
  with_reducible repeat' (first | assumption | intro _ | apply outCanon_next | apply State.pgoodLost_canon | apply State.at_canon | apply canon_ite | apply canon_foldl | simp only [canon_mk] | split)

theorem execDomGateWrite_canon (path : Path) (v : Word) {s : State} (h_s : s.canon = true) :
    outCanon (execDomGateWrite path v s) := by
  unfold execDomGateWrite
  try dsimp only
  with_reducible repeat' (first | assumption | intro _ | apply outCanon_next | apply State.domGate_canon | apply State.rowWrite_canon | apply canon_ite | apply canon_foldl | simp only [canon_mk] | split)

theorem execClrCnt_canon (path : Path) {s : State} (h_s : s.canon = true) :
    outCanon (execClrCnt path s) := by
  unfold execClrCnt
  try dsimp only
  with_reducible repeat' (first | assumption | intro _ | apply outCanon_next | apply State.logCtrl_canon | apply State.rowWrite_canon | apply canon_ite | apply canon_foldl | simp only [canon_mk] | split)

theorem execLogMirror_canon (path : Path) {s : State} (h_s : s.canon = true) :
    outCanon (execLogMirror path s) := by
  unfold execLogMirror
  try dsimp only
  with_reducible repeat' (first | assumption | intro _ | apply outCanon_next | apply State.logCtrl_canon | apply State.rowWrite_canon | apply canon_ite | apply canon_foldl | simp only [canon_mk] | split)

theorem execPcieFundamentalReset_canon (b : Nat) {s : State} (h_s : s.canon = true) :
    outCanon (execPcieFundamentalReset b s) := by
  unfold execPcieFundamentalReset
  try dsimp only
  with_reducible repeat' (first | assumption | intro _ | apply outCanon_next | apply State.perst_canon | apply State.at_canon | apply State.turns_canon | apply canon_ite | apply canon_foldl | simp only [canon_mk] | split)

theorem execPcieLinkUp_canon (b width : Nat) (up : PcieUp) {s : State} (h_s : s.canon = true) :
    outCanon (execPcieLinkUp b width up s) := by
  unfold execPcieLinkUp
  try dsimp only
  with_reducible repeat' (first | assumption | intro _ | apply outCanon_next | apply State.pcieUp_canon | apply State.at_canon | apply canon_ite | apply canon_foldl | simp only [canon_mk] | split)

theorem execFunctionLevelReset_canon (b : Nat) (fn : Fin 32) {s : State} (h_s : s.canon = true) :
    outCanon (execFunctionLevelReset b fn s) := by
  unfold execFunctionLevelReset
  try dsimp only
  with_reducible repeat' (first | assumption | intro _ | apply outCanon_next | apply State.turns_canon | apply State.flr_canon | apply State.at_canon | apply canon_ite | apply canon_foldl | simp only [canon_mk] | split)

theorem execClockUnlock_canon (b : Nat) (ref : Bool) {s : State} (h_s : s.canon = true) :
    outCanon (execClockUnlock b ref s) := by
  unfold execClockUnlock
  try dsimp only
  with_reducible repeat' (first | assumption | intro _ | apply outCanon_next | apply State.unlockNow_canon | apply State.at_canon | apply canon_ite | apply canon_foldl | simp only [canon_mk] | split)

theorem execMainPllRelock_canon {s : State} (h_s : s.canon = true) :
    outCanon (execMainPllRelock s) := by
  unfold execMainPllRelock
  try dsimp only
  with_reducible repeat' (first | assumption | intro _ | apply outCanon_next | apply State.relock_canon | apply canon_ite | apply canon_foldl | simp only [canon_mk] | split)

theorem execPfAbortDoorbell_canon (b : Nat) (v : Word) {s : State} (h_s : s.canon = true) :
    outCanon (execPfAbortDoorbell b v s) := by
  unfold execPfAbortDoorbell
  try dsimp only
  with_reducible repeat' (first | assumption | intro _ | apply outCanon_next | apply State.abortBell_canon | apply State.at_canon | apply canon_ite | apply canon_foldl | simp only [canon_mk] | split)

theorem execVfAbortDoorbell_canon (b : Nat) (fn : Fin 32) (v : Word) {s : State} (h_s : s.canon = true) :
    outCanon (execVfAbortDoorbell b fn v s) := by
  unfold execVfAbortDoorbell
  try dsimp only
  with_reducible repeat' (first | assumption | intro _ | apply outCanon_next | apply State.abortBell_canon | apply State.at_canon | apply canon_ite | apply canon_foldl | simp only [canon_mk] | split)

theorem State.abortLevel_canon {s : State} (low : Bool) (h_s : s.canon = true) :
    State.canon (State.abortLevel s low) = true := by
  unfold State.abortLevel
  try dsimp only
  with_reducible repeat' (first | assumption | intro _ | apply canon_ite | apply canon_foldl | simp only [canon_mk] | split)

theorem execAbortN_canon (b : Nat) (low : Option Nat) {s : State} (h_s : s.canon = true) :
    outCanon (execAbortN b low s) := by
  unfold execAbortN
  try dsimp only
  with_reducible repeat' (first | assumption | intro _ | apply outCanon_next | apply State.at_canon | apply State.abortLevel_canon | apply State.enterHold_canon | apply canon_ite | apply canon_foldl | simp only [canon_mk] | split)

theorem execUncorrectableSramError_canon (b : Nat) {s : State} (h_s : s.canon = true) :
    outCanon (execUncorrectableSramError b s) := by
  unfold execUncorrectableSramError
  try dsimp only
  with_reducible repeat' (first | assumption | intro _ | apply outCanon_next | apply State.fatal_canon | apply State.at_canon | apply canon_ite | apply canon_foldl | simp only [canon_mk] | split)

theorem execSmbusWake_canon {s : State} (h_s : s.canon = true) :
    outCanon (execSmbusWake s) := by
  unfold execSmbusWake
  try dsimp only
  with_reducible repeat' (first | assumption | intro _ | apply outCanon_next | apply State.wake_canon | apply canon_ite | apply canon_foldl | simp only [canon_mk] | split)

theorem execSmbusMode_canon {s : State} (h_s : s.canon = true) :
    outCanon (execSmbusMode s) := by
  unfold execSmbusMode
  try dsimp only
  with_reducible repeat' (first | assumption | intro _ | apply outCanon_next | apply State.emit_canon | apply canon_ite | apply canon_foldl | simp only [canon_mk] | split)

theorem execQueueFirstWord_canon (b : Nat) (k : Nat) {s : State} (h_s : s.canon = true) :
    outCanon (execQueueFirstWord b k s) := by
  unfold execQueueFirstWord
  try dsimp only
  with_reducible repeat' (first | assumption | intro _ | apply outCanon_next | apply State.turns_canon | apply State.firstWord_canon | apply State.at_canon | apply canon_ite | apply canon_foldl | simp only [canon_mk] | split)

theorem execQueueWord_canon (b : Nat) (k : Nat) {s : State} (h_s : s.canon = true) :
    outCanon (execQueueWord b k s) := by
  unfold execQueueWord
  try dsimp only
  with_reducible repeat' (first | assumption | intro _ | apply outCanon_next | apply State.turns_canon | apply State.nextWord_canon | apply State.at_canon | apply canon_ite | apply canon_foldl | simp only [canon_mk] | split)

theorem execQueueHead_canon (path : Path) (q : Fin 64) {s : State} (h_s : s.canon = true) :
    outCanon (execQueueHead path q s) := by
  unfold execQueueHead
  try dsimp only
  with_reducible repeat' (first | assumption | intro _ | apply outCanon_next | apply State.inTurn_canon | apply State.withRead_canon | apply State.headRead_canon | apply canon_ite | apply canon_foldl | simp only [canon_mk] | split)

theorem execHeadTimeout_canon (b : Nat) (q : Fin 64) {s : State} (h_s : s.canon = true) :
    outCanon (execHeadTimeout b q s) := by
  unfold execHeadTimeout
  try dsimp only
  with_reducible repeat' (first | assumption | intro _ | apply outCanon_next | apply State.turns_canon | apply State.headTimeout_canon | apply State.at_canon | apply canon_ite | apply canon_foldl | simp only [canon_mk] | split)

theorem execDrainCopy_canon (b : Nat) (q : Fin 64) {s : State} (h_s : s.canon = true) :
    outCanon (execDrainCopy b q s) := by
  unfold execDrainCopy
  try dsimp only
  with_reducible repeat' (first | assumption | intro _ | apply outCanon_next | apply State.drainCopy_canon | apply State.at_canon | apply canon_ite | apply canon_foldl | simp only [canon_mk] | split)

theorem execQueueDrd_canon (path : Path) (q : Fin 64) (v : Word) (bell : Bool) {s : State} (h_s : s.canon = true) :
    outCanon (execQueueDrd path q v bell s) := by
  unfold execQueueDrd
  try dsimp only
  with_reducible repeat' (first | assumption | intro _ | apply outCanon_next | apply State.viaBell_canon | apply State.hostRdWrite_canon | apply State.inTurn_canon | apply canon_ite | apply canon_foldl | simp only [canon_mk] | split)

theorem State.cmdWrite_canon {s : State} (path : Path) (q : Nat) (v : Nat) (k : State → State) (h_s : s.canon = true) (h_k : ∀ t, t.canon = true → (k t).canon = true) :
    State.canon (State.cmdWrite s path q v k) = true := by
  unfold State.cmdWrite
  try dsimp only
  with_reducible repeat' (first | assumption | intro _ | apply State.inTurn_canon | apply State.withWrite_canon | apply h_k | apply canon_ite | apply canon_foldl | simp only [canon_mk] | split)

theorem execQueueRelease_canon (path : Path) (q : Fin 64) (n : BitVec 16) {s : State} (h_s : s.canon = true) :
    outCanon (execQueueRelease path q n s) := by
  unfold execQueueRelease
  try dsimp only
  with_reducible repeat' (first | assumption | intro _ | apply outCanon_next | apply State.cmdWrite_canon | apply State.qRelease_canon | apply canon_ite | apply canon_foldl | simp only [canon_mk] | split)

theorem execQueueAll_canon (path : Path) (q : Fin 64) {s : State} (h_s : s.canon = true) :
    outCanon (execQueueAll path q s) := by
  unfold execQueueAll
  try dsimp only
  with_reducible repeat' (first | assumption | intro _ | apply outCanon_next | apply State.cmdWrite_canon | apply State.qAll_canon | apply canon_ite | apply canon_foldl | simp only [canon_mk] | split)

theorem execQueueMark_canon (path : Path) (q : Fin 64) {s : State} (h_s : s.canon = true) :
    outCanon (execQueueMark path q s) := by
  unfold execQueueMark
  try dsimp only
  with_reducible repeat' (first | assumption | intro _ | apply outCanon_next | apply State.cmdWrite_canon | apply State.qMark_canon | apply canon_ite | apply canon_foldl | simp only [canon_mk] | split)

theorem execQueueRewind_canon (path : Path) (q : Fin 64) {s : State} (h_s : s.canon = true) :
    outCanon (execQueueRewind path q s) := by
  unfold execQueueRewind
  try dsimp only
  with_reducible repeat' (first | assumption | intro _ | apply outCanon_next | apply State.cmdWrite_canon | apply State.qRewind_canon | apply canon_ite | apply canon_foldl | simp only [canon_mk] | split)

theorem execQueueFlush_canon (path : Path) (q : Fin 64) {s : State} (h_s : s.canon = true) :
    outCanon (execQueueFlush path q s) := by
  unfold execQueueFlush
  try dsimp only
  with_reducible repeat' (first | assumption | intro _ | apply outCanon_next | apply State.cmdWrite_canon | apply State.flushQ_canon | apply canon_ite | apply canon_foldl | simp only [canon_mk] | split)

theorem execQueueTimeout_canon (b : Nat) (q : Fin 64) {s : State} (h_s : s.canon = true) :
    outCanon (execQueueTimeout b q s) := by
  unfold execQueueTimeout
  try dsimp only
  with_reducible repeat' (first | assumption | intro _ | apply outCanon_next | apply State.queueTimeout_canon | apply State.at_canon | apply canon_ite | apply canon_foldl | simp only [canon_mk] | split)

theorem execAdcOvr_canon (e : OvrEv) {s : State} (h_s : s.canon = true) :
    outCanon (execAdcOvr e s) := by
  unfold execAdcOvr
  try dsimp only
  with_reducible repeat' (first | assumption | intro _ | apply outCanon_next | apply State.at_canon | apply State.ovrBeat_canon | apply canon_ite | apply canon_foldl | simp only [canon_mk] | split)

theorem execFeSwitch_canon (e : FrondEv) {s : State} (h_s : s.canon = true) :
    outCanon (execFeSwitch e s) := by
  unfold execFeSwitch
  try dsimp only
  with_reducible repeat' (first | assumption | intro _ | apply outCanon_next | apply State.at_canon | apply State.feStep_canon | apply canon_ite | apply canon_foldl | simp only [canon_mk] | split)

theorem execToneChange_canon (e : FrondEv) (t : Fin 16) {s : State} (h_s : s.canon = true) :
    outCanon (execToneChange e t s) := by
  unfold execToneChange
  try dsimp only
  with_reducible repeat' (first | assumption | intro _ | apply outCanon_next | apply State.at_canon | apply State.toneStep_canon | apply canon_ite | apply canon_foldl | simp only [canon_mk] | split)

theorem State.macStep_canon {s : State} (f : Nat) (t : Nat) (codes : List (BitVec 12)) (ecc : Ecc) (h_s : s.canon = true) :
    State.canon (State.macStep s f t codes ecc) = true := by
  unfold State.macStep
  try dsimp only
  with_reducible repeat' (first | assumption | intro _ | apply State.macmin_canon | apply canon_ite | apply canon_foldl | simp only [canon_mk] | split)

theorem execMacmin_canon (e : FrondEv) (t : Fin 16) (codes : List (BitVec 12)) (ecc : Ecc) {s : State} (h_s : s.canon = true) :
    outCanon (execMacmin e t codes ecc s) := by
  unfold execMacmin
  try dsimp only
  with_reducible repeat' (first | assumption | intro _ | apply outCanon_next | apply State.macStep_canon | apply State.at_canon | apply canon_ite | apply canon_foldl | simp only [canon_mk] | split)

theorem execWindowResult_canon (e : FrondEv) (t : Fin 16) {s : State} (h_s : s.canon = true) :
    outCanon (execWindowResult e t s) := by
  unfold execWindowResult
  try dsimp only
  with_reducible repeat' (first | assumption | intro _ | apply outCanon_next | apply State.at_canon | apply State.windowResult_canon | apply canon_ite | apply canon_foldl | simp only [canon_mk] | split)

theorem State.wmemLo_canon {s : State} (f : Nat) (path : Path) (h_s : s.canon = true) :
    State.canon (State.wmemLo s f path) = true := by
  unfold State.wmemLo
  try dsimp only
  with_reducible repeat' (first | assumption | intro _ | apply State.answerPair_canon | apply canon_ite | apply canon_foldl | simp only [canon_mk] | split)

theorem execWmemDataLoRead_canon (path : Path) (f : Fin 32) {s : State} (h_s : s.canon = true) :
    outCanon (execWmemDataLoRead path f s) := by
  unfold execWmemDataLoRead
  try dsimp only
  with_reducible repeat' (first | assumption | intro _ | apply outCanon_next | apply State.wmemLo_canon | apply State.rowRead_canon | apply canon_ite | apply canon_foldl | simp only [canon_mk] | split)

theorem execLcProvision_canon (path : Path) (key : BitVec 16) {s : State} (h_s : s.canon = true) :
    outCanon (execLcProvision path key s) := by
  unfold execLcProvision
  try dsimp only
  with_reducible repeat' (first | assumption | intro _ | apply outCanon_next | apply State.lcCmd_canon | apply State.rowWrite_canon | apply canon_ite | apply canon_foldl | simp only [canon_mk] | split)

theorem execLcDeploy_canon (path : Path) (key : BitVec 16) {s : State} (h_s : s.canon = true) :
    outCanon (execLcDeploy path key s) := by
  unfold execLcDeploy
  try dsimp only
  with_reducible repeat' (first | assumption | intro _ | apply outCanon_next | apply State.lcCmd_canon | apply State.rowWrite_canon | apply canon_ite | apply canon_foldl | simp only [canon_mk] | split)

theorem execLcReturn_canon (path : Path) (key : BitVec 16) {s : State} (h_s : s.canon = true) :
    outCanon (execLcReturn path key s) := by
  unfold execLcReturn
  try dsimp only
  with_reducible repeat' (first | assumption | intro _ | apply outCanon_next | apply State.lcCmd_canon | apply State.rowWrite_canon | apply canon_ite | apply canon_foldl | simp only [canon_mk] | split)

theorem execLcRaiseFloor_canon (path : Path) (key : BitVec 16) {s : State} (h_s : s.canon = true) :
    outCanon (execLcRaiseFloor path key s) := by
  unfold execLcRaiseFloor
  try dsimp only
  with_reducible repeat' (first | assumption | intro _ | apply outCanon_next | apply State.lcCmd_canon | apply State.rowWrite_canon | apply canon_ite | apply canon_foldl | simp only [canon_mk] | split)

theorem execLifecycleTransitionDone_canon {s : State} (h_s : s.canon = true) :
    outCanon (execLifecycleTransitionDone s) := by
  unfold execLifecycleTransitionDone
  try dsimp only
  with_reducible repeat' (first | assumption | intro _ | apply outCanon_next | apply State.lcDone_canon | apply canon_ite | apply canon_foldl | simp only [canon_mk] | split)

theorem execDebugUnlock_canon (path : Path) (key : BitVec 16) {s : State} (h_s : s.canon = true) :
    outCanon (execDebugUnlock path key s) := by
  unfold execDebugUnlock
  try dsimp only
  with_reducible repeat' (first | assumption | intro _ | apply outCanon_next | apply State.debugCmd_canon | apply State.rowWrite_canon | apply canon_ite | apply canon_foldl | simp only [canon_mk] | split)

theorem execDebugLock_canon (path : Path) (key : BitVec 16) {s : State} (h_s : s.canon = true) :
    outCanon (execDebugLock path key s) := by
  unfold execDebugLock
  try dsimp only
  with_reducible repeat' (first | assumption | intro _ | apply outCanon_next | apply State.debugCmd_canon | apply State.rowWrite_canon | apply canon_ite | apply canon_foldl | simp only [canon_mk] | split)

theorem execTamperAlarm_canon (b : Nat) (src : Fin 3) {s : State} (h_s : s.canon = true) :
    outCanon (execTamperAlarm b src s) := by
  unfold execTamperAlarm
  try dsimp only
  with_reducible repeat' (first | assumption | intro _ | apply outCanon_next | apply State.tamper_canon | apply State.at_canon | apply canon_ite | apply canon_foldl | simp only [canon_mk] | split)

theorem execFrondScrubEnd_canon (b : Nat) (f : Fin 32) {s : State} (h_s : s.canon = true) :
    outCanon (execFrondScrubEnd b f s) := by
  unfold execFrondScrubEnd
  try dsimp only
  with_reducible repeat' (first | assumption | intro _ | apply outCanon_next | apply State.frondScrubEnd_canon | apply State.at_canon | apply canon_ite | apply canon_foldl | simp only [canon_mk] | split)

theorem execGranuleScrubEnd_canon (b : Nat) (k : Fin 128) {s : State} (h_s : s.canon = true) :
    outCanon (execGranuleScrubEnd b k s) := by
  unfold execGranuleScrubEnd
  try dsimp only
  with_reducible repeat' (first | assumption | intro _ | apply outCanon_next | apply State.granuleScrubEnd_canon | apply State.at_canon | apply canon_ite | apply canon_foldl | simp only [canon_mk] | split)

theorem execGddr7CrcError_canon (b : Nat) (c : Fin 8) (kind : CrcKind) (persist : Bool) {s : State} (h_s : s.canon = true) :
    outCanon (execGddr7CrcError b c kind persist s) := by
  unfold execGddr7CrcError
  try dsimp only
  with_reducible repeat' (first | assumption | intro _ | apply outCanon_next | apply State.crcError_canon | apply State.at_canon | apply canon_ite | apply canon_foldl | simp only [canon_mk] | split)

theorem execBar2Read_canon (path : Path) (off : Nat) (n : Nat) {s : State} (h_s : s.canon = true) :
    outCanon (execBar2Read path off n s) := by
  unfold execBar2Read
  try dsimp only
  with_reducible repeat' (first | assumption | intro _ | apply outCanon_next | apply State.bar2Read_canon | apply canon_ite | apply canon_foldl | simp only [canon_mk] | split)

theorem execBar2Write_canon (path : Path) (off : Nat) (bytes : List Byte) {s : State} (h_s : s.canon = true) :
    outCanon (execBar2Write path off bytes s) := by
  unfold execBar2Write
  try dsimp only
  with_reducible repeat' (first | assumption | intro _ | apply outCanon_next | apply State.bar2Write_canon | apply canon_ite | apply canon_foldl | simp only [canon_mk] | split)

theorem execGetVersion_canon {s : State} (h_s : s.canon = true) :
    outCanon (execGetVersion s) := by
  unfold execGetVersion
  try dsimp only
  with_reducible repeat' (first | assumption | intro _ | apply outCanon_next | apply State.spdmGetVersion_canon | apply canon_ite | apply canon_foldl | simp only [canon_mk] | split)

theorem execGetCapabilities_canon (ver : Nat) {s : State} (h_s : s.canon = true) :
    outCanon (execGetCapabilities ver s) := by
  unfold execGetCapabilities
  try dsimp only
  with_reducible repeat' (first | assumption | intro _ | apply outCanon_next | apply State.spdmCapabilities_canon | apply canon_ite | apply canon_foldl | simp only [canon_mk] | split)

theorem execNegotiateAlgorithms_canon (ver : Nat) (asym : Nat) (hash : Nat) (dhe : Nat) (aead : Nat) {s : State} (h_s : s.canon = true) :
    outCanon (execNegotiateAlgorithms ver asym hash dhe aead s) := by
  unfold execNegotiateAlgorithms
  try dsimp only
  with_reducible repeat' (first | assumption | intro _ | apply outCanon_next | apply State.spdmAlgorithms_canon | apply canon_ite | apply canon_foldl | simp only [canon_mk] | split)

theorem execGetDigests_canon (ver : Nat) {s : State} (h_s : s.canon = true) :
    outCanon (execGetDigests ver s) := by
  unfold execGetDigests
  try dsimp only
  with_reducible repeat' (first | assumption | intro _ | apply outCanon_next | apply State.spdmDigests_canon | apply canon_ite | apply canon_foldl | simp only [canon_mk] | split)

theorem execGetCertificate_canon (ver : Nat) (slot : Nat) (off : Nat) (len : Nat) {s : State} (h_s : s.canon = true) :
    outCanon (execGetCertificate ver slot off len s) := by
  unfold execGetCertificate
  try dsimp only
  with_reducible repeat' (first | assumption | intro _ | apply outCanon_next | apply State.spdmCertificate_canon | apply canon_ite | apply canon_foldl | simp only [canon_mk] | split)

theorem execChallenge_canon (ver : Nat) (slot : Nat) (nonce : List Byte) {s : State} (h_s : s.canon = true) :
    outCanon (execChallenge ver slot nonce s) := by
  unfold execChallenge
  try dsimp only
  with_reducible repeat' (first | assumption | intro _ | apply outCanon_next | apply State.spdmChallenge_canon | apply canon_ite | apply canon_foldl | simp only [canon_mk] | split)

theorem execGetMeasurements_canon (ver : Nat) (index : Nat) (sign : Bool) (nonce : List Byte) {s : State} (h_s : s.canon = true) :
    outCanon (execGetMeasurements ver index sign nonce s) := by
  unfold execGetMeasurements
  try dsimp only
  with_reducible repeat' (first | assumption | intro _ | apply outCanon_next | apply State.spdmMeasurements_canon | apply canon_ite | apply canon_foldl | simp only [canon_mk] | split)

theorem execKeyExchange_canon (ver : Nat) (slot : Nat) (sid : Nat) (pub : List Byte) {s : State} (h_s : s.canon = true) :
    outCanon (execKeyExchange ver slot sid pub s) := by
  unfold execKeyExchange
  try dsimp only
  with_reducible repeat' (first | assumption | intro _ | apply outCanon_next | apply State.spdmKeyExchange_canon | apply canon_ite | apply canon_foldl | simp only [canon_mk] | split)

theorem execFinish_canon (ver : Nat) (sid : Nat) (mac : List Byte) {s : State} (h_s : s.canon = true) :
    outCanon (execFinish ver sid mac s) := by
  unfold execFinish
  try dsimp only
  with_reducible repeat' (first | assumption | intro _ | apply outCanon_next | apply State.spdmFinish_canon | apply canon_ite | apply canon_foldl | simp only [canon_mk] | split)

theorem execHeartbeat_canon (ver : Nat) (sid : Nat) {s : State} (h_s : s.canon = true) :
    outCanon (execHeartbeat ver sid s) := by
  unfold execHeartbeat
  try dsimp only
  with_reducible repeat' (first | assumption | intro _ | apply outCanon_next | apply State.spdmHeartbeat_canon | apply canon_ite | apply canon_foldl | simp only [canon_mk] | split)

theorem execKeyUpdate_canon (ver : Nat) (sid : Nat) (op : Nat) {s : State} (h_s : s.canon = true) :
    outCanon (execKeyUpdate ver sid op s) := by
  unfold execKeyUpdate
  try dsimp only
  with_reducible repeat' (first | assumption | intro _ | apply outCanon_next | apply State.spdmKeyUpdate_canon | apply canon_ite | apply canon_foldl | simp only [canon_mk] | split)

theorem execEndSession_canon (ver : Nat) (sid : Nat) {s : State} (h_s : s.canon = true) :
    outCanon (execEndSession ver sid s) := by
  unfold execEndSession
  try dsimp only
  with_reducible repeat' (first | assumption | intro _ | apply outCanon_next | apply State.spdmEnd_canon | apply canon_ite | apply canon_foldl | simp only [canon_mk] | split)

theorem execDeadlinePassed_canon (b : Nat) (n : Fin 64) (r : Fin 16) {s : State} (h_s : s.canon = true) :
    outCanon (execDeadlinePassed b n r s) := by
  unfold execDeadlinePassed
  try dsimp only
  with_reducible repeat' (first | assumption | intro _ | apply outCanon_next | apply State.at_canon | apply State.deadline_canon | apply canon_ite | apply canon_foldl | simp only [canon_mk] | split)

theorem execArmNotice_canon (e : FrondEv) (perr : Bool) {s : State} (h_s : s.canon = true) :
    outCanon (execArmNotice e perr s) := by
  unfold execArmNotice
  try dsimp only
  with_reducible repeat' (first | assumption | intro _ | apply outCanon_next | apply State.portDiscard_canon | apply State.at_canon | apply State.armNotice_canon | apply canon_ite | apply canon_foldl | simp only [canon_mk] | split)

theorem execSlotResolution_canon (e : FrondEv) (perr : Bool) {s : State} (h_s : s.canon = true) :
    outCanon (execSlotResolution e perr s) := by
  unfold execSlotResolution
  try dsimp only
  with_reducible repeat' (first | assumption | intro _ | apply outCanon_next | apply State.portDiscard_canon | apply State.at_canon | apply State.slotResolution_canon | apply canon_ite | apply canon_foldl | simp only [canon_mk] | split)

theorem State.atMM_canon {s : State} (b unit : Nat) (h_s : s.canon = true) :
    State.canon (State.atMM s b unit) = true := by
  unfold State.atMM
  try dsimp only
  with_reducible repeat' (first | assumption | intro _ | apply State.markMM_canon | apply State.at_canon | apply canon_ite | apply canon_foldl | simp only [canon_mk] | split)

theorem execLockstepDisagreement_canon (b : Nat) (unit : Fin 33) (frames : List (Fin 32 × Fin 16)) {s : State} (h_s : s.canon = true) :
    outCanon (execLockstepDisagreement b unit frames s) := by
  unfold execLockstepDisagreement
  try dsimp only
  with_reducible repeat' (first | assumption | intro _ | apply outCanon_next | apply State.lockstep_canon | apply State.atMM_canon | apply canon_ite | apply canon_foldl | simp only [canon_mk] | split)

theorem State.decisionRecord_canon {s : State} (w : BitVec 64) (h_s : s.canon = true) :
    State.canon (State.decisionRecord s w) = true := by
  unfold State.decisionRecord
  try dsimp only
  with_reducible repeat' (first | assumption | intro _ | apply State.ndeorExport_canon | apply State.ndeorDecision_canon | apply canon_ite | apply canon_foldl | simp only [canon_mk] | split)

theorem execNdeorDecisionRecord_canon (b : Nat) (dst : Fin 32) (w : BitVec 64) {s : State} (h_s : s.canon = true) :
    outCanon (execNdeorDecisionRecord b dst w s) := by
  unfold execNdeorDecisionRecord
  try dsimp only
  with_reducible repeat' (first | assumption | intro _ | apply outCanon_next | apply State.at_canon | apply State.unicast_canon | apply State.decisionRecord_canon | apply State.count_canon | apply canon_ite | apply canon_foldl | simp only [canon_mk] | split)

theorem execPowerSample_canon (p : List (BitVec 16)) {s : State} (h_s : s.canon = true) :
    outCanon (execPowerSample p s) := by
  unfold execPowerSample
  try dsimp only
  with_reducible repeat' (first | assumption | intro _ | apply outCanon_next | apply State.powerSample_canon | apply canon_ite | apply canon_foldl | simp only [canon_mk] | split)

theorem State.past_canon {s : State} (b : Nat) (h_s : s.canon = true) :
    State.canon (State.past s b) = true := by
  unfold State.past
  try dsimp only
  with_reducible repeat' (first | assumption | intro _ | apply State.mapBoot_canon | apply canon_ite | apply canon_foldl | simp only [canon_mk] | split)

theorem execModelStep_canon (b : Nat) (nodes : List Int) {s : State} (h_s : s.canon = true) :
    outCanon (execModelStep b nodes s) := by
  unfold execModelStep
  try dsimp only
  with_reducible repeat' (first | assumption | intro _ | apply outCanon_next | apply State.modelStep_canon | apply State.at_canon | apply State.past_canon | apply State.past_canon | apply State.past_canon | apply State.past_canon | apply State.past_canon | apply State.past_canon | apply canon_ite | apply canon_foldl | simp only [canon_mk] | split)

theorem execDiodeReading_canon (b : Nat) (i : Fin 40) (t : BitVec 16) {s : State} (h_s : s.canon = true) :
    outCanon (execDiodeReading b i t s) := by
  unfold execDiodeReading
  try dsimp only
  with_reducible repeat' (first | assumption | intro _ | apply outCanon_next | apply State.diodeReading_canon | apply State.at_canon | apply State.past_canon | apply State.past_canon | apply State.past_canon | apply State.past_canon | apply State.past_canon | apply State.past_canon | apply canon_ite | apply canon_foldl | simp only [canon_mk] | split)

theorem execDiodeReadmit_canon (path : Path) (key : BitVec 16) (i : Fin 64) {s : State} (h_s : s.canon = true) :
    outCanon (execDiodeReadmit path key i s) := by
  unfold execDiodeReadmit
  try dsimp only
  with_reducible repeat' (first | assumption | intro _ | apply outCanon_next | apply State.diodeCmd_canon | apply State.rowWrite_canon | apply canon_ite | apply canon_foldl | simp only [canon_mk] | split)

theorem execCounterSnap_canon (path : Path) (b : Nat) (p : Fin 16) (key : BitVec 16) {s : State} (h_s : s.canon = true) :
    outCanon (execCounterSnap path b p key s) := by
  unfold execCounterSnap
  try dsimp only
  with_reducible repeat' (first | assumption | intro _ | apply outCanon_next | apply State.cntCmd_canon | apply State.rowWrite_canon | apply canon_ite | apply canon_foldl | simp only [canon_mk] | split)

theorem execRefreshInterval_canon (b : Nat) (temps : List (Option (BitVec 16))) {s : State} (h_s : s.canon = true) :
    outCanon (execRefreshInterval b temps s) := by
  unfold execRefreshInterval
  try dsimp only
  with_reducible repeat' (first | assumption | intro _ | apply outCanon_next | apply State.at_canon | apply State.refresh_canon | apply canon_ite | apply canon_foldl | simp only [canon_mk] | split)

theorem execSegmentBoundary_canon (e : FrondEv) (c : Fin 40) {s : State} (h_s : s.canon = true) :
    outCanon (execSegmentBoundary e c s) := by
  unfold execSegmentBoundary
  try dsimp only
  with_reducible repeat' (first | assumption | intro _ | apply outCanon_next | apply State.at_canon | apply State.passBoundary_canon | apply canon_ite | apply canon_foldl | simp only [canon_mk] | split)

theorem execJumpLatch_canon (e : FrondEv) (c : Fin 32) {s : State} (h_s : s.canon = true) :
    outCanon (execJumpLatch e c s) := by
  unfold execJumpLatch
  try dsimp only
  with_reducible repeat' (first | assumption | intro _ | apply outCanon_next | apply State.at_canon | apply State.latchJump_canon | apply canon_ite | apply canon_foldl | simp only [canon_mk] | split)

theorem execRingWr_canon (path : Path) (f : Fin 32) (r : Fin 8) (v : Word) (bell : Bool) {s : State} (h_s : s.canon = true) :
    outCanon (execRingWr path f r v bell s) := by
  unfold execRingWr
  try dsimp only
  with_reducible repeat' (first | assumption | intro _ | apply outCanon_next | apply State.viaBell_canon | apply State.ringWrite_canon | apply canon_ite | apply canon_foldl | simp only [canon_mk] | split)

theorem execRingRefill_canon (e : FrondEv) (r : Fin 8) {s : State} (h_s : s.canon = true) :
    outCanon (execRingRefill e r s) := by
  unfold execRingRefill
  try dsimp only
  with_reducible repeat' (first | assumption | intro _ | apply outCanon_next | apply State.ringRefill_canon | apply State.at_canon | apply canon_ite | apply canon_foldl | simp only [canon_mk] | split)

theorem execRingUnderrun_canon (e : FrondEv) (c : Fin 40) {s : State} (h_s : s.canon = true) :
    outCanon (execRingUnderrun e c s) := by
  unfold execRingUnderrun
  try dsimp only
  with_reducible repeat' (first | assumption | intro _ | apply outCanon_next | apply State.ringUnderrun_canon | apply State.at_canon | apply canon_ite | apply canon_foldl | simp only [canon_mk] | split)

theorem State.idle_canon {s : State} (h_s : s.canon = true) :
    State.canon (State.idle s) = true := by
  unfold State.idle
  try dsimp only
  with_reducible repeat' (first | assumption | intro _ | apply State.at_canon | apply canon_ite | apply canon_foldl | simp only [canon_mk] | split)

theorem State.withFetchWord_canon {s : State} (nbits : Nat) (w : Nat) (h_s : s.canon = true) :
    State.canon (State.withFetchWord s nbits w) = true := by
  unfold State.withFetchWord
  try dsimp only
  with_reducible repeat' (first | assumption | intro _ | apply canon_ite | apply canon_foldl | simp only [canon_mk] | split)

end Sys2Proof.Machine
end

