-- ==== Sys2Proof/Laws/Gddr.lean ====
section
/-! SUPPORT. Operations that leave every byte of GDDR7 as it was (memIs m: GDDR7 holds m): one lemma per operation. First half. -/
namespace Sys2Proof.Machine

/-- GDDR7 holds m. -/
def State.memIs (m : Tab Byte) (s : State) : Prop := s.gddr = m

theorem mem_ite {c : Prop} [Decidable c] {s t : State} {m : Tab Byte} (h : s.memIs m) (k : t.memIs m) :
    (if c then s else t).memIs m := by split <;> assumption

theorem mem_foldl {β : Type} {m : Tab Byte} {f : State → β → State} (l : List β) {s : State} (h : s.memIs m)
    (hf : ∀ t x, t.memIs m → (f t x).memIs m) : (l.foldl f s).memIs m := by
  induction l generalizing s with
  | nil => exact h
  | cons x l ih => exact ih (hf s x h)

/-- A command's outcome leaves GDDR7 as it was. -/
def outMem (m : Tab Byte) : Host.Outcome State Fault Refusal → Prop
  | .next t => t.memIs m
  | .fault _ => True
  | .refused _ => True

theorem outMem_next {m : Tab Byte} {t : State} (h : t.memIs m) : outMem m (.next t) := h

/-- An optional state leaves GDDR7 as it was. -/
def optMem (m : Tab Byte) : Option State → Prop
  | some t => t.memIs m
  | none => True

theorem optMem_some {m : Tab Byte} {t : State} (h : t.memIs m) : optMem m (some t) := h

theorem optMem_none {m : Tab Byte} : optMem m none := trivial

theorem optMem_get {m : Tab Byte} {o : Option State} {t : State} (e : o = some t) (h : optMem m o) : t.memIs m := by
  subst e; exact h

/-- Whether GDDR7 holds m shows in GDDR7 only. -/
theorem memIs_mk (m : Tab Byte) (s : State) {beat : Nat} {regs : Tab Word} {cs : Tab (BitVec 192)} {descs : Tab (BitVec 64)} {lists : Tab (BitVec 128)} {sram : Tab Word} {wmem : Tab (BitVec 40)} {qmem : Tab (BitVec 64)} {shadow : Tab Word} {hiLatch : Tab Word} {loStage : Tab (Option Word)} {violog : Tab Word} {groups : Tab Group} {bounds : Tab (Nat × Nat)} {txs : List Tx} {splits : List (Nat × Nat)} {boot : Boot} {croz : Tab Croz} {players : Tab Player} {chains : Tab FluxChain} {pins : Pins} {rings : Tab Ring} {sec : Sec} {fes : Tab Fe} {bus : List BusRec} {sorus : Sorus} {slots : Tab Slot} {acqs : Tab Acq} {queues : Tab Queue} {transit : List Transit} {hypha : Hypha} {hk : Hk} {time : TimeSt} {cal : Cal} {therm : Therm} {link : Link} {pcie : Pcie} {tx : List (Nat × Nat × Nat × Nat × BitVec 64)} {ticking : Bool} {flagNow : List (Nat × Nat)} {trigs : List (Nat × Nat × Nat)} {fresh : Nat} {outbox : List Output} {pending : List Instr}:
    State.memIs m { beat := beat, regs := regs, shadow := shadow, hiLatch := hiLatch, loStage := loStage, violog := violog, groups := groups, bounds := bounds, txs := txs, splits := splits, boot := boot, croz := croz, cs := cs, players := players, chains := chains, pins := pins, rings := rings, descs := descs, lists := lists, sram := sram, sec := sec, gddr := s.gddr, fes := fes, wmem := wmem, bus := bus, sorus := sorus, slots := slots, acqs := acqs, queues := queues, qmem := qmem, transit := transit, hypha := hypha, hk := hk, time := time, cal := cal, therm := therm, link := link, pcie := pcie, tx := tx, ticking := ticking, flagNow := flagNow, trigs := trigs, fresh := fresh, outbox := outbox, pending := pending } = s.memIs m := rfl

theorem State.wrA_mem {rM : Tab Byte} {s : State} (a : Nat) (v : Word) (h_s : s.memIs rM) :
    State.memIs rM (State.wrA s a v) := by
  unfold State.wrA
  try dsimp only
  with_reducible repeat' (first | assumption | intro _ | apply mem_ite | apply mem_foldl | simp only [memIs_mk] | split)

theorem State.wr_mem {rM : Tab Byte} {s : State} (p : Pg) (off : Nat) (v : Word) (h_s : s.memIs rM) :
    State.memIs rM (State.wr s p off v) := by
  unfold State.wr
  try dsimp only
  with_reducible repeat' (first | assumption | intro _ | apply State.wrA_mem | apply mem_ite | apply mem_foldl | simp only [memIs_mk] | split)

theorem State.wrF_mem {rM : Tab Byte} {s : State} (p : Pg) (off : Nat) (hi : Nat) (lo : Nat) (v : Nat) (h_s : s.memIs rM) :
    State.memIs rM (State.wrF s p off hi lo v) := by
  unfold State.wrF
  try dsimp only
  with_reducible repeat' (first | assumption | intro _ | apply State.wr_mem | apply mem_ite | apply mem_foldl | simp only [memIs_mk] | split)

theorem State.wrB_mem {rM : Tab Byte} {s : State} (p : Pg) (off : Nat) (i : Nat) (b : Bool) (h_s : s.memIs rM) :
    State.memIs rM (State.wrB s p off i b) := by
  unfold State.wrB
  try dsimp only
  with_reducible repeat' (first | assumption | intro _ | apply State.wrF_mem | apply mem_ite | apply mem_foldl | simp only [memIs_mk] | split)

theorem State.wr64_mem {rM : Tab Byte} {s : State} (p : Pg) (off : Nat) (v : Nat) (h_s : s.memIs rM) :
    State.memIs rM (State.wr64 s p off v) := by
  unfold State.wr64
  try dsimp only
  with_reducible repeat' (first | assumption | intro _ | apply State.wr_mem | apply mem_ite | apply mem_foldl | simp only [memIs_mk] | split)

theorem State.resetRange_mem {rM : Tab Byte} {s : State} (p : Pg) (lo : Nat) (hi : Nat) (h_s : s.memIs rM) :
    State.memIs rM (State.resetRange s p lo hi) := by
  unfold State.resetRange
  try dsimp only
  with_reducible repeat' (first | assumption | intro _ | apply mem_ite | apply mem_foldl | simp only [memIs_mk] | split)

theorem State.emit_mem {rM : Tab Byte} {s : State} (o : Output) (h_s : s.memIs rM) :
    State.memIs rM (State.emit s o) := by
  unfold State.emit
  try dsimp only
  with_reducible repeat' (first | assumption | intro _ | apply mem_ite | apply mem_foldl | simp only [memIs_mk] | split)

theorem State.draw_mem {rM : Tab Byte} {s : State} (h_s : s.memIs rM) :
    State.memIs rM (State.draw s).2 := by
  unfold State.draw
  try dsimp only
  with_reducible repeat' (first | assumption | intro _ | apply mem_ite | apply mem_foldl | simp only [memIs_mk] | split)

theorem State.mapCal_mem {rM : Tab Byte} {s : State} (g : Cal → Cal) (h_s : s.memIs rM) :
    State.memIs rM (State.mapCal s g) := by
  unfold State.mapCal
  try dsimp only
  with_reducible repeat' (first | assumption | intro _ | apply mem_ite | apply mem_foldl | simp only [memIs_mk] | split)

theorem State.bump_mem {rM : Tab Byte} {s : State} (p : Pg) (n : Nat) (k : Nat) (h_s : s.memIs rM) :
    State.memIs rM (State.bump s p n k) := by
  unfold State.bump
  try dsimp only
  with_reducible repeat' (first | assumption | intro _ | apply State.wr_mem | apply mem_ite | apply mem_foldl | simp only [memIs_mk] | split)

theorem State.recErr_mem {rM : Tab Byte} {s : State} (p : Pg) (code : Nat) (off : Nat) (h_s : s.memIs rM) :
    State.memIs rM (State.recErr s p code off) := by
  unfold State.recErr
  try dsimp only
  with_reducible repeat' (first | assumption | intro _ | apply State.wr_mem | apply mem_ite | apply mem_foldl | simp only [memIs_mk] | split)

theorem State.msix_mem {rM : Tab Byte} {s : State} (fn v : Nat) (h_s : s.memIs rM) :
    State.memIs rM (State.msix s fn v) := by
  unfold State.msix
  try dsimp only
  with_reducible repeat' (first | assumption | intro _ | apply State.emit_mem | apply mem_ite | apply mem_foldl | simp only [memIs_mk] | split)

theorem State.sendIrq_mem {rM : Tab Byte} {s : State} (p : Pg) (h_s : s.memIs rM) :
    State.memIs rM (State.sendIrq s p) := by
  unfold State.sendIrq
  try dsimp only
  with_reducible repeat' (first | assumption | intro _ | apply State.bump_mem | apply State.msix_mem | apply mem_ite | apply mem_foldl | simp only [memIs_mk] | split)

theorem State.noteSet_mem {rM : Tab Byte} {s : State} (p : Pg) (m : Nat) (h_s : s.memIs rM) :
    State.memIs rM (State.noteSet s p m) := by
  unfold State.noteSet
  try dsimp only
  with_reducible repeat' (first | assumption | intro _ | apply mem_ite | apply mem_foldl | simp only [memIs_mk] | split)

theorem State.raise_mem {rM : Tab Byte} {s0 : State} (p : Pg) (m : Nat) (h_s0 : s0.memIs rM) :
    State.memIs rM (State.raise s0 p m) := by
  unfold State.raise
  try dsimp only
  with_reducible repeat' (first | assumption | intro _ | apply State.wr_mem | apply State.sendIrq_mem | apply State.noteSet_mem | apply mem_ite | apply mem_foldl | simp only [memIs_mk] | split)

theorem State.flag_mem {rM : Tab Byte} {s : State} (p : Pg) (i : Nat) (h_s : s.memIs rM) :
    State.memIs rM (State.flag s p i) := by
  unfold State.flag
  try dsimp only
  with_reducible repeat' (first | assumption | intro _ | apply State.raise_mem | apply mem_ite | apply mem_foldl | simp only [memIs_mk] | split)

theorem State.cntAdd_mem {rM : Tab Byte} {s : State} (p : Nat) (i : Nat) (src : Nat) (chan : Nat) (k : Nat) (h_s : s.memIs rM) :
    State.memIs rM (State.cntAdd s p i src chan k) := by
  unfold State.cntAdd
  try dsimp only
  with_reducible repeat' (first | assumption | intro _ | apply State.flag_mem | apply State.wr64_mem | apply mem_ite | apply mem_foldl | simp only [memIs_mk] | split)

theorem State.occur_mem {rM : Tab Byte} {s : State} (src : Nat) (k : Nat) (h_s : s.memIs rM) :
    State.memIs rM (State.occur s src k) := by
  unfold State.occur
  try dsimp only
  with_reducible repeat' (first | assumption | intro _ | apply State.cntAdd_mem | apply mem_ite | apply mem_foldl | simp only [memIs_mk] | split)

theorem State.count_mem {rM : Tab Byte} {s : State} (p : Pg) (n : Nat) (k : Nat) (h_s : s.memIs rM) :
    State.memIs rM (State.count s p n k) := by
  unfold State.count
  try dsimp only
  with_reducible repeat' (first | assumption | intro _ | apply State.occur_mem | apply State.bump_mem | apply mem_ite | apply mem_foldl | simp only [memIs_mk] | split)

theorem State.irqAfterWrite_mem {rM : Tab Byte} {s : State} (p : Pg) (h_s : s.memIs rM) :
    State.memIs rM (State.irqAfterWrite s p) := by
  unfold State.irqAfterWrite
  try dsimp only
  with_reducible repeat' (first | assumption | intro _ | apply State.sendIrq_mem | apply mem_ite | apply mem_foldl | simp only [memIs_mk] | split)

theorem State.flagsClear_mem {rM : Tab Byte} {s : State} (p : Pg) (v : Word) (h_s : s.memIs rM) :
    State.memIs rM (State.flagsClear s p v) := by
  unfold State.flagsClear
  try dsimp only
  with_reducible repeat' (first | assumption | intro _ | apply State.irqAfterWrite_mem | apply State.wr_mem | apply mem_ite | apply mem_foldl | simp only [memIs_mk] | split)

theorem State.flagsSet_mem {rM : Tab Byte} {s : State} (p : Pg) (v : Word) (h_s : s.memIs rM) :
    State.memIs rM (State.flagsSet s p v) := by
  unfold State.flagsSet
  try dsimp only
  with_reducible repeat' (first | assumption | intro _ | apply State.irqAfterWrite_mem | apply State.wr_mem | apply mem_ite | apply mem_foldl | simp only [memIs_mk] | split)

theorem State.flagsEn_mem {rM : Tab Byte} {s : State} (p : Pg) (v : Word) (h_s : s.memIs rM) :
    State.memIs rM (State.flagsEn s p v) := by
  unfold State.flagsEn
  try dsimp only
  with_reducible repeat' (first | assumption | intro _ | apply State.irqAfterWrite_mem | apply State.wr_mem | apply mem_ite | apply mem_foldl | simp only [memIs_mk] | split)

theorem State.cntClr_mem {rM : Tab Byte} {s : State} (p : Pg) (h_s : s.memIs rM) :
    State.memIs rM (State.cntClr s p) := by
  unfold State.cntClr
  try dsimp only
  with_reducible repeat' (first | assumption | intro _ | apply State.wr_mem | apply State.resetRange_mem | apply mem_ite | apply mem_foldl | simp only [memIs_mk] | split)

theorem State.violate_mem {rM : Tab Byte} {s : State} (path : Path) (cause : Nat) (bar : Nat) (addr : Nat) (write : Bool) (h_s : s.memIs rM) :
    State.memIs rM (State.violate s path cause bar addr write) := by
  unfold State.violate
  try dsimp only
  with_reducible repeat' (first | assumption | intro _ | apply State.wr_mem | apply State.wrF_mem | apply State.raise_mem | apply State.occur_mem | apply mem_ite | apply mem_foldl | simp only [memIs_mk] | split)

theorem State.unmapped_mem {rM : Tab Byte} {s : State} (path : Path) (a : Nat) (write : Bool) (h_s : s.memIs rM) :
    State.memIs rM (State.unmapped s path a write) := by
  unfold State.unmapped
  try dsimp only
  with_reducible repeat' (first | assumption | intro _ | apply State.wr_mem | apply mem_ite | apply mem_foldl | simp only [memIs_mk] | split)

theorem State.writeStop_mem {rM : Tab Byte} {s : State} (path : Path) (p : Pg) (off : Nat) (h_s : s.memIs rM) :
    optMem rM (State.writeStop s path p off) := by
  unfold State.writeStop
  try dsimp only
  with_reducible repeat' (first | assumption | intro _ | apply optMem_some | apply optMem_none | apply State.recErr_mem | apply State.violate_mem | apply mem_ite | apply mem_foldl | simp only [memIs_mk] | split)

theorem State.withWrite_mem {rM : Tab Byte} {s : State} (path : Path) (p : Pg) (off : Nat) (k : State → State) (h_s : s.memIs rM) (h_k : ∀ t, t.memIs rM → (k t).memIs rM) :
    State.memIs rM (State.withWrite s path p off k) := by
  unfold State.withWrite
  try dsimp only
  with_reducible repeat' (first | assumption | intro _ | apply State.writeStop_mem | apply h_k | apply mem_ite | apply mem_foldl | simp only [memIs_mk] | exact optMem_get (by assumption) (by first | apply State.writeStop_mem <;> assumption) | split)

theorem State.answer_mem {rM : Tab Byte} {s : State} (path : Path) (ws : List Word) (h_s : s.memIs rM) :
    State.memIs rM (State.answer s path ws) := by
  unfold State.answer
  try dsimp only
  with_reducible repeat' (first | assumption | intro _ | apply State.emit_mem | apply mem_ite | apply mem_foldl | simp only [memIs_mk] | split)

theorem State.answerPair_mem {rM : Tab Byte} {s : State} (path : Path) (a : Nat) (lo : Word) (hi : Word) (h_s : s.memIs rM) :
    State.memIs rM (State.answerPair s path a lo hi) := by
  unfold State.answerPair
  try dsimp only
  with_reducible repeat' (first | assumption | intro _ | apply State.answer_mem | apply mem_ite | apply mem_foldl | simp only [memIs_mk] | split)

theorem State.withRead_mem {rM : Tab Byte} {s : State} (path : Path) (p : Pg) (off : Nat) (k : State → State) (h_s : s.memIs rM) (h_k : ∀ t, t.memIs rM → (k t).memIs rM) :
    State.memIs rM (State.withRead s path p off k) := by
  unfold State.withRead
  try dsimp only
  with_reducible repeat' (first | assumption | intro _ | apply State.answer_mem | apply State.violate_mem | apply h_k | apply mem_ite | apply mem_foldl | simp only [memIs_mk] | split)

theorem State.withBell_mem {rM : Tab Byte} {s : State} (path : Path) (p : Pg) (off : Nat) (bell : Nat) (k : State → State) (h_s : s.memIs rM) (h_k : ∀ t, t.memIs rM → (k t).memIs rM) :
    State.memIs rM (State.withBell s path p off bell k) := by
  unfold State.withBell
  try dsimp only
  with_reducible repeat' (first | assumption | intro _ | apply State.withWrite_mem | apply State.count_mem | apply State.violate_mem | apply h_k | apply mem_ite | apply mem_foldl | simp only [memIs_mk] | split)

theorem State.putBehind_mem {rM : Tab Byte} {s : State} (q : Nat) (x : Path × Nat × Option Word) (h_s : s.memIs rM) :
    State.memIs rM (State.putBehind s q x) := by
  unfold State.putBehind
  try dsimp only
  with_reducible repeat' (first | assumption | intro _ | apply mem_ite | apply mem_foldl | simp only [memIs_mk] | split)

theorem State.rowTurn_mem {rM : Tab Byte} {s : State} (path : Path) (p : Pg) (off : Nat) (v : Option Word) (k : State → State) (h_s : s.memIs rM) (h_k : ∀ t, t.memIs rM → State.memIs rM (k t)) :
    State.memIs rM (State.rowTurn s path p off v k) := by
  unfold State.rowTurn
  try dsimp only
  with_reducible repeat' (first | assumption | intro _ | apply State.putBehind_mem | apply h_k | apply mem_ite | apply mem_foldl | simp only [memIs_mk] | split)

theorem State.viaBell_mem {rM : Tab Byte} {s : State} (path : Path) (p : Pg) (off : Nat) (v : Word) (bell : Option Nat) (k : State → State) (h_s : s.memIs rM) (h_k : ∀ t, t.memIs rM → State.memIs rM (k t)) :
    State.memIs rM (State.viaBell s path p off v bell k) := by
  unfold State.viaBell
  try dsimp only
  with_reducible repeat' (first | assumption | intro _ | apply State.rowTurn_mem | apply State.withBell_mem | apply State.withWrite_mem | apply h_k | apply mem_ite | apply mem_foldl | simp only [memIs_mk] | split)

theorem State.sendOn_mem {rM : Tab Byte} {s : State} (p : Nat) (mode : Nat) (dst : Nat) (cls : Nat) (w : BitVec 64) (h_s : s.memIs rM) :
    State.memIs rM (State.sendOn s p mode dst cls w) := by
  unfold State.sendOn
  try dsimp only
  with_reducible repeat' (first | assumption | intro _ | apply State.emit_mem | apply mem_ite | apply mem_foldl | simp only [memIs_mk] | split)

theorem State.unicast_mem {rM : Tab Byte} {s : State} (dst : Nat) (cls : Nat) (w : BitVec 64) (h_s : s.memIs rM) :
    State.memIs rM (State.unicast s dst cls w) := by
  unfold State.unicast
  try dsimp only
  with_reducible repeat' (first | assumption | intro _ | apply State.emit_mem | apply State.sendOn_mem | apply State.count_mem | apply mem_ite | apply mem_foldl | simp only [memIs_mk] | split)

theorem State.broadcast_mem {rM : Tab Byte} {s : State} (except_ : Nat) (cls : Nat) (w : BitVec 64) (h_s : s.memIs rM) :
    State.memIs rM (State.broadcast s except_ cls w) := by
  unfold State.broadcast
  try dsimp only
  with_reducible repeat' (first | assumption | intro _ | apply State.sendOn_mem | apply mem_ite | apply mem_foldl | simp only [memIs_mk] | split)

theorem State.srcEvent_mem {rM : Tab Byte} {s : State} (beat : Nat) (src : Nat) (h_s : s.memIs rM) :
    State.memIs rM (State.srcEvent s beat src) := by
  unfold State.srcEvent
  try dsimp only
  with_reducible repeat' (first | assumption | intro _ | apply mem_ite | apply mem_foldl | simp only [memIs_mk] | split)

theorem State.setQ_mem {rM : Tab Byte} {s : State} (q : Nat) (x0 : Queue) (h_s : s.memIs rM) :
    State.memIs rM (State.setQ s q x0) := by
  unfold State.setQ
  try dsimp only
  with_reducible repeat' (first | assumption | intro _ | apply State.wr_mem | apply State.wrB_mem | apply mem_ite | apply mem_foldl | simp only [memIs_mk] | split)

theorem State.loseMark_mem {rM : Tab Byte} {s : State} (q : Nat) (quiet : Bool) (h_s : s.memIs rM) :
    State.memIs rM (State.loseMark s q quiet) := by
  unfold State.loseMark
  try dsimp only
  with_reducible repeat' (first | assumption | intro _ | apply State.flag_mem | apply State.setQ_mem | apply mem_ite | apply mem_foldl | simp only [memIs_mk] | split)

theorem State.takeHead_mem {rM : Tab Byte} {s : State} (q : Nat) (path : Path) (h_s : s.memIs rM) :
    State.memIs rM (State.takeHead s q path) := by
  unfold State.takeHead
  try dsimp only
  with_reducible repeat' (first | assumption | intro _ | apply State.answer_mem | apply State.setQ_mem | apply mem_ite | apply mem_foldl | simp only [memIs_mk] | split)

theorem State.emptyHead_mem {rM : Tab Byte} {s : State} (q : Nat) (path : Path) (h_s : s.memIs rM) :
    State.memIs rM (State.emptyHead s q path) := by
  unfold State.emptyHead
  try dsimp only
  with_reducible repeat' (first | assumption | intro _ | apply State.answer_mem | apply State.setQ_mem | apply mem_ite | apply mem_foldl | simp only [memIs_mk] | split)

theorem State.serve_mem {rM : Tab Byte} {s : State} (q n : Nat) (h_s : s.memIs rM) : State.memIs rM ((s.serve q n)) := by
  induction n generalizing s with
  | zero => exact h_s
  | succ n ih =>
    unfold State.serve
    dsimp only
    split
    · exact h_s
    · exact mem_ite h_s (ih (State.takeHead_mem _ _ (State.setQ_mem _ _ h_s)))

theorem State.headRead_mem {rM : Tab Byte} {s : State} (q : Nat) (path : Path) (h_s : s.memIs rM) :
    State.memIs rM (State.headRead s q path) := by
  unfold State.headRead
  try dsimp only
  with_reducible repeat' (first | assumption | intro _ | apply State.answer_mem | apply State.takeHead_mem | apply State.setQ_mem | apply mem_ite | apply mem_foldl | simp only [memIs_mk] | split)

theorem State.headTimeout_mem {rM : Tab Byte} {s : State} (q : Nat) (h_s : s.memIs rM) :
    State.memIs rM (State.headTimeout s q) := by
  unfold State.headTimeout
  try dsimp only
  with_reducible repeat' (first | assumption | intro _ | apply State.emptyHead_mem | apply State.count_mem | apply State.setQ_mem | apply mem_ite | apply mem_foldl | simp only [memIs_mk] | split)

theorem State.landWord_mem {rM : Tab Byte} {s : State} (q : Nat) (start : Nat) (n : Nat) (w : BitVec 64) (h_s : s.memIs rM) :
    State.memIs rM (State.landWord s q start n w) := by
  unfold State.landWord
  try dsimp only
  with_reducible repeat' (first | assumption | intro _ | apply State.loseMark_mem | apply State.setQ_mem | apply State.serve_mem | apply mem_ite | apply mem_foldl | simp only [memIs_mk] | split)

theorem State.firstWord_mem {rM : Tab Byte} {s : State} (k : Nat) (h_s : s.memIs rM) :
    State.memIs rM (State.firstWord s k) := by
  unfold State.firstWord
  try dsimp only
  with_reducible repeat' (first | assumption | intro _ | apply State.count_mem | apply State.setQ_mem | apply State.landWord_mem | apply State.flag_mem | apply mem_ite | apply mem_foldl | simp only [memIs_mk] | split)

theorem State.nextWord_mem {rM : Tab Byte} {s : State} (k : Nat) (h_s : s.memIs rM) :
    State.memIs rM (State.nextWord s k) := by
  unfold State.nextWord
  try dsimp only
  with_reducible repeat' (first | assumption | intro _ | apply State.landWord_mem | apply mem_ite | apply mem_foldl | simp only [memIs_mk] | split)

theorem State.sendItem_mem {rM : Tab Byte} {s : State} (q : Nat) (words : List (BitVec 64)) (h_s : s.memIs rM) :
    State.memIs rM (State.sendItem s q words) := by
  unfold State.sendItem
  try dsimp only
  with_reducible repeat' (first | assumption | intro _ | apply mem_ite | apply mem_foldl | simp only [memIs_mk] | split)

theorem State.releaseTo_mem {rM : Tab Byte} {s : State} (q : Nat) (rel : Nat) (h_s : s.memIs rM) :
    State.memIs rM (State.releaseTo s q rel) := by
  unfold State.releaseTo
  try dsimp only
  with_reducible repeat' (first | assumption | intro _ | apply State.loseMark_mem | apply State.setQ_mem | apply mem_ite | apply mem_foldl | simp only [memIs_mk] | split)

theorem State.qRelease_mem {rM : Tab Byte} {s : State} (q : Nat) (count : Nat) (h_s : s.memIs rM) :
    State.memIs rM (State.qRelease s q count) := by
  unfold State.qRelease
  try dsimp only
  with_reducible repeat' (first | assumption | intro _ | apply State.releaseTo_mem | apply mem_ite | apply mem_foldl | simp only [memIs_mk] | split)

theorem State.qAll_mem {rM : Tab Byte} {s : State} (q : Nat) (h_s : s.memIs rM) :
    State.memIs rM (State.qAll s q) := by
  unfold State.qAll
  try dsimp only
  with_reducible repeat' (first | assumption | intro _ | apply State.releaseTo_mem | apply mem_ite | apply mem_foldl | simp only [memIs_mk] | split)

theorem State.qMark_mem {rM : Tab Byte} {s : State} (q : Nat) (h_s : s.memIs rM) :
    State.memIs rM (State.qMark s q) := by
  unfold State.qMark
  try dsimp only
  with_reducible repeat' (first | assumption | intro _ | apply State.setQ_mem | apply mem_ite | apply mem_foldl | simp only [memIs_mk] | split)

theorem State.qRewind_mem {rM : Tab Byte} {s : State} (q : Nat) (h_s : s.memIs rM) :
    State.memIs rM (State.qRewind s q) := by
  unfold State.qRewind
  try dsimp only
  with_reducible repeat' (first | assumption | intro _ | apply State.count_mem | apply State.setQ_mem | apply State.serve_mem | apply State.recErr_mem | apply mem_ite | apply mem_foldl | simp only [memIs_mk] | split)

theorem State.flushQ_mem {rM : Tab Byte} {s : State} (q : Nat) (quiet : Bool) (h_s : s.memIs rM) :
    State.memIs rM (State.flushQ s q quiet) := by
  unfold State.flushQ
  try dsimp only
  with_reducible repeat' (first | assumption | intro _ | apply State.setQ_mem | apply State.count_mem | apply State.flag_mem | apply mem_ite | apply mem_foldl | simp only [memIs_mk] | split)

theorem State.qCmd_mem {rM : Tab Byte} {s : State} (q : Nat) (v : Word) (h_s : s.memIs rM) :
    State.memIs rM (State.qCmd s q v) := by
  unfold State.qCmd
  try dsimp only
  with_reducible repeat' (first | assumption | intro _ | apply State.flushQ_mem | apply State.qAll_mem | apply State.qRelease_mem | apply State.qRewind_mem | apply State.qMark_mem | apply mem_ite | apply mem_foldl | simp only [memIs_mk] | split)

theorem State.ringOut_mem {rM : Tab Byte} {s : State} (fn : Nat) (base : Nat) (size : Nat) (w : Nat) (bytes : List Byte) (h_s : s.memIs rM) :
    State.memIs rM (State.ringOut s fn base size w bytes) := by
  unfold State.ringOut
  try dsimp only
  with_reducible repeat' (first | assumption | intro _ | apply State.emit_mem | apply mem_ite | apply mem_foldl | simp only [memIs_mk] | split)

theorem State.writeBack_mem {rM : Tab Byte} {s : State} (fn : Nat) (addr : Nat) (w : Nat) (h_s : s.memIs rM) :
    State.memIs rM (State.writeBack s fn addr w) := by
  unfold State.writeBack
  try dsimp only
  with_reducible repeat' (first | assumption | intro _ | apply State.emit_mem | apply mem_ite | apply mem_foldl | simp only [memIs_mk] | split)

theorem State.drainCopy_mem {rM : Tab Byte} {s : State} (q : Nat) (h_s : s.memIs rM) :
    State.memIs rM (State.drainCopy s q) := by
  unfold State.drainCopy
  try dsimp only
  with_reducible repeat' (first | assumption | intro _ | apply State.wr_mem | apply State.ringOut_mem | apply State.setQ_mem | apply State.writeBack_mem | apply State.releaseTo_mem | apply mem_ite | apply mem_foldl | simp only [memIs_mk] | split)

theorem State.hostRdWrite_mem {rM : Tab Byte} {s : State} (p : Pg) (wrOff : Nat) (rdOff : Nat) (v : Word) (h_s : s.memIs rM) :
    State.memIs rM (State.hostRdWrite s p wrOff rdOff v) := by
  unfold State.hostRdWrite
  try dsimp only
  with_reducible repeat' (first | assumption | intro _ | apply State.recErr_mem | apply State.wr_mem | apply mem_ite | apply mem_foldl | simp only [memIs_mk] | split)

theorem State.queueTimeout_mem {rM : Tab Byte} {s : State} (q : Nat) (h_s : s.memIs rM) :
    State.memIs rM (State.queueTimeout s q) := by
  unfold State.queueTimeout
  try dsimp only
  with_reducible repeat' (first | assumption | intro _ | apply State.srcEvent_mem | apply State.count_mem | apply State.flag_mem | apply mem_ite | apply mem_foldl | simp only [memIs_mk] | split)

theorem State.mapTime_mem {rM : Tab Byte} {s : State} (g : TimeSt → TimeSt) (h_s : s.memIs rM) :
    State.memIs rM (State.mapTime s g) := by
  unfold State.mapTime
  try dsimp only
  with_reducible repeat' (first | assumption | intro _ | apply mem_ite | apply mem_foldl | simp only [memIs_mk] | split)

theorem State.macTo_mem {rM : Tab Byte} {s : State} (m : Nat) (h_s : s.memIs rM) :
    State.memIs rM (State.macTo s m) := by
  unfold State.macTo
  try dsimp only
  with_reducible repeat' (first | assumption | intro _ | apply State.mapTime_mem | apply mem_ite | apply mem_foldl | simp only [memIs_mk] | split)

theorem State.alarmLate_mem {rM : Tab Byte} {s : State} (h_s : s.memIs rM) :
    State.memIs rM (State.alarmLate s) := by
  unfold State.alarmLate
  try dsimp only
  with_reducible repeat' (first | assumption | intro _ | apply State.mapTime_mem | apply mem_ite | apply mem_foldl | simp only [memIs_mk] | split)

theorem State.alarmFire_mem {rM : Tab Byte} {s : State} (n : Nat) (h_s : s.memIs rM) :
    State.memIs rM (State.alarmFire s n) := by
  unfold State.alarmFire
  try dsimp only
  with_reducible repeat' (first | assumption | intro _ | apply State.count_mem | apply State.flag_mem | apply State.wrB_mem | apply mem_ite | apply mem_foldl | simp only [memIs_mk] | split)

theorem State.clearMap_mem {rM : Tab Byte} {s : State} (h_s : s.memIs rM) :
    State.memIs rM (State.clearMap s) := by
  unfold State.clearMap
  try dsimp only
  with_reducible repeat' (first | assumption | intro _ | apply State.mapTime_mem | apply mem_ite | apply mem_foldl | simp only [memIs_mk] | split)

theorem State.stepTo_mem {rM : Tab Byte} {s : State} (p : PtpTime) (h_s : s.memIs rM) :
    State.memIs rM (State.stepTo s p) := by
  unfold State.stepTo
  try dsimp only
  with_reducible repeat' (first | assumption | intro _ | apply State.alarmLate_mem | apply State.clearMap_mem | apply State.count_mem | apply State.flag_mem | apply State.mapTime_mem | apply mem_ite | apply mem_foldl | simp only [memIs_mk] | split)

theorem State.clkSet_mem {rM : Tab Byte} {s : State} (h_s : s.memIs rM) :
    State.memIs rM (State.clkSet s) := by
  unfold State.clkSet
  try dsimp only
  with_reducible repeat' (first | assumption | intro _ | apply State.stepTo_mem | apply mem_ite | apply mem_foldl | simp only [memIs_mk] | split)

theorem State.clkAdj_mem {rM : Tab Byte} {s : State} (h_s : s.memIs rM) :
    State.memIs rM (State.clkAdj s) := by
  unfold State.clkAdj
  try dsimp only
  with_reducible repeat' (first | assumption | intro _ | apply State.stepTo_mem | apply mem_ite | apply mem_foldl | simp only [memIs_mk] | split)

theorem State.clkSnap_mem {rM : Tab Byte} {s : State} (h_s : s.memIs rM) :
    State.memIs rM (State.clkSnap s) := by
  unfold State.clkSnap
  try dsimp only
  with_reducible repeat' (first | assumption | intro _ | apply State.wr_mem | apply State.wr64_mem | apply mem_ite | apply mem_foldl | simp only [memIs_mk] | split)

theorem State.dropStep_mem {rM : Tab Byte} {s : State} (h_s : s.memIs rM) :
    State.memIs rM (State.dropStep s) := by
  unfold State.dropStep
  try dsimp only
  with_reducible repeat' (first | assumption | intro _ | apply State.mapTime_mem | apply State.wr64_mem | apply State.wr_mem | apply State.wrB_mem | apply State.count_mem | apply mem_ite | apply mem_foldl | simp only [memIs_mk] | split)

theorem State.clockCmd_mem {rM : Tab Byte} {s : State} (v : Word) (h_s : s.memIs rM) :
    State.memIs rM (State.clockCmd s v) := by
  unfold State.clockCmd
  try dsimp only
  with_reducible repeat' (first | assumption | intro _ | apply State.recErr_mem | apply State.clkSet_mem | apply State.clkAdj_mem | apply State.mapTime_mem | apply State.clkSnap_mem | apply State.dropStep_mem | apply mem_ite | apply mem_foldl | simp only [memIs_mk] | split)

theorem State.mapPair_mem {rM : Tab Byte} {s : State} (ph : Nat) (h_s : s.memIs rM) :
    State.memIs rM (State.mapPair s ph) := by
  unfold State.mapPair
  try dsimp only
  with_reducible repeat' (first | assumption | intro _ | apply State.mapTime_mem | apply mem_ite | apply mem_foldl | simp only [memIs_mk] | split)

theorem State.setSel_mem {rM : Tab Byte} {s : State} (v : Nat) (h_s : s.memIs rM) :
    State.memIs rM (State.setSel s v) := by
  unfold State.setSel
  try dsimp only
  with_reducible repeat' (first | assumption | intro _ | apply State.mapTime_mem | apply State.wrF_mem | apply mem_ite | apply mem_foldl | simp only [memIs_mk] | split)

theorem State.servoCtrl_mem {rM : Tab Byte} {s : State} (v : Word) (h_s : s.memIs rM) :
    State.memIs rM (State.servoCtrl s v) := by
  unfold State.servoCtrl
  try dsimp only
  with_reducible repeat' (first | assumption | intro _ | apply State.wr_mem | apply State.mapTime_mem | apply State.setSel_mem | apply State.wr64_mem | apply mem_ite | apply mem_foldl | simp only [memIs_mk] | split)

theorem State.markTime_mem {rM : Tab Byte} {s : State} (T : Nat) (h_s : s.memIs rM) :
    State.memIs rM (State.markTime s T).2 := by
  unfold State.markTime
  try dsimp only
  with_reducible repeat' (first | assumption | intro _ | apply State.draw_mem | apply mem_ite | apply mem_foldl | simp only [memIs_mk] | split)

theorem State.servoUpdate_mem {rM : Tab Byte} {s : State} (o : Int) (h_s : s.memIs rM) :
    State.memIs rM (State.servoUpdate s o) := by
  unfold State.servoUpdate
  try dsimp only
  with_reducible repeat' (first | assumption | intro _ | apply State.count_mem | apply State.flag_mem | apply State.wr64_mem | apply State.stepTo_mem | apply State.mapTime_mem | apply State.wr_mem | apply mem_ite | apply mem_foldl | simp only [memIs_mk] | split)

theorem State.setCrz_mem {rM : Tab Byte} {s : State} (f : Nat) (c : Croz) (h_s : s.memIs rM) :
    State.memIs rM (State.setCrz s f c) := by
  unfold State.setCrz
  try dsimp only
  with_reducible repeat' (first | assumption | intro _ | apply mem_ite | apply mem_foldl | simp only [memIs_mk] | split)

theorem State.setSlot_mem {rM : Tab Byte} {s : State} (f : Nat) (k : Nat) (x : Slot) (h_s : s.memIs rM) :
    State.memIs rM (State.setSlot s f k x) := by
  unfold State.setSlot
  try dsimp only
  with_reducible repeat' (first | assumption | intro _ | apply State.wrF_mem | apply mem_ite | apply mem_foldl | simp only [memIs_mk] | split)

theorem State.mapShot_mem {rM : Tab Byte} {s : State} (f : Nat) (uid : Nat) (g : Shot → Shot) (h_s : s.memIs rM) :
    State.memIs rM (State.mapShot s f uid g) := by
  unfold State.mapShot
  try dsimp only
  with_reducible repeat' (first | assumption | intro _ | apply State.setCrz_mem | apply mem_ite | apply mem_foldl | simp only [memIs_mk] | split)

theorem State.markShot_mem {rM : Tab Byte} {s : State} (f : Nat) (uid : Nat) (tags : Nat) (h_s : s.memIs rM) :
    State.memIs rM (State.markShot s f uid tags) := by
  unfold State.markShot
  try dsimp only
  with_reducible repeat' (first | assumption | intro _ | apply State.mapShot_mem | apply mem_ite | apply mem_foldl | simp only [memIs_mk] | split)

theorem State.setCrzState_mem {rM : Tab Byte} {s : State} (f : Nat) (st : Nat) (h_s : s.memIs rM) :
    State.memIs rM (State.setCrzState s f st) := by
  unfold State.setCrzState
  try dsimp only
  with_reducible repeat' (first | assumption | intro _ | apply State.wrF_mem | apply mem_ite | apply mem_foldl | simp only [memIs_mk] | split)

theorem State.setTc_mem {rM : Tab Byte} {s : State} (f : Nat) (v : Nat) (h_s : s.memIs rM) :
    State.memIs rM (State.setTc s f v) := by
  unfold State.setTc
  try dsimp only
  with_reducible repeat' (first | assumption | intro _ | apply State.wr64_mem | apply mem_ite | apply mem_foldl | simp only [memIs_mk] | split)

theorem State.setLc_mem {rM : Tab Byte} {s : State} (f : Nat) (k : Nat) (v : Nat) (h_s : s.memIs rM) :
    State.memIs rM (State.setLc s f k v) := by
  unfold State.setLc
  try dsimp only
  with_reducible repeat' (first | assumption | intro _ | apply State.wrF_mem | apply mem_ite | apply mem_foldl | simp only [memIs_mk] | split)

theorem State.setPc_mem {rM : Tab Byte} {s : State} (f : Nat) (v : Nat) (h_s : s.memIs rM) :
    State.memIs rM (State.setPc s f v) := by
  unfold State.setPc
  try dsimp only
  with_reducible repeat' (first | assumption | intro _ | apply State.wrF_mem | apply mem_ite | apply mem_foldl | simp only [memIs_mk] | split)

theorem State.setStack_mem {rM : Tab Byte} {s : State} (f : Nat) (st : List Nat) (h_s : s.memIs rM) :
    State.memIs rM (State.setStack s f st) := by
  unfold State.setStack
  try dsimp only
  with_reducible repeat' (first | assumption | intro _ | apply State.wr_mem | apply State.setCrz_mem | apply mem_ite | apply mem_foldl | simp only [memIs_mk] | split)

theorem State.setQueue_mem {rM : Tab Byte} {s : State} (f : Nat) (q : List Bundle) (h_s : s.memIs rM) :
    State.memIs rM (State.setQueue s f q) := by
  unfold State.setQueue
  try dsimp only
  with_reducible repeat' (first | assumption | intro _ | apply State.setCrz_mem | apply State.wr_mem | apply mem_ite | apply mem_foldl | simp only [memIs_mk] | split)

theorem State.busPut_mem {rM : Tab Byte} {s : State} (f : Nat) (g : BusRec → BusRec) (h_s : s.memIs rM) :
    State.memIs rM (State.busPut s f g) := by
  unfold State.busPut
  try dsimp only
  with_reducible repeat' (first | assumption | intro _ | apply mem_ite | apply mem_foldl | simp only [memIs_mk] | split)

theorem State.busShotEnd_mem {rM : Tab Byte} {s : State} (f : Nat) (l : List Shot) (h_s : s.memIs rM) :
    State.memIs rM (State.busShotEnd s f l) := by
  unfold State.busShotEnd
  try dsimp only
  with_reducible repeat' (first | assumption | intro _ | apply State.busPut_mem | apply mem_ite | apply mem_foldl | simp only [memIs_mk] | split)

theorem State.leaveBy_mem {rM : Tab Byte} {s : State} (f : Nat) (p : Shot → Bool) (h_s : s.memIs rM) :
    State.memIs rM (State.leaveBy s f p) := by
  unfold State.leaveBy
  try dsimp only
  with_reducible repeat' (first | assumption | intro _ | apply State.setCrz_mem | apply State.busShotEnd_mem | apply mem_ite | apply mem_foldl | simp only [memIs_mk] | split)

theorem State.writeStatus_mem {rM : Tab Byte} {s : State} (f : Nat) (h : Shot) (h_s : s.memIs rM) :
    State.memIs rM (State.writeStatus s f h) := by
  unfold State.writeStatus
  try dsimp only
  with_reducible repeat' (first | assumption | intro _ | apply State.setCrz_mem | apply State.sendItem_mem | apply State.flag_mem | apply State.count_mem | apply mem_ite | apply mem_foldl | simp only [memIs_mk] | split)

theorem State.setPlayer_mem {rM : Tab Byte} {s : State} (f : Nat) (c : Nat) (p : Player) (h_s : s.memIs rM) :
    State.memIs rM (State.setPlayer s f c p) := by
  unfold State.setPlayer
  try dsimp only
  with_reducible repeat' (first | assumption | intro _ | apply State.wrB_mem | apply mem_ite | apply mem_foldl | simp only [memIs_mk] | split)

theorem State.setRing_mem {rM : Tab Byte} {s : State} (f : Nat) (r : Nat) (x : Ring) (h_s : s.memIs rM) :
    State.memIs rM (State.setRing s f r x) := by
  unfold State.setRing
  try dsimp only
  with_reducible repeat' (first | assumption | intro _ | apply State.wrB_mem | apply mem_ite | apply mem_foldl | simp only [memIs_mk] | split)

theorem State.freeRing_mem {rM : Tab Byte} {s : State} (f : Nat) (c : Nat) (h_s : s.memIs rM) :
    State.memIs rM (State.freeRing s f c) := by
  unfold State.freeRing
  try dsimp only
  with_reducible repeat' (first | assumption | intro _ | apply State.setRing_mem | apply mem_ite | apply mem_foldl | simp only [memIs_mk] | split)

theorem State.idlePlayers_mem {rM : Tab Byte} {s : State} (f : Nat) (h_s : s.memIs rM) :
    State.memIs rM (State.idlePlayers s f) := by
  unfold State.idlePlayers
  try dsimp only
  with_reducible repeat' (first | assumption | intro _ | apply State.setPlayer_mem | apply State.freeRing_mem | apply mem_ite | apply mem_foldl | simp only [memIs_mk] | split)

theorem State.emptySlots_mem {rM : Tab Byte} {s : State} (f : Nat) (h_s : s.memIs rM) :
    State.memIs rM (State.emptySlots s f) := by
  unfold State.emptySlots
  try dsimp only
  with_reducible repeat' (first | assumption | intro _ | apply State.setSlot_mem | apply mem_ite | apply mem_foldl | simp only [memIs_mk] | split)

theorem State.postDone_mem {rM : Tab Byte} {s : State} (f k : Nat) (shot : Option Nat) (out : Option (Nat × Nat × Nat)) (h_s : s.memIs rM) :
    State.memIs rM (State.postDone s f k shot out) := by
  unfold State.postDone
  try dsimp only
  with_reducible repeat' (first | assumption | intro _ | apply State.setSlot_mem | apply mem_ite | apply mem_foldl | simp only [memIs_mk] | split)

theorem State.mapSorus_mem {rM : Tab Byte} {s : State} (g : Sorus → Sorus) (h_s : s.memIs rM) :
    State.memIs rM (State.mapSorus s g) := by
  unfold State.mapSorus
  try dsimp only
  with_reducible repeat' (first | assumption | intro _ | apply mem_ite | apply mem_foldl | simp only [memIs_mk] | split)

theorem State.setFlight_mem {rM : Tab Byte} {s : State} (n : Nat) (r : Nat) (x : Option Flight) (h_s : s.memIs rM) :
    State.memIs rM (State.setFlight s n r x) := by
  unfold State.setFlight
  try dsimp only
  with_reducible repeat' (first | assumption | intro _ | apply State.wrB_mem | apply State.mapSorus_mem | apply mem_ite | apply mem_foldl | simp only [memIs_mk] | split)

theorem State.abandon_mem {rM : Tab Byte} {s : State} (n : Nat) (r : Nat) (h_s : s.memIs rM) :
    State.memIs rM (State.abandon s n r) := by
  unfold State.abandon
  try dsimp only
  with_reducible repeat' (first | assumption | intro _ | apply State.postDone_mem | apply State.count_mem | apply State.setFlight_mem | apply mem_ite | apply mem_foldl | simp only [memIs_mk] | split)

theorem State.abandonTo_mem {rM : Tab Byte} {s : State} (f : Nat) (h_s : s.memIs rM) :
    State.memIs rM (State.abandonTo s f) := by
  unfold State.abandonTo
  try dsimp only
  with_reducible repeat' (first | assumption | intro _ | apply State.abandon_mem | apply State.mapSorus_mem | apply mem_ite | apply mem_foldl | simp only [memIs_mk] | split)

theorem State.unpause_mem {rM : Tab Byte} {s : State} (f : Nat) (h_s : s.memIs rM) :
    State.memIs rM (State.unpause s f) := by
  unfold State.unpause
  try dsimp only
  with_reducible repeat' (first | assumption | intro _ | apply State.setCrzState_mem | apply State.setCrz_mem | apply mem_ite | apply mem_foldl | simp only [memIs_mk] | split)

theorem State.setAcq_mem {rM : Tab Byte} {s : State} (c : Nat) (x : Acq) (h_s : s.memIs rM) :
    State.memIs rM (State.setAcq s c x) := by
  unfold State.setAcq
  try dsimp only
  with_reducible repeat' (first | assumption | intro _ | apply mem_ite | apply mem_foldl | simp only [memIs_mk] | split)

theorem State.acqForeign_mem {rM : Tab Byte} {s : State} (f : Nat) (h_s : s.memIs rM) :
    State.memIs rM (State.acqForeign s f) := by
  unfold State.acqForeign
  try dsimp only
  with_reducible repeat' (first | assumption | intro _ | apply State.flag_mem | apply State.setAcq_mem | apply mem_ite | apply mem_foldl | simp only [memIs_mk] | split)

theorem State.clearFrames_mem {rM : Tab Byte} {s : State} (f m : Nat) (h_s : s.memIs rM) :
    State.memIs rM (State.clearFrames s f m) := by
  unfold State.clearFrames
  try dsimp only
  with_reducible repeat' (first | assumption | intro _ | apply State.wr_mem | apply State.setCrz_mem | apply mem_ite | apply mem_foldl | simp only [memIs_mk] | split)

theorem State.queueLeaves_mem {rM : Tab Byte} {s : State} (q : Nat) (h_s : s.memIs rM) :
    State.memIs rM (State.queueLeaves s q) := by
  unfold State.queueLeaves
  try dsimp only
  with_reducible repeat' (first | assumption | intro _ | apply State.emptyHead_mem | apply State.flushQ_mem | apply State.setQ_mem | apply mem_ite | apply mem_foldl | simp only [memIs_mk] | split)

theorem State.ruleLeaves_mem {rM : Tab Byte} {s : State} (n : Nat) (r : Nat) (h_s : s.memIs rM) :
    State.memIs rM (State.ruleLeaves s n r) := by
  unfold State.ruleLeaves
  try dsimp only
  with_reducible repeat' (first | assumption | intro _ | apply State.abandon_mem | apply State.setSlot_mem | apply State.mapSorus_mem | apply mem_ite | apply mem_foldl | simp only [memIs_mk] | split)

theorem State.leaveShots_mem {rM : Tab Byte} {s : State} (f : Nat) (h_s : s.memIs rM) :
    State.memIs rM (State.leaveShots s f) := by
  unfold State.leaveShots
  try dsimp only
  with_reducible repeat' (first | assumption | intro _ | apply State.leaveBy_mem | apply mem_ite | apply mem_foldl | simp only [memIs_mk] | split)

theorem State.crzHalt_mem {rM : Tab Byte} {s : State} (f : Nat) (h_s : s.memIs rM) :
    State.memIs rM (State.crzHalt s f) := by
  unfold State.crzHalt
  try dsimp only
  with_reducible repeat' (first | assumption | intro _ | apply State.leaveShots_mem | apply State.flag_mem | apply State.setCrzState_mem | apply State.unpause_mem | apply mem_ite | apply mem_foldl | simp only [memIs_mk] | split)

theorem State.crzStop_mem {rM : Tab Byte} {s : State} (f : Nat) (h_s : s.memIs rM) :
    State.memIs rM (State.crzStop s f) := by
  unfold State.crzStop
  try dsimp only
  with_reducible repeat' (first | assumption | intro _ | apply State.crzHalt_mem | apply State.leaveShots_mem | apply mem_ite | apply mem_foldl | simp only [memIs_mk] | split)

theorem State.crzDrop_mem {rM : Tab Byte} {s : State} (f : Nat) (h_s : s.memIs rM) :
    State.memIs rM (State.crzDrop s f) := by
  unfold State.crzDrop
  try dsimp only
  with_reducible repeat' (first | assumption | intro _ | apply State.setQueue_mem | apply State.crzStop_mem | apply mem_ite | apply mem_foldl | simp only [memIs_mk] | split)

theorem State.setFe_mem {rM : Tab Byte} {s : State} (f : Nat) (x : Fe) (h_s : s.memIs rM) :
    State.memIs rM (State.setFe s f x) := by
  unfold State.setFe
  try dsimp only
  with_reducible repeat' (first | assumption | intro _ | apply mem_ite | apply mem_foldl | simp only [memIs_mk] | split)

theorem State.frondLeaves_mem {rM : Tab Byte} {s : State} (f : Nat) (h_s : s.memIs rM) :
    State.memIs rM (State.frondLeaves s f) := by
  unfold State.frondLeaves
  try dsimp only
  with_reducible repeat' (first | assumption | intro _ | apply State.writeStatus_mem | apply State.idlePlayers_mem | apply State.emptySlots_mem | apply State.abandonTo_mem | apply State.crzDrop_mem | apply State.clearFrames_mem | apply State.acqForeign_mem | apply State.setFe_mem | apply mem_ite | apply mem_foldl | simp only [memIs_mk] | split)

theorem State.leaves_mem {rM : Tab Byte} {s : State} (p : Pg) (h_s : s.memIs rM) :
    State.memIs rM (State.leaves s p) := by
  unfold State.leaves
  try dsimp only
  with_reducible repeat' (first | assumption | intro _ | apply State.frondLeaves_mem | apply State.queueLeaves_mem | apply State.ruleLeaves_mem | apply mem_ite | apply mem_foldl | simp only [memIs_mk] | split)

theorem State.crzFault_mem {rM : Tab Byte} {s : State} (f : Nat) (code : Nat) (h_s : s.memIs rM) :
    State.memIs rM (State.crzFault s f code) := by
  unfold State.crzFault
  try dsimp only
  with_reducible repeat' (first | assumption | intro _ | apply State.flag_mem | apply State.wr_mem | apply State.setCrzState_mem | apply State.leaveShots_mem | apply State.setQueue_mem | apply State.setCrz_mem | apply State.unpause_mem | apply mem_ite | apply mem_foldl | simp only [memIs_mk] | split)

theorem State.haltStep_mem {rM : Tab Byte} {s : State} (f : Nat) (h_s : s.memIs rM) :
    State.memIs rM (State.haltStep s f) := by
  unfold State.haltStep
  try dsimp only
  with_reducible repeat' (first | assumption | intro _ | apply State.crzHalt_mem | apply State.setCrz_mem | apply mem_ite | apply mem_foldl | simp only [memIs_mk] | split)

theorem State.haltDue_mem {rM : Tab Byte} {s : State} (h_s : s.memIs rM) :
    State.memIs rM (State.haltDue s) := by
  unfold State.haltDue
  try dsimp only
  with_reducible repeat' (first | assumption | intro _ | apply State.haltStep_mem | apply mem_ite | apply mem_foldl | simp only [memIs_mk] | split)

theorem State.setEvin_mem {rM : Tab Byte} {s : State} (f : Nat) (m : Nat) (h_s : s.memIs rM) :
    State.memIs rM (State.setEvin s f m) := by
  unfold State.setEvin
  try dsimp only
  with_reducible repeat' (first | assumption | intro _ | apply State.wrF_mem | apply State.setCrz_mem | apply mem_ite | apply mem_foldl | simp only [memIs_mk] | split)

theorem State.consume_mem {rM : Tab Byte} {s : State} (f : Nat) (code : Nat) (h_s : s.memIs rM) :
    State.memIs rM (State.consume s f code) := by
  unfold State.consume
  try dsimp only
  with_reducible repeat' (first | assumption | intro _ | apply State.setEvin_mem | apply mem_ite | apply mem_foldl | simp only [memIs_mk] | split)

theorem State.segFail_mem {rM : Tab Byte} {s : State} (f : Nat) (c : Nat) (k : Nat) (seg : Nat) (code : Nat) (shot : Nat) (h_s : s.memIs rM) :
    State.memIs rM (State.segFail s f c k seg code shot) := by
  unfold State.segFail
  try dsimp only
  with_reducible repeat' (first | assumption | intro _ | apply State.setPlayer_mem | apply State.freeRing_mem | apply State.markShot_mem | apply State.wr_mem | apply State.flag_mem | apply State.count_mem | apply mem_ite | apply mem_foldl | simp only [memIs_mk] | split)

theorem State.beginPass_mem {rM : Tab Byte} {s : State} (f : Nat) (c : Nat) (k : Nat) (entry : Nat) (ent : BitVec 128) (seg : Nat) (shot : Nat) (fu : FrameUse) (h_s : s.memIs rM) :
    State.memIs rM (State.beginPass s f c k entry ent seg shot fu) := by
  unfold State.beginPass
  try dsimp only
  with_reducible repeat' (first | assumption | intro _ | apply State.segFail_mem | apply State.freeRing_mem | apply State.setRing_mem | apply State.setPlayer_mem | apply mem_ite | apply mem_foldl | simp only [memIs_mk] | split)

theorem State.suppress_mem {rM : Tab Byte} {s : State} (f : Nat) (shot : Nat) (tag : Nat) (h_s : s.memIs rM) :
    State.memIs rM (State.suppress s f shot tag) := by
  unfold State.suppress
  try dsimp only
  with_reducible repeat' (first | assumption | intro _ | apply State.markShot_mem | apply State.flag_mem | apply State.count_mem | apply mem_ite | apply mem_foldl | simp only [memIs_mk] | split)

theorem State.latchFrom_mem {rM : Tab Byte} (f c : Nat) (l : List Jump) {s : State} (h_s : s.memIs rM) :
    State.memIs rM ((State.latchFrom f c l s)) := by
  induction l generalizing s with
  | nil => exact State.setPlayer_mem _ _ _ h_s
  | cons j t ih =>
    unfold State.latchFrom
    dsimp only
    split
    · exact ih (State.suppress_mem _ _ _ (State.setPlayer_mem _ _ _ h_s))
    · exact State.setPlayer_mem _ _ _ h_s

theorem State.latchJump_mem {rM : Tab Byte} {s : State} (f : Nat) (c : Nat) (h_s : s.memIs rM) :
    State.memIs rM (State.latchJump s f c) := by
  unfold State.latchJump
  try dsimp only
  with_reducible repeat' (first | assumption | intro _ | apply State.latchFrom_mem | apply mem_ite | apply mem_foldl | simp only [memIs_mk] | split)

theorem State.jumpLate_mem {rM : Tab Byte} {s : State} (f : Nat) (h_s : s.memIs rM) :
    State.memIs rM (State.jumpLate s f) := by
  unfold State.jumpLate
  try dsimp only
  with_reducible repeat' (first | assumption | intro _ | apply State.flag_mem | apply State.count_mem | apply mem_ite | apply mem_foldl | simp only [memIs_mk] | split)

theorem State.passBoundary_mem {rM : Tab Byte} {s : State} (f : Nat) (c : Nat) (h_s : s.memIs rM) :
    State.memIs rM (State.passBoundary s f c) := by
  unfold State.passBoundary
  try dsimp only
  with_reducible repeat' (first | assumption | intro _ | apply State.latchJump_mem | apply State.count_mem | apply State.jumpLate_mem | apply State.setPlayer_mem | apply State.beginPass_mem | apply State.freeRing_mem | apply mem_ite | apply mem_foldl | simp only [memIs_mk] | split)

theorem State.passEnds_mem {rM : Tab Byte} {s : State} (f c k n : Nat) (h_s : s.memIs rM) : State.memIs rM (State.passEnds f c k n s) := by
  induction n generalizing s with
  | zero => exact h_s
  | succ n ih =>
    unfold State.passEnds
    exact mem_ite (ih (State.passBoundary_mem f c h_s)) h_s

theorem State.startTone_mem {rM : Tab Byte} {s : State} (f : Nat) (c : Nat) (k : Nat) (entry : Nat) (shot : Nat) (fu : FrameUse) (seq : Nat) (h_s : s.memIs rM) :
    State.memIs rM (State.startTone s f c k entry shot fu seq) := by
  unfold State.startTone
  try dsimp only
  with_reducible repeat' (first | assumption | intro _ | apply State.count_mem | apply State.setPlayer_mem | apply State.beginPass_mem | apply State.passEnds_mem | apply mem_ite | apply mem_foldl | simp only [memIs_mk] | split)

theorem State.startFlux_mem {rM : Tab Byte} {s : State} (f : Nat) (n : Nat) (k : Nat) (seg : Nat) (shot : Nat) (h_s : s.memIs rM) :
    State.memIs rM (State.startFlux s f n k seg shot) := by
  unfold State.startFlux
  try dsimp only
  with_reducible repeat' (first | assumption | intro _ | apply State.beginPass_mem | apply State.count_mem | apply State.passEnds_mem | apply mem_ite | apply mem_foldl | simp only [memIs_mk] | split)

theorem State.handJump_mem {rM : Tab Byte} {s : State} (f : Nat) (j : Jump) (h_s : s.memIs rM) :
    State.memIs rM (State.handJump s f j) := by
  unfold State.handJump
  try dsimp only
  with_reducible repeat' (first | assumption | intro _ | apply State.jumpLate_mem | apply State.setPlayer_mem | apply mem_ite | apply mem_foldl | simp only [memIs_mk] | split)

theorem State.jumpAsStart_mem {rM : Tab Byte} {s : State} (f : Nat) (b : Nat) (j : Jump) (h_s : s.memIs rM) :
    State.memIs rM (State.jumpAsStart s f b j) := by
  unfold State.jumpAsStart
  try dsimp only
  with_reducible repeat' (first | assumption | intro _ | apply State.setPlayer_mem | apply State.suppress_mem | apply State.startTone_mem | apply mem_ite | apply mem_foldl | simp only [memIs_mk] | split)

theorem State.ringLevels_mem {rM : Tab Byte} {s : State} (f : Nat) (r : Nat) (old : Nat) (h_s : s.memIs rM) :
    State.memIs rM (State.ringLevels s f r old) := by
  unfold State.ringLevels
  try dsimp only
  with_reducible repeat' (first | assumption | intro _ | apply State.flag_mem | apply mem_ite | apply mem_foldl | simp only [memIs_mk] | split)

theorem State.ringWrite_mem {rM : Tab Byte} {s : State} (f : Nat) (r : Nat) (v : Word) (h_s : s.memIs rM) :
    State.memIs rM (State.ringWrite s f r v) := by
  unfold State.ringWrite
  try dsimp only
  with_reducible repeat' (first | assumption | intro _ | apply State.recErr_mem | apply State.count_mem | apply State.flag_mem | apply State.ringLevels_mem | apply State.wr_mem | apply mem_ite | apply mem_foldl | simp only [memIs_mk] | split)

theorem State.ringRefill_mem {rM : Tab Byte} {s : State} (f : Nat) (r : Nat) (h_s : s.memIs rM) :
    State.memIs rM (State.ringRefill s f r) := by
  unfold State.ringRefill
  try dsimp only
  with_reducible repeat' (first | assumption | intro _ | apply State.wr_mem | apply State.ringLevels_mem | apply State.wrB_mem | apply mem_ite | apply mem_foldl | simp only [memIs_mk] | split)

theorem State.ringRefillBad_mem {rM : Tab Byte} {s : State} (f r : Nat) (h_s : s.memIs rM) : State.memIs rM (s.ringRefillBad f r) := by
  unfold State.ringRefillBad
  have h1 : State.memIs rM { ({ s with gddr := [] } : State).ringRefill f r with gddr := s.gddr } := h_s
  exact mem_ite h1 ((memIs_mk rM _).symm ▸ h1)

theorem State.abortAtEnd_mem {rM : Tab Byte} {s : State} (f : Nat) (h_s : s.memIs rM) :
    State.memIs rM (State.abortAtEnd s f) := by
  unfold State.abortAtEnd
  try dsimp only
  with_reducible repeat' (first | assumption | intro _ | apply State.setQueue_mem | apply State.setPlayer_mem | apply State.flag_mem | apply State.setCrz_mem | apply State.crzStop_mem | apply mem_ite | apply mem_foldl | simp only [memIs_mk] | split)

theorem State.underrun_mem {rM : Tab Byte} {s : State} (f r : Nat) (h_s : s.memIs rM) :
    State.memIs rM (State.underrun s f r) := by
  unfold State.underrun
  try dsimp only
  with_reducible repeat' (first | assumption | intro _ | apply State.flag_mem | apply State.count_mem | apply State.wrB_mem | apply State.markShot_mem | apply State.abortAtEnd_mem | apply mem_ite | apply mem_foldl | simp only [memIs_mk] | split)

theorem State.ringUnderrun_mem {rM : Tab Byte} {s : State} (f : Nat) (c : Nat) (h_s : s.memIs rM) :
    State.memIs rM (State.ringUnderrun s f c) := by
  unfold State.ringUnderrun
  try dsimp only
  with_reducible repeat' (first | assumption | intro _ | apply State.setPlayer_mem | apply State.underrun_mem | apply mem_ite | apply mem_foldl | simp only [memIs_mk] | split)

theorem State.hyphaForeign_mem {rM : Tab Byte} {s : State} (on : List Nat) (outs : List Nat) (h_s : s.memIs rM) :
    State.memIs rM (State.hyphaForeign s on outs) := by
  unfold State.hyphaForeign
  try dsimp only
  with_reducible repeat' (first | assumption | intro _ | apply State.count_mem | apply State.flag_mem | apply mem_ite | apply mem_foldl | simp only [memIs_mk] | split)

theorem State.hyphaTick_mem {rM : Tab Byte} {s : State} (h_s : s.memIs rM) :
    State.memIs rM (State.hyphaTick s) := by
  unfold State.hyphaTick
  try dsimp only
  with_reducible repeat' (first | assumption | intro _ | apply State.hyphaForeign_mem | apply State.count_mem | apply State.wr_mem | apply mem_ite | apply mem_foldl | simp only [memIs_mk] | split)

theorem State.pipePut_mem {rM : Tab Byte} {s : State} (f u : Nat) (codes : List Int) (h_s : s.memIs rM) :
    State.memIs rM (State.pipePut s f u codes) := by
  unfold State.pipePut
  try dsimp only
  with_reducible repeat' (first | assumption | intro _ | apply mem_ite | apply mem_foldl | simp only [memIs_mk] | split)

theorem State.driveClip_mem {rM : Tab Byte} {s : State} (f : Nat) (d : Nat) (h_s : s.memIs rM) :
    State.memIs rM (State.driveClip s f d) := by
  unfold State.driveClip
  try dsimp only
  with_reducible repeat' (first | assumption | intro _ | apply State.wr64_mem | apply State.flag_mem | apply State.count_mem | apply State.pipePut_mem | apply mem_ite | apply mem_foldl | simp only [memIs_mk] | split)

theorem State.fluxBeat_mem {rM : Tab Byte} {s : State} (f : Nat) (n : Nat) (h_s : s.memIs rM) :
    State.memIs rM (State.fluxBeat s f n) := by
  unfold State.fluxBeat
  try dsimp only
  with_reducible repeat' (first | assumption | intro _ | apply State.flag_mem | apply State.count_mem | apply State.wr64_mem | apply State.pipePut_mem | apply mem_ite | apply mem_foldl | simp only [memIs_mk] | split)

theorem State.driveBeat_mem {rM : Tab Byte} {s : State} (f : Nat) (c : Nat) (h_s : s.memIs rM) :
    State.memIs rM (State.driveBeat s f c) := by
  unfold State.driveBeat
  try dsimp only
  with_reducible repeat' (first | assumption | intro _ | apply State.driveClip_mem | apply mem_ite | apply mem_foldl | simp only [memIs_mk] | split)

theorem State.driveTick_mem {rM : Tab Byte} {s : State} (h_s : s.memIs rM) :
    State.memIs rM (State.driveTick s) := by
  unfold State.driveTick
  try dsimp only
  with_reducible repeat' (first | assumption | intro _ | apply State.setPlayer_mem | apply State.driveClip_mem | apply State.fluxBeat_mem | apply State.occur_mem | apply State.ringUnderrun_mem | apply mem_ite | apply mem_foldl | simp only [memIs_mk] | split)

theorem State.forceFrom_mem {rM : Tab Byte} {s : State} (m : Nat) (v : Bool) (h_s : s.memIs rM) :
    State.memIs rM (State.forceFrom s m v) := by
  unfold State.forceFrom
  try dsimp only
  with_reducible repeat' (first | assumption | intro _ | apply mem_ite | apply mem_foldl | simp only [memIs_mk] | split)

theorem State.feMark_mem {rM : Tab Byte} {s : State} (f b : Nat) (forced : Bool) (h_s : s.memIs rM) :
    State.memIs rM (State.feMark s f b forced) := by
  unfold State.feMark
  try dsimp only
  with_reducible repeat' (first | assumption | intro _ | apply State.wr64_mem | apply State.flag_mem | apply State.count_mem | apply mem_ite | apply mem_foldl | simp only [memIs_mk] | split)

theorem State.feSwitch_mem {rM : Tab Byte} {s : State} (f : Nat) (b : Nat) (range : Nat) (input : Nat) (forced : Bool) (h_s : s.memIs rM) :
    State.memIs rM (State.feSwitch s f b range input forced) := by
  unfold State.feSwitch
  try dsimp only
  with_reducible repeat' (first | assumption | intro _ | apply State.setFe_mem | apply State.feMark_mem | apply mem_ite | apply mem_foldl | simp only [memIs_mk] | split)

theorem State.feStep_mem {rM : Tab Byte} {s : State} (f : Nat) (b : Nat) (h_s : s.memIs rM) :
    State.memIs rM (State.feStep s f b) := by
  unfold State.feStep
  try dsimp only
  with_reducible repeat' (first | assumption | intro _ | apply State.feSwitch_mem | apply mem_ite | apply mem_foldl | simp only [memIs_mk] | split)

theorem State.feCommit_mem {rM : Tab Byte} {s : State} (f : Nat) (a : Nat) (old : Word) (h_s : s.memIs rM) :
    State.memIs rM (State.feCommit s f a old) := by
  unfold State.feCommit
  try dsimp only
  with_reducible repeat' (first | assumption | intro _ | apply State.setFe_mem | apply State.feSwitch_mem | apply mem_ite | apply mem_foldl | simp only [memIs_mk] | split)

theorem State.ovrBeat_mem {rM : Tab Byte} {s : State} (f b : Nat) (rails : List (Nat × Bool)) (h_s : s.memIs rM) :
    State.memIs rM (State.ovrBeat s f b rails) := by
  unfold State.ovrBeat
  try dsimp only
  with_reducible repeat' (first | assumption | intro _ | apply State.setFe_mem | apply State.srcEvent_mem | apply State.wr64_mem | apply State.count_mem | apply State.flag_mem | apply mem_ite | apply mem_foldl | simp only [memIs_mk] | split)

theorem State.toneStep_mem {rM : Tab Byte} {s : State} (f _t : Nat) (h_s : s.memIs rM) :
    State.memIs rM (State.toneStep s f _t) := by
  unfold State.toneStep
  try dsimp only
  with_reducible repeat' (first | assumption | intro _ | apply State.setFe_mem | apply mem_ite | apply mem_foldl | simp only [memIs_mk] | split)

theorem State.toneCommit_mem {rM : Tab Byte} {s : State} (f : Nat) (t : Nat) (a : Nat) (h_s : s.memIs rM) :
    State.memIs rM (State.toneCommit s f t a) := by
  unfold State.toneCommit
  try dsimp only
  with_reducible repeat' (first | assumption | intro _ | apply State.setFe_mem | apply mem_ite | apply mem_foldl | simp only [memIs_mk] | split)

theorem State.openWindow_mem {rM : Tab Byte} {s : State} (f : Nat) (t : Nat) (ofs : Nat) (uid : Nat) (num : Nat) (h_s : s.memIs rM) :
    State.memIs rM (State.openWindow s f t ofs uid num) := by
  unfold State.openWindow
  try dsimp only
  with_reducible repeat' (first | assumption | intro _ | apply State.count_mem | apply State.flag_mem | apply State.setFe_mem | apply State.occur_mem | apply State.busPut_mem | apply mem_ite | apply mem_foldl | simp only [memIs_mk] | split)

theorem State.macmin_mem {rM : Tab Byte} {s : State} (f t : Nat) (w : Win) (d : Int × Int) (ecc : Ecc) (h_s : s.memIs rM) :
    State.memIs rM (s.macmin f t w d ecc) := by
  unfold State.macmin
  have h2 : ∀ (c : Prop) [Decidable c] (a : State) (k : Nat) (v : BitVec 40), a.memIs rM →
      State.memIs rM (if c then { a with wmem := Tab.set 0 a.wmem k v } else a) :=
    fun c _ a k v ha => mem_ite (show State.memIs rM { a with wmem := Tab.set 0 a.wmem k v } from ha) ha
  refine State.wrB_mem _ _ _ _ ?_
  split
  · exact h2 _ _ _ _ (State.setFe_mem _ _ h_s)
  · exact State.wr_mem _ _ _ (State.count_mem _ _ _ (h2 _ _ _ _ (State.setFe_mem _ _ h_s)))
  · exact State.wr_mem _ _ _ (State.count_mem _ _ _ (State.flag_mem _ _ (h2 _ _ _ _ (State.setFe_mem _ _ h_s))))

theorem State.acqTake_mem {rM : Tab Byte} {s : State} (c f : Nat) (item : List (BitVec 64)) (h_s : s.memIs rM) :
    State.memIs rM (State.acqTake s c f item) := by
  unfold State.acqTake
  try dsimp only
  with_reducible repeat' (first | assumption | intro _ | apply State.count_mem | apply State.flag_mem | apply mem_ite | apply mem_foldl | simp only [memIs_mk] | split)

theorem State.acqItem_mem {rM : Tab Byte} {s : State} (f : Nat) (t : Nat) (result : BitVec 64) (wide : BitVec 64) (stamp : BitVec 64) (h_s : s.memIs rM) :
    State.memIs rM (State.acqItem s f t result wide stamp) := by
  unfold State.acqItem
  try dsimp only
  with_reducible repeat' (first | assumption | intro _ | apply State.acqTake_mem | apply mem_ite | apply mem_foldl | simp only [memIs_mk] | split)

theorem State.winCount_mem {rM : Tab Byte} {s : State} (f : Nat) (w : Win) (o : WinOut) (h_s : s.memIs rM) :
    State.memIs rM (State.winCount s f w o) := by
  unfold State.winCount
  try dsimp only
  with_reducible repeat' (first | assumption | intro _ | apply State.count_mem | apply State.wr_mem | apply State.flag_mem | apply mem_ite | apply mem_foldl | simp only [memIs_mk] | split)

theorem State.windowResult_mem {rM : Tab Byte} {s : State} (f : Nat) (w : Win) (h_s : s.memIs rM) :
    State.memIs rM (State.windowResult s f w) := by
  unfold State.windowResult
  try dsimp only
  with_reducible repeat' (first | assumption | intro _ | apply State.winCount_mem | apply State.setFe_mem | apply State.mapShot_mem | apply State.busPut_mem | apply State.acqItem_mem | apply State.sendItem_mem | apply State.flag_mem | apply State.count_mem | apply mem_ite | apply mem_foldl | simp only [memIs_mk] | split)

theorem State.setAcqState_mem {rM : Tab Byte} {s : State} (c : Nat) (st : Nat) (h_s : s.memIs rM) :
    State.memIs rM (State.setAcqState s c st) := by
  unfold State.setAcqState
  try dsimp only
  with_reducible repeat' (first | assumption | intro _ | apply State.wrF_mem | apply mem_ite | apply mem_foldl | simp only [memIs_mk] | split)

theorem State.markBytes_mem {rM : Tab Byte} {s : State} (c : Nat) (kind : Nat) (prim : Nat) (srcs : Nat) (cnt : Nat) (t : Nat) (firstLost : Nat) (lost : Nat) (late : Bool) (h_s : s.memIs rM) :
    State.memIs rM (State.markBytes s c kind prim srcs cnt t firstLost lost late).2 := by
  unfold State.markBytes
  try dsimp only
  with_reducible repeat' (first | assumption | intro _ | apply State.markTime_mem | apply mem_ite | apply mem_foldl | simp only [memIs_mk] | split)

theorem State.acqStep_mem {rM : Tab Byte} {s : State} (c : Nat) (h_s : s.memIs rM) :
    State.memIs rM (State.acqStep s c) := by
  unfold State.acqStep
  try dsimp only
  with_reducible repeat' (first | assumption | intro _ | apply State.setAcqState_mem | apply State.setAcq_mem | apply mem_ite | apply mem_foldl | simp only [memIs_mk] | split)

theorem State.acqLast_mem {rM : Tab Byte} {s : State} (c : Nat) (t : Nat) (srcs : Nat) (h_s : s.memIs rM) :
    State.memIs rM (State.acqLast s c t srcs) := by
  unfold State.acqLast
  try dsimp only
  with_reducible repeat' (first | assumption | intro _ | apply State.wr_mem | apply State.wr64_mem | apply mem_ite | apply mem_foldl | simp only [memIs_mk] | split)

theorem State.acqStop_mem {rM : Tab Byte} {s : State} (c : Nat) (cause : Nat) (h_s : s.memIs rM) :
    State.memIs rM (State.acqStop s c cause) := by
  unfold State.acqStop
  try dsimp only
  with_reducible repeat' (first | assumption | intro _ | apply State.flag_mem | apply State.wr_mem | apply State.setAcq_mem | apply mem_ite | apply mem_foldl | simp only [memIs_mk] | split)

theorem State.hostPut_mem {rM : Tab Byte} {s : State} (c : Nat) (bytes : List Byte) (h_s : s.memIs rM) :
    State.memIs rM (State.hostPut s c bytes) := by
  unfold State.hostPut
  try dsimp only
  with_reducible repeat' (first | assumption | intro _ | apply State.ringOut_mem | apply State.writeBack_mem | apply State.wr_mem | apply mem_ite | apply mem_foldl | simp only [memIs_mk] | split)

theorem State.overflowMark_mem {rM : Tab Byte} {s : State} (c : Nat) (first : Nat) (h_s : s.memIs rM) :
    State.memIs rM (State.overflowMark s c first) := by
  unfold State.overflowMark
  try dsimp only
  with_reducible repeat' (first | assumption | intro _ | apply State.markBytes_mem | apply State.count_mem | apply State.hostPut_mem | apply mem_ite | apply mem_foldl | simp only [memIs_mk] | split)

theorem State.hostCopy_mem {rM : Tab Byte} {s : State} (c : Nat) (h_s : s.memIs rM) :
    State.memIs rM (State.hostCopy s c) := by
  unfold State.hostCopy
  try dsimp only
  with_reducible repeat' (first | assumption | intro _ | apply State.hostPut_mem | apply State.setAcq_mem | apply State.overflowMark_mem | apply State.acqStop_mem | apply mem_ite | apply mem_foldl | simp only [memIs_mk] | split)

theorem State.acqLinkStop_mem {rM : Tab Byte} {s : State} (c : Nat) (h_s : s.memIs rM) :
    State.memIs rM (State.acqLinkStop s c) := by
  unfold State.acqLinkStop
  try dsimp only
  with_reducible repeat' (first | assumption | intro _ | apply State.acqStop_mem | apply State.setAcq_mem | apply mem_ite | apply mem_foldl | simp only [memIs_mk] | split)

theorem State.acqLinkUp_mem {rM : Tab Byte} {s : State} (c : Nat) (h_s : s.memIs rM) :
    State.memIs rM (State.acqLinkUp s c) := by
  unfold State.acqLinkUp
  try dsimp only
  with_reducible repeat' (first | assumption | intro _ | apply State.overflowMark_mem | apply State.setAcq_mem | apply mem_ite | apply mem_foldl | simp only [memIs_mk] | split)

theorem State.ruleForeign_mem {rM : Tab Byte} {s : State} (n : Nat) (h_s : s.memIs rM) :
    State.memIs rM (State.ruleForeign s n) := by
  unfold State.ruleForeign
  try dsimp only
  with_reducible repeat' (first | assumption | intro _ | apply State.count_mem | apply State.flag_mem | apply mem_ite | apply mem_foldl | simp only [memIs_mk] | split)

theorem State.parLast_mem {rM : Tab Byte} {s : State} (n : Nat) (r : Nat) (x : Flight) (h_s : s.memIs rM) :
    State.memIs rM (State.parLast s n r x) := by
  unfold State.parLast
  try dsimp only
  with_reducible repeat' (first | assumption | intro _ | apply State.wr_mem | apply mem_ite | apply mem_foldl | simp only [memIs_mk] | split)

theorem State.xorFrames_mem {rM : Tab Byte} {s : State} (f word skip : Nat) (h_s : s.memIs rM) :
    State.memIs rM (State.xorFrames s f word skip) := by
  unfold State.xorFrames
  try dsimp only
  with_reducible repeat' (first | assumption | intro _ | apply State.wr_mem | apply mem_ite | apply mem_foldl | simp only [memIs_mk] | split)

theorem State.portResolve_mem {rM : Tab Byte} {s : State} (n : Nat) (r : Nat) (b : Nat) (qual : Nat) (value : Nat) (word : Nat) (shot : Option Nat) (h_s : s.memIs rM) :
    State.memIs rM (State.portResolve s n r b qual value word shot) := by
  unfold State.portResolve
  try dsimp only
  with_reducible repeat' (first | assumption | intro _ | apply State.ruleForeign_mem | apply State.setSlot_mem | apply State.postDone_mem | apply State.xorFrames_mem | apply State.occur_mem | apply State.markShot_mem | apply mem_ite | apply mem_foldl | simp only [memIs_mk] | split)

theorem State.ruleEvent_mem {rM : Tab Byte} {s : State} (n : Nat) (r : Nat) (qual : Nat) (value : Nat) (h_s : s.memIs rM) :
    State.memIs rM (State.ruleEvent s n r qual value) := by
  unfold State.ruleEvent
  try dsimp only
  with_reducible repeat' (first | assumption | intro _ | apply State.ruleForeign_mem | apply mem_ite | apply mem_foldl | simp only [memIs_mk] | split)

theorem State.ruleQueue_mem {rM : Tab Byte} {s : State} (n : Nat) (r : Nat) (round : Nat) (qual : Nat) (value : Nat) (word : Nat) (h_s : s.memIs rM) :
    State.memIs rM (State.ruleQueue s n r round qual value word) := by
  unfold State.ruleQueue
  try dsimp only
  with_reducible repeat' (first | assumption | intro _ | apply State.count_mem | apply State.flag_mem | apply State.ruleForeign_mem | apply State.sendItem_mem | apply mem_ite | apply mem_foldl | simp only [memIs_mk] | split)

theorem State.noteLate_mem {rM : Tab Byte} {s : State} (n r : Nat) (x : Flight) (h_s : s.memIs rM) :
    State.memIs rM (State.noteLate s n r x) := by
  unfold State.noteLate
  try dsimp only
  with_reducible repeat' (first | assumption | intro _ | apply State.mapSorus_mem | apply mem_ite | apply mem_foldl | simp only [memIs_mk] | split)

theorem State.resolve_mem {rM : Tab Byte} {s : State} (n : Nat) (r : Nat) (x : Flight) (qual : Nat) (value : Nat) (word : Nat) (h_s : s.memIs rM) :
    State.memIs rM (State.resolve s n r x qual value word) := by
  unfold State.resolve
  try dsimp only
  with_reducible repeat' (first | assumption | intro _ | apply State.setFlight_mem | apply State.parLast_mem | apply State.wr_mem | apply State.count_mem | apply State.flag_mem | apply State.unicast_mem | apply State.ruleQueue_mem | apply State.ruleEvent_mem | apply State.portResolve_mem | apply State.mapSorus_mem | apply State.noteLate_mem | apply mem_ite | apply mem_foldl | simp only [memIs_mk] | split)

theorem State.export_mem {rM : Tab Byte} {s : State} (n : Nat) (r : Nat) (x : Flight) (h_s : s.memIs rM) :
    State.memIs rM (State.export s n r x) := by
  unfold State.export
  try dsimp only
  with_reducible repeat' (first | assumption | intro _ | apply State.unicast_mem | apply State.setFlight_mem | apply State.parLast_mem | apply mem_ite | apply mem_foldl | simp only [memIs_mk] | split)

theorem State.evaluate_mem {rM : Tab Byte} {s : State} (n : Nat) (r : Nat) (h_s : s.memIs rM) :
    State.memIs rM (State.evaluate s n r) := by
  unfold State.evaluate
  try dsimp only
  with_reducible repeat' (first | assumption | intro _ | apply State.setFlight_mem | apply State.ruleForeign_mem | apply mem_ite | apply mem_foldl | simp only [memIs_mk] | split)

theorem State.conclude_mem {rM : Tab Byte} {s : State} (n : Nat) (r : Nat) (x : Flight) (h_s : s.memIs rM) :
    State.memIs rM (State.conclude s n r x) := by
  unfold State.conclude
  try dsimp only
  with_reducible repeat' (first | assumption | intro _ | apply State.resolve_mem | apply State.ruleForeign_mem | apply State.export_mem | apply mem_ite | apply mem_foldl | simp only [memIs_mk] | split)

theorem State.extDiscard_mem {rM : Tab Byte} {s : State} (h_s : s.memIs rM) :
    State.memIs rM (State.extDiscard s) := by
  unfold State.extDiscard
  try dsimp only
  with_reducible repeat' (first | assumption | intro _ | apply State.flag_mem | apply State.count_mem | apply mem_ite | apply mem_foldl | simp only [memIs_mk] | split)

theorem State.staleExt_mem {rM : Tab Byte} {s : State} (n : Nat) (h_s : s.memIs rM) :
    State.memIs rM (State.staleExt s n) := by
  unfold State.staleExt
  try dsimp only
  with_reducible repeat' (first | assumption | intro _ | apply State.flag_mem | apply State.count_mem | apply mem_ite | apply mem_foldl | simp only [memIs_mk] | split)

theorem State.externTake_mem {rM : Tab Byte} {s : State} (w : BitVec 64) (mm : Bool) (h_s : s.memIs rM) :
    State.memIs rM (State.externTake s w mm) := by
  unfold State.externTake
  try dsimp only
  with_reducible repeat' (first | assumption | intro _ | apply State.extDiscard_mem | apply State.staleExt_mem | apply State.mapSorus_mem | apply State.resolve_mem | apply mem_ite | apply mem_foldl | simp only [memIs_mk] | split)

theorem State.concludeDue_mem {rM : Tab Byte} {s : State} (h_s : s.memIs rM) :
    State.memIs rM (State.concludeDue s) := by
  unfold State.concludeDue
  try dsimp only
  with_reducible repeat' (first | assumption | intro _ | apply State.conclude_mem | apply State.externTake_mem | apply State.mapSorus_mem | apply mem_ite | apply mem_foldl | simp only [memIs_mk] | split)

theorem State.slotPending_mem {rM : Tab Byte} {s : State} (n : Nat) (r : Nat) (shot : Option Nat) (h_s : s.memIs rM) :
    State.memIs rM (State.slotPending s n r shot) := by
  unfold State.slotPending
  try dsimp only
  with_reducible repeat' (first | assumption | intro _ | apply State.setSlot_mem | apply mem_ite | apply mem_foldl | simp only [memIs_mk] | split)

theorem State.arm_mem {rM : Tab Byte} {s : State} (n : Nat) (r : Nat) (i : Nat) (h_s : s.memIs rM) :
    State.memIs rM (State.arm s n r i) := by
  unfold State.arm
  try dsimp only
  with_reducible repeat' (first | assumption | intro _ | apply State.flag_mem | apply State.abandon_mem | apply State.setFlight_mem | apply State.mapSorus_mem | apply State.slotPending_mem | apply State.evaluate_mem | apply mem_ite | apply mem_foldl | simp only [memIs_mk] | split)

theorem State.armWindow_mem {rM : Tab Byte} {s : State} (f : Nat) (t : Nat) (h_s : s.memIs rM) :
    State.memIs rM (State.armWindow s f t) := by
  unfold State.armWindow
  try dsimp only
  with_reducible repeat' (first | assumption | intro _ | apply State.arm_mem | apply mem_ite | apply mem_foldl | simp only [memIs_mk] | split)

theorem State.portPending_mem {rM : Tab Byte} {s : State} (n : Nat) (r : Nat) (i : Nat) (h_s : s.memIs rM) :
    State.memIs rM (State.portPending s n r i) := by
  unfold State.portPending
  try dsimp only
  with_reducible repeat' (first | assumption | intro _ | apply State.slotPending_mem | apply mem_ite | apply mem_foldl | simp only [memIs_mk] | split)

theorem State.deadline_mem {rM : Tab Byte} {s : State} (n : Nat) (r : Nat) (heard : Bool) (h_s : s.memIs rM) :
    State.memIs rM (State.deadline s n r heard) := by
  unfold State.deadline
  try dsimp only
  with_reducible repeat' (first | assumption | intro _ | apply State.resolve_mem | apply State.ruleForeign_mem | apply mem_ite | apply mem_foldl | simp only [memIs_mk] | split)

theorem State.lateInput_mem {rM : Tab Byte} {s : State} (n r w : Nat) (keys taken : List Nat) (h_s : s.memIs rM) :
    State.memIs rM (State.lateInput s n r w keys taken) := by
  unfold State.lateInput
  try dsimp only
  with_reducible repeat' (first | assumption | intro _ | apply State.mapSorus_mem | apply State.count_mem | apply mem_ite | apply mem_foldl | simp only [memIs_mk] | split)

theorem State.input_mem {rM : Tab Byte} {s0 : State} (n r f : Nat) (res : Res) (h_s0 : s0.memIs rM) :
    State.memIs rM (State.input s0 n r f res) := by
  unfold State.input
  try dsimp only
  with_reducible repeat' (first | assumption | intro _ | apply State.ruleForeign_mem | apply State.evaluate_mem | apply State.setFlight_mem | apply State.deadline_mem | apply State.lateInput_mem | apply mem_ite | apply mem_foldl | simp only [memIs_mk] | split)

theorem State.unitRecord_mem {rM : Tab Byte} {s : State} (unit : Nat) (rec_ : BusRec) (h_s : s.memIs rM) :
    State.memIs rM (State.unitRecord s unit rec_) := by
  unfold State.unitRecord
  try dsimp only
  with_reducible repeat' (first | assumption | intro _ | apply State.portPending_mem | apply State.input_mem | apply mem_ite | apply mem_foldl | simp only [memIs_mk] | split)

theorem State.taintRule_mem {rM : Tab Byte} {s : State} (n : Nat) (r : Nat) (i : Nat) (own : Bool) (h_s : s.memIs rM) :
    State.memIs rM (State.taintRule s n r i own) := by
  unfold State.taintRule
  try dsimp only
  with_reducible repeat' (first | assumption | intro _ | apply State.mapSorus_mem | apply State.flag_mem | apply State.count_mem | apply State.setFlight_mem | apply State.arm_mem | apply mem_ite | apply mem_foldl | simp only [memIs_mk] | split)

theorem State.unitDiscard_mem {rM : Tab Byte} {s : State} (unit : Nat) (rec_ : BusRec) (h_s : s.memIs rM) :
    State.memIs rM (State.unitDiscard s unit rec_) := by
  unfold State.unitDiscard
  try dsimp only
  with_reducible repeat' (first | assumption | intro _ | apply State.flag_mem | apply State.occur_mem | apply State.wr_mem | apply State.portPending_mem | apply State.taintRule_mem | apply mem_ite | apply mem_foldl | simp only [memIs_mk] | split)

theorem State.eventRule_mem {rM : Tab Byte} {s0 : State} (n r c : Nat) (h_s0 : s0.memIs rM) :
    State.memIs rM (State.eventRule s0 n r c) := by
  unfold State.eventRule
  try dsimp only
  with_reducible repeat' (first | assumption | intro _ | apply State.count_mem | apply State.setFlight_mem | apply State.ruleForeign_mem | apply State.deadline_mem | apply mem_ite | apply mem_foldl | simp only [memIs_mk] | split)

theorem State.unlockSlot_mem {rM : Tab Byte} {s : State} (n r : Nat) (h_s : s.memIs rM) :
    State.memIs rM (State.unlockSlot s n r) := by
  unfold State.unlockSlot
  try dsimp only
  with_reducible repeat' (first | assumption | intro _ | apply State.setSlot_mem | apply mem_ite | apply mem_foldl | simp only [memIs_mk] | split)

theorem State.armNotice_mem {rM : Tab Byte} {s : State} (f : Nat) (h_s : s.memIs rM) :
    State.memIs rM (State.armNotice s f) := by
  unfold State.armNotice
  try dsimp only
  with_reducible repeat' (first | assumption | intro _ | apply State.mapSorus_mem | apply State.slotPending_mem | apply State.unlockSlot_mem | apply mem_ite | apply mem_foldl | simp only [memIs_mk] | split)

theorem State.slotResolution_mem {rM : Tab Byte} {s : State} (f : Nat) (h_s : s.memIs rM) :
    State.memIs rM (State.slotResolution s f) := by
  unfold State.slotResolution
  try dsimp only
  with_reducible repeat' (first | assumption | intro _ | apply State.mapSorus_mem | apply State.portResolve_mem | apply mem_ite | apply mem_foldl | simp only [memIs_mk] | split)

theorem State.portDiscard_mem {rM : Tab Byte} {s : State} (f : Nat) (h_s : s.memIs rM) :
    State.memIs rM (State.portDiscard s f) := by
  unfold State.portDiscard
  try dsimp only
  with_reducible repeat' (first | assumption | intro _ | apply State.flag_mem | apply State.occur_mem | apply State.wr_mem | apply State.mapSorus_mem | apply State.setSlot_mem | apply mem_ite | apply mem_foldl | simp only [memIs_mk] | split)

theorem State.markMM_mem {rM : Tab Byte} {s : State} (unit : Nat) (h_s : s.memIs rM) :
    State.memIs rM (State.markMM s unit) := by
  unfold State.markMM
  try dsimp only
  with_reducible repeat' (first | assumption | intro _ | apply State.setFlight_mem | apply State.mapSorus_mem | apply mem_ite | apply mem_foldl | simp only [memIs_mk] | split)

theorem State.ndeorExport_mem {rM : Tab Byte} {s : State} (h_s : s.memIs rM) :
    State.memIs rM (State.ndeorExport s) := by
  unfold State.ndeorExport
  exact mem_ite h_s (State.count_mem _ _ _ (State.flag_mem _ _ h_s))

theorem State.ndeorDecision_mem {rM : Tab Byte} {s : State} (w : BitVec 64) (h_s : s.memIs rM) :
    State.memIs rM (State.ndeorDecision s w) := by
  unfold State.ndeorDecision
  try dsimp only
  with_reducible repeat' (first | assumption | intro _ | apply State.mapSorus_mem | apply State.setFlight_mem | apply State.extDiscard_mem | apply State.staleExt_mem | apply State.deadline_mem | apply mem_ite | apply mem_foldl | simp only [memIs_mk] | split)

theorem State.lockstep_mem {rM : Tab Byte} {s : State} (unit : Nat) (frames : List (Nat × Nat)) (h_s : s.memIs rM) :
    State.memIs rM (State.lockstep s unit frames) := by
  unfold State.lockstep
  try dsimp only
  with_reducible repeat' (first | assumption | intro _ | apply State.resolve_mem | apply State.mapSorus_mem | apply State.count_mem | apply State.wr_mem | apply State.flag_mem | apply State.wrF_mem | apply State.markShot_mem | apply mem_ite | apply mem_foldl | simp only [memIs_mk] | split)

theorem State.frameOp_mem {rM : Tab Byte} {s : State} (f op q word lost : Nat) (h_s : s.memIs rM) :
    State.memIs rM (State.frameOp s f op q word lost) := by
  unfold State.frameOp
  try dsimp only
  with_reducible repeat' (first | assumption | intro _ | apply State.wrF_mem | apply State.xorFrames_mem | apply State.clearFrames_mem | apply mem_ite | apply mem_foldl | simp only [memIs_mk] | split)

theorem State.sorusHold_mem {rM : Tab Byte} {s : State} (h_s : s.memIs rM) :
    State.memIs rM (State.sorusHold s) := by
  unfold State.sorusHold
  try dsimp only
  with_reducible repeat' (first | assumption | intro _ | apply State.abandon_mem | apply State.setSlot_mem | apply State.mapSorus_mem | apply State.wr_mem | apply mem_ite | apply mem_foldl | simp only [memIs_mk] | split)

theorem State.clrCount_mem {rM : Tab Byte} {s : State} (n : Nat) (h_s : s.memIs rM) :
    State.memIs rM (State.clrCount s n) := by
  unfold State.clrCount
  try dsimp only
  with_reducible repeat' (first | assumption | intro _ | apply State.count_mem | apply mem_ite | apply mem_foldl | simp only [memIs_mk] | split)

theorem State.pauseCount_mem {rM : Tab Byte} {s : State} (n : Nat) (h_s : s.memIs rM) :
    State.memIs rM (State.pauseCount s n) := by
  unfold State.pauseCount
  try dsimp only
  with_reducible repeat' (first | assumption | intro _ | apply State.count_mem | apply mem_ite | apply mem_foldl | simp only [memIs_mk] | split)

theorem State.passBeats_mem {rM : Tab Byte} {s0 : State} (n : Nat) (h_s0 : s0.memIs rM) :
    State.memIs rM (State.passBeats s0 n) := by
  unfold State.passBeats
  try dsimp only
  with_reducible repeat' (first | assumption | intro _ | apply State.cntAdd_mem | apply State.clrCount_mem | apply State.pauseCount_mem | apply mem_ite | apply mem_foldl | simp only [memIs_mk] | split)

theorem State.queuesLeave_mem {rM : Tab Byte} {s : State} (h_s : s.memIs rM) :
    State.memIs rM (State.queuesLeave s) := by
  unfold State.queuesLeave
  try dsimp only
  with_reducible repeat' (first | assumption | intro _ | apply State.setQueue_mem | apply mem_ite | apply mem_foldl | simp only [memIs_mk] | split)

theorem State.switchDue_mem {rM : Tab Byte} {s : State} (f : Nat) (h_s : s.memIs rM) :
    State.memIs rM (State.switchDue s f) := by
  unfold State.switchDue
  try dsimp only
  with_reducible repeat' (first | assumption | intro _ | apply State.feMark_mem | apply State.setFe_mem | apply mem_ite | apply mem_foldl | simp only [memIs_mk] | split)

theorem State.switchesDue_mem {rM : Tab Byte} {s : State} (h_s : s.memIs rM) :
    State.memIs rM (State.switchesDue s) := by
  unfold State.switchesDue
  try dsimp only
  with_reducible repeat' (first | assumption | intro _ | apply State.switchDue_mem | apply mem_ite | apply mem_foldl | simp only [memIs_mk] | split)

theorem State.setGrp_mem {rM : Tab Byte} {s : State} (g : Nat) (x : Group) (h_s : s.memIs rM) :
    State.memIs rM (State.setGrp s g x) := by
  unfold State.setGrp
  try dsimp only
  with_reducible repeat' (first | assumption | intro _ | apply mem_ite | apply mem_foldl | simp only [memIs_mk] | split)

theorem State.sendCopy_mem {rM : Tab Byte} {s : State} (g : Nat) (h_s : s.memIs rM) :
    State.memIs rM (State.sendCopy s g) := by
  unfold State.sendCopy
  try dsimp only
  with_reducible repeat' (first | assumption | intro _ | apply State.unicast_mem | apply State.setGrp_mem | apply mem_ite | apply mem_foldl | simp only [memIs_mk] | split)

theorem State.grpRefuse_mem {rM : Tab Byte} {s : State} (g : Nat) (cause : Nat) (h_s : s.memIs rM) :
    State.memIs rM (State.grpRefuse s g cause) := by
  unfold State.grpRefuse
  try dsimp only
  with_reducible repeat' (first | assumption | intro _ | apply State.recErr_mem | apply mem_ite | apply mem_foldl | simp only [memIs_mk] | split)

theorem State.setPageState_mem {rM : Tab Byte} {s : State} (p : Pg) (st : Nat) (h_s : s.memIs rM) :
    State.memIs rM (State.setPageState s p st) := by
  unfold State.setPageState
  try dsimp only
  with_reducible repeat' (first | assumption | intro _ | apply State.wrF_mem | apply mem_ite | apply mem_foldl | simp only [memIs_mk] | split)

theorem State.bindPage_mem {rM : Tab Byte} {s : State} (p : Pg) (g : Option Nat) (h_s : s.memIs rM) :
    State.memIs rM (State.bindPage s p g) := by
  unfold State.bindPage
  try dsimp only
  with_reducible repeat' (first | assumption | intro _ | apply State.wr_mem | apply State.setPageState_mem | apply mem_ite | apply mem_foldl | simp only [memIs_mk] | split)

theorem State.commitBit_mem {rM : Tab Byte} {s : State} (off : Nat) (g : Nat) (b : Bool) (h_s : s.memIs rM) :
    State.memIs rM (State.commitBit s off g b) := by
  unfold State.commitBit
  try dsimp only
  with_reducible repeat' (first | assumption | intro _ | apply State.wrB_mem | apply mem_ite | apply mem_foldl | simp only [memIs_mk] | split)

theorem State.setGrpState_mem {rM : Tab Byte} {s : State} (g : Nat) (st : Nat) (h_s : s.memIs rM) :
    State.memIs rM (State.setGrpState s g st) := by
  unfold State.setGrpState
  try dsimp only
  with_reducible repeat' (first | assumption | intro _ | apply State.commitBit_mem | apply State.wrF_mem | apply State.wrB_mem | apply mem_ite | apply mem_foldl | simp only [memIs_mk] | split)

theorem State.outcome_mem {rM : Tab Byte} {s : State} (g : Nat) (out : Nat) (cause : Nat) (h_s : s.memIs rM) :
    State.memIs rM (State.outcome s g out cause) := by
  unfold State.outcome
  try dsimp only
  with_reducible repeat' (first | assumption | intro _ | apply State.setGrp_mem | apply State.wr64_mem | apply State.wr_mem | apply State.setGrpState_mem | apply mem_ite | apply mem_foldl | simp only [memIs_mk] | split)

theorem State.showClaims_mem {rM : Tab Byte} {s : State} (g : Nat) (h_s : s.memIs rM) :
    State.memIs rM (State.showClaims s g) := by
  unfold State.showClaims
  try dsimp only
  with_reducible repeat' (first | assumption | intro _ | apply State.wrF_mem | apply mem_ite | apply mem_foldl | simp only [memIs_mk] | split)

theorem State.reclaim_mem {rM : Tab Byte} {s : State} (h_s : s.memIs rM) :
    State.memIs rM (State.reclaim s) := by
  unfold State.reclaim
  try dsimp only
  with_reducible repeat' (first | assumption | intro _ | apply State.showClaims_mem | apply mem_ite | apply mem_foldl | simp only [memIs_mk] | split)

theorem State.abort63_mem {rM : Tab Byte} {s : State} (cause : Nat) (h_s : s.memIs rM) :
    State.memIs rM (State.abort63 s cause) := by
  unfold State.abort63
  try dsimp only
  with_reducible repeat' (first | assumption | intro _ | apply State.count_mem | apply State.flag_mem | apply State.mapCal_mem | apply mem_ite | apply mem_foldl | simp only [memIs_mk] | split)

theorem State.abortGrp_mem {rM : Tab Byte} {s : State} (g : Nat) (cause : Nat) (h_s : s.memIs rM) :
    State.memIs rM (State.abortGrp s g cause) := by
  unfold State.abortGrp
  try dsimp only
  with_reducible repeat' (first | assumption | intro _ | apply State.bindPage_mem | apply State.flag_mem | apply State.count_mem | apply State.outcome_mem | apply State.reclaim_mem | apply State.wrF_mem | apply State.abort63_mem | apply mem_ite | apply mem_foldl | simp only [memIs_mk] | split)

theorem State.abortActs_mem {rM : Tab Byte} {s : State} (g b : Nat) (h_s : s.memIs rM) :
    State.memIs rM (State.abortActs s g b) := by
  unfold State.abortActs
  try dsimp only
  with_reducible repeat' (first | assumption | intro _ | apply State.grpRefuse_mem | apply State.abortGrp_mem | apply mem_ite | apply mem_foldl | simp only [memIs_mk] | split)

theorem State.fixBeats_mem {rM : Tab Byte} {s : State} (g : Nat) (d : Nat) (a : Nat) (h_s : s.memIs rM) :
    State.memIs rM (State.fixBeats s g d a) := by
  unfold State.fixBeats
  try dsimp only
  with_reducible repeat' (first | assumption | intro _ | apply State.setGrp_mem | apply mem_ite | apply mem_foldl | simp only [memIs_mk] | split)

theorem State.stretchDue_mem {rM : Tab Byte} {s : State} (g : Nat) (h_s : s.memIs rM) :
    State.memIs rM (State.stretchDue s g) := by
  unfold State.stretchDue
  try dsimp only
  with_reducible repeat' (first | assumption | intro _ | apply State.setGrp_mem | apply State.fixBeats_mem | apply mem_ite | apply mem_foldl | simp only [memIs_mk] | split)

theorem State.groupDue_mem {rM : Tab Byte} {s : State} (g : Nat) (h_s : s.memIs rM) :
    State.memIs rM (State.groupDue s g) := by
  unfold State.groupDue
  try dsimp only
  with_reducible repeat' (first | assumption | intro _ | apply State.sendCopy_mem | apply State.setGrp_mem | apply State.abortActs_mem | apply State.stretchDue_mem | apply mem_ite | apply mem_foldl | simp only [memIs_mk] | split)

theorem State.groupsDue_mem {rM : Tab Byte} {s : State} (h_s : s.memIs rM) :
    State.memIs rM (State.groupsDue s) := by
  unfold State.groupsDue
  try dsimp only
  with_reducible repeat' (first | assumption | intro _ | apply State.groupDue_mem | apply mem_ite | apply mem_foldl | simp only [memIs_mk] | split)

theorem State.sliceOff_mem {rM : Tab Byte} {s : State} (k : Nat) (h_s : s.memIs rM) : State.memIs rM (s.sliceOff k) := by
  unfold State.sliceOff
  exact (memIs_mk rM _).symm ▸ mem_foldl _ h_s (fun a i ha => mem_foldl _ (State.idlePlayers_mem _ (State.crzDrop_mem _ ha))
    (fun b p hb => State.resetRange_mem _ _ _ hb))

theorem State.switchDom_mem {rM : Tab Byte} {s : State} (d : Nat) (on : Bool) (h_s : s.memIs rM) :
    State.memIs rM (State.switchDom s d on) := by
  unfold State.switchDom
  try dsimp only
  with_reducible repeat' (first | assumption | intro _ | apply State.sliceOff_mem | apply State.wrB_mem | apply mem_ite | apply mem_foldl | simp only [memIs_mk] | split)

theorem State.mapBoot_mem {rM : Tab Byte} {s : State} (g : Boot → Boot) (h_s : s.memIs rM) :
    State.memIs rM (State.mapBoot s g) := by
  unfold State.mapBoot
  try dsimp only
  with_reducible repeat' (first | assumption | intro _ | apply mem_ite | apply mem_foldl | simp only [memIs_mk] | split)

theorem State.powerDue_mem {rM : Tab Byte} {s : State} (h_s : s.memIs rM) :
    State.memIs rM (State.powerDue s) := by
  unfold State.powerDue
  try dsimp only
  with_reducible repeat' (first | assumption | intro _ | apply State.switchDom_mem | apply State.mapBoot_mem | apply mem_ite | apply mem_foldl | simp only [memIs_mk] | split)

theorem State.captureEnd_mem {rM : Tab Byte} {s : State} (c : Nat) (h_s : s.memIs rM) :
    State.memIs rM (State.captureEnd s c) := by
  unfold State.captureEnd
  try dsimp only
  with_reducible repeat' (first | assumption | intro _ | apply State.setAcqState_mem | apply mem_ite | apply mem_foldl | simp only [memIs_mk] | split)

theorem execHostRd_mem {rM : Tab Byte} (path : Path) (c : Fin 16) (v : Word) (bell : Bool) {s : State} (h_s : s.memIs rM) :
    outMem rM (execHostRd path c v bell s) := by
  unfold execHostRd
  try dsimp only
  with_reducible repeat' (first | assumption | intro _ | apply outMem_next | apply State.viaBell_mem | apply State.hostRdWrite_mem | apply mem_ite | apply mem_foldl | simp only [memIs_mk] | split)

theorem State.mapInst_mem {rM : Tab Byte} {s : State} (n : Nat) (g : PtpInst → PtpInst) (h_s : s.memIs rM) :
    State.memIs rM (State.mapInst s n g) := by
  unfold State.mapInst
  try dsimp only
  with_reducible repeat' (first | assumption | intro _ | apply State.mapTime_mem | apply mem_ite | apply mem_foldl | simp only [memIs_mk] | split)

theorem State.setPortSt_mem {rM : Tab Byte} {s : State} (n : Nat) (p : Nat) (v : Nat) (h_s : s.memIs rM) :
    State.memIs rM (State.setPortSt s n p v) := by
  unfold State.setPortSt
  try dsimp only
  with_reducible repeat' (first | assumption | intro _ | apply State.flag_mem | apply State.wrF_mem | apply mem_ite | apply mem_foldl | simp only [memIs_mk] | split)

theorem State.autoSwitch_mem {rM : Tab Byte} {s : State} (n : Nat) (h_s : s.memIs rM) :
    State.memIs rM (State.autoSwitch s n) := by
  unfold State.autoSwitch
  try dsimp only
  with_reducible repeat' (first | assumption | intro _ | apply State.setSel_mem | apply mem_ite | apply mem_foldl | simp only [memIs_mk] | split)

theorem State.setLock_mem {rM : Tab Byte} {s : State} (n : Nat) (v : Nat) (h_s : s.memIs rM) :
    State.memIs rM (State.setLock s n v) := by
  unfold State.setLock
  try dsimp only
  with_reducible repeat' (first | assumption | intro _ | apply State.wrF_mem | apply State.autoSwitch_mem | apply State.mapInst_mem | apply State.flag_mem | apply mem_ite | apply mem_foldl | simp only [memIs_mk] | split)

theorem State.dropMaster_mem {rM : Tab Byte} {s : State} (n : Nat) (h_s : s.memIs rM) :
    State.memIs rM (State.dropMaster s n) := by
  unfold State.dropMaster
  try dsimp only
  with_reducible repeat' (first | assumption | intro _ | apply State.setLock_mem | apply State.mapInst_mem | apply mem_ite | apply mem_foldl | simp only [memIs_mk] | split)

theorem State.offset_mem {rM : Tab Byte} {s : State} (n : Nat) (o : Int) (steps : Nat) (h_s : s.memIs rM) :
    State.memIs rM (State.offset s n o steps) := by
  unfold State.offset
  try dsimp only
  with_reducible repeat' (first | assumption | intro _ | apply State.wr64_mem | apply State.setLock_mem | apply State.mapInst_mem | apply State.count_mem | apply State.flag_mem | apply State.mapTime_mem | apply State.servoUpdate_mem | apply mem_ite | apply mem_foldl | simp only [memIs_mk] | split)

theorem State.tryOffset_mem {rM : Tab Byte} {s : State} (n : Nat) (p : Nat) (h_s : s.memIs rM) :
    State.memIs rM (State.tryOffset s n p) := by
  unfold State.tryOffset
  try dsimp only
  with_reducible repeat' (first | assumption | intro _ | apply State.offset_mem | apply State.mapInst_mem | apply State.setPortSt_mem | apply mem_ite | apply mem_foldl | simp only [memIs_mk] | split)

theorem State.syncPair_mem {rM : Tab Byte} {s : State} (n : Nat) (p : Nat) (t1 : Int) (t2 : Int) (steps : Nat) (h_s : s.memIs rM) :
    State.memIs rM (State.syncPair s n p t1 t2 steps) := by
  unfold State.syncPair
  try dsimp only
  with_reducible repeat' (first | assumption | intro _ | apply State.mapInst_mem | apply State.draw_mem | apply State.offset_mem | apply State.tryOffset_mem | apply mem_ite | apply mem_foldl | simp only [memIs_mk] | split)

theorem State.ptpSync_mem {rM : Tab Byte} {s : State} (n : Nat) (x : PtpMsg) (h_s : s.memIs rM) :
    State.memIs rM (State.ptpSync s n x) := by
  unfold State.ptpSync
  try dsimp only
  with_reducible repeat' (first | assumption | intro _ | apply State.count_mem | apply State.mapInst_mem | apply State.syncPair_mem | apply mem_ite | apply mem_foldl | simp only [memIs_mk] | split)

theorem State.ptpFollow_mem {rM : Tab Byte} {s : State} (n : Nat) (x : PtpMsg) (h_s : s.memIs rM) :
    State.memIs rM (State.ptpFollow s n x) := by
  unfold State.ptpFollow
  try dsimp only
  with_reducible repeat' (first | assumption | intro _ | apply State.syncPair_mem | apply State.mapInst_mem | apply mem_ite | apply mem_foldl | simp only [memIs_mk] | split)

theorem State.setDelay_mem {rM : Tab Byte} {s : State} (n : Nat) (p : Nat) (d : Int) (h_s : s.memIs rM) :
    State.memIs rM (State.setDelay s n p d) := by
  unfold State.setDelay
  try dsimp only
  with_reducible repeat' (first | assumption | intro _ | apply State.wr64_mem | apply State.mapInst_mem | apply mem_ite | apply mem_foldl | simp only [memIs_mk] | split)

theorem State.ptpReply_mem {rM : Tab Byte} {s : State} (x : PtpMsg) (kind : Nat) (ts corr : Int) (h_s : s.memIs rM) :
    State.memIs rM (State.ptpReply s x kind ts corr) := by
  unfold State.ptpReply
  try dsimp only
  with_reducible repeat' (first | assumption | intro _ | apply State.emit_mem | apply mem_ite | apply mem_foldl | simp only [memIs_mk] | split)

theorem State.ptpDelayReq_mem {rM : Tab Byte} {s : State} (n : Nat) (x : PtpMsg) (h_s : s.memIs rM) :
    State.memIs rM (State.ptpDelayReq s n x) := by
  unfold State.ptpDelayReq
  try dsimp only
  with_reducible repeat' (first | assumption | intro _ | apply State.count_mem | apply State.ptpReply_mem | apply mem_ite | apply mem_foldl | simp only [memIs_mk] | split)

theorem State.ptpDelayResp_mem {rM : Tab Byte} {s : State} (n : Nat) (x : PtpMsg) (h_s : s.memIs rM) :
    State.memIs rM (State.ptpDelayResp s n x) := by
  unfold State.ptpDelayResp
  try dsimp only
  with_reducible repeat' (first | assumption | intro _ | apply State.mapInst_mem | apply State.tryOffset_mem | apply State.setDelay_mem | apply mem_ite | apply mem_foldl | simp only [memIs_mk] | split)

theorem State.macFix_mem {rM : Tab Byte} {s : State} (mo : Nat) (h_s : s.memIs rM) :
    State.memIs rM (State.macFix s mo) := by
  unfold State.macFix
  try dsimp only
  with_reducible repeat' (first | assumption | intro _ | apply State.macTo_mem | apply mem_ite | apply mem_foldl | simp only [memIs_mk] | split)

theorem State.ptpPdelayReq_mem {rM : Tab Byte} {s : State} (n : Nat) (x : PtpMsg) (h_s : s.memIs rM) :
    State.memIs rM (State.ptpPdelayReq s n x) := by
  unfold State.ptpPdelayReq
  try dsimp only
  with_reducible repeat' (first | assumption | intro _ | apply State.count_mem | apply State.macFix_mem | apply State.ptpReply_mem | apply mem_ite | apply mem_foldl | simp only [memIs_mk] | split)

theorem State.peerDone_mem {rM : Tab Byte} {s : State} (n : Nat) (p : Nat) (sum : Int) (steps : Nat) (h_s : s.memIs rM) :
    State.memIs rM (State.peerDone s n p sum steps) := by
  unfold State.peerDone
  try dsimp only
  with_reducible repeat' (first | assumption | intro _ | apply State.count_mem | apply State.mapInst_mem | apply State.tryOffset_mem | apply State.setDelay_mem | apply mem_ite | apply mem_foldl | simp only [memIs_mk] | split)

theorem State.ptpPdelayResp_mem {rM : Tab Byte} {s : State} (n : Nat) (x : PtpMsg) (h_s : s.memIs rM) :
    State.memIs rM (State.ptpPdelayResp s n x) := by
  unfold State.ptpPdelayResp
  try dsimp only
  with_reducible repeat' (first | assumption | intro _ | apply State.mapInst_mem | apply State.peerDone_mem | apply mem_ite | apply mem_foldl | simp only [memIs_mk] | split)

theorem State.ptpPdelayFollow_mem {rM : Tab Byte} {s : State} (n : Nat) (x : PtpMsg) (h_s : s.memIs rM) :
    State.memIs rM (State.ptpPdelayFollow s n x) := by
  unfold State.ptpPdelayFollow
  try dsimp only
  with_reducible repeat' (first | assumption | intro _ | apply State.peerDone_mem | apply mem_ite | apply mem_foldl | simp only [memIs_mk] | split)

theorem State.ptpDecide_mem {rM : Tab Byte} {s : State} (n : Nat) (timedOut : Option Nat) (h_s : s.memIs rM) :
    State.memIs rM (State.ptpDecide s n timedOut) := by
  unfold State.ptpDecide
  try dsimp only
  with_reducible repeat' (first | assumption | intro _ | apply State.mapInst_mem | apply State.wr64_mem | apply State.setPortSt_mem | apply State.setLock_mem | apply State.dropMaster_mem | apply mem_ite | apply mem_foldl | simp only [memIs_mk] | split)

theorem State.ptpAnnounce_mem {rM : Tab Byte} {s : State} (n : Nat) (x : PtpMsg) (h_s : s.memIs rM) :
    State.memIs rM (State.ptpAnnounce s n x) := by
  unfold State.ptpAnnounce
  try dsimp only
  with_reducible repeat' (first | assumption | intro _ | apply State.count_mem | apply State.mapInst_mem | apply State.ptpDecide_mem | apply mem_ite | apply mem_foldl | simp only [memIs_mk] | split)

theorem State.ptpForward_mem {rM : Tab Byte} {s : State} (kind : Nat) (x : PtpMsg) (t2 : Int) (h_s : s.memIs rM) :
    State.memIs rM (State.ptpForward s kind x t2) := by
  unfold State.ptpForward
  try dsimp only
  with_reducible repeat' (first | assumption | intro _ | apply State.count_mem | apply State.emit_mem | apply State.macFix_mem | apply mem_ite | apply mem_foldl | simp only [memIs_mk] | split)

theorem State.ptpRx_mem {rM : Tab Byte} {s : State} (kind : Nat) (x : PtpMsg) (own : State → Nat → State) (h_s : s.memIs rM) (h_own : ∀ t x, t.memIs rM → (own t x).memIs rM) :
    State.memIs rM (State.ptpRx s kind x own) := by
  unfold State.ptpRx
  try dsimp only
  with_reducible repeat' (first | assumption | intro _ | apply State.macTo_mem | apply State.ptpForward_mem | apply h_own | apply mem_ite | apply mem_foldl | simp only [memIs_mk] | split)

theorem State.ptpSeq_mem {rM : Tab Byte} {s : State} (n : Nat) (p : Nat) (kind : Nat) (h_s : s.memIs rM) :
    State.memIs rM (State.ptpSeq s n p kind).2 := by
  unfold State.ptpSeq
  try dsimp only
  with_reducible repeat' (first | assumption | intro _ | apply State.mapInst_mem | apply mem_ite | apply mem_foldl | simp only [memIs_mk] | split)

theorem State.ptpOut_mem {rM : Tab Byte} {s : State} (n p kind seq : Nat) (ts corr : Int) (ds : List Nat) (h_s : s.memIs rM) :
    State.memIs rM (State.ptpOut s n p kind seq ts corr ds) := by
  unfold State.ptpOut
  try dsimp only
  with_reducible repeat' (first | assumption | intro _ | apply State.emit_mem | apply mem_ite | apply mem_foldl | simp only [memIs_mk] | split)

theorem State.ptpSend_mem {rM : Tab Byte} {s0 : State} (n p kind m : Nat) (h_s0 : s0.memIs rM) :
    State.memIs rM (State.ptpSend s0 n p kind m) := by
  unfold State.ptpSend
  try dsimp only
  with_reducible repeat' (first | assumption | intro _ | apply State.ptpSeq_mem | apply State.count_mem | apply State.mapInst_mem | apply State.ptpOut_mem | apply mem_ite | apply mem_foldl | simp only [memIs_mk] | split)

theorem State.ptpTimeout_mem {rM : Tab Byte} {s : State} (n : Nat) (p : Nat) (ann : Bool) (h_s : s.memIs rM) :
    State.memIs rM (State.ptpTimeout s n p ann) := by
  unfold State.ptpTimeout
  try dsimp only
  with_reducible repeat' (first | assumption | intro _ | apply State.setLock_mem | apply State.dropMaster_mem | apply State.mapInst_mem | apply State.ptpDecide_mem | apply mem_ite | apply mem_foldl | simp only [memIs_mk] | split)

theorem State.ptpCfg_mem {rM : Tab Byte} {s : State} (n : Nat) (v : Word) (h_s : s.memIs rM) :
    State.memIs rM (State.ptpCfg s n v) := by
  unfold State.ptpCfg
  try dsimp only
  with_reducible repeat' (first | assumption | intro _ | apply State.wr_mem | apply State.dropMaster_mem | apply State.setPortSt_mem | apply State.mapInst_mem | apply mem_ite | apply mem_foldl | simp only [memIs_mk] | split)

theorem State.lay_mem {rM : Tab Byte} {s : State} (keep : Nat → Bool) (h_s : s.memIs rM) :
    State.memIs rM (State.lay s keep) := by
  unfold State.lay
  try dsimp only
  with_reducible repeat' (first | assumption | intro _ | apply State.wrA_mem | apply mem_ite | apply mem_foldl | simp only [memIs_mk] | split)

theorem State.overlay_mem {rM : Tab Byte} {s : State} (g : Nat) (h_s : s.memIs rM) :
    State.memIs rM (State.overlay s g) := by
  unfold State.overlay
  try dsimp only
  with_reducible repeat' (first | assumption | intro _ | apply State.lay_mem | apply mem_ite | apply mem_foldl | simp only [memIs_mk] | split)

theorem State.overlayOwn_mem {rM : Tab Byte} {s : State} (g : Nat) (h_s : s.memIs rM) :
    State.memIs rM (State.overlayOwn s g) := by
  unfold State.overlayOwn
  try dsimp only
  with_reducible repeat' (first | assumption | intro _ | apply State.lay_mem | apply mem_ite | apply mem_foldl | simp only [memIs_mk] | split)

theorem State.doom_mem {rM : Tab Byte} {s : State} (g : Nat) (h_s : s.memIs rM) :
    State.memIs rM (State.doom s g) := by
  unfold State.doom
  try dsimp only
  with_reducible repeat' (first | assumption | intro _ | apply State.flag_mem | apply State.count_mem | apply State.wrB_mem | apply State.setPageState_mem | apply mem_ite | apply mem_foldl | simp only [memIs_mk] | split)

theorem State.shadowWrite_mem {rM : Tab Byte} {s : State} (g : Nat) (p : Pg) (off : Nat) (v : Word) (h_s : s.memIs rM) :
    State.memIs rM (State.shadowWrite s g p off v) := by
  unfold State.shadowWrite
  try dsimp only
  with_reducible repeat' (first | assumption | intro _ | apply State.doom_mem | apply State.wr_mem | apply State.bindPage_mem | apply State.setGrp_mem | apply State.setPageState_mem | apply mem_ite | apply mem_foldl | simp only [memIs_mk] | split)

theorem State.rwcWrite_mem {rM : Tab Byte} {s : State} (path : Path) (p : Pg) (off : Nat) (v : Word) (h_s : s.memIs rM) :
    State.memIs rM (State.rwcWrite s path p off v) := by
  unfold State.rwcWrite
  try dsimp only
  with_reducible repeat' (first | assumption | intro _ | apply State.recErr_mem | apply State.shadowWrite_mem | apply mem_ite | apply mem_foldl | simp only [memIs_mk] | split)

theorem State.showResv_mem {rM : Tab Byte} {s : State} (h_s : s.memIs rM) :
    State.memIs rM (State.showResv s) := by
  unfold State.showResv
  try dsimp only
  with_reducible repeat' (first | assumption | intro _ | apply State.wr_mem | apply mem_ite | apply mem_foldl | simp only [memIs_mk] | split)

theorem State.grpOpen_mem {rM : Tab Byte} {s : State} (path : Path) (g : Nat) (h_s : s.memIs rM) :
    State.memIs rM (State.grpOpen s path g) := by
  unfold State.grpOpen
  try dsimp only
  with_reducible repeat' (first | assumption | intro _ | apply State.grpRefuse_mem | apply State.setGrp_mem | apply State.setGrpState_mem | apply State.wr_mem | apply mem_ite | apply mem_foldl | simp only [memIs_mk] | split)

theorem State.grpArm_mem {rM : Tab Byte} {s : State} (g : Nat) (h_s : s.memIs rM) :
    State.memIs rM (State.grpArm s g) := by
  unfold State.grpArm
  try dsimp only
  with_reducible repeat' (first | assumption | intro _ | apply State.grpRefuse_mem | apply State.setGrp_mem | apply State.wrF_mem | apply State.setGrpState_mem | apply State.setPageState_mem | apply mem_ite | apply mem_foldl | simp only [memIs_mk] | split)

theorem State.grpAbortCmd_mem {rM : Tab Byte} {s : State} (g : Nat) (b : Nat) (h_s : s.memIs rM) :
    State.memIs rM (State.grpAbortCmd s g b) := by
  unfold State.grpAbortCmd
  try dsimp only
  with_reducible repeat' (first | assumption | intro _ | apply State.grpRefuse_mem | apply State.abortGrp_mem | apply State.setGrp_mem | apply State.abortActs_mem | apply mem_ite | apply mem_foldl | simp only [memIs_mk] | split)

theorem State.grpCmd_mem {rM : Tab Byte} {s : State} (path : Path) (g : Nat) (v : Word) (h_s : s.memIs rM) :
    State.memIs rM (State.grpCmd s path g v) := by
  unfold State.grpCmd
  try dsimp only
  with_reducible repeat' (first | assumption | intro _ | apply State.grpRefuse_mem | apply State.grpOpen_mem | apply State.grpArm_mem | apply State.grpAbortCmd_mem | apply mem_ite | apply mem_foldl | simp only [memIs_mk] | split)

theorem State.modeAborts_mem {rM : Tab Byte} {s : State} (hold : Bool) (h_s : s.memIs rM) :
    State.memIs rM (State.modeAborts s hold) := by
  unfold State.modeAborts
  try dsimp only
  with_reducible repeat' (first | assumption | intro _ | apply State.abortGrp_mem | apply State.flag_mem | apply mem_ite | apply mem_foldl | simp only [memIs_mk] | split)

theorem State.pathReset_mem {rM : Tab Byte} {s : State} (path : Path) (h_s : s.memIs rM) :
    State.memIs rM (State.pathReset s path) := by
  unfold State.pathReset
  try dsimp only
  with_reducible repeat' (first | assumption | intro _ | apply State.abortGrp_mem | apply mem_ite | apply mem_foldl | simp only [memIs_mk] | split)

theorem State.tuftAborts_mem {rM : Tab Byte} {s : State} (t : Nat) (h_s : s.memIs rM) :
    State.memIs rM (State.tuftAborts s t) := by
  unfold State.tuftAborts
  try dsimp only
  with_reducible repeat' (first | assumption | intro _ | apply State.abortGrp_mem | apply mem_ite | apply mem_foldl | simp only [memIs_mk] | split)

theorem State.loadCs_mem {rM : Tab Byte} {s : State} (f : Nat) (a : Nat) (h_s : s.memIs rM) :
    State.memIs rM (State.loadCs s f a) := by
  unfold State.loadCs
  try dsimp only
  with_reducible repeat' (first | assumption | intro _ | apply State.wrF_mem | apply mem_ite | apply mem_foldl | simp only [memIs_mk] | split)

theorem State.loadLibSect_mem {rM : Tab Byte} {s : State} (f : Nat) (x : Sect) (h_s : s.memIs rM) :
    State.memIs rM (State.loadLibSect s f x) := by
  unfold State.loadLibSect
  try dsimp only
  with_reducible repeat' (first | assumption | intro _ | apply State.count_mem | apply State.flag_mem | apply mem_ite | apply mem_foldl | simp only [memIs_mk] | split)

theorem State.loadLib_mem {rM : Tab Byte} {s : State} (f : Nat) (a : Nat) (l : List Sect) (h_s : s.memIs rM) :
    State.memIs rM (State.loadLib s f a l) := by
  unfold State.loadLib
  try dsimp only
  with_reducible repeat' (first | assumption | intro _ | apply State.wrF_mem | apply State.loadLibSect_mem | apply mem_ite | apply mem_foldl | simp only [memIs_mk] | split)

theorem State.loadKimg_mem {rM : Tab Byte} {s : State} (f : Nat) (a : Nat) (l : List Sect) (h_s : s.memIs rM) :
    State.memIs rM (State.loadKimg s f a l) := by
  unfold State.loadKimg
  try dsimp only
  with_reducible repeat' (first | assumption | intro _ | apply State.wrF_mem | apply State.count_mem | apply State.flag_mem | apply mem_ite | apply mem_foldl | simp only [memIs_mk] | split)

theorem State.loadLut_mem {rM : Tab Byte} {s : State} (n : Nat) (a : Nat) (l : List Sect) (h_s : s.memIs rM) :
    State.memIs rM (State.loadLut s n a l) := by
  unfold State.loadLut
  try dsimp only
  with_reducible repeat' (first | assumption | intro _ | apply State.wrF_mem | apply mem_ite | apply mem_foldl | simp only [memIs_mk] | split)

theorem State.setLog_mem {rM : Tab Byte} {s : State} (p : Pg) (off : Nat) (b : List Byte) (h_s : s.memIs rM) :
    State.memIs rM (State.setLog s p off b) := by
  unfold State.setLog
  try dsimp only
  with_reducible repeat' (first | assumption | intro _ | apply State.wr_mem | apply mem_ite | apply mem_foldl | simp only [memIs_mk] | split)

theorem State.extendLog_mem {rM : Tab Byte} {s : State} (own : Nat) (digest : List Byte) (h_s : s.memIs rM) :
    State.memIs rM (State.extendLog s own digest) := by
  unfold State.extendLog
  try dsimp only
  with_reducible repeat' (first | assumption | intro _ | apply State.setLog_mem | apply mem_ite | apply mem_foldl | simp only [memIs_mk] | split)

theorem State.loadImage_mem {rM : Tab Byte} {s : State} (own : Nat) (p : Pg) (a : Nat) (h_s : s.memIs rM) :
    State.memIs rM (State.loadImage s own p a) := by
  unfold State.loadImage
  try dsimp only
  with_reducible repeat' (first | assumption | intro _ | apply State.extendLog_mem | apply State.loadCs_mem | apply State.loadLib_mem | apply State.loadKimg_mem | apply State.loadLut_mem | apply mem_ite | apply mem_foldl | simp only [memIs_mk] | split)

theorem State.sigFail_mem {rM : Tab Byte} {s : State} (h_s : s.memIs rM) :
    State.memIs rM (State.sigFail s) := by
  unfold State.sigFail
  try dsimp only
  with_reducible repeat' (first | assumption | intro _ | apply State.count_mem | apply State.flag_mem | apply mem_ite | apply mem_foldl | simp only [memIs_mk] | split)

theorem State.mapHk_mem {rM : Tab Byte} {s : State} (g : Hk → Hk) (h_s : s.memIs rM) :
    State.memIs rM (State.mapHk s g) := by
  unfold State.mapHk
  try dsimp only
  with_reducible repeat' (first | assumption | intro _ | apply mem_ite | apply mem_foldl | simp only [memIs_mk] | split)

theorem State.biasPut_mem {rM : Tab Byte} {s : State} (f : Nat) (k : Nat) (h_s : s.memIs rM) :
    State.memIs rM (State.biasPut s f k) := by
  unfold State.biasPut
  try dsimp only
  with_reducible repeat' (first | assumption | intro _ | apply State.count_mem | apply State.wr_mem | apply mem_ite | apply mem_foldl | simp only [memIs_mk] | split)

theorem State.bankSkip_mem {rM : Tab Byte} {s : State} (j : Nat) (h_s : s.memIs rM) :
    State.memIs rM (State.bankSkip s j) := by
  unfold State.bankSkip
  try dsimp only
  with_reducible repeat' (first | assumption | intro _ | apply State.wrB_mem | apply State.mapHk_mem | apply mem_ite | apply mem_foldl | simp only [memIs_mk] | split)

theorem State.bankStaged_mem {rM : Tab Byte} {s : State} (f : Nat) (h_s : s.memIs rM) :
    State.memIs rM (State.bankStaged s f) := by
  unfold State.bankStaged
  try dsimp only
  with_reducible repeat' (first | assumption | intro _ | apply State.bankSkip_mem | apply mem_ite | apply mem_foldl | simp only [memIs_mk] | split)

theorem State.biasStage_mem {rM : Tab Byte} {s : State} (f : Nat) (k : Nat) (h_s : s.memIs rM) :
    State.memIs rM (State.biasStage s f k) := by
  unfold State.biasStage
  try dsimp only
  with_reducible repeat' (first | assumption | intro _ | apply State.count_mem | apply State.wrB_mem | apply State.bankStaged_mem | apply State.biasPut_mem | apply mem_ite | apply mem_foldl | simp only [memIs_mk] | split)

theorem State.biasClear_mem {rM : Tab Byte} {s : State} (f : Nat) (h_s : s.memIs rM) :
    State.memIs rM (State.biasClear s f) := by
  unfold State.biasClear
  try dsimp only
  with_reducible repeat' (first | assumption | intro _ | apply State.wr_mem | apply mem_ite | apply mem_foldl | simp only [memIs_mk] | split)

theorem State.biasClearAll_mem {rM : Tab Byte} {s : State} (h_s : s.memIs rM) :
    State.memIs rM (State.biasClearAll s) := by
  unfold State.biasClearAll
  try dsimp only
  with_reducible repeat' (first | assumption | intro _ | apply State.biasClear_mem | apply mem_ite | apply mem_foldl | simp only [memIs_mk] | split)

theorem State.strobe_mem {rM : Tab Byte} {s : State} (n : Nat) (b : Nat) (h_s : s.memIs rM) :
    State.memIs rM (State.strobe s n b) := by
  unfold State.strobe
  try dsimp only
  with_reducible repeat' (first | assumption | intro _ | apply State.count_mem | apply State.mapHk_mem | apply mem_ite | apply mem_foldl | simp only [memIs_mk] | split)

theorem State.bankTurns_mem {rM : Tab Byte} {s : State} (h : Nat) (h_s : s.memIs rM) :
    State.memIs rM (State.bankTurns s h) := by
  unfold State.bankTurns
  try dsimp only
  with_reducible repeat' (first | assumption | intro _ | apply State.bankSkip_mem | apply mem_ite | apply mem_foldl | simp only [memIs_mk] | split)

theorem State.hkTo_mem {rM : Tab Byte} {s9 : State} (h : Nat) (h_s9 : s9.memIs rM) :
    State.memIs rM (State.hkTo s9 h) := by
  unfold State.hkTo
  try dsimp only
  with_reducible repeat' (first | assumption | intro _ | apply State.wr_mem | apply State.mapHk_mem | apply State.bankTurns_mem | apply mem_ite | apply mem_foldl | simp only [memIs_mk] | split)

theorem State.tmrCapture_mem {rM : Tab Byte} {s : State} (src : Nat) (h_s : s.memIs rM) :
    State.memIs rM (State.tmrCapture s src) := by
  unfold State.tmrCapture
  try dsimp only
  with_reducible repeat' (first | assumption | intro _ | apply State.flag_mem | apply State.wr_mem | apply mem_ite | apply mem_foldl | simp only [memIs_mk] | split)

theorem State.setAdcState_mem {rM : Tab Byte} {s : State} (st : Nat) (h_s : s.memIs rM) :
    State.memIs rM (State.setAdcState s st) := by
  unfold State.setAdcState
  try dsimp only
  with_reducible repeat' (first | assumption | intro _ | apply State.wrF_mem | apply mem_ite | apply mem_foldl | simp only [memIs_mk] | split)

theorem State.mapAdc_mem {rM : Tab Byte} {s : State} (g : AdcSt → AdcSt) (h_s : s.memIs rM) :
    State.memIs rM (State.mapAdc s g) := by
  unfold State.mapAdc
  try dsimp only
  with_reducible repeat' (first | assumption | intro _ | apply State.mapHk_mem | apply mem_ite | apply mem_foldl | simp only [memIs_mk] | split)

theorem State.adcEntry_mem {rM : Tab Byte} {s : State} (e : Nat) (h_s : s.memIs rM) :
    State.memIs rM (State.adcEntry s e) := by
  unfold State.adcEntry
  try dsimp only
  with_reducible repeat' (first | assumption | intro _ | apply State.mapAdc_mem | apply State.setAdcState_mem | apply State.wrF_mem | apply mem_ite | apply mem_foldl | simp only [memIs_mk] | split)

theorem State.adcDrop_mem {rM : Tab Byte} {s : State} (h_s : s.memIs rM) :
    State.memIs rM (State.adcDrop s) := by
  unfold State.adcDrop
  try dsimp only
  with_reducible repeat' (first | assumption | intro _ | apply State.mapAdc_mem | apply mem_ite | apply mem_foldl | simp only [memIs_mk] | split)

theorem State.adcInject_mem {rM : Tab Byte} {s : State} (h_s : s.memIs rM) :
    State.memIs rM (State.adcInject s) := by
  unfold State.adcInject
  try dsimp only
  with_reducible repeat' (first | assumption | intro _ | apply State.mapAdc_mem | apply State.setAdcState_mem | apply State.adcDrop_mem | apply mem_ite | apply mem_foldl | simp only [memIs_mk] | split)

theorem State.injRequest_mem {rM : Tab Byte} {s : State} (h_s : s.memIs rM) :
    State.memIs rM (State.injRequest s) := by
  unfold State.injRequest
  try dsimp only
  with_reducible repeat' (first | assumption | intro _ | apply State.count_mem | apply State.flag_mem | apply State.mapAdc_mem | apply State.adcInject_mem | apply mem_ite | apply mem_foldl | simp only [memIs_mk] | split)

theorem State.adcNext_mem {rM : Tab Byte} {s9 : State} (h_s9 : s9.memIs rM) :
    State.memIs rM (State.adcNext s9) := by
  unfold State.adcNext
  try dsimp only
  with_reducible repeat' (first | assumption | intro _ | apply State.wrF_mem | apply State.mapAdc_mem | apply State.setAdcState_mem | apply State.adcInject_mem | apply State.adcEntry_mem | apply State.adcDrop_mem | apply State.mapHk_mem | apply mem_ite | apply mem_foldl | simp only [memIs_mk] | split)

theorem State.adcResult_mem {rM : Tab Byte} {s : State} (e : Nat) (a : Nat) (h_s : s.memIs rM) :
    State.memIs rM (State.adcResult s e a) := by
  unfold State.adcResult
  try dsimp only
  with_reducible repeat' (first | assumption | intro _ | apply State.mapAdc_mem | apply State.wr_mem | apply State.tmrCapture_mem | apply State.count_mem | apply State.flag_mem | apply State.adcEntry_mem | apply State.wrF_mem | apply State.setAdcState_mem | apply State.wrB_mem | apply mem_ite | apply mem_foldl | simp only [memIs_mk] | split)

theorem State.openLevel_mem {rM : Tab Byte} {s : State} (i : Nat) (h_s : s.memIs rM) :
    State.memIs rM (State.openLevel s i).2 := by
  unfold State.openLevel
  try dsimp only
  with_reducible repeat' (first | assumption | intro _ | apply State.draw_mem | apply mem_ite | apply mem_foldl | simp only [memIs_mk] | split)

theorem State.adcInput_mem {rM : Tab Byte} {s : State} (m : Nat) (x : Option Int) (h_s : s.memIs rM) :
    State.memIs rM (State.adcInput s m x).2 := by
  unfold State.adcInput
  try dsimp only
  with_reducible repeat' (first | assumption | intro _ | apply State.openLevel_mem | apply mem_ite | apply mem_foldl | simp only [memIs_mk] | split)

theorem State.conversion_mem {rM : Tab Byte} {s0 : State} (x9 : Option Int) (h_s0 : s0.memIs rM) :
    State.memIs rM (State.conversion s0 x9) := by
  unfold State.conversion
  try dsimp only
  with_reducible repeat' (first | assumption | intro _ | apply State.adcNext_mem | apply State.count_mem | apply State.mapAdc_mem | apply State.flag_mem | apply State.tmrCapture_mem | apply State.wr_mem | apply State.adcResult_mem | apply State.adcInject_mem | apply State.adcInput_mem | apply mem_ite | apply mem_foldl | simp only [memIs_mk] | split)

theorem State.setWin_mem {rM : Tab Byte} {s : State} (w : Nat) (x : WinSt) (h_s : s.memIs rM) :
    State.memIs rM (State.setWin s w x) := by
  unfold State.setWin
  try dsimp only
  with_reducible repeat' (first | assumption | intro _ | apply State.mapHk_mem | apply State.wrB_mem | apply mem_ite | apply mem_foldl | simp only [memIs_mk] | split)

theorem State.mapWin_mem {rM : Tab Byte} {s : State} (w : Nat) (g : WinSt → WinSt) (h_s : s.memIs rM) :
    State.memIs rM (State.mapWin s w g) := by
  unfold State.mapWin
  try dsimp only
  with_reducible repeat' (first | assumption | intro _ | apply State.mapHk_mem | apply mem_ite | apply mem_foldl | simp only [memIs_mk] | split)

theorem State.winLatch_mem {rM : Tab Byte} {s : State} (w h : Nat) (h_s : s.memIs rM) :
    State.memIs rM (State.winLatch s w h).1 := by
  unfold State.winLatch
  try dsimp only
  with_reducible repeat' (first | assumption | intro _ | apply State.wrB_mem | apply State.mapWin_mem | apply mem_ite | apply mem_foldl | simp only [memIs_mk] | split)

theorem State.winCycle_mem {rM : Tab Byte} {s : State} (w h v : Nat) (h_s : s.memIs rM) :
    State.memIs rM (State.winCycle s w h v).1 := by
  unfold State.winCycle
  try dsimp only
  with_reducible repeat' (first | assumption | intro _ | apply State.setWin_mem | apply State.count_mem | apply State.wrB_mem | apply State.winLatch_mem | apply mem_ite | apply mem_foldl | simp only [memIs_mk] | split)

theorem State.ainLevel_mem {rM : Tab Byte} {s : State} (i h : Nat) (v : Option Nat) (h_s : s.memIs rM) :
    State.memIs rM (State.ainLevel s i h v).2 := by
  unfold State.ainLevel
  try dsimp only
  with_reducible repeat' (first | assumption | intro _ | apply State.openLevel_mem | apply State.mapHk_mem | apply mem_ite | apply mem_foldl | simp only [memIs_mk] | split)

theorem State.winRun_mem {rM : Tab Byte} {s : State} (w h : Nat) (l : List (Option Nat)) (h_s : s.memIs rM) : State.gddr (s.winRun w h l).1 = rM := by
  induction l generalizing s h with
  | nil => exact h_s
  | cons v t ih => exact ih _ (State.winCycle_mem _ _ _ (State.ainLevel_mem _ _ _ h_s))

theorem State.winEnable_mem {rM : Tab Byte} {s : State} (w : Nat) (h_s : s.memIs rM) :
    State.memIs rM (State.winEnable s w) := by
  unfold State.winEnable
  try dsimp only
  with_reducible repeat' (first | assumption | intro _ | apply State.setWin_mem | apply mem_ite | apply mem_foldl | simp only [memIs_mk] | split)

theorem State.winCfg_mem {rM : Tab Byte} {s : State} (w : Nat) (v : Word) (h_s : s.memIs rM) :
    State.memIs rM (State.winCfg s w v) := by
  unfold State.winCfg
  try dsimp only
  with_reducible repeat' (first | assumption | intro _ | apply State.wr_mem | apply State.winEnable_mem | apply mem_ite | apply mem_foldl | simp only [memIs_mk] | split)

theorem State.winClear_mem {rM : Tab Byte} {s : State} (w : Nat) (h_s : s.memIs rM) :
    State.memIs rM (State.winClear s w) := by
  unfold State.winClear
  try dsimp only
  with_reducible repeat' (first | assumption | intro _ | apply State.mapWin_mem | apply State.wrB_mem | apply mem_ite | apply mem_foldl | simp only [memIs_mk] | split)

theorem State.timerPeriod_mem {rM : Tab Byte} {s : State} (n : Nat) (h_s : s.memIs rM) :
    State.memIs rM (State.timerPeriod s n) := by
  unfold State.timerPeriod
  try dsimp only
  with_reducible repeat' (first | assumption | intro _ | apply State.count_mem | apply State.flag_mem | apply State.mapHk_mem | apply State.injRequest_mem | apply State.winClear_mem | apply mem_ite | apply mem_foldl | simp only [memIs_mk] | split)

theorem State.strobeLoad_mem {rM : Tab Byte} {s : State} (n : Nat) (h_s : s.memIs rM) :
    State.memIs rM (State.strobeLoad s n) := by
  unfold State.strobeLoad
  try dsimp only
  with_reducible repeat' (first | assumption | intro _ | apply State.tmrCapture_mem | apply State.mapHk_mem | apply State.count_mem | apply State.biasPut_mem | apply mem_ite | apply mem_foldl | simp only [memIs_mk] | split)

theorem State.setThermo_mem {rM : Tab Byte} {s : State} (c : Nat) (x : Thermo) (h_s : s.memIs rM) :
    State.memIs rM (State.setThermo s c x) := by
  unfold State.setThermo
  try dsimp only
  with_reducible repeat' (first | assumption | intro _ | apply State.mapHk_mem | apply mem_ite | apply mem_foldl | simp only [memIs_mk] | split)

theorem State.thRestart_mem {rM : Tab Byte} {s : State} (c : Nat) (h_s : s.memIs rM) :
    State.memIs rM (State.thRestart s c) := by
  unfold State.thRestart
  try dsimp only
  with_reducible repeat' (first | assumption | intro _ | apply State.count_mem | apply State.setThermo_mem | apply State.wrB_mem | apply mem_ite | apply mem_foldl | simp only [memIs_mk] | split)

theorem State.amonOff_mem {rM : Tab Byte} {s : State} (h_s : s.memIs rM) :
    State.memIs rM (State.amonOff s) := by
  unfold State.amonOff
  try dsimp only
  with_reducible repeat' (first | assumption | intro _ | apply State.mapHk_mem | apply mem_ite | apply mem_foldl | simp only [memIs_mk] | split)

theorem State.thExc_mem {rM : Tab Byte} {s : State} (c : Nat) (v : Word) (h_s : s.memIs rM) :
    State.memIs rM (State.thExc s c v) := by
  unfold State.thExc
  try dsimp only
  with_reducible repeat' (first | assumption | intro _ | apply State.amonOff_mem | apply State.thRestart_mem | apply State.wr_mem | apply mem_ite | apply mem_foldl | simp only [memIs_mk] | split)

theorem State.amonUpdate_mem {rM : Tab Byte} {s : State} (c : Nat) (t : Nat) (fault : Bool) (h_s : s.memIs rM) :
    State.memIs rM (State.amonUpdate s c t fault) := by
  unfold State.amonUpdate
  try dsimp only
  with_reducible repeat' (first | assumption | intro _ | apply State.mapHk_mem | apply mem_ite | apply mem_foldl | simp only [memIs_mk] | split)

theorem State.thermoResult_mem {rM : Tab Byte} {s9 : State} (c : Nat) (m : ThermoMeas) (h_s9 : s9.memIs rM) :
    State.memIs rM (State.thermoResult s9 c m) := by
  unfold State.thermoResult
  try dsimp only
  with_reducible repeat' (first | assumption | intro _ | apply State.count_mem | apply State.wrF_mem | apply State.wr_mem | apply State.flag_mem | apply State.setThermo_mem | apply State.amonUpdate_mem | apply State.draw_mem | apply mem_ite | apply mem_foldl | simp only [memIs_mk] | split)

theorem State.thReverse_mem {rM : Tab Byte} {s : State} (c : Nat) (h_s : s.memIs rM) :
    State.memIs rM (State.thReverse s c) := by
  unfold State.thReverse
  try dsimp only
  with_reducible repeat' (first | assumption | intro _ | apply State.setThermo_mem | apply mem_ite | apply mem_foldl | simp only [memIs_mk] | split)

theorem State.mapHypha_mem {rM : Tab Byte} {s : State} (g : Hypha → Hypha) (h_s : s.memIs rM) :
    State.memIs rM (State.mapHypha s g) := by
  unfold State.mapHypha
  try dsimp only
  with_reducible repeat' (first | assumption | intro _ | apply mem_ite | apply mem_foldl | simp only [memIs_mk] | split)

theorem State.retap_mem {rM : Tab Byte} {s : State} (h_s : s.memIs rM) :
    State.memIs rM (State.retap s) := by
  unfold State.retap
  try dsimp only
  with_reducible repeat' (first | assumption | intro _ | apply State.mapHypha_mem | apply State.wrB_mem | apply State.wrF_mem | apply State.count_mem | apply State.flag_mem | apply mem_ite | apply mem_foldl | simp only [memIs_mk] | split)

theorem State.reloop_mem {rM : Tab Byte} {s : State} (h_s : s.memIs rM) :
    State.memIs rM (State.reloop s) := by
  unfold State.reloop
  try dsimp only
  with_reducible repeat' (first | assumption | intro _ | apply State.wrB_mem | apply State.wr_mem | apply State.count_mem | apply State.flag_mem | apply mem_ite | apply mem_foldl | simp only [memIs_mk] | split)

theorem State.cellReset_mem {rM : Tab Byte} {s : State} (k : Nat) (b : Nat) (h_s : s.memIs rM) :
    State.memIs rM (State.cellReset s k b) := by
  unfold State.cellReset
  try dsimp only
  with_reducible repeat' (first | assumption | intro _ | apply State.wr_mem | apply State.mapHypha_mem | apply mem_ite | apply mem_foldl | simp only [memIs_mk] | split)

theorem State.hyphaHold_mem {rM : Tab Byte} {s : State} (h_s : s.memIs rM) :
    State.memIs rM (State.hyphaHold s) := by
  unfold State.hyphaHold
  try dsimp only
  with_reducible repeat' (first | assumption | intro _ | apply State.mapHypha_mem | apply State.cellReset_mem | apply mem_ite | apply mem_foldl | simp only [memIs_mk] | split)

theorem State.evinEvent_mem {rM : Tab Byte} {s : State} (c : Nat) (task : Nat) (h_s : s.memIs rM) :
    State.memIs rM (State.evinEvent s c task) := by
  unfold State.evinEvent
  try dsimp only
  with_reducible repeat' (first | assumption | intro _ | apply State.count_mem | apply State.setEvin_mem | apply State.wrB_mem | apply mem_ite | apply mem_foldl | simp only [memIs_mk] | split)

theorem State.swPulse_mem {rM : Tab Byte} {s : State} (p : Nat) (j : Nat) (v : Word) (h_s : s.memIs rM) :
    State.memIs rM (State.swPulse s p j v) := by
  unfold State.swPulse
  try dsimp only
  with_reducible repeat' (first | assumption | intro _ | apply State.srcEvent_mem | apply State.count_mem | apply mem_ite | apply mem_foldl | simp only [memIs_mk] | split)

theorem State.checkImages_mem {rM : Tab Byte} (own : Nat) (l : List (Pg × Nat)) {s : State} (h_s : s.memIs rM) :
    State.gddr (State.checkImages own l s).1 = rM := by
  induction l generalizing s with
  | nil => exact h_s
  | cons r t ih =>
    unfold State.checkImages
    split
    · exact ih (State.loadImage_mem _ _ _ h_s)
    · exact State.sigFail_mem h_s

theorem State.checkRead_mem {rM : Tab Byte} (own : Nat) (imgs : List (Pg × Nat)) (k : Option Nat) {s : State} (h_s : s.memIs rM) :
    State.memIs rM (State.checkRead own imgs k s).1 := by
  unfold State.checkRead
  split
  · exact State.checkImages_mem _ _ h_s
  · extract_lets q
    have hq : q.1.memIs rM := State.checkImages_mem _ _ h_s
    split
    · exact State.sigFail_mem hq
    · exact hq

theorem State.checksLate_mem {rM : Tab Byte} {s : State} (g : Nat) (h_s : s.memIs rM) :
    State.memIs rM (State.checksLate s g) := by
  unfold State.checksLate
  try dsimp only
  with_reducible repeat' (first | assumption | intro _ | apply State.checkRead_mem | apply State.abortGrp_mem | apply State.showClaims_mem | apply State.overlayOwn_mem | apply State.overlay_mem | apply State.setGrp_mem | apply State.setGrpState_mem | apply mem_ite | apply mem_foldl | simp only [memIs_mk] | split)

theorem State.validate_mem {rM : Tab Byte} {s : State} (g : Nat) (h_s : s.memIs rM) :
    State.memIs rM (State.validate s g) := by
  unfold State.validate
  try dsimp only
  with_reducible repeat' (first | assumption | intro _ | apply State.abortGrp_mem | apply State.checksLate_mem | apply mem_ite | apply mem_foldl | simp only [memIs_mk] | split)

theorem State.readyIdle_mem {rM : Tab Byte} {s : State} (g t r : Nat) (h_s : s.memIs rM) :
    State.memIs rM (State.readyIdle s g t r) := by
  unfold State.readyIdle
  try dsimp only
  with_reducible repeat' (first | assumption | intro _ | apply State.setGrp_mem | apply State.fixBeats_mem | apply mem_ite | apply mem_foldl | simp only [memIs_mk] | split)

theorem State.readyShot_mem {rM : Tab Byte} {s : State} (g r : Nat) (h_s : s.memIs rM) :
    State.memIs rM (State.readyShot s g r) := by
  unfold State.readyShot
  try dsimp only
  with_reducible repeat' (first | assumption | intro _ | apply State.fixBeats_mem | apply State.readyIdle_mem | apply mem_ite | apply mem_foldl | simp only [memIs_mk] | split)

theorem State.readyBeat_mem {rM : Tab Byte} {s : State} (g : Nat) (h_s : s.memIs rM) :
    State.memIs rM (State.readyBeat s g) := by
  unfold State.readyBeat
  try dsimp only
  with_reducible repeat' (first | assumption | intro _ | apply State.abortGrp_mem | apply State.setGrp_mem | apply State.fixBeats_mem | apply State.readyShot_mem | apply mem_ite | apply mem_foldl | simp only [memIs_mk] | split)

theorem State.boundary_mem {rM : Tab Byte} {s : State} (t : Nat) (num : Nat) (b : Nat) (h_s : s.memIs rM) :
    State.memIs rM (State.boundary s t num b) := by
  unfold State.boundary
  try dsimp only
  with_reducible repeat' (first | assumption | intro _ | apply State.fixBeats_mem | apply mem_ite | apply mem_foldl | simp only [memIs_mk] | split)

theorem State.shotEndSeen_mem {rM : Tab Byte} {s : State} (r : BusRec) (h_s : s.memIs rM) :
    State.memIs rM (State.shotEndSeen s r) := by
  unfold State.shotEndSeen
  try dsimp only
  with_reducible repeat' (first | assumption | intro _ | apply State.setCrz_mem | apply State.boundary_mem | apply mem_ite | apply mem_foldl | simp only [memIs_mk] | split)

theorem State.syncSeen_mem {rM : Tab Byte} {s : State} (f : Nat) (i : Nat) (g : Nat) (h_s : s.memIs rM) :
    State.memIs rM (State.syncSeen s f i g) := by
  unfold State.syncSeen
  try dsimp only
  with_reducible repeat' (first | assumption | intro _ | apply State.count_mem | apply State.abortGrp_mem | apply State.fixBeats_mem | apply State.setGrp_mem | apply mem_ite | apply mem_foldl | simp only [memIs_mk] | split)

theorem State.expire_mem {rM : Tab Byte} {s : State} (g : Nat) (h_s : s.memIs rM) :
    State.memIs rM (State.expire s g) := by
  unfold State.expire
  try dsimp only
  with_reducible repeat' (first | assumption | intro _ | apply State.abortGrp_mem | apply mem_ite | apply mem_foldl | simp only [memIs_mk] | split)

theorem State.beginShot_mem {rM : Tab Byte} {s : State} (f : Nat) (st : Nat) (h_s : s.memIs rM) :
    State.memIs rM (State.beginShot s f st) := by
  unfold State.beginShot
  try dsimp only
  with_reducible repeat' (first | assumption | intro _ | apply State.setCrz_mem | apply State.wr64_mem | apply State.wr_mem | apply State.setSlot_mem | apply mem_ite | apply mem_foldl | simp only [memIs_mk] | split)

theorem State.closeShot_mem {rM : Tab Byte} {s : State} (f : Nat) (st : Nat) (h_s : s.memIs rM) :
    State.memIs rM (State.closeShot s f st) := by
  unfold State.closeShot
  try dsimp only
  with_reducible repeat' (first | assumption | intro _ | apply State.setCrz_mem | apply mem_ite | apply mem_foldl | simp only [memIs_mk] | split)

theorem State.post_mem {rM : Tab Byte} {s : State} (f : Nat) (u : Uw) (st : Nat) (h_s : s.memIs rM) :
    State.memIs rM (State.post s f u st) := by
  unfold State.post
  try dsimp only
  with_reducible repeat' (first | assumption | intro _ | apply State.markShot_mem | apply State.flag_mem | apply State.count_mem | apply State.setCrz_mem | apply State.setQueue_mem | apply State.setSlot_mem | apply mem_ite | apply mem_foldl | simp only [memIs_mk] | split)

theorem State.setPar_mem {rM : Tab Byte} {s : State} (f : Nat) (p : Nat) (v : Nat) (h_s : s.memIs rM) :
    State.memIs rM (State.setPar s f p v) := by
  unfold State.setPar
  try dsimp only
  with_reducible repeat' (first | assumption | intro _ | apply State.flag_mem | apply State.count_mem | apply State.wr_mem | apply State.setCrz_mem | apply mem_ite | apply mem_foldl | simp only [memIs_mk] | split)

theorem State.alu_mem {rM : Tab Byte} {s : State} (f : Nat) (u : Uw) (r : State) (h_s : s.memIs rM) :
    State.memIs rM (State.alu s f u r) := by
  unfold State.alu
  try dsimp only
  with_reducible repeat' (first | assumption | intro _ | apply State.setPar_mem | apply State.setLc_mem | apply State.markShot_mem | apply mem_ite | apply mem_foldl | simp only [memIs_mk] | split)

theorem State.goto_mem {rM : Tab Byte} {s : State} (f : Nat) (pc : Nat) (cost : Nat) (h_s : s.memIs rM) :
    State.memIs rM (State.goto s f pc cost) := by
  unfold State.goto
  try dsimp only
  with_reducible repeat' (first | assumption | intro _ | apply State.setPc_mem | apply State.setCrz_mem | apply mem_ite | apply mem_foldl | simp only [memIs_mk] | split)

theorem State.branch_mem {rM : Tab Byte} {s : State} (f : Nat) (u : Uw) (want : Bool) (p0 : Nat) (r : State) (h_s : s.memIs rM) :
    State.memIs rM (State.branch s f u want p0 r) := by
  unfold State.branch
  try dsimp only
  with_reducible repeat' (first | assumption | intro _ | apply State.consume_mem | apply State.goto_mem | apply State.markShot_mem | apply mem_ite | apply mem_foldl | simp only [memIs_mk] | split)

theorem State.seqOp_mem {rM : Tab Byte} {s : State} (f : Nat) (u : Uw) (p0 : Nat) (r : State) (h_s : s.memIs rM) :
    State.memIs rM (State.seqOp s f u p0 r) := by
  unfold State.seqOp
  try dsimp only
  with_reducible repeat' (first | assumption | intro _ | apply State.goto_mem | apply State.branch_mem | apply State.setStack_mem | apply State.wrB_mem | apply State.setLc_mem | apply State.markShot_mem | apply State.crzHalt_mem | apply State.consume_mem | apply State.wr_mem | apply State.flag_mem | apply State.setCrz_mem | apply mem_ite | apply mem_foldl | simp only [memIs_mk] | split)

theorem State.wordRun_mem {rM : Tab Byte} {s : State} (f : Nat) (u : Uw) (h_s : s.memIs rM) :
    State.memIs rM (State.wordRun s f u) := by
  unfold State.wordRun
  try dsimp only
  with_reducible repeat' (first | assumption | intro _ | apply State.setCrzState_mem | apply State.setTc_mem | apply State.beginShot_mem | apply State.post_mem | apply State.closeShot_mem | apply State.count_mem | apply State.alu_mem | apply State.seqOp_mem | apply mem_ite | apply mem_foldl | simp only [memIs_mk] | split)

theorem State.pause_mem {rM : Tab Byte} {s : State} (f : Nat) (st : Nat) (h_s : s.memIs rM) :
    State.memIs rM (State.pause s f st) := by
  unfold State.pause
  try dsimp only
  with_reducible repeat' (first | assumption | intro _ | apply State.setCrzState_mem | apply State.setCrz_mem | apply mem_ite | apply mem_foldl | simp only [memIs_mk] | split)

theorem State.bankSwitch_mem {rM : Tab Byte} {s : State} (f : Nat) (h_s : s.memIs rM) :
    State.memIs rM (State.bankSwitch s f) := by
  unfold State.bankSwitch
  try dsimp only
  with_reducible repeat' (first | assumption | intro _ | apply State.flag_mem | apply State.setStack_mem | apply State.wrB_mem | apply State.setLc_mem | apply State.goto_mem | apply State.setCrzState_mem | apply State.setCrz_mem | apply mem_ite | apply mem_foldl | simp only [memIs_mk] | split)

theorem State.word_mem {rM : Tab Byte} {s : State} (f : Nat) (ecc : Ecc) (h_s : s.memIs rM) :
    State.memIs rM (State.word s f ecc) := by
  unfold State.word
  try dsimp only
  with_reducible repeat' (first | assumption | intro _ | apply State.count_mem | apply State.crzFault_mem | apply State.unpause_mem | apply State.setCrzState_mem | apply State.pause_mem | apply State.bankSwitch_mem | apply State.wordRun_mem | apply mem_ite | apply mem_foldl | simp only [memIs_mk] | split)

theorem State.interrupt_mem {rM : Tab Byte} {s : State} (f : Nat) (i : Nat) (h_s : s.memIs rM) :
    State.memIs rM (State.interrupt s f i) := by
  unfold State.interrupt
  try dsimp only
  with_reducible repeat' (first | assumption | intro _ | apply State.setEvin_mem | apply State.unpause_mem | apply State.crzFault_mem | apply State.setStack_mem | apply State.setCrz_mem | apply State.goto_mem | apply State.wrB_mem | apply mem_ite | apply mem_foldl | simp only [memIs_mk] | split)

theorem State.cmdHalt_mem {rM : Tab Byte} {s : State} (f : Nat) (v : Word) (h_s : s.memIs rM) :
    State.memIs rM (State.cmdHalt s f v) := by
  unfold State.cmdHalt
  try dsimp only
  with_reducible repeat' (first | assumption | intro _ | apply State.setCrz_mem | apply mem_ite | apply mem_foldl | simp only [memIs_mk] | split)

theorem State.rowWrite_mem {rM : Tab Byte} {s : State} (path : Path) (p : Pg) (off : Nat) (v : Word) (k : Word → State → State) (h_s : s.memIs rM) (h_k : ∀ t x, x.memIs rM → State.memIs rM (k t x)) :
    State.memIs rM (State.rowWrite s path p off v k) := by
  unfold State.rowWrite
  try dsimp only
  with_reducible repeat' (first | assumption | intro _ | apply State.rowTurn_mem | apply State.withWrite_mem | apply h_k | apply mem_ite | apply mem_foldl | simp only [memIs_mk] | split)

theorem State.issued_mem {rM : Tab Byte} {s : State} (f : Nat) (g : Bundle → Bundle) (h_s : s.memIs rM) :
    State.memIs rM (State.issued s f g) := by
  unfold State.issued
  try dsimp only
  with_reducible repeat' (first | assumption | intro _ | apply State.setQueue_mem | apply mem_ite | apply mem_foldl | simp only [memIs_mk] | split)

theorem State.collide_mem {rM : Tab Byte} {s : State} (f : Nat) (n : Nat) (h_s : s.memIs rM) :
    State.memIs rM (State.collide s f n) := by
  unfold State.collide
  try dsimp only
  with_reducible repeat' (first | assumption | intro _ | apply State.flag_mem | apply State.count_mem | apply mem_ite | apply mem_foldl | simp only [memIs_mk] | split)

theorem State.gateStarts_mem {rM : Tab Byte} {s : State} (f : Nat) (l : List StartField) (h_s : s.memIs rM) :
    State.memIs rM (s.gateStarts f l).1 := by
  unfold State.gateStarts
  have key : ∀ (l : List StartField) (a : State × List StartField), a.1.memIs rM →
      (l.foldl (fun (a : State × List StartField) x =>
        match a.1.gate f x.ch.cond x.b.cslot (x.b.issue - 2) with
        | some tag => (a.1.suppress f x.b.shot tag, a.2)
        | none => (a.1, a.2 ++ [x])) a).1.memIs rM := by
    intro l
    induction l with
    | nil => intro a h; exact h
    | cons x t ih =>
      intro a h
      rw [List.foldl_cons]
      refine ih _ ?_
      split
      · exact State.suppress_mem _ _ _ h
      · exact h
  exact key l _ h_s

theorem State.startAll_mem {rM : Tab Byte} (f : Nat) (l : List StartField) {s : State} (h_s : s.memIs rM) :
    State.memIs rM ((State.startAll f l s)) := by
  induction l generalizing s with
  | nil => exact h_s
  | cons x t ih =>
    unfold State.startAll
    split
    · exact ih (State.collide_mem _ _ h_s)
    · exact ih (State.startTone_mem _ _ _ _ _ _ _ h_s)

theorem State.issueStarts_mem {rM : Tab Byte} {s : State} (f : Nat) (l : List StartField) (h_s : s.memIs rM) :
    State.memIs rM (State.issueStarts s f l) := by
  unfold State.issueStarts
  try dsimp only
  with_reducible repeat' (first | assumption | intro _ | apply State.gateStarts_mem | apply State.startAll_mem | apply mem_ite | apply mem_foldl | simp only [memIs_mk] | split)

theorem State.xyStart_mem {rM : Tab Byte} {s : State} (f : Nat) (h_s : s.memIs rM) :
    State.memIs rM (State.xyStart s f) := by
  unfold State.xyStart
  try dsimp only
  with_reducible repeat' (first | assumption | intro _ | apply State.issueStarts_mem | apply State.issued_mem | apply mem_ite | apply mem_foldl | simp only [memIs_mk] | split)

theorem State.probeStart_mem {rM : Tab Byte} {s : State} (f : Nat) (h_s : s.memIs rM) :
    State.memIs rM (State.probeStart s f) := by
  unfold State.probeStart
  try dsimp only
  with_reducible repeat' (first | assumption | intro _ | apply State.issueStarts_mem | apply State.issued_mem | apply mem_ite | apply mem_foldl | simp only [memIs_mk] | split)

theorem State.fluxAll_mem {rM : Tab Byte} (f : Nat) (l : List Bundle) {s : State} (h_s : s.memIs rM) :
    State.memIs rM ((State.fluxAll f l s)) := by
  induction l generalizing s with
  | nil => exact h_s
  | cons b t ih =>
    unfold State.fluxAll
    exact ih (mem_foldl _ (State.collide_mem _ _ h_s) (fun a n ha => State.startFlux_mem _ _ _ _ _ ha))

theorem State.fluxStart_mem {rM : Tab Byte} {s : State} (f : Nat) (h_s : s.memIs rM) :
    State.memIs rM (State.fluxStart s f) := by
  unfold State.fluxStart
  try dsimp only
  with_reducible repeat' (first | assumption | intro _ | apply State.issued_mem | apply State.fluxAll_mem | apply mem_ite | apply mem_foldl | simp only [memIs_mk] | split)

theorem State.notOpened_mem {rM : Tab Byte} {s : State} (f : Nat) (t : Nat) (uid : Nat) (h_s : s.memIs rM) :
    State.memIs rM (State.notOpened s f t uid) := by
  unfold State.notOpened
  try dsimp only
  with_reducible repeat' (first | assumption | intro _ | apply State.postDone_mem | apply mem_ite | apply mem_foldl | simp only [memIs_mk] | split)

theorem State.windowAll_mem {rM : Tab Byte} (f : Nat) (l : List Bundle) {s : State} (h_s : s.memIs rM) :
    State.memIs rM (State.windowAll f l s) := by
  induction l generalizing s with
  | nil => exact h_s
  | cons b t ih =>
    unfold State.windowAll
    refine ih (mem_foldl _ h_s (fun a n ha => ?_))
    have ho : ∀ c : Bool, State.memIs rM (if c = true then a.collide f 1
        else a.openWindow f n b.roOfs b.shot ((((s.crz f).shots.find? (fun h => h.uid == b.shot)).map (·.num)).getD 0)) :=
      fun c => mem_ite (State.collide_mem _ _ ha) (State.openWindow_mem _ _ _ _ _ ha)
    dsimp only
    exact mem_ite (State.notOpened_mem _ _ _ (ho _)) (State.armWindow_mem _ _ (ho _))

theorem State.readoutWindow_mem {rM : Tab Byte} {s : State} (f : Nat) (h_s : s.memIs rM) :
    State.memIs rM (State.readoutWindow s f) := by
  unfold State.readoutWindow
  try dsimp only
  with_reducible repeat' (first | assumption | intro _ | apply State.issued_mem | apply State.windowAll_mem | apply mem_ite | apply mem_foldl | simp only [memIs_mk] | split)

theorem State.jumpRequest_mem {rM : Tab Byte} {s : State} (f : Nat) (h_s : s.memIs rM) :
    State.memIs rM (State.jumpRequest s f) := by
  unfold State.jumpRequest
  try dsimp only
  with_reducible repeat' (first | assumption | intro _ | apply State.handJump_mem | apply State.setCrz_mem | apply State.jumpAsStart_mem | apply mem_ite | apply mem_foldl | simp only [memIs_mk] | split)

theorem State.frameResolve_mem {rM : Tab Byte} {s : State} (f : Nat) (h_s : s.memIs rM) :
    State.memIs rM (State.frameResolve s f) := by
  unfold State.frameResolve
  try dsimp only
  with_reducible repeat' (first | assumption | intro _ | apply State.suppress_mem | apply State.issued_mem | apply State.collide_mem | apply mem_ite | apply mem_foldl | simp only [memIs_mk] | split)

theorem State.frameRow_mem {rM : Tab Byte} {s : State} (f : Nat) (op : Nat) (h_s : s.memIs rM) :
    State.memIs rM (State.frameRow s f op) := by
  unfold State.frameRow
  try dsimp only
  with_reducible repeat' (first | assumption | intro _ | apply State.frameResolve_mem | apply State.frameOp_mem | apply State.issued_mem | apply mem_ite | apply mem_foldl | simp only [memIs_mk] | split)

theorem State.shotEndIssue_mem {rM : Tab Byte} {s : State} (f : Nat) (h_s : s.memIs rM) :
    State.memIs rM (State.shotEndIssue s f) := by
  unfold State.shotEndIssue
  try dsimp only
  with_reducible repeat' (first | assumption | intro _ | apply State.count_mem | apply State.mapShot_mem | apply State.setSlot_mem | apply State.issued_mem | apply State.busShotEnd_mem | apply State.abortAtEnd_mem | apply mem_ite | apply mem_foldl | simp only [memIs_mk] | split)

theorem State.syncIssue_mem {rM : Tab Byte} {s : State} (f : Nat) (h_s : s.memIs rM) :
    State.memIs rM (State.syncIssue s f) := by
  unfold State.syncIssue
  try dsimp only
  with_reducible repeat' (first | assumption | intro _ | apply State.issued_mem | apply State.busPut_mem | apply mem_ite | apply mem_foldl | simp only [memIs_mk] | split)

theorem State.shotStatus_mem {rM : Tab Byte} {s : State} (f : Nat) (h_s : s.memIs rM) :
    State.memIs rM (State.shotStatus s f) := by
  unfold State.shotStatus
  try dsimp only
  with_reducible repeat' (first | assumption | intro _ | apply State.writeStatus_mem | apply mem_ite | apply mem_foldl | simp only [memIs_mk] | split)

theorem State.clearHead_mem {rM : Tab Byte} {s : State} (p : Pg) (h_s : s.memIs rM) :
    State.memIs rM (State.clearHead s p) := by
  unfold State.clearHead
  try dsimp only
  with_reducible repeat' (first | assumption | intro _ | apply State.resetRange_mem | apply State.wr_mem | apply mem_ite | apply mem_foldl | simp only [memIs_mk] | split)

theorem State.clearBlock_mem {rM : Tab Byte} (s0 : State) {s : State} (p : Pg) (h_s : s.memIs rM) :
    State.memIs rM (State.clearBlock s0 s p) := by
  unfold State.clearBlock
  try dsimp only
  with_reducible repeat' (first | assumption | intro _ | apply mem_ite | apply mem_foldl | simp only [memIs_mk] | split)

theorem State.owner63_mem {rM : Tab Byte} {s : State} (f : Nat) (h_s : s.memIs rM) :
    State.memIs rM (State.owner63 s f) := by
  unfold State.owner63
  try dsimp only
  with_reducible repeat' (first | assumption | intro _ | apply State.abortGrp_mem | apply mem_ite | apply mem_foldl | simp only [memIs_mk] | split)

theorem State.keepBall_mem {rM : Tab Byte} {s : State} (b a : Nat) (v : Word) (h_s : s.memIs rM) :
    State.memIs rM (State.keepBall s b a v) := by
  unfold State.keepBall
  try dsimp only
  with_reducible repeat' (first | assumption | intro _ | apply mem_ite | apply mem_foldl | simp only [memIs_mk] | split)

theorem State.ballApply_mem {rM : Tab Byte} (s0 : State) {s : State} (a : Nat) (p : Pg) (h_s : s.memIs rM) :
    State.memIs rM (State.ballApply s0 s a p) := by
  unfold State.ballApply
  try dsimp only
  with_reducible repeat' (first | assumption | intro _ | apply State.keepBall_mem | apply mem_ite | apply mem_foldl | simp only [memIs_mk] | split)

theorem State.frondArrives_mem {rM : Tab Byte} (s0 : State) {s : State} (f : Nat) (a : Nat) (h_s : s.memIs rM) :
    State.memIs rM (State.frondArrives s0 s f a) := by
  unfold State.frondArrives
  try dsimp only
  with_reducible repeat' (first | assumption | intro _ | apply State.wrF_mem | apply State.clearHead_mem | apply State.clearBlock_mem | apply State.biasClear_mem | apply State.setCrz_mem | apply State.wr_mem | apply State.setRing_mem | apply State.feCommit_mem | apply State.toneCommit_mem | apply State.owner63_mem | apply State.wrB_mem | apply State.ballApply_mem | apply mem_ite | apply mem_foldl | simp only [memIs_mk] | split)

theorem State.arrives_mem {rM : Tab Byte} (s0 : State) {s : State} (p : Pg) (a : Nat) (h_s : s.memIs rM) :
    State.memIs rM (State.arrives s0 s p a) := by
  unfold State.arrives
  try dsimp only
  with_reducible repeat' (first | assumption | intro _ | apply State.frondArrives_mem | apply State.clearBlock_mem | apply State.clearHead_mem | apply State.setAcq_mem | apply State.setQ_mem | apply State.cellReset_mem | apply State.mapHypha_mem | apply mem_ite | apply mem_foldl | simp only [memIs_mk] | split)

theorem State.crzStart_mem {rM : Tab Byte} {s : State} (f : Nat) (a : Nat) (h_s : s.memIs rM) :
    State.memIs rM (State.crzStart s f a) := by
  unfold State.crzStart
  try dsimp only
  with_reducible repeat' (first | assumption | intro _ | apply State.setLc_mem | apply State.setStack_mem | apply State.wr_mem | apply State.wrB_mem | apply State.wrF_mem | apply State.setCrzState_mem | apply State.setPc_mem | apply State.setTc_mem | apply State.setCrz_mem | apply mem_ite | apply mem_foldl | simp only [memIs_mk] | split)

theorem State.runCtrl_mem {rM : Tab Byte} {s : State} (f : Nat) (a : Nat) (h_s : s.memIs rM) :
    State.memIs rM (State.runCtrl s f a) := by
  unfold State.runCtrl
  try dsimp only
  with_reducible repeat' (first | assumption | intro _ | apply State.crzStart_mem | apply State.setCrzState_mem | apply State.unpause_mem | apply mem_ite | apply mem_foldl | simp only [memIs_mk] | split)

theorem State.swapTags_mem {rM : Tab Byte} {s : State} (p : Pg) (off : Nat) (h_s : s.memIs rM) :
    State.memIs rM (State.swapTags s p off) := by
  unfold State.swapTags
  try dsimp only
  with_reducible repeat' (first | assumption | intro _ | apply State.wr_mem | apply mem_ite | apply mem_foldl | simp only [memIs_mk] | split)

theorem State.crozierApply_mem {rM : Tab Byte} (s0 : State) {s : State} (f : Nat) (a : Nat) (h_s : s.memIs rM) :
    State.memIs rM (State.crozierApply s0 s f a) := by
  unfold State.crozierApply
  try dsimp only
  with_reducible repeat' (first | assumption | intro _ | apply State.setCrz_mem | apply State.swapTags_mem | apply State.runCtrl_mem | apply State.flag_mem | apply State.count_mem | apply mem_ite | apply mem_foldl | simp only [memIs_mk] | split)

theorem State.ringApply_mem {rM : Tab Byte} (s0 : State) {s : State} (f : Nat) (r : Nat) (a : Nat) (h_s : s.memIs rM) :
    State.memIs rM (State.ringApply s0 s f r a) := by
  unfold State.ringApply
  try dsimp only
  with_reducible repeat' (first | assumption | intro _ | apply State.wrB_mem | apply State.count_mem | apply State.flag_mem | apply State.setPlayer_mem | apply State.markShot_mem | apply State.setRing_mem | apply State.wr_mem | apply State.ringLevels_mem | apply mem_ite | apply mem_foldl | simp only [memIs_mk] | split)

theorem State.waveformApply_mem {rM : Tab Byte} (s0 : State) {s : State} (f : Nat) (a : Nat) (h_s : s.memIs rM) :
    State.memIs rM (State.waveformApply s0 s f a) := by
  unfold State.waveformApply
  try dsimp only
  with_reducible repeat' (first | assumption | intro _ | apply State.swapTags_mem | apply State.ringApply_mem | apply mem_ite | apply mem_foldl | simp only [memIs_mk] | split)

theorem State.readoutApply_mem {rM : Tab Byte} (s0 : State) {s : State} (f : Nat) (a : Nat) (h_s : s.memIs rM) :
    State.memIs rM (State.readoutApply s0 s f a) := by
  unfold State.readoutApply
  try dsimp only
  with_reducible repeat' (first | assumption | intro _ | apply State.feCommit_mem | apply State.toneCommit_mem | apply mem_ite | apply mem_foldl | simp only [memIs_mk] | split)

theorem State.evaluateAll_mem {rM : Tab Byte} {s : State} (h_s : s.memIs rM) :
    State.memIs rM (State.evaluateAll s) := by
  unfold State.evaluateAll
  try dsimp only
  with_reducible repeat' (first | assumption | intro _ | apply State.evaluate_mem | apply mem_ite | apply mem_foldl | simp only [memIs_mk] | split)

theorem State.slotApply_mem {rM : Tab Byte} (s0 : State) {s : State} (n : Nat) (h_s : s.memIs rM) :
    State.memIs rM (State.slotApply s0 s n) := by
  unfold State.slotApply
  try dsimp only
  with_reducible repeat' (first | assumption | intro _ | apply State.setSlot_mem | apply State.evaluateAll_mem | apply mem_ite | apply mem_foldl | simp only [memIs_mk] | split)

theorem State.slotBefore_mem {rM : Tab Byte} {s : State} (n : Nat) (h_s : s.memIs rM) :
    State.memIs rM (State.slotBefore s n) := by
  unfold State.slotBefore
  try dsimp only
  with_reducible repeat' (first | assumption | intro _ | apply State.ruleLeaves_mem | apply mem_ite | apply mem_foldl | simp only [memIs_mk] | split)

theorem State.sorusApply_mem {rM : Tab Byte} (s0 : State) {s : State} (h_s : s.memIs rM) :
    State.memIs rM (State.sorusApply s0 s) := by
  unfold State.sorusApply
  try dsimp only
  with_reducible repeat' (first | assumption | intro _ | apply State.mapSorus_mem | apply mem_ite | apply mem_foldl | simp only [memIs_mk] | split)

theorem State.hcellApply_mem {rM : Tab Byte} (s0 : State) {s : State} (n : Nat) (a : Nat) (h_s : s.memIs rM) :
    State.memIs rM (State.hcellApply s0 s n a) := by
  unfold State.hcellApply
  try dsimp only
  with_reducible repeat' (first | assumption | intro _ | apply State.cellReset_mem | apply mem_ite | apply mem_foldl | simp only [memIs_mk] | split)

theorem State.cntApply_mem {rM : Tab Byte} (s0 : State) {s : State} (n : Nat) (h_s : s.memIs rM) :
    State.memIs rM (State.cntApply s0 s n) := by
  unfold State.cntApply
  try dsimp only
  with_reducible repeat' (first | assumption | intro _ | apply State.wr64_mem | apply mem_ite | apply mem_foldl | simp only [memIs_mk] | split)

theorem State.showTufts_mem {rM : Tab Byte} {s : State} (h_s : s.memIs rM) :
    State.memIs rM (State.showTufts s) := by
  unfold State.showTufts
  try dsimp only
  with_reducible repeat' (first | assumption | intro _ | apply State.wrF_mem | apply State.wr_mem | apply mem_ite | apply mem_foldl | simp only [memIs_mk] | split)

theorem State.tuftApply_mem {rM : Tab Byte} (s0 : State) {s : State} (t : Nat) (h_s : s.memIs rM) :
    State.memIs rM (State.tuftApply s0 s t) := by
  unfold State.tuftApply
  try dsimp only
  with_reducible repeat' (first | assumption | intro _ | apply State.wrB_mem | apply State.resetRange_mem | apply mem_ite | apply mem_foldl | simp only [memIs_mk] | split)

theorem State.biasOut_mem {rM : Tab Byte} {s : State} (f : Nat) (k : Nat) (h_s : s.memIs rM) :
    State.memIs rM (State.biasOut s f k) := by
  unfold State.biasOut
  try dsimp only
  with_reducible repeat' (first | assumption | intro _ | apply State.wrF_mem | apply mem_ite | apply mem_foldl | simp only [memIs_mk] | split)

theorem State.biasApply_mem {rM : Tab Byte} (s0 : State) {s : State} (f : Nat) (h_s : s.memIs rM) :
    State.memIs rM (State.biasApply s0 s f) := by
  unfold State.biasApply
  try dsimp only
  with_reducible repeat' (first | assumption | intro _ | apply State.biasOut_mem | apply State.biasStage_mem | apply mem_ite | apply mem_foldl | simp only [memIs_mk] | split)

theorem State.calfApply_mem {rM : Tab Byte} (s0 : State) {s : State} (f : Nat) (a : Nat) (info : Nat → Option (Nat × Nat)) (h_s : s.memIs rM) :
    State.memIs rM (State.calfApply s0 s f a info) := by
  unfold State.calfApply
  try dsimp only
  with_reducible repeat' (first | assumption | intro _ | apply State.mapCal_mem | apply State.wrB_mem | apply State.wr64_mem | apply State.wr_mem | apply State.flag_mem | apply mem_ite | apply mem_foldl | simp only [memIs_mk] | split)

theorem State.calhkApply_mem {rM : Tab Byte} (s0 : State) {s : State} (a : Nat) (info : Nat → Option (Nat × Nat)) (h_s : s.memIs rM) :
    State.memIs rM (State.calhkApply s0 s a info) := by
  unfold State.calhkApply
  try dsimp only
  with_reducible repeat' (first | assumption | intro _ | apply State.wr64_mem | apply State.wr_mem | apply mem_ite | apply mem_foldl | simp only [memIs_mk] | split)

theorem State.commit63_mem {rM : Tab Byte} {s : State} (h_s : s.memIs rM) :
    State.memIs rM (State.commit63 s) := by
  unfold State.commit63
  try dsimp only
  with_reducible repeat' (first | assumption | intro _ | apply State.wrA_mem | apply State.wrF_mem | apply mem_ite | apply mem_foldl | simp only [memIs_mk] | split)

theorem mem_shadow {rM : Tab Byte} {s : State} (x : Tab Word) (h : s.memIs rM) : State.memIs rM { s with shadow := x } := h

theorem State.swap_mem {rM : Tab Byte} {s : State} (ps : List Pg) (h_s : s.memIs rM) : State.memIs rM (s.swap ps) :=
  mem_foldl _ h_s (fun _ _ ha => State.wrA_mem _ _ ha)

theorem State.noteTx_mem {rM : Tab Byte} {s : State} (txid : Nat) (owner : Nat) (t : Nat) (h_s : s.memIs rM) :
    State.memIs rM (State.noteTx s txid owner t) := by
  unfold State.noteTx
  try dsimp only
  with_reducible repeat' (first | assumption | intro _ | apply mem_ite | apply mem_foldl | simp only [memIs_mk] | split)

theorem State.voteNow_mem {rM : Tab Byte} {s : State} (g : Nat) (h_s : s.memIs rM) :
    State.memIs rM (State.voteNow s g) := by
  unfold State.voteNow
  try dsimp only
  with_reducible repeat' (first | assumption | intro _ | apply State.noteTx_mem | apply State.setGrp_mem | apply State.unicast_mem | apply State.wrB_mem | apply State.abortGrp_mem | apply mem_ite | apply mem_foldl | simp only [memIs_mk] | split)

theorem State.voteArrives_mem {rM : Tab Byte} {s : State} (w : BitVec 64) (h_s : s.memIs rM) :
    State.memIs rM (State.voteArrives s w) := by
  unfold State.voteArrives
  try dsimp only
  with_reducible repeat' (first | assumption | intro _ | apply State.setGrp_mem | apply mem_ite | apply mem_foldl | simp only [memIs_mk] | split)

theorem State.decideNow_mem {rM : Tab Byte} {s : State} (g : Nat) (h_s : s.memIs rM) :
    State.memIs rM (State.decideNow s g) := by
  unfold State.decideNow
  try dsimp only
  with_reducible repeat' (first | assumption | intro _ | apply State.setGrp_mem | apply State.sendCopy_mem | apply mem_ite | apply mem_foldl | simp only [memIs_mk] | split)

theorem State.decideArrives_mem {rM : Tab Byte} {s : State} (w : BitVec 64) (h_s : s.memIs rM) :
    State.memIs rM (State.decideArrives s w) := by
  unfold State.decideArrives
  try dsimp only
  with_reducible repeat' (first | assumption | intro _ | apply State.setGrp_mem | apply mem_ite | apply mem_foldl | simp only [memIs_mk] | split)

theorem State.split_mem {rM : Tab Byte} {s : State} (x : Tx) (h_s : s.memIs rM) :
    State.memIs rM (State.split s x) := by
  unfold State.split
  try dsimp only
  with_reducible repeat' (first | assumption | intro _ | apply State.flag_mem | apply State.setCrz_mem | apply mem_ite | apply mem_foldl | simp only [memIs_mk] | split)

theorem State.newCast_mem {rM : Tab Byte} {s : State} (src : Nat) (type : Nat) (num : Nat) (h_s : s.memIs rM) :
    State.memIs rM (State.newCast s src type num).2 := by
  unfold State.newCast
  try dsimp only
  with_reducible repeat' (first | assumption | intro _ | apply mem_ite | apply mem_foldl | simp only [memIs_mk] | split)

end Sys2Proof.Machine
end

