-- ==== Sys2Proof/Laws/Gddr2.lean ====
section
/-! SUPPORT. Operations that leave every byte of GDDR7 as it was: second half, and one lemma per command that never writes it. -/
namespace Sys2Proof.Machine

theorem State.lostNow_mem {rM : Tab Byte} {s : State} (g : Nat) (h_s : s.memIs rM) :
    State.memIs rM (State.lostNow s g) := by
  unfold State.lostNow
  try dsimp only
  with_reducible repeat' (first | assumption | intro _ | apply State.split_mem | apply State.broadcast_mem | apply State.newCast_mem | apply mem_ite | apply mem_foldl | simp only [memIs_mk] | split)

theorem State.outcomeArrives_mem {rM : Tab Byte} {s : State} (port : Nat) (w : BitVec 64) (h_s : s.memIs rM) :
    State.memIs rM (State.outcomeArrives s port w) := by
  unfold State.outcomeArrives
  try dsimp only
  with_reducible repeat' (first | assumption | intro _ | apply State.newCast_mem | apply State.broadcast_mem | apply State.split_mem | apply mem_ite | apply mem_foldl | simp only [memIs_mk] | split)

theorem State.decisionBeat_mem {rM : Tab Byte} {s : State} (g : Nat) (h_s : s.memIs rM) :
    State.memIs rM (State.decisionBeat s g) := by
  unfold State.decisionBeat
  try dsimp only
  with_reducible repeat' (first | assumption | intro _ | apply State.setGrp_mem | apply State.setGrpState_mem | apply State.abortGrp_mem | apply State.lostNow_mem | apply mem_ite | apply mem_foldl | simp only [memIs_mk] | split)

theorem State.busRecord_mem {rM : Tab Byte} {s : State} (f : Nat) (r : Nat) (dst : Nat) (perr : Bool) (h_s : s.memIs rM) :
    State.memIs rM (State.busRecord s f r dst perr) := by
  unfold State.busRecord
  try dsimp only
  with_reducible repeat' (first | assumption | intro _ | apply State.unitDiscard_mem | apply State.unitRecord_mem | apply State.shotEndSeen_mem | apply State.syncSeen_mem | apply mem_ite | apply mem_foldl | simp only [memIs_mk] | split)

theorem State.accept_mem {rM : Tab Byte} {s : State} (p : Pg) (q : Quant) (x : CalPair) (src : Nat) (temp : Nat) (h_s : s.memIs rM) :
    State.memIs rM (State.accept s p q x src temp) := by
  unfold State.accept
  try dsimp only
  with_reducible repeat' (first | assumption | intro _ | apply State.mapCal_mem | apply mem_ite | apply mem_foldl | simp only [memIs_mk] | split)

theorem State.reject_mem {rM : Tab Byte} {s : State} (p : Pg) (u : Nat) (h_s : s.memIs rM) :
    State.memIs rM (State.reject s p u) := by
  unfold State.reject
  try dsimp only
  with_reducible repeat' (first | assumption | intro _ | apply State.wrF_mem | apply State.flag_mem | apply State.count_mem | apply mem_ite | apply mem_foldl | simp only [memIs_mk] | split)

theorem State.judge_mem {rM : Tab Byte} {s : State} (f : Nat) (q : Quant) (x : CalPair) (src : Nat) (h_s : s.memIs rM) :
    State.memIs rM (State.judge s f q x src) := by
  unfold State.judge
  try dsimp only
  with_reducible repeat' (first | assumption | intro _ | apply State.accept_mem | apply State.mapCal_mem | apply State.reject_mem | apply mem_ite | apply mem_foldl | simp only [memIs_mk] | split)

theorem State.feSet_mem {rM : Tab Byte} {s : State} (f b range input : Nat) (h_s : s.memIs rM) :
    State.memIs rM (State.feSet s f b range input) := by
  unfold State.feSet
  try dsimp only
  with_reducible repeat' (first | assumption | intro _ | apply State.setFe_mem | apply mem_ite | apply mem_foldl | simp only [memIs_mk] | split)

theorem State.feRoute_mem {rM : Tab Byte} {s : State} (f : Nat) (b : Nat) (input : Nat) (h_s : s.memIs rM) :
    State.memIs rM (State.feRoute s f b input) := by
  unfold State.feRoute
  try dsimp only
  with_reducible repeat' (first | assumption | intro _ | apply State.feSet_mem | apply mem_ite | apply mem_foldl | simp only [memIs_mk] | split)

theorem State.feBack_mem {rM : Tab Byte} {s : State} (f : Nat) (b : Nat) (h_s : s.memIs rM) :
    State.memIs rM (State.feBack s f b) := by
  unfold State.feBack
  try dsimp only
  with_reducible repeat' (first | assumption | intro _ | apply State.feRoute_mem | apply State.setFe_mem | apply mem_ite | apply mem_foldl | simp only [memIs_mk] | split)

theorem State.adcRanges_mem {rM : Tab Byte} {s : State} (f b : Nat) (h_s : s.memIs rM) :
    State.memIs rM (State.adcRanges s f b) := by
  unfold State.adcRanges
  try dsimp only
  with_reducible repeat' (first | assumption | intro _ | apply State.draw_mem | apply State.feSet_mem | apply mem_ite | apply mem_foldl | simp only [memIs_mk] | split)

theorem State.feKeep_mem {rM : Tab Byte} {s : State} (f : Nat) (h_s : s.memIs rM) :
    State.memIs rM (State.feKeep s f) := by
  unfold State.feKeep
  try dsimp only
  with_reducible repeat' (first | assumption | intro _ | apply State.feSet_mem | apply mem_ite | apply mem_foldl | simp only [memIs_mk] | split)

theorem State.adcPart_mem {rM : Tab Byte} {s : State} (f : Nat) (h_s : s.memIs rM) :
    State.memIs rM (State.adcPart s f) := by
  unfold State.adcPart
  try dsimp only
  with_reducible repeat' (first | assumption | intro _ | apply State.feRoute_mem | apply State.setFe_mem | apply State.wrB_mem | apply State.adcRanges_mem | apply State.feSet_mem | apply State.feKeep_mem | apply mem_ite | apply mem_foldl | simp only [memIs_mk] | split)

theorem State.loopTurn_mem {rM : Tab Byte} {s : State} (f b n : Nat) (h_s : s.memIs rM) :
    State.memIs rM (State.loopTurn s f b n) := by
  unfold State.loopTurn
  try dsimp only
  with_reducible repeat' (first | assumption | intro _ | apply State.draw_mem | apply State.feRoute_mem | apply mem_ite | apply mem_foldl | simp only [memIs_mk] | split)

theorem State.dacPart_mem {rM : Tab Byte} {s : State} (f : Nat) (h_s : s.memIs rM) :
    State.memIs rM (State.dacPart s f) := by
  unfold State.dacPart
  try dsimp only
  with_reducible repeat' (first | assumption | intro _ | apply State.feRoute_mem | apply State.loopTurn_mem | apply State.feKeep_mem | apply mem_ite | apply mem_foldl | simp only [memIs_mk] | split)

theorem State.startRun_mem {rM : Tab Byte} {s : State} (f : Nat) (adc : Bool) (dac : Bool) (full : Bool) (h_s : s.memIs rM) :
    State.memIs rM (State.startRun s f adc dac full) := by
  unfold State.startRun
  try dsimp only
  with_reducible repeat' (first | assumption | intro _ | apply State.mapCal_mem | apply State.wrB_mem | apply State.bindPage_mem | apply State.adcPart_mem | apply State.dacPart_mem | apply mem_ite | apply mem_foldl | simp only [memIs_mk] | split)

theorem State.endRun_mem {rM : Tab Byte} {s : State} (f : Nat) (h_s : s.memIs rM) :
    State.memIs rM (State.endRun s f) := by
  unfold State.endRun
  try dsimp only
  with_reducible repeat' (first | assumption | intro _ | apply State.wrB_mem | apply State.mapCal_mem | apply State.feBack_mem | apply State.bindPage_mem | apply mem_ite | apply mem_foldl | simp only [memIs_mk] | split)

theorem State.adcCmd_mem {rM : Tab Byte} {s : State} (path : Path) (f : Nat) (v : Word) (h_s : s.memIs rM) :
    State.memIs rM (State.adcCmd s path f v) := by
  unfold State.adcCmd
  try dsimp only
  with_reducible repeat' (first | assumption | intro _ | apply State.recErr_mem | apply State.startRun_mem | apply mem_ite | apply mem_foldl | simp only [memIs_mk] | split)

theorem State.calfCmd_mem {rM : Tab Byte} {s : State} (f : Nat) (v : Word) (h_s : s.memIs rM) :
    State.memIs rM (State.calfCmd s f v) := by
  unfold State.calfCmd
  try dsimp only
  with_reducible repeat' (first | assumption | intro _ | apply State.recErr_mem | apply State.startRun_mem | apply mem_ite | apply mem_foldl | simp only [memIs_mk] | split)

theorem State.carry63_mem {rM : Tab Byte} {s : State} (ps : List Pg) (h_s : s.memIs rM) :
    State.memIs rM (State.carry63 s ps) := by
  unfold State.carry63
  try dsimp only
  with_reducible repeat' (first | assumption | intro _ | apply State.mapCal_mem | apply State.shadowWrite_mem | apply mem_ite | apply mem_foldl | simp only [memIs_mk] | split)

theorem State.serve63_mem {rM : Tab Byte} {s : State} (ps : List Pg) (own : Nat) (shot : Bool) (h_s : s.memIs rM) :
    State.memIs rM (State.serve63 s ps own shot) := by
  unfold State.serve63
  try dsimp only
  with_reducible repeat' (first | assumption | intro _ | apply State.wrF_mem | apply State.setGrp_mem | apply State.setGrpState_mem | apply State.wr_mem | apply State.carry63_mem | apply State.wr64_mem | apply State.grpArm_mem | apply mem_ite | apply mem_foldl | simp only [memIs_mk] | split)

theorem State.dueRuns_mem {rM : Tab Byte} {s : State} (h_s : s.memIs rM) :
    State.memIs rM (State.dueRuns s) := by
  unfold State.dueRuns
  try dsimp only
  with_reducible repeat' (first | assumption | intro _ | apply State.startRun_mem | apply mem_ite | apply mem_foldl | simp only [memIs_mk] | split)

theorem State.round63_mem {rM : Tab Byte} {s0 : State} (h_s0 : s0.memIs rM) :
    State.memIs rM (State.round63 s0) := by
  unfold State.round63
  try dsimp only
  with_reducible repeat' (first | assumption | intro _ | apply State.dueRuns_mem | apply State.flag_mem | apply State.count_mem | apply State.mapCal_mem | apply State.serve63_mem | apply mem_ite | apply mem_foldl | simp only [memIs_mk] | split)

theorem State.commitPart_mem {rM : Tab Byte} {s : State} (f : Nat) (h_s : s.memIs rM) :
    State.memIs rM (State.commitPart s f) := by
  unfold State.commitPart
  try dsimp only
  with_reducible repeat' (first | assumption | intro _ | apply State.serve63_mem | apply mem_ite | apply mem_foldl | simp only [memIs_mk] | split)

theorem State.fullOver_mem {rM : Tab Byte} {s : State} (f : Nat) (r : CalRun) (pass : Bool) (h_s : s.memIs rM) :
    State.memIs rM (State.fullOver s f r pass) := by
  unfold State.fullOver
  try dsimp only
  with_reducible repeat' (first | assumption | intro _ | apply State.mapCal_mem | apply State.wr_mem | apply State.wrB_mem | apply mem_ite | apply mem_foldl | simp only [memIs_mk] | split)

/-- A fold that carries a state beside what it gathers keeps what its steps keep. -/
theorem foldl_snd_mem {rM : Tab Byte} {α β : Type} (g : β × State → α → β × State) (hg : ∀ r k, State.memIs rM r.2 → State.memIs rM (g r k).2) (l : List α) (r : β × State)
    (h : State.memIs rM r.2) : State.memIs rM (l.foldl g r).2 := by
  induction l generalizing r with
  | nil => exact h
  | cons k t ih => exact ih _ (hg _ _ h)

theorem State.measured_mem {rM : Tab Byte} {s : State} (adc : Bool) (pairs : List CalPair) (h_s : State.memIs rM s) :
    State.memIs rM (State.measured s adc pairs).2 := by
  unfold State.measured
  refine foldl_snd_mem _ (fun r k h => ?_) _ _ h_s
  dsimp only
  split
  · exact h
  · split
    · exact h
    · exact State.draw_mem (State.draw_mem h)

theorem State.adcDone_mem {rM : Tab Byte} {s : State} (f : Nat) (pairs : List CalPair) (h_s : s.memIs rM) :
    State.memIs rM (State.adcDone s f pairs) := by
  unfold State.adcDone
  try dsimp only
  with_reducible repeat' (first | assumption | intro _ | apply State.wr_mem | apply State.count_mem | apply State.flag_mem | apply State.wrF_mem | apply State.endRun_mem | apply State.fullOver_mem | apply State.judge_mem | apply State.wrB_mem | apply State.commitPart_mem | apply State.dacPart_mem | apply State.mapCal_mem | apply State.measured_mem | apply mem_ite | apply mem_foldl | simp only [memIs_mk] | split)

theorem State.dacDone_mem {rM : Tab Byte} {s : State} (f : Nat) (pairs : List CalPair) (h_s : s.memIs rM) :
    State.memIs rM (State.dacDone s f pairs) := by
  unfold State.dacDone
  try dsimp only
  with_reducible repeat' (first | assumption | intro _ | apply State.wr_mem | apply State.endRun_mem | apply State.count_mem | apply State.flag_mem | apply State.wrF_mem | apply State.fullOver_mem | apply State.judge_mem | apply State.commitPart_mem | apply State.measured_mem | apply mem_ite | apply mem_foldl | simp only [memIs_mk] | split)

theorem State.abortRuns_mem {rM : Tab Byte} {s : State} (h_s : s.memIs rM) :
    State.memIs rM (State.abortRuns s) := by
  unfold State.abortRuns
  try dsimp only
  with_reducible repeat' (first | assumption | intro _ | apply State.flag_mem | apply State.wr_mem | apply State.endRun_mem | apply mem_ite | apply mem_foldl | simp only [memIs_mk] | split)

theorem State.dueStep_mem {rM : Tab Byte} {s : State} (f : Nat) (k : Nat) (start : Nat) (h_s : s.memIs rM) :
    State.memIs rM (State.dueStep s f k start) := by
  unfold State.dueStep
  try dsimp only
  with_reducible repeat' (first | assumption | intro _ | apply State.mapCal_mem | apply State.wr_mem | apply State.wrB_mem | apply mem_ite | apply mem_foldl | simp only [memIs_mk] | split)

theorem State.estimate_mem {rM : Tab Byte} {s : State} (f : Nat) (q : Quant) (x : CalEst) (h_s : s.memIs rM) :
    State.memIs rM (State.estimate s f q x) := by
  unfold State.estimate
  try dsimp only
  with_reducible repeat' (first | assumption | intro _ | apply State.mapCal_mem | apply State.dueStep_mem | apply State.judge_mem | apply mem_ite | apply mem_foldl | simp only [memIs_mk] | split)

theorem State.gather_mem {rM : Tab Byte} {s : State} (f : Nat) (h_s : s.memIs rM) :
    State.memIs rM (State.gather s f) := by
  unfold State.gather
  try dsimp only
  with_reducible repeat' (first | assumption | intro _ | apply State.mapCal_mem | apply mem_ite | apply mem_foldl | simp only [memIs_mk] | split)

theorem State.estimates_mem {rM : Tab Byte} {s9 : State} (f : Nat) (ests : List CalEst) (weak : Bool) (h_s9 : s9.memIs rM) :
    State.memIs rM (State.estimates s9 f ests weak) := by
  unfold State.estimates
  try dsimp only
  with_reducible repeat' (first | assumption | intro _ | apply State.count_mem | apply State.mapCal_mem | apply State.estimate_mem | apply State.gather_mem | apply mem_ite | apply mem_foldl | simp only [memIs_mk] | split)

theorem State.slotDecision_mem {rM : Tab Byte} {s9 : State} (f : Nat) (found : Bool) (h_s9 : s9.memIs rM) :
    State.memIs rM (State.slotDecision s9 f found) := by
  unfold State.slotDecision
  try dsimp only
  with_reducible repeat' (first | assumption | intro _ | apply State.mapCal_mem | apply State.count_mem | apply State.feRoute_mem | apply State.gather_mem | apply mem_ite | apply mem_foldl | simp only [memIs_mk] | split)

theorem State.calHold_mem {rM : Tab Byte} {s : State} (h_s : s.memIs rM) :
    State.memIs rM (State.calHold s) := by
  unfold State.calHold
  try dsimp only
  with_reducible repeat' (first | assumption | intro _ | apply State.abortRuns_mem | apply State.feBack_mem | apply State.mapCal_mem | apply mem_ite | apply mem_foldl | simp only [memIs_mk] | split)

theorem State.dueNow_mem {rM : Tab Byte} {s : State} (f : Nat) (h_s : s.memIs rM) :
    State.memIs rM (State.dueNow s f) := by
  unfold State.dueNow
  try dsimp only
  with_reducible repeat' (first | assumption | intro _ | apply State.dueRuns_mem | apply State.mapCal_mem | apply State.wrB_mem | apply State.flag_mem | apply mem_ite | apply mem_foldl | simp only [memIs_mk] | split)

theorem State.overdue_mem {rM : Tab Byte} {s : State} (f : Nat) (h_s : s.memIs rM) :
    State.memIs rM (State.overdue s f) := by
  unfold State.overdue
  try dsimp only
  with_reducible repeat' (first | assumption | intro _ | apply State.flag_mem | apply mem_ite | apply mem_foldl | simp only [memIs_mk] | split)

theorem State.marginEffect_mem {rM : Tab Byte} {s : State} (f : Nat) (h_s : s.memIs rM) :
    State.memIs rM (State.marginEffect s f) := by
  unfold State.marginEffect
  try dsimp only
  with_reducible repeat' (first | assumption | intro _ | apply State.mapCal_mem | apply mem_ite | apply mem_foldl | simp only [memIs_mk] | split)

theorem State.trimEffect_mem {rM : Tab Byte} {s9 : State} (f u : Nat) (h_s9 : s9.memIs rM) :
    State.memIs rM (State.trimEffect s9 f u) := by
  unfold State.trimEffect
  try dsimp only
  with_reducible repeat' (first | assumption | intro _ | apply State.mapCal_mem | apply State.wrB_mem | apply State.keepBall_mem | apply State.marginEffect_mem | apply mem_ite | apply mem_foldl | simp only [memIs_mk] | split)

theorem State.bandSet_mem {rM : Tab Byte} {s : State} (f : Nat) (band : Nat) (h_s : s.memIs rM) :
    State.memIs rM (State.bandSet s f band) := by
  unfold State.bandSet
  try dsimp only
  with_reducible repeat' (first | assumption | intro _ | apply State.mapCal_mem | apply State.wrF_mem | apply mem_ite | apply mem_foldl | simp only [memIs_mk] | split)

theorem State.loadBaseline_mem {rM : Tab Byte} {s : State} (h_s : s.memIs rM) :
    State.memIs rM (State.loadBaseline s) := by
  unfold State.loadBaseline
  try dsimp only
  with_reducible repeat' (first | assumption | intro _ | apply State.wrF_mem | apply State.wrB_mem | apply State.wr_mem | apply mem_ite | apply mem_foldl | simp only [memIs_mk] | split)

theorem State.fuseCmd_mem {rM : Tab Byte} {s : State} (v : Word) (h_s : s.memIs rM) :
    State.memIs rM (State.fuseCmd s v) := by
  unfold State.fuseCmd
  try dsimp only
  with_reducible repeat' (first | assumption | intro _ | apply State.recErr_mem | apply State.mapCal_mem | apply State.count_mem | apply State.wrB_mem | apply mem_ite | apply mem_foldl | simp only [memIs_mk] | split)

theorem State.burnDone_mem {rM : Tab Byte} {s : State} (ok : Bool) (h_s : s.memIs rM) :
    State.memIs rM (State.burnDone s ok) := by
  unfold State.burnDone
  try dsimp only
  with_reducible repeat' (first | assumption | intro _ | apply State.mapCal_mem | apply State.wrF_mem | apply State.wrB_mem | apply mem_ite | apply mem_foldl | simp only [memIs_mk] | split)

theorem State.revokeDone_mem {rM : Tab Byte} {s : State} (h_s : s.memIs rM) :
    State.memIs rM (State.revokeDone s) := by
  unfold State.revokeDone
  try dsimp only
  with_reducible repeat' (first | assumption | intro _ | apply State.mapCal_mem | apply State.wrB_mem | apply mem_ite | apply mem_foldl | simp only [memIs_mk] | split)

theorem State.burnCut_mem {rM : Tab Byte} {s : State} (h_s : s.memIs rM) :
    State.memIs rM (State.burnCut s) := by
  unfold State.burnCut
  try dsimp only
  with_reducible repeat' (first | assumption | intro _ | apply State.mapCal_mem | apply State.wrF_mem | apply State.wrB_mem | apply mem_ite | apply mem_foldl | simp only [memIs_mk] | split)

theorem State.hkCalStart_mem {rM : Tab Byte} {s : State} (parts : Nat) (h_s : s.memIs rM) :
    State.memIs rM (State.hkCalStart s parts) := by
  unfold State.hkCalStart
  try dsimp only
  with_reducible repeat' (first | assumption | intro _ | apply State.mapHk_mem | apply State.wrB_mem | apply State.wrF_mem | apply State.thRestart_mem | apply State.mapAdc_mem | apply State.flag_mem | apply State.setAdcState_mem | apply State.adcDrop_mem | apply mem_ite | apply mem_foldl | simp only [memIs_mk] | split)

theorem State.hkCalCmd_mem {rM : Tab Byte} {s : State} (v : Word) (h_s : s.memIs rM) :
    State.memIs rM (State.hkCalCmd s v) := by
  unfold State.hkCalCmd
  try dsimp only
  with_reducible repeat' (first | assumption | intro _ | apply State.recErr_mem | apply State.hkCalStart_mem | apply mem_ite | apply mem_foldl | simp only [memIs_mk] | split)

theorem State.hkCalDone_mem {rM : Tab Byte} {s : State} (pairs : List CalPair) (h_s : s.memIs rM) :
    State.memIs rM (State.hkCalDone s pairs) := by
  unfold State.hkCalDone
  try dsimp only
  with_reducible repeat' (first | assumption | intro _ | apply State.mapCal_mem | apply State.reject_mem | apply State.mapHk_mem | apply State.wrB_mem | apply State.adcNext_mem | apply State.mapAdc_mem | apply State.serve63_mem | apply mem_ite | apply mem_foldl | simp only [memIs_mk] | split)

theorem State.routeOff_mem {rM : Tab Byte} {s : State} (f : Nat) (h_s : s.memIs rM) :
    State.memIs rM (State.routeOff s f) := by
  unfold State.routeOff
  try dsimp only
  with_reducible repeat' (first | assumption | intro _ | apply State.feBack_mem | apply mem_ite | apply mem_foldl | simp only [memIs_mk] | split)

theorem State.routeSet_mem {rM : Tab Byte} {s : State} (f : Nat) (h_s : s.memIs rM) :
    State.memIs rM (State.routeSet s f) := by
  unfold State.routeSet
  try dsimp only
  with_reducible repeat' (first | assumption | intro _ | apply State.feRoute_mem | apply State.routeOff_mem | apply mem_ite | apply mem_foldl | simp only [memIs_mk] | split)

theorem State.svcStart_mem {rM : Tab Byte} {s0 : State} (h_s0 : s0.memIs rM) :
    State.memIs rM (State.svcStart s0) := by
  unfold State.svcStart
  try dsimp only
  with_reducible repeat' (first | assumption | intro _ | apply State.wrB_mem | apply State.mapCal_mem | apply State.startRun_mem | apply State.hkCalStart_mem | apply State.routeSet_mem | apply mem_ite | apply mem_foldl | simp only [memIs_mk] | split)

theorem State.svcEnd_mem {rM : Tab Byte} {s : State} (h_s : s.memIs rM) :
    State.memIs rM (State.svcEnd s) := by
  unfold State.svcEnd
  try dsimp only
  with_reducible repeat' (first | assumption | intro _ | apply State.wrB_mem | apply State.mapCal_mem | apply State.routeOff_mem | apply mem_ite | apply mem_foldl | simp only [memIs_mk] | split)

theorem State.setCs_mem {rM : Tab Byte} {s : State} (v : Nat) (h_s : s.memIs rM) :
    State.memIs rM (State.setCs s v) := by
  unfold State.setCs
  try dsimp only
  with_reducible repeat' (first | assumption | intro _ | apply State.wrF_mem | apply mem_ite | apply mem_foldl | simp only [memIs_mk] | split)

theorem State.dropReq_mem {rM : Tab Byte} {s : State} (h_s : s.memIs rM) :
    State.memIs rM (State.dropReq s) := by
  unfold State.dropReq
  try dsimp only
  with_reducible repeat' (first | assumption | intro _ | apply State.count_mem | apply State.mapTime_mem | apply mem_ite | apply mem_foldl | simp only [memIs_mk] | split)

theorem State.csFail_mem {rM : Tab Byte} {s : State} (cause : Nat) (h_s : s.memIs rM) :
    State.memIs rM (State.csFail s cause) := by
  unfold State.csFail
  try dsimp only
  with_reducible repeat' (first | assumption | intro _ | apply State.mapTime_mem | apply State.recErr_mem | apply State.flag_mem | apply State.setCs_mem | apply State.dropReq_mem | apply mem_ite | apply mem_foldl | simp only [memIs_mk] | split)

theorem State.alignLost_mem {rM : Tab Byte} {s : State} (h_s : s.memIs rM) :
    State.memIs rM (State.alignLost s) := by
  unfold State.alignLost
  try dsimp only
  with_reducible repeat' (first | assumption | intro _ | apply State.flag_mem | apply State.setCs_mem | apply State.dropReq_mem | apply mem_ite | apply mem_foldl | simp only [memIs_mk] | split)

theorem State.sendPings_mem {rM : Tab Byte} {s : State} (h_s : s.memIs rM) :
    State.memIs rM (State.sendPings s) := by
  unfold State.sendPings
  try dsimp only
  with_reducible repeat' (first | assumption | intro _ | apply State.mapTime_mem | apply State.wrB_mem | apply State.unicast_mem | apply mem_ite | apply mem_foldl | simp only [memIs_mk] | split)

theorem State.aligned_mem {rM : Tab Byte} {s : State} (depth : Nat) (h_s : s.memIs rM) :
    State.memIs rM (State.aligned s depth) := by
  unfold State.aligned
  try dsimp only
  with_reducible repeat' (first | assumption | intro _ | apply State.mapTime_mem | apply State.flag_mem | apply State.wr_mem | apply State.wrF_mem | apply State.setCs_mem | apply State.sendPings_mem | apply State.dropReq_mem | apply mem_ite | apply mem_foldl | simp only [memIs_mk] | split)

theorem State.csJoin_mem {rM : Tab Byte} {s : State} (h_s : s.memIs rM) :
    State.memIs rM (State.csJoin s) := by
  unfold State.csJoin
  try dsimp only
  with_reducible repeat' (first | assumption | intro _ | apply State.recErr_mem | apply State.mapTime_mem | apply State.wrB_mem | apply State.wrF_mem | apply State.setCs_mem | apply State.aligned_mem | apply State.dropReq_mem | apply mem_ite | apply mem_foldl | simp only [memIs_mk] | split)

theorem State.csLeave_mem {rM : Tab Byte} {s : State} (h_s : s.memIs rM) :
    State.memIs rM (State.csLeave s) := by
  unfold State.csLeave
  try dsimp only
  with_reducible repeat' (first | assumption | intro _ | apply State.recErr_mem | apply State.mapTime_mem | apply State.wrB_mem | apply State.wrF_mem | apply State.setCs_mem | apply State.dropReq_mem | apply mem_ite | apply mem_foldl | simp only [memIs_mk] | split)

theorem State.csRemeasure_mem {rM : Tab Byte} {s : State} (h_s : s.memIs rM) :
    State.memIs rM (State.csRemeasure s) := by
  unfold State.csRemeasure
  try dsimp only
  with_reducible repeat' (first | assumption | intro _ | apply State.sendPings_mem | apply mem_ite | apply mem_foldl | simp only [memIs_mk] | split)

theorem State.csCmd_mem {rM : Tab Byte} {s : State} (v : Word) (h_s : s.memIs rM) :
    State.memIs rM (State.csCmd s v) := by
  unfold State.csCmd
  try dsimp only
  with_reducible repeat' (first | assumption | intro _ | apply State.csJoin_mem | apply State.csLeave_mem | apply State.csRemeasure_mem | apply mem_ite | apply mem_foldl | simp only [memIs_mk] | split)

theorem State.syncReqSend_mem {rM : Tab Byte} {s : State} (phi : Nat) (h_s : s.memIs rM) :
    State.memIs rM (State.syncReqSend s phi) := by
  unfold State.syncReqSend
  try dsimp only
  with_reducible repeat' (first | assumption | intro _ | apply State.sendOn_mem | apply State.mapTime_mem | apply State.dropReq_mem | apply mem_ite | apply mem_foldl | simp only [memIs_mk] | split)

theorem State.syncReq_mem {rM : Tab Byte} {s : State} (port : Nat) (phi : Nat) (turn : Nat) (w : BitVec 64) (h_s : s.memIs rM) :
    State.memIs rM (State.syncReq s port phi turn w) := by
  unfold State.syncReq
  try dsimp only
  with_reducible repeat' (first | assumption | intro _ | apply State.mapTime_mem | apply State.count_mem | apply State.sendOn_mem | apply mem_ite | apply mem_foldl | simp only [memIs_mk] | split)

theorem State.rotate_mem {rM : Tab Byte} {s : State} (n : Int) (h_s : s.memIs rM) :
    State.memIs rM (State.rotate s n) := by
  unfold State.rotate
  try dsimp only
  with_reducible repeat' (first | assumption | intro _ | apply State.count_mem | apply State.mapTime_mem | apply mem_ite | apply mem_foldl | simp only [memIs_mk] | split)

theorem State.measuring_mem {rM : Tab Byte} {s : State} (d : Int) (th : Int) (h_s : s.memIs rM) :
    State.memIs rM (State.measuring s d th) := by
  unfold State.measuring
  try dsimp only
  with_reducible repeat' (first | assumption | intro _ | apply State.mapTime_mem | apply State.setCs_mem | apply State.rotate_mem | apply mem_ite | apply mem_foldl | simp only [memIs_mk] | split)

theorem State.track_mem {rM : Tab Byte} {s : State} (e : Int) (k : Int) (h_s : s.memIs rM) :
    State.memIs rM (State.track s e k) := by
  unfold State.track
  try dsimp only
  with_reducible repeat' (first | assumption | intro _ | apply State.rotate_mem | apply State.wr_mem | apply mem_ite | apply mem_foldl | simp only [memIs_mk] | split)

theorem State.tracking_mem {rM : Tab Byte} {s : State} (th : Int) (h_s : s.memIs rM) :
    State.memIs rM (State.tracking s th) := by
  unfold State.tracking
  try dsimp only
  with_reducible repeat' (first | assumption | intro _ | apply State.mapTime_mem | apply State.flag_mem | apply State.alignLost_mem | apply State.track_mem | apply mem_ite | apply mem_foldl | simp only [memIs_mk] | split)

theorem State.resync_mem {rM : Tab Byte} {s : State} (th : Int) (h_s : s.memIs rM) :
    State.memIs rM (State.resync s th) := by
  unfold State.resync
  try dsimp only
  with_reducible repeat' (first | assumption | intro _ | apply State.mapTime_mem | apply State.track_mem | apply State.flag_mem | apply State.setCs_mem | apply State.alignLost_mem | apply mem_ite | apply mem_foldl | simp only [memIs_mk] | split)

theorem State.syncResp_mem {rM : Tab Byte} {s : State} (port : Nat) (phi : Nat) (w : BitVec 64) (h_s : s.memIs rM) :
    State.memIs rM (State.syncResp s port phi w) := by
  unfold State.syncResp
  try dsimp only
  with_reducible repeat' (first | assumption | intro _ | apply State.mapTime_mem | apply State.csFail_mem | apply State.wr_mem | apply State.count_mem | apply State.setCs_mem | apply State.measuring_mem | apply State.tracking_mem | apply State.resync_mem | apply mem_ite | apply mem_foldl | simp only [memIs_mk] | split)

theorem State.startSend_mem {rM : Tab Byte} {s : State} (h_s : s.memIs rM) :
    State.memIs rM (State.startSend s) := by
  unfold State.startSend
  try dsimp only
  with_reducible repeat' (first | assumption | intro _ | apply State.sendOn_mem | apply mem_ite | apply mem_foldl | simp only [memIs_mk] | split)

theorem State.startHi_mem {rM : Tab Byte} {s : State} (port : Nat) (w : BitVec 64) (h_s : s.memIs rM) :
    State.memIs rM (State.startHi s port w) := by
  unfold State.startHi
  try dsimp only
  with_reducible repeat' (first | assumption | intro _ | apply State.mapTime_mem | apply mem_ite | apply mem_foldl | simp only [memIs_mk] | split)

theorem State.startLo_mem {rM : Tab Byte} {s : State} (port : Nat) (w : BitVec 64) (h_s : s.memIs rM) :
    State.memIs rM (State.startLo s port w) := by
  unfold State.startLo
  try dsimp only
  with_reducible repeat' (first | assumption | intro _ | apply State.mapTime_mem | apply State.csFail_mem | apply mem_ite | apply mem_foldl | simp only [memIs_mk] | split)

theorem State.moveFronds_mem {rM : Tab Byte} {s : State} (o : Nat) (n : Nat) (h_s : s.memIs rM) :
    State.memIs rM (State.moveFronds s o n) := by
  unfold State.moveFronds
  try dsimp only
  with_reducible repeat' (first | assumption | intro _ | apply mem_ite | apply mem_foldl | simp only [memIs_mk] | split)

theorem State.moveRest_mem {rM : Tab Byte} {s : State} (o : Nat) (n : Nat) (h_s : s.memIs rM) :
    State.memIs rM (State.moveRest s o n) := by
  unfold State.moveRest
  try dsimp only
  with_reducible repeat' (first | assumption | intro _ | apply mem_ite | apply mem_foldl | simp only [memIs_mk] | split)

theorem State.loadBeat_mem {rM : Tab Byte} {s : State} (n : Nat) (h_s : s.memIs rM) :
    State.memIs rM (State.loadBeat s n) := by
  unfold State.loadBeat
  try dsimp only
  with_reducible repeat' (first | assumption | intro _ | apply State.flag_mem | apply State.clearMap_mem | apply State.moveRest_mem | apply State.moveFronds_mem | apply mem_ite | apply mem_foldl | simp only [memIs_mk] | split)

theorem State.counterLoad_mem {rM : Tab Byte} {s : State} (h_s : s.memIs rM) :
    State.memIs rM (State.counterLoad s) := by
  unfold State.counterLoad
  try dsimp only
  with_reducible repeat' (first | assumption | intro _ | apply State.aligned_mem | apply State.loadBeat_mem | apply mem_ite | apply mem_foldl | simp only [memIs_mk] | split)

theorem State.ping_mem {rM : Tab Byte} {s : State} (w : BitVec 64) (h_s : s.memIs rM) :
    State.memIs rM (State.ping s w) := by
  unfold State.ping
  try dsimp only
  with_reducible repeat' (first | assumption | intro _ | apply State.unicast_mem | apply mem_ite | apply mem_foldl | simp only [memIs_mk] | split)

theorem State.pong_mem {rM : Tab Byte} {s : State} (w : BitVec 64) (h_s : s.memIs rM) :
    State.memIs rM (State.pong s w) := by
  unfold State.pong
  try dsimp only
  with_reducible repeat' (first | assumption | intro _ | apply State.mapTime_mem | apply State.wrF_mem | apply State.wrB_mem | apply mem_ite | apply mem_foldl | simp only [memIs_mk] | split)

theorem State.parentLoss_mem {rM : Tab Byte} {s : State} (h_s : s.memIs rM) :
    State.memIs rM (State.parentLoss s) := by
  unfold State.parentLoss
  try dsimp only
  with_reducible repeat' (first | assumption | intro _ | apply State.mapTime_mem | apply State.flag_mem | apply State.setCs_mem | apply State.dropReq_mem | apply mem_ite | apply mem_foldl | simp only [memIs_mk] | split)

theorem State.holdMs_mem {rM : Tab Byte} {s : State} (h_s : s.memIs rM) :
    State.memIs rM (State.holdMs s) := by
  unfold State.holdMs
  try dsimp only
  with_reducible repeat' (first | assumption | intro _ | apply State.alignLost_mem | apply mem_ite | apply mem_foldl | simp only [memIs_mk] | split)

theorem State.joinMs_mem {rM : Tab Byte} {s : State} (h_s : s.memIs rM) :
    State.memIs rM (State.joinMs s) := by
  unfold State.joinMs
  try dsimp only
  with_reducible repeat' (first | assumption | intro _ | apply State.csFail_mem | apply mem_ite | apply mem_foldl | simp only [memIs_mk] | split)

theorem State.csUnlock_mem {rM : Tab Byte} {s : State} (h_s : s.memIs rM) :
    State.memIs rM (State.csUnlock s) := by
  unfold State.csUnlock
  try dsimp only
  with_reducible repeat' (first | assumption | intro _ | apply State.alignLost_mem | apply mem_ite | apply mem_foldl | simp only [memIs_mk] | split)

theorem State.setMode_mem {rM : Tab Byte} {s : State} (m : Nat) (h_s : s.memIs rM) :
    State.memIs rM (State.setMode s m) := by
  unfold State.setMode
  try dsimp only
  with_reducible repeat' (first | assumption | intro _ | apply State.wrF_mem | apply mem_ite | apply mem_foldl | simp only [memIs_mk] | split)

theorem State.setTarget_mem {rM : Tab Byte} {s : State} (t : Option Nat) (h_s : s.memIs rM) :
    State.memIs rM (State.setTarget s t) := by
  unfold State.setTarget
  try dsimp only
  with_reducible repeat' (first | assumption | intro _ | apply State.wrB_mem | apply State.mapBoot_mem | apply mem_ite | apply mem_foldl | simp only [memIs_mk] | split)

theorem State.bootLog_mem {rM : Tab Byte} {s : State} (outcome : Nat) (step : Nat) (unit : Nat) (cause : Nat) (time : Nat) (detail : Word) (h_s : s.memIs rM) :
    State.memIs rM (State.bootLog s outcome step unit cause time detail) := by
  unfold State.bootLog
  try dsimp only
  with_reducible repeat' (first | assumption | intro _ | apply State.wrF_mem | apply State.mapBoot_mem | apply mem_ite | apply mem_foldl | simp only [memIs_mk] | split)

theorem State.mirrorLog_mem {rM : Tab Byte} {s : State} (h_s : s.memIs rM) :
    State.memIs rM (State.mirrorLog s) := by
  unfold State.mirrorLog
  try dsimp only
  with_reducible repeat' (first | assumption | intro _ | apply State.mapBoot_mem | apply mem_ite | apply mem_foldl | simp only [memIs_mk] | split)

theorem State.bootEnd_mem {rM : Tab Byte} {s : State} (result : Nat) (step : Nat) (outcome : Nat) (unit : Nat) (cause : Nat) (t : Nat) (h_s : s.memIs rM) :
    State.memIs rM (State.bootEnd s result step outcome unit cause t) := by
  unfold State.bootEnd
  try dsimp only
  with_reducible repeat' (first | assumption | intro _ | apply State.wr_mem | apply State.wrF_mem | apply State.mirrorLog_mem | apply State.bootLog_mem | apply mem_ite | apply mem_foldl | simp only [memIs_mk] | split)

theorem State.ownCast_mem {rM : Tab Byte} {s : State} (type : Nat) (h_s : s.memIs rM) :
    State.memIs rM (State.ownCast s type) := by
  unfold State.ownCast
  try dsimp only
  with_reducible repeat' (first | assumption | intro _ | apply State.broadcast_mem | apply State.newCast_mem | apply mem_ite | apply mem_foldl | simp only [memIs_mk] | split)

theorem State.killShots_mem {rM : Tab Byte} {s : State} (h_s : s.memIs rM) :
    State.memIs rM (State.killShots s) := by
  unfold State.killShots
  try dsimp only
  with_reducible repeat' (first | assumption | intro _ | apply State.setCrz_mem | apply mem_ite | apply mem_foldl | simp only [memIs_mk] | split)

theorem mem_pins {rM : Tab Byte} {s : State} (p : Pins) (h : s.memIs rM) : State.memIs rM { s with pins := p } := h

theorem mem_chains {rM : Tab Byte} {s : State} (x : Tab FluxChain) (h : s.memIs rM) : State.memIs rM { s with chains := x } := h

theorem State.haltSoon_mem {rM : Tab Byte} {s : State} (f : Nat) (h_s : s.memIs rM) :
    State.memIs rM (State.haltSoon s f) := by
  unfold State.haltSoon
  try dsimp only
  with_reducible repeat' (first | assumption | intro _ | apply State.setQueue_mem | apply State.idlePlayers_mem | apply State.setCrz_mem | apply State.haltStep_mem | apply State.crzStop_mem | apply mem_ite | apply mem_foldl | simp only [memIs_mk] | split)

theorem State.forceNow_mem {rM : Tab Byte} {s : State} (h_s : s.memIs rM) :
    State.memIs rM (State.forceNow s) := by
  unfold State.forceNow
  try dsimp only
  with_reducible repeat' (first | assumption | intro _ | apply mem_ite | apply mem_foldl | simp only [memIs_mk] | split)

theorem State.holdUnits_mem {rM : Tab Byte} {s : State} (h_s : s.memIs rM) : State.memIs rM (s.holdUnits) := by
  unfold State.holdUnits
  try dsimp only
  with_reducible repeat' (first | assumption | intro _ | apply State.haltSoon_mem | apply State.killShots_mem | apply State.sorusHold_mem | apply State.hyphaHold_mem | apply State.biasClearAll_mem | apply State.modeAborts_mem | apply State.calHold_mem | apply State.burnCut_mem | apply mem_ite | apply mem_foldl | simp only [memIs_mk] | split)

theorem State.abortOut_mem {rM : Tab Byte} {s : State} (cause : Nat) (h_s : s.memIs rM) :
    State.memIs rM (State.abortOut s cause) := by
  unfold State.abortOut
  try dsimp only
  with_reducible repeat' (first | assumption | intro _ | apply State.count_mem | apply State.ownCast_mem | apply mem_ite | apply mem_foldl | simp only [memIs_mk] | split)

theorem State.abortStat_mem {rM : Tab Byte} {s : State} (i : Nat) (fn : Nat) (h_s : s.memIs rM) :
    State.memIs rM (State.abortStat s i fn) := by
  unfold State.abortStat
  try dsimp only
  with_reducible repeat' (first | assumption | intro _ | apply State.flag_mem | apply State.wrB_mem | apply State.wrF_mem | apply mem_ite | apply mem_foldl | simp only [memIs_mk] | split)

theorem State.abortCause_mem {rM : Tab Byte} {s : State} (cause : Nat) (h_s : s.memIs rM) :
    State.memIs rM (State.abortCause s cause) := by
  unfold State.abortCause
  try dsimp only
  with_reducible repeat' (first | assumption | intro _ | apply State.abortStat_mem | apply mem_ite | apply mem_foldl | simp only [memIs_mk] | split)

theorem State.bootTime_mem {rM : Tab Byte} {s : State} (h_s : s.memIs rM) :
    State.memIs rM (State.bootTime s).2 := by
  unfold State.bootTime
  try dsimp only
  with_reducible repeat' (first | assumption | intro _ | apply State.draw_mem | apply mem_ite | apply mem_foldl | simp only [memIs_mk] | split)

theorem State.bootHeld_mem {rM : Tab Byte} {s : State} (h_s : s.memIs rM) :
    State.memIs rM (State.bootHeld s) := by
  unfold State.bootHeld
  try dsimp only
  with_reducible repeat' (first | assumption | intro _ | apply State.bootTime_mem | apply State.bootEnd_mem | apply mem_ite | apply mem_foldl | simp only [memIs_mk] | split)

theorem State.holdForce_mem {rM : Tab Byte} {s : State} (cause : Nat) (h_s : s.memIs rM) :
    State.memIs rM (State.holdForce s cause) := by
  unfold State.holdForce
  try dsimp only
  with_reducible repeat' (first | assumption | intro _ | apply State.forceFrom_mem | apply State.forceNow_mem | apply mem_ite | apply mem_foldl | simp only [memIs_mk] | split)

theorem State.enterHold_mem {rM : Tab Byte} {s : State} (cause : Nat) (h_s : s.memIs rM) :
    State.memIs rM (State.enterHold s cause) := by
  unfold State.enterHold
  try dsimp only
  with_reducible repeat' (first | assumption | intro _ | apply State.wrB_mem | apply State.abortCause_mem | apply State.setTarget_mem | apply State.wrF_mem | apply State.mapBoot_mem | apply State.abortOut_mem | apply State.setMode_mem | apply State.holdUnits_mem | apply State.bootHeld_mem | apply State.svcEnd_mem | apply State.holdForce_mem | apply State.forceNow_mem | apply mem_ite | apply mem_foldl | simp only [memIs_mk] | split)

theorem State.fatal_mem {rM : Tab Byte} {s : State} (h_s : s.memIs rM) :
    State.memIs rM (State.fatal s) := by
  unfold State.fatal
  try dsimp only
  with_reducible repeat' (first | assumption | intro _ | apply State.enterHold_mem | apply mem_ite | apply mem_foldl | simp only [memIs_mk] | split)

theorem State.mapLink_mem {rM : Tab Byte} {s : State} (g : Link → Link) (h_s : s.memIs rM) :
    State.memIs rM (State.mapLink s g) := by
  unfold State.mapLink
  try dsimp only
  with_reducible repeat' (first | assumption | intro _ | apply mem_ite | apply mem_foldl | simp only [memIs_mk] | split)

theorem State.setPort_mem {rM : Tab Byte} {s : State} (p : Nat) (v : Nat) (h_s : s.memIs rM) :
    State.memIs rM (State.setPort s p v) := by
  unfold State.setPort
  try dsimp only
  with_reducible repeat' (first | assumption | intro _ | apply State.wrF_mem | apply mem_ite | apply mem_foldl | simp only [memIs_mk] | split)

theorem State.showMbox_mem {rM : Tab Byte} {s : State} (h_s : s.memIs rM) :
    State.memIs rM (State.showMbox s) := by
  unfold State.showMbox
  try dsimp only
  with_reducible repeat' (first | assumption | intro _ | apply State.wrF_mem | apply mem_ite | apply mem_foldl | simp only [memIs_mk] | split)

theorem State.bulkIn_mem {rM : Tab Byte} {s : State} (port : Nat) (w : BitVec 64) (h_s : s.memIs rM) :
    State.memIs rM (State.bulkIn s port w) := by
  unfold State.bulkIn
  try dsimp only
  with_reducible repeat' (first | assumption | intro _ | apply State.count_mem | apply State.showMbox_mem | apply State.mapLink_mem | apply mem_ite | apply mem_foldl | simp only [memIs_mk] | split)

theorem State.mboxSend_mem {rM : Tab Byte} {s : State} (h_s : s.memIs rM) :
    optMem rM (State.mboxSend s) := by
  unfold State.mboxSend
  try dsimp only
  with_reducible repeat' (first | assumption | intro _ | apply optMem_some | apply optMem_none | apply State.mapLink_mem | apply State.unicast_mem | apply State.sendOn_mem | apply State.bulkIn_mem | apply mem_ite | apply mem_foldl | simp only [memIs_mk] | split)

theorem State.mboxDrain_mem {rM : Tab Byte} (n : Nat) {s : State} (h_s : s.memIs rM) : State.memIs rM ((State.mboxDrain n s)) := by
  induction n generalizing s with
  | zero => exact h_s
  | succ n ih =>
    unfold State.mboxDrain
    split
    · next t e => exact ih (optMem_get e (State.mboxSend_mem h_s))
    · exact h_s

theorem State.creditBack_mem {rM : Tab Byte} {s : State} (p : Nat) (h_s : s.memIs rM) :
    State.memIs rM (State.creditBack s p) := by
  unfold State.creditBack
  try dsimp only
  with_reducible repeat' (first | assumption | intro _ | apply State.sendOn_mem | apply mem_ite | apply mem_foldl | simp only [memIs_mk] | split)

theorem State.fwdWord_mem {rM : Tab Byte} {s : State} (x : Nat × Nat × BitVec 64) (h_s : s.memIs rM) :
    State.memIs rM (State.fwdWord s x) := by
  unfold State.fwdWord
  try dsimp only
  with_reducible repeat' (first | assumption | intro _ | apply State.unicast_mem | apply State.creditBack_mem | apply State.mapLink_mem | apply State.sendOn_mem | apply mem_ite | apply mem_foldl | simp only [memIs_mk] | split)

theorem State.fwdGo_mem {rM : Tab Byte} {s : State} (h_s : s.memIs rM) :
    State.memIs rM (State.fwdGo s) := by
  unfold State.fwdGo
  try dsimp only
  with_reducible repeat' (first | assumption | intro _ | apply State.fwdWord_mem | apply State.mapLink_mem | apply mem_ite | apply mem_foldl | simp only [memIs_mk] | split)

theorem State.mboxGo_mem {rM : Tab Byte} {s : State} (h_s : s.memIs rM) :
    State.memIs rM (State.mboxGo s) := by
  unfold State.mboxGo
  try dsimp only
  with_reducible repeat' (first | assumption | intro _ | apply State.showMbox_mem | apply State.mboxDrain_mem | apply State.fwdGo_mem | apply mem_ite | apply mem_foldl | simp only [memIs_mk] | split)

theorem State.mboxTx_mem {rM : Tab Byte} {s : State} (w : BitVec 64) (h_s : s.memIs rM) :
    State.memIs rM (State.mboxTx s w) := by
  unfold State.mboxTx
  try dsimp only
  with_reducible repeat' (first | assumption | intro _ | apply State.recErr_mem | apply State.mboxGo_mem | apply State.mapLink_mem | apply mem_ite | apply mem_foldl | simp only [memIs_mk] | split)

theorem State.mboxRead_mem {rM : Tab Byte} {s : State} (path : Path) (h_s : s.memIs rM) :
    State.memIs rM (State.mboxRead s path) := by
  unfold State.mboxRead
  try dsimp only
  with_reducible repeat' (first | assumption | intro _ | apply State.answerPair_mem | apply State.showMbox_mem | apply State.mapLink_mem | apply State.creditBack_mem | apply mem_ite | apply mem_foldl | simp only [memIs_mk] | split)

theorem State.laneFlits_mem {rM : Tab Byte} {s : State} (p : Nat) (w : Nat → BitVec 64) (h_s : s.memIs rM) :
    State.memIs rM (State.laneFlits s p w) := by
  unfold State.laneFlits
  try dsimp only
  with_reducible repeat' (first | assumption | intro _ | apply State.emit_mem | apply mem_ite | apply mem_foldl | simp only [memIs_mk] | split)

theorem State.portIdle_mem {rM : Tab Byte} {s : State} (p : Nat) (h_s : s.memIs rM) :
    State.memIs rM (State.portIdle s p) := by
  unfold State.portIdle
  try dsimp only
  with_reducible repeat' (first | assumption | intro _ | apply State.laneFlits_mem | apply State.setPort_mem | apply mem_ite | apply mem_foldl | simp only [memIs_mk] | split)

theorem State.portActive_mem {rM : Tab Byte} {s : State} (p : Nat) (h_s : s.memIs rM) :
    State.memIs rM (State.portActive s p) := by
  unfold State.portActive
  try dsimp only
  with_reducible repeat' (first | assumption | intro _ | apply State.mboxGo_mem | apply State.mapLink_mem | apply State.setPort_mem | apply State.portIdle_mem | apply mem_ite | apply mem_foldl | simp only [memIs_mk] | split)

theorem State.portDown_mem {rM : Tab Byte} {s : State} (p : Nat) (cause : Nat) (h_s : s.memIs rM) :
    State.memIs rM (State.portDown s p cause) := by
  unfold State.portDown
  try dsimp only
  with_reducible repeat' (first | assumption | intro _ | apply State.setPort_mem | apply State.wrF_mem | apply State.mapTime_mem | apply State.parentLoss_mem | apply mem_ite | apply mem_foldl | simp only [memIs_mk] | split)

theorem State.lanesSend_mem {rM : Tab Byte} {s : State} (p what : Nat) (h_s : s.memIs rM) :
    State.memIs rM (State.lanesSend s p what) := by
  unfold State.lanesSend
  try dsimp only
  with_reducible repeat' (first | assumption | intro _ | apply State.emit_mem | apply mem_ite | apply mem_foldl | simp only [memIs_mk] | split)

theorem State.portTrain_mem {rM : Tab Byte} {s : State} (p : Nat) (h_s : s.memIs rM) :
    State.memIs rM (State.portTrain s p) := by
  unfold State.portTrain
  try dsimp only
  with_reducible repeat' (first | assumption | intro _ | apply State.mapLink_mem | apply State.wrF_mem | apply State.setPort_mem | apply State.portDown_mem | apply State.lanesSend_mem | apply mem_ite | apply mem_foldl | simp only [memIs_mk] | split)

theorem State.portCtrl_mem {rM : Tab Byte} {s : State} (p : Nat) (v : Word) (h_s : s.memIs rM) :
    State.memIs rM (State.portCtrl s p v) := by
  unfold State.portCtrl
  try dsimp only
  with_reducible repeat' (first | assumption | intro _ | apply State.recErr_mem | apply State.wr_mem | apply State.portDown_mem | apply State.portTrain_mem | apply State.portIdle_mem | apply mem_ite | apply mem_foldl | simp only [memIs_mk] | split)

theorem State.fastExit_mem {rM : Tab Byte} {s : State} (p : Nat) (h_s : s.memIs rM) :
    State.memIs rM (State.fastExit s p) := by
  unfold State.fastExit
  try dsimp only
  with_reducible repeat' (first | assumption | intro _ | apply State.count_mem | apply State.setPort_mem | apply State.sendOn_mem | apply State.lanesSend_mem | apply mem_ite | apply mem_foldl | simp only [memIs_mk] | split)

theorem State.slipTo_mem {rM : Tab Byte} {s : State} (n : Nat) (pos : Nat) (h_s : s.memIs rM) :
    State.memIs rM (State.slipTo s n pos) := by
  unfold State.slipTo
  try dsimp only
  with_reducible repeat' (first | assumption | intro _ | apply State.count_mem | apply State.wrF_mem | apply mem_ite | apply mem_foldl | simp only [memIs_mk] | split)

theorem State.sendTrain_mem {rM : Tab Byte} {s : State} (p : Nat) (ack : Bool) (h_s : s.memIs rM) :
    State.memIs rM (State.sendTrain s p ack) := by
  unfold State.sendTrain
  try dsimp only
  with_reducible repeat' (first | assumption | intro _ | apply State.draw_mem | apply State.laneFlits_mem | apply mem_ite | apply mem_foldl | simp only [memIs_mk] | split)

theorem State.trainDone_mem {rM : Tab Byte} {s : State} (p : Nat) (vals : List Nat) (dev : Nat) (h_s : s.memIs rM) :
    State.memIs rM (State.trainDone s p vals dev) := by
  unfold State.trainDone
  try dsimp only
  with_reducible repeat' (first | assumption | intro _ | apply State.setPort_mem | apply State.wrB_mem | apply State.slipTo_mem | apply State.wrF_mem | apply State.portActive_mem | apply State.sendTrain_mem | apply mem_ite | apply mem_foldl | simp only [memIs_mk] | split)

theorem State.trainTimeout_mem {rM : Tab Byte} {s : State} (p : Nat) (alt : Bool) (h_s : s.memIs rM) :
    State.memIs rM (State.trainTimeout s p alt) := by
  unfold State.trainTimeout
  try dsimp only
  with_reducible repeat' (first | assumption | intro _ | apply State.portDown_mem | apply State.wrB_mem | apply mem_ite | apply mem_foldl | simp only [memIs_mk] | split)

theorem State.laneForce_mem {rM : Tab Byte} {s : State} (n : Nat) (h_s : s.memIs rM) :
    State.memIs rM (State.laneForce s n) := by
  unfold State.laneForce
  try dsimp only
  with_reducible repeat' (first | assumption | intro _ | apply State.portDown_mem | apply mem_ite | apply mem_foldl | simp only [memIs_mk] | split)

theorem State.slip_mem {rM : Tab Byte} {s : State} (n : Nat) (h_s : s.memIs rM) :
    State.memIs rM (State.slip s n) := by
  unfold State.slip
  try dsimp only
  with_reducible repeat' (first | assumption | intro _ | apply State.mapLink_mem | apply State.wrB_mem | apply State.slipTo_mem | apply mem_ite | apply mem_foldl | simp only [memIs_mk] | split)

theorem State.resume_mem {rM : Tab Byte} {s : State} (n : Nat) (h_s : s.memIs rM) :
    State.memIs rM (State.resume s n) := by
  unfold State.resume
  try dsimp only
  with_reducible repeat' (first | assumption | intro _ | apply State.setPort_mem | apply mem_ite | apply mem_foldl | simp only [memIs_mk] | split)

theorem State.laneLive_mem {rM : Tab Byte} {s : State} (n : Nat) (off : Nat) (h_s : s.memIs rM) :
    State.memIs rM (State.laneLive s n off) := by
  unfold State.laneLive
  try dsimp only
  with_reducible repeat' (first | assumption | intro _ | apply State.draw_mem | apply State.wr_mem | apply mem_ite | apply mem_foldl | simp only [memIs_mk] | split)

theorem State.laneCtrl_mem {rM : Tab Byte} {s0 : State} (n : Nat) (v : Word) (h_s0 : s0.memIs rM) :
    State.memIs rM (State.laneCtrl s0 n v) := by
  unfold State.laneCtrl
  try dsimp only
  with_reducible repeat' (first | assumption | intro _ | apply State.recErr_mem | apply State.laneForce_mem | apply State.wr_mem | apply State.slip_mem | apply State.resume_mem | apply State.laneLive_mem | apply State.emit_mem | apply mem_ite | apply mem_foldl | simp only [memIs_mk] | split)

theorem State.laneInj_mem {rM : Tab Byte} {s : State} (n : Nat) (v : Word) (h_s : s.memIs rM) :
    State.memIs rM (State.laneInj s n v) := by
  unfold State.laneInj
  try dsimp only
  with_reducible repeat' (first | assumption | intro _ | apply State.recErr_mem | apply State.wr_mem | apply State.emit_mem | apply State.laneForce_mem | apply mem_ite | apply mem_foldl | simp only [memIs_mk] | split)

theorem State.abortArrives_mem {rM : Tab Byte} {s : State} (port : Nat) (w : BitVec 64) (h_s : s.memIs rM) :
    State.memIs rM (State.abortArrives s port w) := by
  unfold State.abortArrives
  try dsimp only
  with_reducible repeat' (first | assumption | intro _ | apply State.newCast_mem | apply State.count_mem | apply State.broadcast_mem | apply State.enterHold_mem | apply mem_ite | apply mem_foldl | simp only [memIs_mk] | split)

theorem State.trainFlit_mem {rM : Tab Byte} {s : State} (port : Nat) (w : BitVec 64) (h_s : s.memIs rM) :
    State.memIs rM (State.trainFlit s port w) := by
  unfold State.trainFlit
  try dsimp only
  with_reducible repeat' (first | assumption | intro _ | apply State.wrF_mem | apply State.mapLink_mem | apply State.sendTrain_mem | apply State.portActive_mem | apply mem_ite | apply mem_foldl | simp only [memIs_mk] | split)

theorem State.idleFlit_mem {rM : Tab Byte} {s : State} (port : Nat) (w : BitVec 64) (h_s : s.memIs rM) :
    State.memIs rM (State.idleFlit s port w) := by
  unfold State.idleFlit
  try dsimp only
  with_reducible repeat' (first | assumption | intro _ | apply State.mboxGo_mem | apply State.mapLink_mem | apply State.trainFlit_mem | apply mem_ite | apply mem_foldl | simp only [memIs_mk] | split)

theorem State.record_mem {rM : Tab Byte} {s : State} (port : Nat) (phi : Nat) (turn : Nat) (w : BitVec 64) (h_s : s.memIs rM) :
    State.memIs rM (State.record s port phi turn w) := by
  unfold State.record
  try dsimp only
  with_reducible repeat' (first | assumption | intro _ | apply State.ndeorDecision_mem | apply State.ndeorExport_mem | apply State.abortArrives_mem | apply State.syncReq_mem | apply State.syncResp_mem | apply State.startHi_mem | apply State.startLo_mem | apply State.ping_mem | apply State.pong_mem | apply State.voteArrives_mem | apply State.decideArrives_mem | apply State.outcomeArrives_mem | apply mem_ite | apply mem_foldl | simp only [memIs_mk] | split)

theorem State.flitIn_mem {rM : Tab Byte} {s : State} (port : Nat) (mode : Nat) (dst : Nat) (cls : Nat) (phi : Nat) (turn : Nat) (w : BitVec 64) (h_s : s.memIs rM) :
    State.memIs rM (State.flitIn s port mode dst cls phi turn w) := by
  unfold State.flitIn
  try dsimp only
  with_reducible repeat' (first | assumption | intro _ | apply State.idleFlit_mem | apply State.count_mem | apply State.bulkIn_mem | apply State.unicast_mem | apply State.record_mem | apply State.mapLink_mem | apply State.mboxGo_mem | apply mem_ite | apply mem_foldl | simp only [memIs_mk] | split)

theorem State.badFrame_mem {rM : Tab Byte} {s : State} (port : Nat) (lane : Nat) (cls : Nat) (h_s : s.memIs rM) :
    State.memIs rM (State.badFrame s port lane cls) := by
  unfold State.badFrame
  try dsimp only
  with_reducible repeat' (first | assumption | intro _ | apply State.mapLink_mem | apply State.count_mem | apply State.wr_mem | apply State.portDown_mem | apply State.portTrain_mem | apply mem_ite | apply mem_foldl | simp only [memIs_mk] | split)

theorem State.goodFrame_mem {rM : Tab Byte} {s : State} (port : Nat) (lane : Nat) (h_s : s.memIs rM) :
    State.memIs rM (State.goodFrame s port lane) := by
  unfold State.goodFrame
  try dsimp only
  with_reducible repeat' (first | assumption | intro _ | apply State.mapLink_mem | apply State.wrB_mem | apply mem_ite | apply mem_foldl | simp only [memIs_mk] | split)

theorem State.frameIn_mem {rM : Tab Byte} {s : State} (port lane : Nat) (crc : BitVec 15) (mode dst cls phi turn : Nat) (w : BitVec 64) (h_s : s.memIs rM) :
    State.memIs rM (State.frameIn s port lane crc mode dst cls phi turn w) := by
  unfold State.frameIn
  try dsimp only
  with_reducible repeat' (first | assumption | intro _ | apply State.count_mem | apply State.flitIn_mem | apply State.goodFrame_mem | apply State.badFrame_mem | apply mem_ite | apply mem_foldl | simp only [memIs_mk] | split)

theorem State.mapSec_mem {rM : Tab Byte} {s : State} (g : Sec → Sec) (h_s : s.memIs rM) :
    State.memIs rM (State.mapSec s g) := by
  unfold State.mapSec
  try dsimp only
  with_reducible repeat' (first | assumption | intro _ | apply mem_ite | apply mem_foldl | simp only [memIs_mk] | split)

theorem State.lcRefuse_mem {rM : Tab Byte} {s : State} (cause : Nat) (h_s : s.memIs rM) :
    State.memIs rM (State.lcRefuse s cause) := by
  unfold State.lcRefuse
  try dsimp only
  with_reducible repeat' (first | assumption | intro _ | apply State.recErr_mem | apply mem_ite | apply mem_foldl | simp only [memIs_mk] | split)

theorem State.lcStart_mem {rM : Tab Byte} {s : State} (op : Nat) (key : List Byte) (h_s : s.memIs rM) :
    State.memIs rM (State.lcStart s op key) := by
  unfold State.lcStart
  try dsimp only
  with_reducible repeat' (first | assumption | intro _ | apply State.count_mem | apply State.mapSec_mem | apply mem_ite | apply mem_foldl | simp only [memIs_mk] | split)

theorem State.lcCmd_mem {rM : Tab Byte} {s : State} (v : Word) (h_s : s.memIs rM) :
    State.memIs rM (State.lcCmd s v) := by
  unfold State.lcCmd
  try dsimp only
  with_reducible repeat' (first | assumption | intro _ | apply State.lcRefuse_mem | apply State.lcStart_mem | apply State.count_mem | apply State.mapSec_mem | apply State.wrF_mem | apply mem_ite | apply mem_foldl | simp only [memIs_mk] | split)

theorem State.newChallenge_mem {rM : Tab Byte} {s : State} (h_s : s.memIs rM) :
    State.memIs rM (State.newChallenge s) := by
  unfold State.newChallenge
  try dsimp only
  with_reducible repeat' (first | assumption | intro _ | apply State.draw_mem | apply State.wr64_mem | apply mem_ite | apply mem_foldl | simp only [memIs_mk] | split)

theorem State.unlockFail_mem {rM : Tab Byte} {s : State} (path : Path) (cause : Nat) (h_s : s.memIs rM) :
    State.memIs rM (State.unlockFail s path cause) := by
  unfold State.unlockFail
  try dsimp only
  with_reducible repeat' (first | assumption | intro _ | apply State.count_mem | apply State.violate_mem | apply State.recErr_mem | apply mem_ite | apply mem_foldl | simp only [memIs_mk] | split)

theorem State.debugUnlock_mem {rM : Tab Byte} {s : State} (path : Path) (h_s : s.memIs rM) :
    State.memIs rM (State.debugUnlock s path) := by
  unfold State.debugUnlock
  try dsimp only
  with_reducible repeat' (first | assumption | intro _ | apply State.newChallenge_mem | apply State.unlockFail_mem | apply State.sigFail_mem | apply State.count_mem | apply State.mapSec_mem | apply State.wrF_mem | apply State.wrB_mem | apply mem_ite | apply mem_foldl | simp only [memIs_mk] | split)

theorem State.debugLock_mem {rM : Tab Byte} {s : State} (h_s : s.memIs rM) :
    State.memIs rM (State.debugLock s) := by
  unfold State.debugLock
  try dsimp only
  with_reducible repeat' (first | assumption | intro _ | apply State.wrB_mem | apply mem_ite | apply mem_foldl | simp only [memIs_mk] | split)

theorem State.debugCmd_mem {rM : Tab Byte} {s : State} (path : Path) (v : Word) (h_s : s.memIs rM) :
    State.memIs rM (State.debugCmd s path v) := by
  unfold State.debugCmd
  try dsimp only
  with_reducible repeat' (first | assumption | intro _ | apply State.debugUnlock_mem | apply State.debugLock_mem | apply mem_ite | apply mem_foldl | simp only [memIs_mk] | split)

theorem State.frondScrubEnd_mem {rM : Tab Byte} {s : State} (f : Nat) (h_s : s.memIs rM) :
    State.memIs rM (State.frondScrubEnd s f) := by
  unfold State.frondScrubEnd
  try dsimp only
  with_reducible repeat' (first | assumption | intro _ | apply State.wrB_mem | apply mem_ite | apply mem_foldl | simp only [memIs_mk] | split)

theorem State.granuleScrubEnd_mem {rM : Tab Byte} {s : State} (k : Nat) (h_s : s.memIs rM) :
    State.memIs rM (State.granuleScrubEnd s k) := by
  unfold State.granuleScrubEnd
  try dsimp only
  with_reducible repeat' (first | assumption | intro _ | apply State.showTufts_mem | apply State.count_mem | apply State.wrF_mem | apply State.wrB_mem | apply mem_ite | apply mem_foldl | simp only [memIs_mk] | split)

theorem State.bar2Miss_mem {rM : Tab Byte} {s : State} (path : Path) (off : Nat) (write : Bool) (x4 : Bar2) (h_s : s.memIs rM) :
    State.memIs rM (State.bar2Miss s path off write x4) := by
  unfold State.bar2Miss
  try dsimp only
  with_reducible repeat' (first | assumption | intro _ | apply State.count_mem | apply State.violate_mem | apply mem_ite | apply mem_foldl | simp only [memIs_mk] | split)

theorem State.bar2Read_mem {rM : Tab Byte} {s : State} (path : Path) (off : Nat) (n : Nat) (h_s : s.memIs rM) :
    State.memIs rM (State.bar2Read s path off n) := by
  unfold State.bar2Read
  try dsimp only
  with_reducible repeat' (first | assumption | intro _ | apply State.emit_mem | apply State.bar2Miss_mem | apply mem_ite | apply mem_foldl | simp only [memIs_mk] | split)

theorem State.crcError_mem {rM : Tab Byte} {s : State} (c : Nat) (kind : CrcKind) (persist : Bool) (h_s : s.memIs rM) :
    State.memIs rM (State.crcError s c kind persist) := by
  unfold State.crcError
  try dsimp only
  with_reducible repeat' (first | assumption | intro _ | apply State.occur_mem | apply State.count_mem | apply State.ringRefillBad_mem | apply State.setGrp_mem | apply State.emit_mem | apply mem_ite | apply mem_foldl | simp only [memIs_mk] | split)

theorem State.spdmReq_mem {rM : Tab Byte} {s : State} (ver : Nat) (stage : Nat) (k : State → State) (h_s : s.memIs rM) (h_k : ∀ t, t.memIs rM → (k t).memIs rM) :
    State.memIs rM (State.spdmReq s ver stage k) := by
  unfold State.spdmReq
  try dsimp only
  with_reducible repeat' (first | assumption | intro _ | apply State.emit_mem | apply h_k | apply mem_ite | apply mem_foldl | simp only [memIs_mk] | split)

theorem State.spdmGetVersion_mem {rM : Tab Byte} {s : State} (h_s : s.memIs rM) :
    State.memIs rM (State.spdmGetVersion s) := by
  unfold State.spdmGetVersion
  try dsimp only
  with_reducible repeat' (first | assumption | intro _ | apply State.emit_mem | apply State.mapSec_mem | apply mem_ite | apply mem_foldl | simp only [memIs_mk] | split)

theorem State.spdmCapabilities_mem {rM : Tab Byte} {s : State} (ver : Nat) (h_s : s.memIs rM) :
    State.memIs rM (State.spdmCapabilities s ver) := by
  unfold State.spdmCapabilities
  try dsimp only
  with_reducible repeat' (first | assumption | intro _ | apply State.spdmReq_mem | apply State.emit_mem | apply State.mapSec_mem | apply mem_ite | apply mem_foldl | simp only [memIs_mk] | split)

theorem State.spdmAlgorithms_mem {rM : Tab Byte} {s : State} (ver : Nat) (asym : Nat) (hash : Nat) (dhe : Nat) (aead : Nat) (h_s : s.memIs rM) :
    State.memIs rM (State.spdmAlgorithms s ver asym hash dhe aead) := by
  unfold State.spdmAlgorithms
  try dsimp only
  with_reducible repeat' (first | assumption | intro _ | apply State.spdmReq_mem | apply State.emit_mem | apply State.mapSec_mem | apply mem_ite | apply mem_foldl | simp only [memIs_mk] | split)

theorem State.spdmDigests_mem {rM : Tab Byte} {s : State} (ver : Nat) (h_s : s.memIs rM) :
    State.memIs rM (State.spdmDigests s ver) := by
  unfold State.spdmDigests
  try dsimp only
  with_reducible repeat' (first | assumption | intro _ | apply State.spdmReq_mem | apply State.emit_mem | apply mem_ite | apply mem_foldl | simp only [memIs_mk] | split)

theorem State.spdmCertificate_mem {rM : Tab Byte} {s : State} (ver : Nat) (slot : Nat) (off : Nat) (len : Nat) (h_s : s.memIs rM) :
    State.memIs rM (State.spdmCertificate s ver slot off len) := by
  unfold State.spdmCertificate
  try dsimp only
  with_reducible repeat' (first | assumption | intro _ | apply State.spdmReq_mem | apply State.emit_mem | apply mem_ite | apply mem_foldl | simp only [memIs_mk] | split)

theorem State.spdmChallenge_mem {rM : Tab Byte} {s : State} (ver : Nat) (slot : Nat) (nonce : List Byte) (h_s : s.memIs rM) :
    State.memIs rM (State.spdmChallenge s ver slot nonce) := by
  unfold State.spdmChallenge
  try dsimp only
  with_reducible repeat' (first | assumption | intro _ | apply State.spdmReq_mem | apply State.emit_mem | apply mem_ite | apply mem_foldl | simp only [memIs_mk] | split)

theorem State.spdmMeasurements_mem {rM : Tab Byte} {s : State} (ver : Nat) (index : Nat) (sign : Bool) (nonce : List Byte) (h_s : s.memIs rM) :
    State.memIs rM (State.spdmMeasurements s ver index sign nonce) := by
  unfold State.spdmMeasurements
  try dsimp only
  with_reducible repeat' (first | assumption | intro _ | apply State.spdmReq_mem | apply State.emit_mem | apply mem_ite | apply mem_foldl | simp only [memIs_mk] | split)

theorem State.spdmKeyExchange_mem {rM : Tab Byte} {s : State} (ver : Nat) (slot : Nat) (sid : Nat) (pub : List Byte) (h_s : s.memIs rM) :
    State.memIs rM (State.spdmKeyExchange s ver slot sid pub) := by
  unfold State.spdmKeyExchange
  try dsimp only
  with_reducible repeat' (first | assumption | intro _ | apply State.spdmReq_mem | apply State.emit_mem | apply State.mapSec_mem | apply mem_ite | apply mem_foldl | simp only [memIs_mk] | split)

theorem State.spdmFinish_mem {rM : Tab Byte} {s : State} (ver : Nat) (sid : Nat) (mac : List Byte) (h_s : s.memIs rM) :
    State.memIs rM (State.spdmFinish s ver sid mac) := by
  unfold State.spdmFinish
  try dsimp only
  with_reducible repeat' (first | assumption | intro _ | apply State.spdmReq_mem | apply State.emit_mem | apply State.mapSec_mem | apply mem_ite | apply mem_foldl | simp only [memIs_mk] | split)

theorem State.spdmInSession_mem {rM : Tab Byte} {s : State} (ver : Nat) (sid : Nat) (k : State → State) (h_s : s.memIs rM) (h_k : ∀ t, t.memIs rM → (k t).memIs rM) :
    State.memIs rM (State.spdmInSession s ver sid k) := by
  unfold State.spdmInSession
  try dsimp only
  with_reducible repeat' (first | assumption | intro _ | apply State.spdmReq_mem | apply State.emit_mem | apply h_k | apply mem_ite | apply mem_foldl | simp only [memIs_mk] | split)

theorem State.spdmHeartbeat_mem {rM : Tab Byte} {s : State} (ver : Nat) (sid : Nat) (h_s : s.memIs rM) :
    State.memIs rM (State.spdmHeartbeat s ver sid) := by
  unfold State.spdmHeartbeat
  try dsimp only
  with_reducible repeat' (first | assumption | intro _ | apply State.spdmInSession_mem | apply State.emit_mem | apply mem_ite | apply mem_foldl | simp only [memIs_mk] | split)

theorem State.spdmKeyUpdate_mem {rM : Tab Byte} {s : State} (ver : Nat) (sid : Nat) (op : Nat) (h_s : s.memIs rM) :
    State.memIs rM (State.spdmKeyUpdate s ver sid op) := by
  unfold State.spdmKeyUpdate
  try dsimp only
  with_reducible repeat' (first | assumption | intro _ | apply State.spdmInSession_mem | apply State.emit_mem | apply mem_ite | apply mem_foldl | simp only [memIs_mk] | split)

theorem State.spdmEnd_mem {rM : Tab Byte} {s : State} (ver : Nat) (sid : Nat) (h_s : s.memIs rM) :
    State.memIs rM (State.spdmEnd s ver sid) := by
  unfold State.spdmEnd
  try dsimp only
  with_reducible repeat' (first | assumption | intro _ | apply State.spdmInSession_mem | apply State.emit_mem | apply State.mapSec_mem | apply mem_ite | apply mem_foldl | simp only [memIs_mk] | split)

theorem State.modeRefuse_mem {rM : Tab Byte} {s : State} (cause : Nat) (off : Nat) (h_s : s.memIs rM) :
    State.memIs rM (State.modeRefuse s cause off) := by
  unfold State.modeRefuse
  try dsimp only
  with_reducible repeat' (first | assumption | intro _ | apply State.flag_mem | apply State.recErr_mem | apply mem_ite | apply mem_foldl | simp only [memIs_mk] | split)

theorem State.powerFlush_mem {rM : Tab Byte} {s : State} (h_s : s.memIs rM) :
    State.memIs rM (State.powerFlush s) := by
  unfold State.powerFlush
  try dsimp only
  with_reducible repeat' (first | assumption | intro _ | apply State.switchDom_mem | apply State.mapBoot_mem | apply mem_ite | apply mem_foldl | simp only [memIs_mk] | split)

theorem State.domains_mem {rM : Tab Byte} {s : State} (l : List Nat) (on : Bool) (h_s : s.memIs rM) :
    State.memIs rM (State.domains s l on) := by
  unfold State.domains
  try dsimp only
  with_reducible repeat' (first | assumption | intro _ | apply State.switchDom_mem | apply State.powerFlush_mem | apply State.mapBoot_mem | apply State.powerDue_mem | apply mem_ite | apply mem_foldl | simp only [memIs_mk] | split)

theorem State.applyGates_mem {rM : Tab Byte} {s : State} (h_s : s.memIs rM) :
    State.memIs rM (State.applyGates s) := by
  unfold State.applyGates
  try dsimp only
  with_reducible repeat' (first | assumption | intro _ | apply State.domains_mem | apply mem_ite | apply mem_foldl | simp only [memIs_mk] | split)

theorem State.toReady_mem {rM : Tab Byte} {s : State} (h_s : s.memIs rM) :
    State.memIs rM (State.toReady s) := by
  unfold State.toReady
  try dsimp only
  with_reducible repeat' (first | assumption | intro _ | apply State.applyGates_mem | apply State.setMode_mem | apply State.setTarget_mem | apply mem_ite | apply mem_foldl | simp only [memIs_mk] | split)

theorem State.runStopped_mem {rM : Tab Byte} {s : State} (h_s : s.memIs rM) :
    State.memIs rM (State.runStopped s) := by
  unfold State.runStopped
  try dsimp only
  with_reducible repeat' (first | assumption | intro _ | apply State.toReady_mem | apply State.forceFrom_mem | apply mem_ite | apply mem_foldl | simp only [memIs_mk] | split)

theorem State.runStopComplete_mem {rM : Tab Byte} {s : State} (h_s : s.memIs rM) :
    State.memIs rM (State.runStopComplete s) := by
  unfold State.runStopComplete
  try dsimp only
  with_reducible repeat' (first | assumption | intro _ | apply State.runStopped_mem | apply mem_ite | apply mem_foldl | simp only [memIs_mk] | split)

theorem State.forceFrond_mem {rM : Tab Byte} {s : State} (f : Nat) (h_s : s.memIs rM) :
    State.memIs rM (State.forceFrond s f) := by
  unfold State.forceFrond
  try dsimp only
  with_reducible repeat' (first | assumption | intro _ | apply State.setCrz_mem | apply mem_ite | apply mem_foldl | simp only [memIs_mk] | split)

theorem State.leaveOpen_mem {rM : Tab Byte} {s : State} (f : Nat) (h_s : s.memIs rM) :
    State.memIs rM (State.leaveOpen s f) := by
  unfold State.leaveOpen
  try dsimp only
  with_reducible repeat' (first | assumption | intro _ | apply State.leaveBy_mem | apply mem_ite | apply mem_foldl | simp only [memIs_mk] | split)

theorem State.stopExpired_mem {rM : Tab Byte} {s : State} (h_s : s.memIs rM) :
    State.memIs rM (State.stopExpired s) := by
  unfold State.stopExpired
  try dsimp only
  with_reducible repeat' (first | assumption | intro _ | apply State.forceFrond_mem | apply State.crzHalt_mem | apply State.mapBoot_mem | apply State.runStopped_mem | apply State.flag_mem | apply State.leaveOpen_mem | apply mem_ite | apply mem_foldl | simp only [memIs_mk] | split)

theorem State.stopTimeout_mem {rM : Tab Byte} {s : State} (h_s : s.memIs rM) :
    State.memIs rM (State.stopTimeout s) := by
  unfold State.stopTimeout
  try dsimp only
  with_reducible repeat' (first | assumption | intro _ | apply State.stopExpired_mem | apply mem_ite | apply mem_foldl | simp only [memIs_mk] | split)

theorem State.modeStart_mem {rM : Tab Byte} {s : State} (t : Nat) (h_s : s.memIs rM) :
    State.memIs rM (State.modeStart s t) := by
  unfold State.modeStart
  try dsimp only
  with_reducible repeat' (first | assumption | intro _ | apply State.setTarget_mem | apply State.mapBoot_mem | apply State.stopExpired_mem | apply mem_ite | apply mem_foldl | simp only [memIs_mk] | split)

theorem State.modeReq_mem {rM : Tab Byte} {s : State} (v : Word) (h_s : s.memIs rM) :
    State.memIs rM (State.modeReq s v) := by
  unfold State.modeReq
  try dsimp only
  with_reducible repeat' (first | assumption | intro _ | apply State.modeRefuse_mem | apply State.enterHold_mem | apply State.modeStart_mem | apply mem_ite | apply mem_foldl | simp only [memIs_mk] | split)

theorem State.modeReset_mem {rM : Tab Byte} {s : State} (v : Word) (h_s : s.memIs rM) :
    State.memIs rM (State.modeReset s v) := by
  unfold State.modeReset
  try dsimp only
  with_reducible repeat' (first | assumption | intro _ | apply State.modeRefuse_mem | apply State.setTarget_mem | apply mem_ite | apply mem_foldl | simp only [memIs_mk] | split)

theorem State.domainsOff_mem {rM : Tab Byte} {s : State} (h_s : s.memIs rM) :
    State.memIs rM (State.domainsOff s) := by
  unfold State.domainsOff
  try dsimp only
  with_reducible repeat' (first | assumption | intro _ | apply State.wr_mem | apply State.wrB_mem | apply mem_ite | apply mem_foldl | simp only [memIs_mk] | split)

theorem State.pgoodLost_mem {rM : Tab Byte} {s : State} (d : Nat) (h_s : s.memIs rM) :
    State.memIs rM (State.pgoodLost s d) := by
  unfold State.pgoodLost
  try dsimp only
  with_reducible repeat' (first | assumption | intro _ | apply State.fatal_mem | apply State.wrB_mem | apply mem_ite | apply mem_foldl | simp only [memIs_mk] | split)

theorem State.lockPowerOff_mem {rM : Tab Byte} {s : State} (h_s : s.memIs rM) :
    State.memIs rM (State.lockPowerOff s) := by
  unfold State.lockPowerOff
  try dsimp only
  with_reducible repeat' (first | assumption | intro _ | apply State.portDown_mem | apply State.domains_mem | apply mem_ite | apply mem_foldl | simp only [memIs_mk] | split)

theorem State.unlockNow_mem {rM : Tab Byte} {s : State} (ref : Bool) (h_s : s.memIs rM) :
    State.memIs rM (State.unlockNow s ref) := by
  unfold State.unlockNow
  try dsimp only
  with_reducible repeat' (first | assumption | intro _ | apply State.csUnlock_mem | apply State.flag_mem | apply State.setGrp_mem | apply State.enterHold_mem | apply State.wrB_mem | apply State.setCrz_mem | apply State.crzHalt_mem | apply State.powerFlush_mem | apply State.forceNow_mem | apply mem_ite | apply mem_foldl | simp only [memIs_mk] | split)

theorem State.tuftAbort_mem {rM : Tab Byte} {s : State} (t : Nat) (fn : Nat) (h_s : s.memIs rM) :
    State.memIs rM (State.tuftAbort s t fn) := by
  unfold State.tuftAbort
  try dsimp only
  with_reducible repeat' (first | assumption | intro _ | apply State.idlePlayers_mem | apply State.abandonTo_mem | apply State.emptySlots_mem | apply State.flag_mem | apply State.biasClear_mem | apply State.forceFrond_mem | apply State.abortStat_mem | apply State.tuftAborts_mem | apply State.crzDrop_mem | apply State.clearFrames_mem | apply mem_ite | apply mem_foldl | simp only [memIs_mk] | split)

theorem State.abortBell_mem {rM : Tab Byte} {s : State} (fn : Fin 32) (v : Word) (h_s : s.memIs rM) :
    State.memIs rM (State.abortBell s fn v) := by
  unfold State.abortBell
  try dsimp only
  with_reducible repeat' (first | assumption | intro _ | apply State.enterHold_mem | apply State.tuftAbort_mem | apply State.count_mem | apply State.violate_mem | apply mem_ite | apply mem_foldl | simp only [memIs_mk] | split)

theorem State.clearLatches_mem {rM : Tab Byte} {s : State} (fn : Fin 32) (h_s : s.memIs rM) :
    State.memIs rM (State.clearLatches s fn) := by
  unfold State.clearLatches
  try dsimp only
  with_reducible repeat' (first | assumption | intro _ | apply State.setQ_mem | apply mem_ite | apply mem_foldl | simp only [memIs_mk] | split)

theorem State.flr_mem {rM : Tab Byte} {s : State} (fn : Fin 32) (h_s : s.memIs rM) :
    State.memIs rM (State.flr s fn) := by
  unfold State.flr
  try dsimp only
  with_reducible repeat' (first | assumption | intro _ | apply State.clearLatches_mem | apply State.pathReset_mem | apply State.acqLinkStop_mem | apply mem_ite | apply mem_foldl | simp only [memIs_mk] | split)

theorem State.perst_mem {rM : Tab Byte} {s : State} (h_s : s.memIs rM) :
    State.memIs rM (State.perst s) := by
  unfold State.perst
  try dsimp only
  with_reducible repeat' (first | assumption | intro _ | apply State.clearLatches_mem | apply State.pathReset_mem | apply State.acqLinkStop_mem | apply State.wr_mem | apply mem_ite | apply mem_foldl | simp only [memIs_mk] | split)

theorem State.hostSetup_mem {rM : Tab Byte} {s : State} (relaxed : Bool) (masked : List (Nat × Nat)) (h_s : s.memIs rM) :
    State.memIs rM (State.hostSetup s relaxed masked) := by
  unfold State.hostSetup
  try dsimp only
  with_reducible repeat' (first | assumption | intro _ | apply State.msix_mem | apply mem_ite | apply mem_foldl | simp only [memIs_mk] | split)

theorem State.pcieUp_mem {rM : Tab Byte} {s : State} (width : Nat) (up : PcieUp) (h_s : s.memIs rM) :
    State.memIs rM (State.pcieUp s width up) := by
  unfold State.pcieUp
  try dsimp only
  with_reducible repeat' (first | assumption | intro _ | apply State.acqLinkUp_mem | apply State.wr_mem | apply State.hostSetup_mem | apply mem_ite | apply mem_foldl | simp only [memIs_mk] | split)

theorem State.domGate_mem {rM : Tab Byte} {s : State} (v : Word) (h_s : s.memIs rM) :
    State.memIs rM (State.domGate s v) := by
  unfold State.domGate
  try dsimp only
  with_reducible repeat' (first | assumption | intro _ | apply State.wr_mem | apply State.recErr_mem | apply State.applyGates_mem | apply mem_ite | apply mem_foldl | simp only [memIs_mk] | split)

theorem State.logCtrl_mem {rM : Tab Byte} {s : State} (v : Word) (h_s : s.memIs rM) :
    State.memIs rM (State.logCtrl s v) := by
  unfold State.logCtrl
  try dsimp only
  with_reducible repeat' (first | assumption | intro _ | apply State.wr_mem | apply State.mirrorLog_mem | apply mem_ite | apply mem_foldl | simp only [memIs_mk] | split)

theorem State.setBand_mem {rM : Tab Byte} {s : State} (lo : Nat) (new : Nat) (h_s : s.memIs rM) :
    State.memIs rM (State.setBand s lo new) := by
  unfold State.setBand
  try dsimp only
  with_reducible repeat' (first | assumption | intro _ | apply State.count_mem | apply State.flag_mem | apply State.wrF_mem | apply mem_ite | apply mem_foldl | simp only [memIs_mk] | split)

theorem State.thermBands_mem {rM : Tab Byte} {s : State} (h_s : s.memIs rM) :
    State.memIs rM (State.thermBands s) := by
  unfold State.thermBands
  try dsimp only
  with_reducible repeat' (first | assumption | intro _ | apply State.setBand_mem | apply State.wr_mem | apply State.bandSet_mem | apply mem_ite | apply mem_foldl | simp only [memIs_mk] | split)

theorem State.setStretch_mem {rM : Tab Byte} {s : State} (f : Nat) (h_s : s.memIs rM) :
    State.memIs rM (State.setStretch s f) := by
  unfold State.setStretch
  try dsimp only
  with_reducible repeat' (first | assumption | intro _ | apply State.wrF_mem | apply mem_ite | apply mem_foldl | simp only [memIs_mk] | split)

theorem mem_therm {rM : Tab Byte} {s : State} (x : Therm) (h : s.memIs rM) : State.memIs rM { s with therm := x } := h

theorem State.thermEval_mem {rM : Tab Byte} {s : State} (h_s : s.memIs rM) : State.memIs rM s.thermEval := by
  unfold State.thermEval
  split
  · exact h_s
  · extract_lets s1 s2 s3 warn s4 thr s5 f s6 hot th s7
    have h1 : s1.memIs rM := State.wr_mem _ _ _ h_s
    have h2 : s2.memIs rM := mem_ite (State.wr_mem _ _ _ h1) h1
    have h3 : s3.memIs rM := State.thermBands_mem h2
    have h4 : s4.memIs rM := mem_ite (State.count_mem _ _ _ (State.flag_mem _ _ (State.wrB_mem _ _ _ _ h3)))
      (mem_ite (State.wrB_mem _ _ _ _ h3) h3)
    have h5 : s5.memIs rM := mem_ite (State.count_mem _ _ _ (State.flag_mem _ _ (State.wrB_mem _ _ _ _ h4)))
      (mem_ite (State.wrB_mem _ _ _ _ h4) h4)
    have h6 : s6.memIs rM := State.wrB_mem _ _ _ _ (State.setStretch_mem _ h5)
    have h7 : s7.memIs rM := mem_therm _ h6
    exact mem_ite h3 (mem_ite (State.enterHold_mem _ h7) h7)

theorem State.thermStart_mem {rM : Tab Byte} {s : State} (h_s : s.memIs rM) : State.memIs rM s.thermStart := by
  unfold State.thermStart
  exact mem_therm _ (mem_foldl _ (mem_foldl _ h_s (fun a i ha => State.wr_mem _ _ _ ha))
    (fun a i ha => State.wr_mem _ _ _ (State.draw_mem ha)))

theorem State.modelStep_mem {rM : Tab Byte} {s : State} (nodes : List Int) (h_s : s.memIs rM) : State.memIs rM (s.modelStep nodes) := by
  unfold State.modelStep
  exact mem_ite h_s (State.thermEval_mem (mem_foldl _ (State.draw_mem h_s) (fun a x ha => State.wr_mem _ _ _ ha)))

theorem mem_diodeMark {rM : Tab Byte} (s : State) (i : Nat) (h_s : s.memIs rM) :
    State.memIs rM (
      let c := { s with therm := { s.therm with late := mset s.therm.late i } }
      if (dieDiodes (dieOf i)).all (fun j => c.rdB pDiode (0x100 + 4 * j) 30) then c.flag pTherm 4 else c) :=
  mem_ite (State.flag_mem _ _ (mem_therm _ h_s)) (mem_therm _ h_s)

theorem mem_diodeJudge {rM : Tab Byte} (v : State) (i : Nat) (h : v.memIs rM) :
    State.memIs rM (
      if !v.therm.running then v
      else match v.deviates i with
        | none => v
        | some false => v.wrF pDiode (0x100 + 4 * i) 17 16 0
        | some true =>
          if v.rdF pDiode (0x100 + 4 * i) 17 16 < 3 then v.wrF pDiode (0x100 + 4 * i) 17 16 (v.rdF pDiode (0x100 + 4 * i) 17 16 + 1)
          else
            let b := (((v.wrB pDiode (0x100 + 4 * i) 31 false).wrB pDiode (0x100 + 4 * i) 30 true).flag pTherm 2).count pTherm 3 1
            let c := { b with therm := { b.therm with late := mset b.therm.late i } }
            if (dieDiodes (dieOf i)).all (fun j => c.rdB pDiode (0x100 + 4 * j) 30) then c.flag pTherm 4 else c) := by
  refine mem_ite h ?_
  split
  · exact h
  · exact State.wrF_mem _ _ _ _ _ h
  · exact mem_ite (State.wrF_mem _ _ _ _ _ h) (mem_diodeMark _ _ (State.count_mem _ _ _ (State.flag_mem _ _
      (State.wrB_mem _ _ _ _ (State.wrB_mem _ _ _ _ h)))))

theorem State.diodeReading_mem {rM : Tab Byte} {s : State} (i : Nat) (t : BitVec 16) (h_s : s.memIs rM) :
    State.memIs rM (s.diodeReading i t) := by
  unfold State.diodeReading
  have h4 : ∀ s2 : State, s2.memIs rM → State.memIs rM (if i = 39 ∧ !s2.therm.running then s2.thermEval else s2) :=
    fun s2 h => mem_ite (State.thermEval_mem h) h
  have h5 : ∀ s1 : State, s1.memIs rM → State.memIs rM (if s1.rdB pDiode (0x100 + 4 * i) 30 then s1 else
      let v := s1.wrB pDiode (0x100 + 4 * i) 31 true
      if !v.therm.running then v
      else match v.deviates i with
        | none => v
        | some false => v.wrF pDiode (0x100 + 4 * i) 17 16 0
        | some true =>
          if v.rdF pDiode (0x100 + 4 * i) 17 16 < 3 then v.wrF pDiode (0x100 + 4 * i) 17 16 (v.rdF pDiode (0x100 + 4 * i) 17 16 + 1)
          else
            let b := (((v.wrB pDiode (0x100 + 4 * i) 31 false).wrB pDiode (0x100 + 4 * i) 30 true).flag pTherm 2).count pTherm 3 1
            let c := { b with therm := { b.therm with late := mset b.therm.late i } }
            if (dieDiodes (dieOf i)).all (fun j => c.rdB pDiode (0x100 + 4 * j) 30) then c.flag pTherm 4 else c) :=
    fun s1 h => mem_ite h (mem_diodeJudge _ i (State.wrB_mem _ _ _ _ h))
  exact mem_ite h_s (h4 _ (h5 _ (State.wrF_mem _ _ _ _ _ (mem_therm _ h_s))))

theorem State.diodeCmd_mem {rM : Tab Byte} {s : State} (v : Word) (h_s : s.memIs rM) : State.memIs rM (s.diodeCmd v) := by
  unfold State.diodeCmd
  refine mem_ite (State.recErr_mem _ _ _ h_s) (mem_ite (mem_therm _ ?_) h_s)
  exact State.wrB_mem _ _ _ _ (State.wrF_mem _ _ _ _ _ (State.wrB_mem _ _ _ _ h_s))

theorem State.powerSample_mem {rM : Tab Byte} {s : State} (p : List (BitVec 16)) (h_s : s.memIs rM) :
    State.memIs rM (State.powerSample s p) := by
  unfold State.powerSample
  try dsimp only
  with_reducible repeat' (first | assumption | intro _ | apply State.wr_mem | apply mem_ite | apply mem_foldl | simp only [memIs_mk] | split)

theorem State.refresh_mem {rM : Tab Byte} {s : State} (temps : List (Option (BitVec 16))) (h_s : s.memIs rM) :
    State.memIs rM (State.refresh s temps) := by
  unfold State.refresh
  try dsimp only
  with_reducible repeat' (first | assumption | intro _ | apply State.wrF_mem | apply State.setBand_mem | apply mem_ite | apply mem_foldl | simp only [memIs_mk] | split)

theorem State.snapCounters_mem {rM : Tab Byte} {s : State} (p : Nat) (h_s : s.memIs rM) :
    State.memIs rM (State.snapCounters s p) := by
  unfold State.snapCounters
  try dsimp only
  with_reducible repeat' (first | assumption | intro _ | apply State.wr64_mem | apply mem_ite | apply mem_foldl | simp only [memIs_mk] | split)

theorem State.failSet_mem {rM : Tab Byte} {s : State} (step : Nat) (unit : Nat) (failed : Bool) (h_s : s.memIs rM) :
    State.memIs rM (State.failSet s step unit failed) := by
  unfold State.failSet
  try dsimp only
  with_reducible repeat' (first | assumption | intro _ | apply State.wrF_mem | apply mem_ite | apply mem_foldl | simp only [memIs_mk] | split)

theorem State.phyOff_mem {rM : Tab Byte} {s : State} (step : Nat) (h_s : s.memIs rM) :
    State.memIs rM (State.phyOff s step) := by
  unfold State.phyOff
  try dsimp only
  with_reducible repeat' (first | assumption | intro _ | apply State.domains_mem | apply mem_ite | apply mem_foldl | simp only [memIs_mk] | split)

theorem State.fence_mem {rM : Tab Byte} {s : State} (step u : Nat) (late : Bool) (h_s : s.memIs rM) :
    State.memIs rM (State.fence s step u late) := by
  unfold State.fence
  try dsimp only
  with_reducible repeat' (first | assumption | intro _ | apply State.mapBoot_mem | apply State.domains_mem | apply State.phyOff_mem | apply State.setPort_mem | apply State.portDown_mem | apply mem_ite | apply mem_foldl | simp only [memIs_mk] | split)

theorem State.fenceForced_mem {rM : Tab Byte} {s : State} (step : Nat) (u : Nat) (t : Nat) (h_s : s.memIs rM) :
    State.memIs rM (State.fenceForced s step u t) := by
  unfold State.fenceForced
  try dsimp only
  with_reducible repeat' (first | assumption | intro _ | apply State.fence_mem | apply State.bootLog_mem | apply mem_ite | apply mem_foldl | simp only [memIs_mk] | split)

theorem State.stepOn_mem {rM : Tab Byte} {s : State} (n : Nat) (h_s : s.memIs rM) :
    State.memIs rM (State.stepOn s n) := by
  unfold State.stepOn
  try dsimp only
  with_reducible repeat' (first | assumption | intro _ | apply State.domains_mem | apply State.startRun_mem | apply State.hkCalStart_mem | apply State.wrB_mem | apply State.portTrain_mem | apply mem_ite | apply mem_foldl | simp only [memIs_mk] | split)

theorem State.startStep_mem {rM : Tab Byte} {s : State} (n : Nat) (t : Nat) (h_s : s.memIs rM) :
    State.memIs rM (State.startStep s n t) := by
  unfold State.startStep
  try dsimp only
  with_reducible repeat' (first | assumption | intro _ | apply State.mapBoot_mem | apply State.wrF_mem | apply State.stepOn_mem | apply State.fenceForced_mem | apply mem_ite | apply mem_foldl | simp only [memIs_mk] | split)

theorem State.enterBoot_mem {rM : Tab Byte} {s : State} (h_s : s.memIs rM) :
    State.memIs rM (State.enterBoot s) := by
  unfold State.enterBoot
  try dsimp only
  with_reducible repeat' (first | assumption | intro _ | apply State.wr_mem | apply State.mapBoot_mem | apply State.startStep_mem | apply State.wrB_mem | apply State.setMode_mem | apply mem_ite | apply mem_foldl | simp only [memIs_mk] | split)

theorem State.bootNow_mem {rM : Tab Byte} {s : State} (t : Nat) (h_s : s.memIs rM) :
    State.memIs rM (State.bootNow s t) := by
  unfold State.bootNow
  try dsimp only
  with_reducible repeat' (first | assumption | intro _ | apply State.mapBoot_mem | apply mem_ite | apply mem_foldl | simp only [memIs_mk] | split)

theorem State.bootStop_mem {rM : Tab Byte} {s : State} (step : Nat) (cause : Nat) (t : Nat) (detail : Nat) (h_s : s.memIs rM) :
    State.memIs rM (State.bootStop s step cause t detail) := by
  unfold State.bootStop
  try dsimp only
  with_reducible repeat' (first | assumption | intro _ | apply State.bootLog_mem | apply State.enterHold_mem | apply State.bootEnd_mem | apply State.bootNow_mem | apply mem_ite | apply mem_foldl | simp only [memIs_mk] | split)

theorem State.bootReady_mem {rM : Tab Byte} {s : State} (t : Nat) (h_s : s.memIs rM) :
    State.memIs rM (State.bootReady s t) := by
  unfold State.bootReady
  try dsimp only
  with_reducible repeat' (first | assumption | intro _ | apply State.applyGates_mem | apply State.setMode_mem | apply State.bootEnd_mem | apply mem_ite | apply mem_foldl | simp only [memIs_mk] | split)

theorem State.bootNext_mem {rM : Tab Byte} {s : State} (step : Nat) (t : Nat) (h_s : s.memIs rM) :
    State.memIs rM (State.bootNext s step t) := by
  unfold State.bootNext
  try dsimp only
  with_reducible repeat' (first | assumption | intro _ | apply State.bootReady_mem | apply State.startStep_mem | apply mem_ite | apply mem_foldl | simp only [memIs_mk] | split)

theorem State.restoreLog_mem {rM : Tab Byte} {s : State} (bad : Bool) (h_s : s.memIs rM) :
    State.memIs rM (State.restoreLog s bad) := by
  unfold State.restoreLog
  try dsimp only
  with_reducible repeat' (first | assumption | intro _ | apply State.mapBoot_mem | apply State.wrB_mem | apply State.wr_mem | apply State.wrF_mem | apply mem_ite | apply mem_foldl | simp only [memIs_mk] | split)

theorem State.stepDone_mem {rM : Tab Byte} {s : State} (step : Nat) (r : BootRes) (h_s : s.memIs rM) :
    State.memIs rM (State.stepDone s step r) := by
  unfold State.stepDone
  try dsimp only
  with_reducible repeat' (first | assumption | intro _ | apply State.loadBaseline_mem | apply State.restoreLog_mem | apply State.wrB_mem | apply State.wrF_mem | apply State.wr_mem | apply State.pcieUp_mem | apply State.mapSec_mem | apply State.mapBoot_mem | apply State.thermStart_mem | apply mem_ite | apply mem_foldl | simp only [memIs_mk] | split)

theorem State.stepPass_mem {rM : Tab Byte} {s : State} (step : Nat) (r : BootRes) (h_s : s.memIs rM) :
    State.memIs rM (State.stepPass s step r) := by
  unfold State.stepPass
  try dsimp only
  with_reducible repeat' (first | assumption | intro _ | apply State.bootLog_mem | apply State.failSet_mem | apply State.bootNext_mem | apply State.stepDone_mem | apply State.bootNow_mem | apply mem_ite | apply mem_foldl | simp only [memIs_mk] | split)

theorem State.stepFences_mem {rM : Tab Byte} {s : State} (step : Nat) (bad : List BootUnit) (h_s : s.memIs rM) :
    State.memIs rM (State.stepFences s step bad) := by
  unfold State.stepFences
  try dsimp only
  with_reducible repeat' (first | assumption | intro _ | apply State.fence_mem | apply State.bootLog_mem | apply State.failSet_mem | apply mem_ite | apply mem_foldl | simp only [memIs_mk] | split)

theorem State.wake_mem {rM : Tab Byte} {s : State} (h_s : s.memIs rM) :
    State.memIs rM (State.wake s) := by
  unfold State.wake
  try dsimp only
  with_reducible repeat' (first | assumption | intro _ | apply State.mapBoot_mem | apply State.enterBoot_mem | apply mem_ite | apply mem_foldl | simp only [memIs_mk] | split)

theorem State.powerOn_mem {rM : Tab Byte} {s : State} (h_s : s.memIs rM) :
    State.memIs rM (State.powerOn s) := by
  unfold State.powerOn
  try dsimp only
  with_reducible repeat' (first | assumption | intro _ | apply State.wrB_mem | apply State.mapBoot_mem | apply State.wake_mem | apply mem_ite | apply mem_foldl | simp only [memIs_mk] | split)

theorem State.leaveHold_mem {rM : Tab Byte} {s : State} (h_s : s.memIs rM) :
    State.memIs rM (State.leaveHold s) := by
  unfold State.leaveHold
  try dsimp only
  with_reducible repeat' (first | assumption | intro _ | apply State.wrF_mem | apply State.wr_mem | apply mem_ite | apply mem_foldl | simp only [memIs_mk] | split)

theorem execSwpulse_mem {rM : Tab Byte} (path : Path) (p : Fin 16) (j : Fin 2) (v : Word) {s : State} (h_s : s.memIs rM) :
    outMem rM (execSwpulse path p j v s) := by
  unfold execSwpulse
  try dsimp only
  with_reducible repeat' (first | assumption | intro _ | apply outMem_next | apply State.swPulse_mem | apply State.rowWrite_mem | apply mem_ite | apply mem_foldl | simp only [memIs_mk] | split)

theorem State.stbSw_mem {rM : Tab Byte} {s : State} (v : Word) (h_s : s.memIs rM) :
    State.memIs rM (State.stbSw s v) := by
  unfold State.stbSw
  try dsimp only
  with_reducible repeat' (first | assumption | intro _ | apply State.strobe_mem | apply mem_ite | apply mem_foldl | simp only [memIs_mk] | split)

theorem execStbSw_mem {rM : Tab Byte} (path : Path) (v : BitVec 8) {s : State} (h_s : s.memIs rM) :
    outMem rM (execStbSw path v s) := by
  unfold execStbSw
  try dsimp only
  with_reducible repeat' (first | assumption | intro _ | apply outMem_next | apply State.stbSw_mem | apply State.rowWrite_mem | apply mem_ite | apply mem_foldl | simp only [memIs_mk] | split)

theorem execStrobeLoad_mem {rM : Tab Byte} (h : Nat) (n : Fin 8) {s : State} (h_s : s.memIs rM) :
    outMem rM (execStrobeLoad h n s) := by
  unfold execStrobeLoad
  try dsimp only
  with_reducible repeat' (first | assumption | intro _ | apply outMem_next | apply State.strobeLoad_mem | apply State.hkTo_mem | apply mem_ite | apply mem_foldl | simp only [memIs_mk] | split)

theorem execWinmonEnable_mem {rM : Tab Byte} (path : Path) (w : Fin 16) (v : Word) {s : State} (h_s : s.memIs rM) :
    outMem rM (execWinmonEnable path w v s) := by
  unfold execWinmonEnable
  try dsimp only
  with_reducible repeat' (first | assumption | intro _ | apply outMem_next | apply State.winCfg_mem | apply State.rowWrite_mem | apply mem_ite | apply mem_foldl | simp only [memIs_mk] | split)

theorem execThermoExc_mem {rM : Tab Byte} (path : Path) (h : Nat) (c : Fin 16) (v : Word) {s : State} (h_s : s.memIs rM) :
    outMem rM (execThermoExc path h c v s) := by
  unfold execThermoExc
  try dsimp only
  with_reducible repeat' (first | assumption | intro _ | apply outMem_next | apply State.hkTo_mem | apply State.thExc_mem | apply State.rowWrite_mem | apply mem_ite | apply mem_foldl | simp only [memIs_mk] | split)

theorem execThermoResult_mem {rM : Tab Byte} (h : Nat) (c : Fin 16) (m : ThermoMeas) {s : State} (h_s : s.memIs rM) :
    outMem rM (execThermoResult h c m s) := by
  unfold execThermoResult
  try dsimp only
  with_reducible repeat' (first | assumption | intro _ | apply outMem_next | apply State.hkTo_mem | apply State.thermoResult_mem | apply mem_ite | apply mem_foldl | simp only [memIs_mk] | split)

theorem execPolarityReversal_mem {rM : Tab Byte} (h : Nat) (c : Fin 16) {s : State} (h_s : s.memIs rM) :
    outMem rM (execPolarityReversal h c s) := by
  unfold execPolarityReversal
  try dsimp only
  with_reducible repeat' (first | assumption | intro _ | apply outMem_next | apply State.thReverse_mem | apply State.hkTo_mem | apply mem_ite | apply mem_foldl | simp only [memIs_mk] | split)

theorem execHkConversion_mem {rM : Tab Byte} (h : Nat) (x : Option Int) {s : State} (h_s : s.memIs rM) :
    outMem rM (execHkConversion h x s) := by
  unfold execHkConversion
  try dsimp only
  with_reducible repeat' (first | assumption | intro _ | apply outMem_next | apply State.conversion_mem | apply State.hkTo_mem | apply mem_ite | apply mem_foldl | simp only [memIs_mk] | split)

theorem State.hkadcCmd_mem {rM : Tab Byte} {s : State} (v : Word) (h_s : s.memIs rM) :
    State.memIs rM (State.hkadcCmd s v) := by
  unfold State.hkadcCmd
  try dsimp only
  with_reducible repeat' (first | assumption | intro _ | apply State.injRequest_mem | apply mem_ite | apply mem_foldl | simp only [memIs_mk] | split)

theorem execHkInject_mem {rM : Tab Byte} (path : Path) (h : Nat) (key : BitVec 16) {s : State} (h_s : s.memIs rM) :
    outMem rM (execHkInject path h key s) := by
  unfold execHkInject
  try dsimp only
  with_reducible repeat' (first | assumption | intro _ | apply outMem_next | apply State.hkTo_mem | apply State.hkadcCmd_mem | apply State.rowWrite_mem | apply mem_ite | apply mem_foldl | simp only [memIs_mk] | split)

theorem execTimerPeriod_mem {rM : Tab Byte} (h : Nat) (n : Fin 4) {s : State} (h_s : s.memIs rM) :
    outMem rM (execTimerPeriod h n s) := by
  unfold execTimerPeriod
  try dsimp only
  with_reducible repeat' (first | assumption | intro _ | apply outMem_next | apply State.timerPeriod_mem | apply State.hkTo_mem | apply mem_ite | apply mem_foldl | simp only [memIs_mk] | split)

theorem State.clrAssert_mem {rM : Tab Byte} {s : State} (b : Nat) (h_s : s.memIs rM) :
    State.memIs rM (State.clrAssert s b) := by
  unfold State.clrAssert
  try dsimp only
  with_reducible repeat' (first | assumption | intro _ | apply State.flag_mem | apply State.biasClearAll_mem | apply mem_ite | apply mem_foldl | simp only [memIs_mk] | split)

theorem State.clrRelease_mem {rM : Tab Byte} {s : State} (b : Nat) (h_s : s.memIs rM) :
    State.memIs rM (State.clrRelease s b) := by
  unfold State.clrRelease
  try dsimp only
  with_reducible repeat' (first | assumption | intro _ | apply mem_ite | apply mem_foldl | simp only [memIs_mk] | split)

theorem State.activeRead_mem {rM : Tab Byte} {s : State} (path : Path) (p : Pg) (off : Nat) (h_s : s.memIs rM) :
    State.memIs rM (State.activeRead s path p off) := by
  unfold State.activeRead
  try dsimp only
  with_reducible repeat' (first | assumption | intro _ | apply State.headRead_mem | apply State.mboxRead_mem | apply State.laneLive_mem | apply State.answerPair_mem | apply State.answer_mem | apply mem_ite | apply mem_foldl | simp only [memIs_mk] | split)

theorem State.shadowRead_mem {rM : Tab Byte} {s : State} (path : Path) (p : Pg) (off : Nat) (h_s : s.memIs rM) :
    State.memIs rM (State.shadowRead s path p off) := by
  unfold State.shadowRead
  try dsimp only
  with_reducible repeat' (first | assumption | intro _ | apply State.answerPair_mem | apply State.answer_mem | apply mem_ite | apply mem_foldl | simp only [memIs_mk] | split)

theorem State.readNow_mem {rM : Tab Byte} {s : State} (path : Path) (a : Nat) (h_s : s.memIs rM) :
    State.memIs rM (State.readNow s path a) := by
  unfold State.readNow
  try dsimp only
  with_reducible repeat' (first | assumption | intro _ | apply State.answer_mem | apply State.unmapped_mem | apply State.violate_mem | apply State.activeRead_mem | apply State.shadowRead_mem | apply mem_ite | apply mem_foldl | simp only [memIs_mk] | split)

theorem State.readDword_mem {rM : Tab Byte} {s : State} (path : Path) (a : Nat) (skip : Option Nat) (h_s : s.memIs rM) :
    State.memIs rM (State.readDword s path a skip) := by
  unfold State.readDword
  try dsimp only
  with_reducible repeat' (first | assumption | intro _ | apply State.putBehind_mem | apply State.readNow_mem | apply mem_ite | apply mem_foldl | simp only [memIs_mk] | split)

theorem State.afterWrite_mem {rM : Tab Byte} {s : State} (p : Pg) (off : Nat) (h_s : s.memIs rM) :
    State.memIs rM (State.afterWrite s p off) := by
  unfold State.afterWrite
  try dsimp only
  with_reducible repeat' (first | assumption | intro _ | apply State.wr64_mem | apply State.alarmLate_mem | apply State.routeSet_mem | apply mem_ite | apply mem_foldl | simp only [memIs_mk] | split)

theorem State.plainWrite_mem {rM : Tab Byte} {s : State} (p : Pg) (off : Nat) (v : Word) (h_s : s.memIs rM) :
    State.memIs rM (State.plainWrite s p off v) := by
  unfold State.plainWrite
  try dsimp only
  with_reducible repeat' (first | assumption | intro _ | apply State.afterWrite_mem | apply State.wr_mem | apply mem_ite | apply mem_foldl | simp only [memIs_mk] | split)

theorem State.ctrlWrite_mem {rM : Tab Byte} {s : State} (p : Pg) (v : Word) (h_s : s.memIs rM) :
    State.memIs rM (State.ctrlWrite s p v) := by
  unfold State.ctrlWrite
  try dsimp only
  with_reducible repeat' (first | assumption | intro _ | apply State.plainWrite_mem | apply State.cntClr_mem | apply State.wrF_mem | apply State.wr_mem | apply mem_ite | apply mem_foldl | simp only [memIs_mk] | split)

theorem State.pairWrite_mem {rM : Tab Byte} {s0 : State} (path : Path) (p : Pg) (off : Nat) (v : Word) (h_s0 : s0.memIs rM) :
    State.memIs rM (State.pairWrite s0 path p off v) := by
  unfold State.pairWrite
  try dsimp only
  with_reducible repeat' (first | assumption | intro _ | apply State.rwcWrite_mem | apply State.mboxTx_mem | apply State.wr_mem | apply State.plainWrite_mem | apply mem_ite | apply mem_foldl | simp only [memIs_mk] | split)

theorem State.inTurn_mem {rM : Tab Byte} {s : State} (path : Path) (q : Nat) (off : Nat) (v : Option Word) (k : State → State) (h_s : s.memIs rM) (h_k : ∀ t, t.memIs rM → (k t).memIs rM) :
    State.memIs rM (State.inTurn s path q off v k) := by
  unfold State.inTurn
  try dsimp only
  with_reducible repeat' (first | assumption | intro _ | apply State.putBehind_mem | apply h_k | apply mem_ite | apply mem_foldl | simp only [memIs_mk] | split)

theorem State.badAccess_mem {rM : Tab Byte} {s : State} (path : Path) (a : Nat) (write : Bool) (h_s : s.memIs rM) :
    State.memIs rM (State.badAccess s path a write) := by
  unfold State.badAccess
  try dsimp only
  with_reducible repeat' (first | assumption | intro _ | apply State.unmapped_mem | apply State.withWrite_mem | apply State.recErr_mem | apply State.violate_mem | apply mem_ite | apply mem_foldl | simp only [memIs_mk] | split)

theorem State.busRead_mem {rM : Tab Byte} {s : State} (path : Path) (a : Nat) (n : Nat) (be : Bool) (h_s : s.memIs rM) :
    State.memIs rM (State.busRead s path a n be) := by
  unfold State.busRead
  try dsimp only
  with_reducible repeat' (first | assumption | intro _ | apply State.readDword_mem | apply State.answer_mem | apply State.badAccess_mem | apply mem_ite | apply mem_foldl | simp only [memIs_mk] | split)

theorem State.smbusRead_mem {rM : Tab Byte} {s : State} (a : Nat) (h_s : s.memIs rM) :
    State.memIs rM (State.smbusRead s a) := by
  unfold State.smbusRead
  try dsimp only
  with_reducible repeat' (first | assumption | intro _ | apply State.emit_mem | apply State.busRead_mem | apply mem_ite | apply mem_foldl | simp only [memIs_mk] | split)

theorem execLoRead_mem {rM : Tab Byte} (path : Path) (a : BitVec 25) (dw : Nat) (be : Bool) {s : State} (h_s : s.memIs rM) :
    outMem rM (execLoRead path a dw be s) := by
  unfold execLoRead
  try dsimp only
  with_reducible repeat' (first | assumption | intro _ | apply outMem_next | apply State.busRead_mem | apply mem_ite | apply mem_foldl | simp only [memIs_mk] | split)

theorem execSmbusRegRead_mem {rM : Tab Byte} (a : BitVec 32) {s : State} (h_s : s.memIs rM) :
    outMem rM (execSmbusRegRead a s) := by
  unfold execSmbusRegRead
  try dsimp only
  with_reducible repeat' (first | assumption | intro _ | apply outMem_next | apply State.smbusRead_mem | apply mem_ite | apply mem_foldl | simp only [memIs_mk] | split)

theorem execSelfcal_mem {rM : Tab Byte} (path : Path) (f : Fin 32) (key : BitVec 16) {s : State} (h_s : s.memIs rM) :
    outMem rM (execSelfcal path f key s) := by
  unfold execSelfcal
  try dsimp only
  with_reducible repeat' (first | assumption | intro _ | apply outMem_next | apply State.adcCmd_mem | apply State.rowWrite_mem | apply mem_ite | apply mem_foldl | simp only [memIs_mk] | split)

theorem execCalFull_mem {rM : Tab Byte} (path : Path) (f : Fin 32) (key : BitVec 16) {s : State} (h_s : s.memIs rM) :
    outMem rM (execCalFull path f key s) := by
  unfold execCalFull
  try dsimp only
  with_reducible repeat' (first | assumption | intro _ | apply outMem_next | apply State.calfCmd_mem | apply State.rowWrite_mem | apply mem_ite | apply mem_foldl | simp only [memIs_mk] | split)

theorem execCalDac_mem {rM : Tab Byte} (path : Path) (f : Fin 32) (key : BitVec 16) {s : State} (h_s : s.memIs rM) :
    outMem rM (execCalDac path f key s) := by
  unfold execCalDac
  try dsimp only
  with_reducible repeat' (first | assumption | intro _ | apply outMem_next | apply State.calfCmd_mem | apply State.rowWrite_mem | apply mem_ite | apply mem_foldl | simp only [memIs_mk] | split)

theorem execFuseBurn_mem {rM : Tab Byte} (path : Path) (key : BitVec 16) {s : State} (h_s : s.memIs rM) :
    outMem rM (execFuseBurn path key s) := by
  unfold execFuseBurn
  try dsimp only
  with_reducible repeat' (first | assumption | intro _ | apply outMem_next | apply State.fuseCmd_mem | apply State.rowWrite_mem | apply mem_ite | apply mem_foldl | simp only [memIs_mk] | split)

theorem execFuseBurnDone_mem {rM : Tab Byte} (ok : Bool) {s : State} (h_s : s.memIs rM) :
    outMem rM (execFuseBurnDone ok s) := by
  unfold execFuseBurnDone
  try dsimp only
  with_reducible repeat' (first | assumption | intro _ | apply outMem_next | apply State.burnDone_mem | apply mem_ite | apply mem_foldl | simp only [memIs_mk] | split)

theorem execFuseRevoke_mem {rM : Tab Byte} (path : Path) (key : BitVec 16) (g : Fin 8) {s : State} (h_s : s.memIs rM) :
    outMem rM (execFuseRevoke path key g s) := by
  unfold execFuseRevoke
  try dsimp only
  with_reducible repeat' (first | assumption | intro _ | apply outMem_next | apply State.fuseCmd_mem | apply State.rowWrite_mem | apply mem_ite | apply mem_foldl | simp only [memIs_mk] | split)

theorem execFuseRevokeDone_mem {rM : Tab Byte} {s : State} (h_s : s.memIs rM) :
    outMem rM (execFuseRevokeDone s) := by
  unfold execFuseRevokeDone
  try dsimp only
  with_reducible repeat' (first | assumption | intro _ | apply outMem_next | apply State.revokeDone_mem | apply mem_ite | apply mem_foldl | simp only [memIs_mk] | split)

theorem execHkCalAdc_mem {rM : Tab Byte} (path : Path) (h : Nat) (key : BitVec 16) {s : State} (h_s : s.memIs rM) :
    outMem rM (execHkCalAdc path h key s) := by
  unfold execHkCalAdc
  try dsimp only
  with_reducible repeat' (first | assumption | intro _ | apply outMem_next | apply State.hkTo_mem | apply State.hkCalCmd_mem | apply State.rowWrite_mem | apply mem_ite | apply mem_foldl | simp only [memIs_mk] | split)

theorem execHkCalBias_mem {rM : Tab Byte} (path : Path) (h : Nat) (key : BitVec 16) {s : State} (h_s : s.memIs rM) :
    outMem rM (execHkCalBias path h key s) := by
  unfold execHkCalBias
  try dsimp only
  with_reducible repeat' (first | assumption | intro _ | apply outMem_next | apply State.hkTo_mem | apply State.hkCalCmd_mem | apply State.rowWrite_mem | apply mem_ite | apply mem_foldl | simp only [memIs_mk] | split)

theorem execHkCalThermo_mem {rM : Tab Byte} (path : Path) (h : Nat) (key : BitVec 16) {s : State} (h_s : s.memIs rM) :
    outMem rM (execHkCalThermo path h key s) := by
  unfold execHkCalThermo
  try dsimp only
  with_reducible repeat' (first | assumption | intro _ | apply outMem_next | apply State.hkTo_mem | apply State.hkCalCmd_mem | apply State.rowWrite_mem | apply mem_ite | apply mem_foldl | simp only [memIs_mk] | split)

theorem execClockSet_mem {rM : Tab Byte} (path : Path) (m : Nat) (key : BitVec 16) {s : State} (h_s : s.memIs rM) :
    outMem rM (execClockSet path m key s) := by
  unfold execClockSet
  try dsimp only
  with_reducible repeat' (first | assumption | intro _ | apply outMem_next | apply State.macTo_mem | apply State.clockCmd_mem | apply State.rowWrite_mem | apply mem_ite | apply mem_foldl | simp only [memIs_mk] | split)

theorem execClockAdj_mem {rM : Tab Byte} (path : Path) (m : Nat) (key : BitVec 16) {s : State} (h_s : s.memIs rM) :
    outMem rM (execClockAdj path m key s) := by
  unfold execClockAdj
  try dsimp only
  with_reducible repeat' (first | assumption | intro _ | apply outMem_next | apply State.macTo_mem | apply State.clockCmd_mem | apply State.rowWrite_mem | apply mem_ite | apply mem_foldl | simp only [memIs_mk] | split)

theorem execClockSnap_mem {rM : Tab Byte} (path : Path) (m : Nat) (key : BitVec 16) {s : State} (h_s : s.memIs rM) :
    outMem rM (execClockSnap path m key s) := by
  unfold execClockSnap
  try dsimp only
  with_reducible repeat' (first | assumption | intro _ | apply outMem_next | apply State.macTo_mem | apply State.clockCmd_mem | apply State.rowWrite_mem | apply mem_ite | apply mem_foldl | simp only [memIs_mk] | split)

theorem execClockAlarm_mem {rM : Tab Byte} (m : Nat) (n : Fin 2) {s : State} (h_s : s.memIs rM) :
    outMem rM (execClockAlarm m n s) := by
  unfold execClockAlarm
  try dsimp only
  with_reducible repeat' (first | assumption | intro _ | apply outMem_next | apply State.alarmFire_mem | apply State.macTo_mem | apply mem_ite | apply mem_foldl | simp only [memIs_mk] | split)

theorem execOpenGroup_mem {rM : Tab Byte} (path : Path) (g : Fin 64) (key : BitVec 16) {s : State} (h_s : s.memIs rM) :
    outMem rM (execOpenGroup path g key s) := by
  unfold execOpenGroup
  try dsimp only
  with_reducible repeat' (first | assumption | intro _ | apply outMem_next | apply State.grpCmd_mem | apply State.rowWrite_mem | apply mem_ite | apply mem_foldl | simp only [memIs_mk] | split)

theorem execArmGroup_mem {rM : Tab Byte} (path : Path) (g : Fin 64) (key : BitVec 16) {s : State} (h_s : s.memIs rM) :
    outMem rM (execArmGroup path g key s) := by
  unfold execArmGroup
  try dsimp only
  with_reducible repeat' (first | assumption | intro _ | apply outMem_next | apply State.grpCmd_mem | apply State.rowWrite_mem | apply mem_ite | apply mem_foldl | simp only [memIs_mk] | split)

theorem execAbortGroup_mem {rM : Tab Byte} (path : Path) (g : Fin 64) (key : BitVec 16) {s : State} (h_s : s.memIs rM) :
    outMem rM (execAbortGroup path g key s) := by
  unfold execAbortGroup
  try dsimp only
  with_reducible repeat' (first | assumption | intro _ | apply outMem_next | apply State.grpCmd_mem | apply State.rowWrite_mem | apply mem_ite | apply mem_foldl | simp only [memIs_mk] | split)

theorem execSyncMessage_mem {rM : Tab Byte} (x : PtpMsg) {s : State} (h_s : s.memIs rM) :
    outMem rM (execSyncMessage x s) := by
  unfold execSyncMessage
  try dsimp only
  with_reducible repeat' (first | assumption | intro _ | apply outMem_next | apply State.ptpRx_mem | apply State.ptpSync_mem | apply mem_ite | apply mem_foldl | simp only [memIs_mk] | split)

theorem execFollowUp_mem {rM : Tab Byte} (x : PtpMsg) {s : State} (h_s : s.memIs rM) :
    outMem rM (execFollowUp x s) := by
  unfold execFollowUp
  try dsimp only
  with_reducible repeat' (first | assumption | intro _ | apply outMem_next | apply State.ptpRx_mem | apply State.ptpFollow_mem | apply mem_ite | apply mem_foldl | simp only [memIs_mk] | split)

theorem execDelayResp_mem {rM : Tab Byte} (x : PtpMsg) {s : State} (h_s : s.memIs rM) :
    outMem rM (execDelayResp x s) := by
  unfold execDelayResp
  try dsimp only
  with_reducible repeat' (first | assumption | intro _ | apply outMem_next | apply State.ptpRx_mem | apply State.ptpDelayResp_mem | apply mem_ite | apply mem_foldl | simp only [memIs_mk] | split)

theorem execPdelayResp_mem {rM : Tab Byte} (x : PtpMsg) {s : State} (h_s : s.memIs rM) :
    outMem rM (execPdelayResp x s) := by
  unfold execPdelayResp
  try dsimp only
  with_reducible repeat' (first | assumption | intro _ | apply outMem_next | apply State.ptpRx_mem | apply State.ptpPdelayResp_mem | apply mem_ite | apply mem_foldl | simp only [memIs_mk] | split)

theorem execPdelayRespFollowUp_mem {rM : Tab Byte} (x : PtpMsg) {s : State} (h_s : s.memIs rM) :
    outMem rM (execPdelayRespFollowUp x s) := by
  unfold execPdelayRespFollowUp
  try dsimp only
  with_reducible repeat' (first | assumption | intro _ | apply outMem_next | apply State.ptpRx_mem | apply State.ptpPdelayFollow_mem | apply mem_ite | apply mem_foldl | simp only [memIs_mk] | split)

theorem execAnnounce_mem {rM : Tab Byte} (x : PtpMsg) {s : State} (h_s : s.memIs rM) :
    outMem rM (execAnnounce x s) := by
  unfold execAnnounce
  try dsimp only
  with_reducible repeat' (first | assumption | intro _ | apply outMem_next | apply State.ptpRx_mem | apply State.ptpAnnounce_mem | apply mem_ite | apply mem_foldl | simp only [memIs_mk] | split)

theorem execDelayReq_mem {rM : Tab Byte} (x : PtpMsg) {s : State} (h_s : s.memIs rM) :
    outMem rM (execDelayReq x s) := by
  unfold execDelayReq
  try dsimp only
  with_reducible repeat' (first | assumption | intro _ | apply outMem_next | apply State.ptpRx_mem | apply State.ptpDelayReq_mem | apply mem_ite | apply mem_foldl | simp only [memIs_mk] | split)

theorem execPdelayReq_mem {rM : Tab Byte} (x : PtpMsg) {s : State} (h_s : s.memIs rM) :
    outMem rM (execPdelayReq x s) := by
  unfold execPdelayReq
  try dsimp only
  with_reducible repeat' (first | assumption | intro _ | apply outMem_next | apply State.ptpRx_mem | apply State.ptpPdelayReq_mem | apply mem_ite | apply mem_foldl | simp only [memIs_mk] | split)

theorem execSignaling_mem {rM : Tab Byte} (x : PtpMsg) {s : State} (h_s : s.memIs rM) :
    outMem rM (execSignaling x s) := by
  unfold execSignaling
  try dsimp only
  with_reducible repeat' (first | assumption | intro _ | apply outMem_next | apply State.ptpRx_mem | apply State.count_mem | apply mem_ite | apply mem_foldl | simp only [memIs_mk] | split)

theorem State.ethPlace_mem {rM : Tab Byte} {s : State} (port : Nat) (bytes : List Byte) (full : Bool) (h_s : s.memIs rM) :
    State.memIs rM (State.ethPlace s port bytes full) := by
  unfold State.ethPlace
  try dsimp only
  with_reducible repeat' (first | assumption | intro _ | apply State.count_mem | apply State.emit_mem | apply mem_ite | apply mem_foldl | simp only [memIs_mk] | split)

theorem State.mgmtPlace_mem {rM : Tab Byte} {s : State} (x : PtpMsg) (raw : List Byte) (full : Bool) (h_s : s.memIs rM) :
    State.memIs rM (State.mgmtPlace s x raw full) := by
  unfold State.mgmtPlace
  try dsimp only
  with_reducible repeat' (first | assumption | intro _ | apply State.ethPlace_mem | apply mem_ite | apply mem_foldl | simp only [memIs_mk] | split)

theorem execManagement_mem {rM : Tab Byte} (x : PtpMsg) (raw : List Byte) (full : Bool) {s : State} (h_s : s.memIs rM) :
    outMem rM (execManagement x raw full s) := by
  unfold execManagement
  try dsimp only
  with_reducible repeat' (first | assumption | intro _ | apply outMem_next | apply State.mgmtPlace_mem | apply State.ptpRx_mem | apply State.count_mem | apply State.flag_mem | apply mem_ite | apply mem_foldl | simp only [memIs_mk] | split)

theorem execPtpMessageTx_mem {rM : Tab Byte} (m : Nat) (n : Fin 2) (port : Fin 2) (kind : Nat) {s : State} (h_s : s.memIs rM) :
    outMem rM (execPtpMessageTx m n port kind s) := by
  unfold execPtpMessageTx
  try dsimp only
  with_reducible repeat' (first | assumption | intro _ | apply outMem_next | apply State.ptpSend_mem | apply State.macFix_mem | apply mem_ite | apply mem_foldl | simp only [memIs_mk] | split)

theorem execAnnounceTimeout_mem {rM : Tab Byte} (m : Nat) (n : Fin 2) (port : Fin 2) (ann : Bool) {s : State} (h_s : s.memIs rM) :
    outMem rM (execAnnounceTimeout m n port ann s) := by
  unfold execAnnounceTimeout
  try dsimp only
  with_reducible repeat' (first | assumption | intro _ | apply outMem_next | apply State.ptpTimeout_mem | apply State.macTo_mem | apply mem_ite | apply mem_foldl | simp only [memIs_mk] | split)

theorem execServoSel_mem {rM : Tab Byte} (path : Path) (m : Nat) (v : Word) {s : State} (h_s : s.memIs rM) :
    outMem rM (execServoSel path m v s) := by
  unfold execServoSel
  try dsimp only
  with_reducible repeat' (first | assumption | intro _ | apply outMem_next | apply State.macTo_mem | apply State.servoCtrl_mem | apply State.rowWrite_mem | apply mem_ite | apply mem_foldl | simp only [memIs_mk] | split)

theorem execCsyncJoin_mem {rM : Tab Byte} (path : Path) (key : BitVec 16) {s : State} (h_s : s.memIs rM) :
    outMem rM (execCsyncJoin path key s) := by
  unfold execCsyncJoin
  try dsimp only
  with_reducible repeat' (first | assumption | intro _ | apply outMem_next | apply State.csCmd_mem | apply State.rowWrite_mem | apply mem_ite | apply mem_foldl | simp only [memIs_mk] | split)

theorem execCsyncLeave_mem {rM : Tab Byte} (path : Path) (key : BitVec 16) {s : State} (h_s : s.memIs rM) :
    outMem rM (execCsyncLeave path key s) := by
  unfold execCsyncLeave
  try dsimp only
  with_reducible repeat' (first | assumption | intro _ | apply outMem_next | apply State.csCmd_mem | apply State.rowWrite_mem | apply mem_ite | apply mem_foldl | simp only [memIs_mk] | split)

theorem execCsyncRemeasure_mem {rM : Tab Byte} (path : Path) (key : BitVec 16) {s : State} (h_s : s.memIs rM) :
    outMem rM (execCsyncRemeasure path key s) := by
  unfold execCsyncRemeasure
  try dsimp only
  with_reducible repeat' (first | assumption | intro _ | apply outMem_next | apply State.csCmd_mem | apply State.rowWrite_mem | apply mem_ite | apply mem_foldl | simp only [memIs_mk] | split)

theorem execEthFrameRx_mem {rM : Tab Byte} (port : Fin 2) (kind : Nat) (bytes : List Byte) (full : Bool) {s : State} (h_s : s.memIs rM) :
    outMem rM (execEthFrameRx port kind bytes full s) := by
  unfold execEthFrameRx
  try dsimp only
  with_reducible repeat' (first | assumption | intro _ | apply outMem_next | apply State.ethPlace_mem | apply mem_ite | apply mem_foldl | simp only [memIs_mk] | split)

theorem execEthFrameTx_mem {rM : Tab Byte} (port : Fin 2) (bytes : List Byte) {s : State} (h_s : s.memIs rM) :
    outMem rM (execEthFrameTx port bytes s) := by
  unfold execEthFrameTx
  try dsimp only
  with_reducible repeat' (first | assumption | intro _ | apply outMem_next | apply State.emit_mem | apply mem_ite | apply mem_foldl | simp only [memIs_mk] | split)

theorem execPortRetrain_mem {rM : Tab Byte} (path : Path) (p : Fin 4) (v : Word) {s : State} (h_s : s.memIs rM) :
    outMem rM (execPortRetrain path p v s) := by
  unfold execPortRetrain
  try dsimp only
  with_reducible repeat' (first | assumption | intro _ | apply outMem_next | apply State.portCtrl_mem | apply State.rowWrite_mem | apply mem_ite | apply mem_foldl | simp only [memIs_mk] | split)

theorem execPortEidle_mem {rM : Tab Byte} (path : Path) (p : Fin 4) (v : Word) {s : State} (h_s : s.memIs rM) :
    outMem rM (execPortEidle path p v s) := by
  unfold execPortEidle
  try dsimp only
  with_reducible repeat' (first | assumption | intro _ | apply outMem_next | apply State.portCtrl_mem | apply State.rowWrite_mem | apply mem_ite | apply mem_foldl | simp only [memIs_mk] | split)

theorem execLaneSlip_mem {rM : Tab Byte} (path : Path) (n : Fin 16) (v : Word) {s : State} (h_s : s.memIs rM) :
    outMem rM (execLaneSlip path n v s) := by
  unfold execLaneSlip
  try dsimp only
  with_reducible repeat' (first | assumption | intro _ | apply outMem_next | apply State.laneCtrl_mem | apply State.rowWrite_mem | apply mem_ite | apply mem_foldl | simp only [memIs_mk] | split)

theorem execLaneResume_mem {rM : Tab Byte} (path : Path) (n : Fin 16) (v : Word) {s : State} (h_s : s.memIs rM) :
    outMem rM (execLaneResume path n v s) := by
  unfold execLaneResume
  try dsimp only
  with_reducible repeat' (first | assumption | intro _ | apply outMem_next | apply State.laneCtrl_mem | apply State.rowWrite_mem | apply mem_ite | apply mem_foldl | simp only [memIs_mk] | split)

theorem execPrbsChk_mem {rM : Tab Byte} (path : Path) (n : Fin 16) (v : Word) {s : State} (h_s : s.memIs rM) :
    outMem rM (execPrbsChk path n v s) := by
  unfold execPrbsChk
  try dsimp only
  with_reducible repeat' (first | assumption | intro _ | apply outMem_next | apply State.laneCtrl_mem | apply State.rowWrite_mem | apply mem_ite | apply mem_foldl | simp only [memIs_mk] | split)

theorem execPrbsGen_mem {rM : Tab Byte} (path : Path) (n : Fin 16) (v : Word) {s : State} (h_s : s.memIs rM) :
    outMem rM (execPrbsGen path n v s) := by
  unfold execPrbsGen
  try dsimp only
  with_reducible repeat' (first | assumption | intro _ | apply outMem_next | apply State.laneCtrl_mem | apply State.rowWrite_mem | apply mem_ite | apply mem_foldl | simp only [memIs_mk] | split)

theorem execInjFire_mem {rM : Tab Byte} (path : Path) (n : Fin 16) (v : Word) {s : State} (h_s : s.memIs rM) :
    outMem rM (execInjFire path n v s) := by
  unfold execInjFire
  try dsimp only
  with_reducible repeat' (first | assumption | intro _ | apply outMem_next | apply State.laneInj_mem | apply State.rowWrite_mem | apply mem_ite | apply mem_foldl | simp only [memIs_mk] | split)

theorem execMboxTx_mem {rM : Tab Byte} (path : Path) (w : BitVec 64) {s : State} (h_s : s.memIs rM) :
    outMem rM (execMboxTx path w s) := by
  unfold execMboxTx
  try dsimp only
  with_reducible repeat' (first | assumption | intro _ | apply outMem_next | apply State.mboxTx_mem | apply State.rowTurn_mem | apply State.rowWrite_mem | apply mem_ite | apply mem_foldl | simp only [memIs_mk] | split)

theorem State.rowRead_mem {rM : Tab Byte} {s : State} (path : Path) (p : Pg) (off : Nat) (k : State → State) (h_s : s.memIs rM) (h_k : ∀ t, t.memIs rM → State.memIs rM (k t)) :
    State.memIs rM (State.rowRead s path p off k) := by
  unfold State.rowRead
  try dsimp only
  with_reducible repeat' (first | assumption | intro _ | apply State.rowTurn_mem | apply State.withRead_mem | apply h_k | apply mem_ite | apply mem_foldl | simp only [memIs_mk] | split)

theorem execMboxRxLoRead_mem {rM : Tab Byte} (path : Path) {s : State} (h_s : s.memIs rM) :
    outMem rM (execMboxRxLoRead path s) := by
  unfold execMboxRxLoRead
  try dsimp only
  with_reducible repeat' (first | assumption | intro _ | apply outMem_next | apply State.mboxRead_mem | apply State.rowRead_mem | apply mem_ite | apply mem_foldl | simp only [memIs_mk] | split)

theorem execPowerOnReset_mem {rM : Tab Byte} {s : State} (h_s : s.memIs rM) :
    outMem rM (execPowerOnReset s) := by
  unfold execPowerOnReset
  try dsimp only
  with_reducible repeat' (first | assumption | intro _ | apply outMem_next | apply State.powerOn_mem | apply mem_ite | apply mem_foldl | simp only [memIs_mk] | split)

theorem execWakeN_mem {rM : Tab Byte} {s : State} (h_s : s.memIs rM) :
    outMem rM (execWakeN s) := by
  unfold execWakeN
  try dsimp only
  with_reducible repeat' (first | assumption | intro _ | apply outMem_next | apply State.wake_mem | apply mem_ite | apply mem_foldl | simp only [memIs_mk] | split)

theorem execModeReqRun_mem {rM : Tab Byte} (path : Path) (key : BitVec 16) {s : State} (h_s : s.memIs rM) :
    outMem rM (execModeReqRun path key s) := by
  unfold execModeReqRun
  try dsimp only
  with_reducible repeat' (first | assumption | intro _ | apply outMem_next | apply State.modeReq_mem | apply State.rowWrite_mem | apply mem_ite | apply mem_foldl | simp only [memIs_mk] | split)

theorem execModeReqReady_mem {rM : Tab Byte} (path : Path) (key : BitVec 16) {s : State} (h_s : s.memIs rM) :
    outMem rM (execModeReqReady path key s) := by
  unfold execModeReqReady
  try dsimp only
  with_reducible repeat' (first | assumption | intro _ | apply outMem_next | apply State.modeReq_mem | apply State.rowWrite_mem | apply mem_ite | apply mem_foldl | simp only [memIs_mk] | split)

theorem execModeReqService_mem {rM : Tab Byte} (path : Path) (key : BitVec 16) {s : State} (h_s : s.memIs rM) :
    outMem rM (execModeReqService path key s) := by
  unfold execModeReqService
  try dsimp only
  with_reducible repeat' (first | assumption | intro _ | apply outMem_next | apply State.modeReq_mem | apply State.rowWrite_mem | apply mem_ite | apply mem_foldl | simp only [memIs_mk] | split)

theorem execModeReqDormant_mem {rM : Tab Byte} (path : Path) (key : BitVec 16) {s : State} (h_s : s.memIs rM) :
    outMem rM (execModeReqDormant path key s) := by
  unfold execModeReqDormant
  try dsimp only
  with_reducible repeat' (first | assumption | intro _ | apply outMem_next | apply State.modeReq_mem | apply State.rowWrite_mem | apply mem_ite | apply mem_foldl | simp only [memIs_mk] | split)

theorem execModeReqHold_mem {rM : Tab Byte} (path : Path) (key : BitVec 16) {s : State} (h_s : s.memIs rM) :
    outMem rM (execModeReqHold path key s) := by
  unfold execModeReqHold
  try dsimp only
  with_reducible repeat' (first | assumption | intro _ | apply outMem_next | apply State.modeReq_mem | apply State.rowWrite_mem | apply mem_ite | apply mem_foldl | simp only [memIs_mk] | split)

theorem execWarmReset_mem {rM : Tab Byte} (path : Path) (key : BitVec 16) {s : State} (h_s : s.memIs rM) :
    outMem rM (execWarmReset path key s) := by
  unfold execWarmReset
  try dsimp only
  with_reducible repeat' (first | assumption | intro _ | apply outMem_next | apply State.modeReset_mem | apply State.rowWrite_mem | apply mem_ite | apply mem_foldl | simp only [memIs_mk] | split)

theorem execDomGateWrite_mem {rM : Tab Byte} (path : Path) (v : Word) {s : State} (h_s : s.memIs rM) :
    outMem rM (execDomGateWrite path v s) := by
  unfold execDomGateWrite
  try dsimp only
  with_reducible repeat' (first | assumption | intro _ | apply outMem_next | apply State.domGate_mem | apply State.rowWrite_mem | apply mem_ite | apply mem_foldl | simp only [memIs_mk] | split)

theorem execClrCnt_mem {rM : Tab Byte} (path : Path) {s : State} (h_s : s.memIs rM) :
    outMem rM (execClrCnt path s) := by
  unfold execClrCnt
  try dsimp only
  with_reducible repeat' (first | assumption | intro _ | apply outMem_next | apply State.logCtrl_mem | apply State.rowWrite_mem | apply mem_ite | apply mem_foldl | simp only [memIs_mk] | split)

theorem execLogMirror_mem {rM : Tab Byte} (path : Path) {s : State} (h_s : s.memIs rM) :
    outMem rM (execLogMirror path s) := by
  unfold execLogMirror
  try dsimp only
  with_reducible repeat' (first | assumption | intro _ | apply outMem_next | apply State.logCtrl_mem | apply State.rowWrite_mem | apply mem_ite | apply mem_foldl | simp only [memIs_mk] | split)

theorem State.abortLevel_mem {rM : Tab Byte} {s : State} (low : Bool) (h_s : s.memIs rM) :
    State.memIs rM (State.abortLevel s low) := by
  unfold State.abortLevel
  try dsimp only
  with_reducible repeat' (first | assumption | intro _ | apply mem_ite | apply mem_foldl | simp only [memIs_mk] | split)

theorem execSmbusWake_mem {rM : Tab Byte} {s : State} (h_s : s.memIs rM) :
    outMem rM (execSmbusWake s) := by
  unfold execSmbusWake
  try dsimp only
  with_reducible repeat' (first | assumption | intro _ | apply outMem_next | apply State.wake_mem | apply mem_ite | apply mem_foldl | simp only [memIs_mk] | split)

theorem execSmbusMode_mem {rM : Tab Byte} {s : State} (h_s : s.memIs rM) :
    outMem rM (execSmbusMode s) := by
  unfold execSmbusMode
  try dsimp only
  with_reducible repeat' (first | assumption | intro _ | apply outMem_next | apply State.emit_mem | apply mem_ite | apply mem_foldl | simp only [memIs_mk] | split)

theorem execQueueHead_mem {rM : Tab Byte} (path : Path) (q : Fin 64) {s : State} (h_s : s.memIs rM) :
    outMem rM (execQueueHead path q s) := by
  unfold execQueueHead
  try dsimp only
  with_reducible repeat' (first | assumption | intro _ | apply outMem_next | apply State.inTurn_mem | apply State.withRead_mem | apply State.headRead_mem | apply mem_ite | apply mem_foldl | simp only [memIs_mk] | split)

theorem execQueueDrd_mem {rM : Tab Byte} (path : Path) (q : Fin 64) (v : Word) (bell : Bool) {s : State} (h_s : s.memIs rM) :
    outMem rM (execQueueDrd path q v bell s) := by
  unfold execQueueDrd
  try dsimp only
  with_reducible repeat' (first | assumption | intro _ | apply outMem_next | apply State.viaBell_mem | apply State.hostRdWrite_mem | apply State.inTurn_mem | apply mem_ite | apply mem_foldl | simp only [memIs_mk] | split)

theorem State.cmdWrite_mem {rM : Tab Byte} {s : State} (path : Path) (q : Nat) (v : Nat) (k : State → State) (h_s : s.memIs rM) (h_k : ∀ t, t.memIs rM → (k t).memIs rM) :
    State.memIs rM (State.cmdWrite s path q v k) := by
  unfold State.cmdWrite
  try dsimp only
  with_reducible repeat' (first | assumption | intro _ | apply State.inTurn_mem | apply State.withWrite_mem | apply h_k | apply mem_ite | apply mem_foldl | simp only [memIs_mk] | split)

theorem execQueueRelease_mem {rM : Tab Byte} (path : Path) (q : Fin 64) (n : BitVec 16) {s : State} (h_s : s.memIs rM) :
    outMem rM (execQueueRelease path q n s) := by
  unfold execQueueRelease
  try dsimp only
  with_reducible repeat' (first | assumption | intro _ | apply outMem_next | apply State.cmdWrite_mem | apply State.qRelease_mem | apply mem_ite | apply mem_foldl | simp only [memIs_mk] | split)

theorem execQueueAll_mem {rM : Tab Byte} (path : Path) (q : Fin 64) {s : State} (h_s : s.memIs rM) :
    outMem rM (execQueueAll path q s) := by
  unfold execQueueAll
  try dsimp only
  with_reducible repeat' (first | assumption | intro _ | apply outMem_next | apply State.cmdWrite_mem | apply State.qAll_mem | apply mem_ite | apply mem_foldl | simp only [memIs_mk] | split)

theorem execQueueMark_mem {rM : Tab Byte} (path : Path) (q : Fin 64) {s : State} (h_s : s.memIs rM) :
    outMem rM (execQueueMark path q s) := by
  unfold execQueueMark
  try dsimp only
  with_reducible repeat' (first | assumption | intro _ | apply outMem_next | apply State.cmdWrite_mem | apply State.qMark_mem | apply mem_ite | apply mem_foldl | simp only [memIs_mk] | split)

theorem execQueueRewind_mem {rM : Tab Byte} (path : Path) (q : Fin 64) {s : State} (h_s : s.memIs rM) :
    outMem rM (execQueueRewind path q s) := by
  unfold execQueueRewind
  try dsimp only
  with_reducible repeat' (first | assumption | intro _ | apply outMem_next | apply State.cmdWrite_mem | apply State.qRewind_mem | apply mem_ite | apply mem_foldl | simp only [memIs_mk] | split)

theorem execQueueFlush_mem {rM : Tab Byte} (path : Path) (q : Fin 64) {s : State} (h_s : s.memIs rM) :
    outMem rM (execQueueFlush path q s) := by
  unfold execQueueFlush
  try dsimp only
  with_reducible repeat' (first | assumption | intro _ | apply outMem_next | apply State.cmdWrite_mem | apply State.flushQ_mem | apply mem_ite | apply mem_foldl | simp only [memIs_mk] | split)

theorem State.macStep_mem {rM : Tab Byte} {s : State} (f : Nat) (t : Nat) (codes : List (BitVec 12)) (ecc : Ecc) (h_s : s.memIs rM) :
    State.memIs rM (State.macStep s f t codes ecc) := by
  unfold State.macStep
  try dsimp only
  with_reducible repeat' (first | assumption | intro _ | apply State.macmin_mem | apply mem_ite | apply mem_foldl | simp only [memIs_mk] | split)

theorem State.wmemLo_mem {rM : Tab Byte} {s : State} (f : Nat) (path : Path) (h_s : s.memIs rM) :
    State.memIs rM (State.wmemLo s f path) := by
  unfold State.wmemLo
  try dsimp only
  with_reducible repeat' (first | assumption | intro _ | apply State.answerPair_mem | apply mem_ite | apply mem_foldl | simp only [memIs_mk] | split)

theorem execWmemDataLoRead_mem {rM : Tab Byte} (path : Path) (f : Fin 32) {s : State} (h_s : s.memIs rM) :
    outMem rM (execWmemDataLoRead path f s) := by
  unfold execWmemDataLoRead
  try dsimp only
  with_reducible repeat' (first | assumption | intro _ | apply outMem_next | apply State.wmemLo_mem | apply State.rowRead_mem | apply mem_ite | apply mem_foldl | simp only [memIs_mk] | split)

theorem execLcProvision_mem {rM : Tab Byte} (path : Path) (key : BitVec 16) {s : State} (h_s : s.memIs rM) :
    outMem rM (execLcProvision path key s) := by
  unfold execLcProvision
  try dsimp only
  with_reducible repeat' (first | assumption | intro _ | apply outMem_next | apply State.lcCmd_mem | apply State.rowWrite_mem | apply mem_ite | apply mem_foldl | simp only [memIs_mk] | split)

theorem execLcDeploy_mem {rM : Tab Byte} (path : Path) (key : BitVec 16) {s : State} (h_s : s.memIs rM) :
    outMem rM (execLcDeploy path key s) := by
  unfold execLcDeploy
  try dsimp only
  with_reducible repeat' (first | assumption | intro _ | apply outMem_next | apply State.lcCmd_mem | apply State.rowWrite_mem | apply mem_ite | apply mem_foldl | simp only [memIs_mk] | split)

theorem execLcReturn_mem {rM : Tab Byte} (path : Path) (key : BitVec 16) {s : State} (h_s : s.memIs rM) :
    outMem rM (execLcReturn path key s) := by
  unfold execLcReturn
  try dsimp only
  with_reducible repeat' (first | assumption | intro _ | apply outMem_next | apply State.lcCmd_mem | apply State.rowWrite_mem | apply mem_ite | apply mem_foldl | simp only [memIs_mk] | split)

theorem execLcRaiseFloor_mem {rM : Tab Byte} (path : Path) (key : BitVec 16) {s : State} (h_s : s.memIs rM) :
    outMem rM (execLcRaiseFloor path key s) := by
  unfold execLcRaiseFloor
  try dsimp only
  with_reducible repeat' (first | assumption | intro _ | apply outMem_next | apply State.lcCmd_mem | apply State.rowWrite_mem | apply mem_ite | apply mem_foldl | simp only [memIs_mk] | split)

theorem execDebugUnlock_mem {rM : Tab Byte} (path : Path) (key : BitVec 16) {s : State} (h_s : s.memIs rM) :
    outMem rM (execDebugUnlock path key s) := by
  unfold execDebugUnlock
  try dsimp only
  with_reducible repeat' (first | assumption | intro _ | apply outMem_next | apply State.debugCmd_mem | apply State.rowWrite_mem | apply mem_ite | apply mem_foldl | simp only [memIs_mk] | split)

theorem execDebugLock_mem {rM : Tab Byte} (path : Path) (key : BitVec 16) {s : State} (h_s : s.memIs rM) :
    outMem rM (execDebugLock path key s) := by
  unfold execDebugLock
  try dsimp only
  with_reducible repeat' (first | assumption | intro _ | apply outMem_next | apply State.debugCmd_mem | apply State.rowWrite_mem | apply mem_ite | apply mem_foldl | simp only [memIs_mk] | split)

theorem execBar2Read_mem {rM : Tab Byte} (path : Path) (off : Nat) (n : Nat) {s : State} (h_s : s.memIs rM) :
    outMem rM (execBar2Read path off n s) := by
  unfold execBar2Read
  try dsimp only
  with_reducible repeat' (first | assumption | intro _ | apply outMem_next | apply State.bar2Read_mem | apply mem_ite | apply mem_foldl | simp only [memIs_mk] | split)

theorem execGetVersion_mem {rM : Tab Byte} {s : State} (h_s : s.memIs rM) :
    outMem rM (execGetVersion s) := by
  unfold execGetVersion
  try dsimp only
  with_reducible repeat' (first | assumption | intro _ | apply outMem_next | apply State.spdmGetVersion_mem | apply mem_ite | apply mem_foldl | simp only [memIs_mk] | split)

theorem execGetCapabilities_mem {rM : Tab Byte} (ver : Nat) {s : State} (h_s : s.memIs rM) :
    outMem rM (execGetCapabilities ver s) := by
  unfold execGetCapabilities
  try dsimp only
  with_reducible repeat' (first | assumption | intro _ | apply outMem_next | apply State.spdmCapabilities_mem | apply mem_ite | apply mem_foldl | simp only [memIs_mk] | split)

theorem execNegotiateAlgorithms_mem {rM : Tab Byte} (ver : Nat) (asym : Nat) (hash : Nat) (dhe : Nat) (aead : Nat) {s : State} (h_s : s.memIs rM) :
    outMem rM (execNegotiateAlgorithms ver asym hash dhe aead s) := by
  unfold execNegotiateAlgorithms
  try dsimp only
  with_reducible repeat' (first | assumption | intro _ | apply outMem_next | apply State.spdmAlgorithms_mem | apply mem_ite | apply mem_foldl | simp only [memIs_mk] | split)

theorem execGetDigests_mem {rM : Tab Byte} (ver : Nat) {s : State} (h_s : s.memIs rM) :
    outMem rM (execGetDigests ver s) := by
  unfold execGetDigests
  try dsimp only
  with_reducible repeat' (first | assumption | intro _ | apply outMem_next | apply State.spdmDigests_mem | apply mem_ite | apply mem_foldl | simp only [memIs_mk] | split)

theorem execGetCertificate_mem {rM : Tab Byte} (ver : Nat) (slot : Nat) (off : Nat) (len : Nat) {s : State} (h_s : s.memIs rM) :
    outMem rM (execGetCertificate ver slot off len s) := by
  unfold execGetCertificate
  try dsimp only
  with_reducible repeat' (first | assumption | intro _ | apply outMem_next | apply State.spdmCertificate_mem | apply mem_ite | apply mem_foldl | simp only [memIs_mk] | split)

theorem execChallenge_mem {rM : Tab Byte} (ver : Nat) (slot : Nat) (nonce : List Byte) {s : State} (h_s : s.memIs rM) :
    outMem rM (execChallenge ver slot nonce s) := by
  unfold execChallenge
  try dsimp only
  with_reducible repeat' (first | assumption | intro _ | apply outMem_next | apply State.spdmChallenge_mem | apply mem_ite | apply mem_foldl | simp only [memIs_mk] | split)

theorem execGetMeasurements_mem {rM : Tab Byte} (ver : Nat) (index : Nat) (sign : Bool) (nonce : List Byte) {s : State} (h_s : s.memIs rM) :
    outMem rM (execGetMeasurements ver index sign nonce s) := by
  unfold execGetMeasurements
  try dsimp only
  with_reducible repeat' (first | assumption | intro _ | apply outMem_next | apply State.spdmMeasurements_mem | apply mem_ite | apply mem_foldl | simp only [memIs_mk] | split)

theorem execKeyExchange_mem {rM : Tab Byte} (ver : Nat) (slot : Nat) (sid : Nat) (pub : List Byte) {s : State} (h_s : s.memIs rM) :
    outMem rM (execKeyExchange ver slot sid pub s) := by
  unfold execKeyExchange
  try dsimp only
  with_reducible repeat' (first | assumption | intro _ | apply outMem_next | apply State.spdmKeyExchange_mem | apply mem_ite | apply mem_foldl | simp only [memIs_mk] | split)

theorem execFinish_mem {rM : Tab Byte} (ver : Nat) (sid : Nat) (mac : List Byte) {s : State} (h_s : s.memIs rM) :
    outMem rM (execFinish ver sid mac s) := by
  unfold execFinish
  try dsimp only
  with_reducible repeat' (first | assumption | intro _ | apply outMem_next | apply State.spdmFinish_mem | apply mem_ite | apply mem_foldl | simp only [memIs_mk] | split)

theorem execHeartbeat_mem {rM : Tab Byte} (ver : Nat) (sid : Nat) {s : State} (h_s : s.memIs rM) :
    outMem rM (execHeartbeat ver sid s) := by
  unfold execHeartbeat
  try dsimp only
  with_reducible repeat' (first | assumption | intro _ | apply outMem_next | apply State.spdmHeartbeat_mem | apply mem_ite | apply mem_foldl | simp only [memIs_mk] | split)

theorem execKeyUpdate_mem {rM : Tab Byte} (ver : Nat) (sid : Nat) (op : Nat) {s : State} (h_s : s.memIs rM) :
    outMem rM (execKeyUpdate ver sid op s) := by
  unfold execKeyUpdate
  try dsimp only
  with_reducible repeat' (first | assumption | intro _ | apply outMem_next | apply State.spdmKeyUpdate_mem | apply mem_ite | apply mem_foldl | simp only [memIs_mk] | split)

theorem execEndSession_mem {rM : Tab Byte} (ver : Nat) (sid : Nat) {s : State} (h_s : s.memIs rM) :
    outMem rM (execEndSession ver sid s) := by
  unfold execEndSession
  try dsimp only
  with_reducible repeat' (first | assumption | intro _ | apply outMem_next | apply State.spdmEnd_mem | apply mem_ite | apply mem_foldl | simp only [memIs_mk] | split)

theorem State.decisionRecord_mem {rM : Tab Byte} {s : State} (w : BitVec 64) (h_s : s.memIs rM) :
    State.memIs rM (State.decisionRecord s w) := by
  unfold State.decisionRecord
  try dsimp only
  with_reducible repeat' (first | assumption | intro _ | apply State.ndeorExport_mem | apply State.ndeorDecision_mem | apply mem_ite | apply mem_foldl | simp only [memIs_mk] | split)

theorem execPowerSample_mem {rM : Tab Byte} (p : List (BitVec 16)) {s : State} (h_s : s.memIs rM) :
    outMem rM (execPowerSample p s) := by
  unfold execPowerSample
  try dsimp only
  with_reducible repeat' (first | assumption | intro _ | apply outMem_next | apply State.powerSample_mem | apply mem_ite | apply mem_foldl | simp only [memIs_mk] | split)

theorem State.past_mem {rM : Tab Byte} {s : State} (b : Nat) (h_s : s.memIs rM) :
    State.memIs rM (State.past s b) := by
  unfold State.past
  try dsimp only
  with_reducible repeat' (first | assumption | intro _ | apply State.mapBoot_mem | apply mem_ite | apply mem_foldl | simp only [memIs_mk] | split)

theorem execDiodeReadmit_mem {rM : Tab Byte} (path : Path) (key : BitVec 16) (i : Fin 64) {s : State} (h_s : s.memIs rM) :
    outMem rM (execDiodeReadmit path key i s) := by
  unfold execDiodeReadmit
  try dsimp only
  with_reducible repeat' (first | assumption | intro _ | apply outMem_next | apply State.diodeCmd_mem | apply State.rowWrite_mem | apply mem_ite | apply mem_foldl | simp only [memIs_mk] | split)

theorem execRingWr_mem {rM : Tab Byte} (path : Path) (f : Fin 32) (r : Fin 8) (v : Word) (bell : Bool) {s : State} (h_s : s.memIs rM) :
    outMem rM (execRingWr path f r v bell s) := by
  unfold execRingWr
  try dsimp only
  with_reducible repeat' (first | assumption | intro _ | apply outMem_next | apply State.viaBell_mem | apply State.ringWrite_mem | apply mem_ite | apply mem_foldl | simp only [memIs_mk] | split)

theorem State.withFetchWord_mem {rM : Tab Byte} {s : State} (nbits : Nat) (w : Nat) (h_s : s.memIs rM) :
    State.memIs rM (State.withFetchWord s nbits w) := by
  unfold State.withFetchWord
  try dsimp only
  with_reducible repeat' (first | assumption | intro _ | apply mem_ite | apply mem_foldl | simp only [memIs_mk] | split)

theorem State.acqMet_mem {rM : Tab Byte} {s : State} (c t : Nat) (met : List Met) (h_s : s.memIs rM) :
    State.memIs rM (State.acqMet s c t met) := by
  unfold State.acqMet
  try dsimp only
  with_reducible repeat' (first | assumption | intro _ | apply State.wr_mem | apply State.count_mem | apply State.flag_mem | apply State.setAcq_mem | apply State.acqLast_mem | apply State.setAcqState_mem | apply mem_ite | apply mem_foldl | simp only [memIs_mk] | split)

theorem State.freePages_mem {rM : Tab Byte} {s : State} (ps : List Pg) (h_s : s.memIs rM) : State.memIs rM (s.freePages ps) := by
  unfold State.freePages
  dsimp only
  refine mem_foldl _ h_s (fun a p ha => ?_)
  exact mem_shadow _ (State.bindPage_mem _ _ (State.wrF_mem _ _ _ _ _ ha))

theorem State.tmoWrite_mem {rM : Tab Byte} {s : State} (q : Nat) (v : Word) (h_s : s.memIs rM) :
    State.memIs rM (State.tmoWrite s q v) := by
  unfold State.tmoWrite
  try dsimp only
  with_reducible repeat' (first | assumption | intro _ | apply State.wr_mem | apply State.setQ_mem | apply mem_ite | apply mem_foldl | simp only [memIs_mk] | split)

theorem State.hkLock_mem {rM : Tab Byte} {s : State} (step cause : Nat) (h_s : s.memIs rM) :
    State.memIs rM (State.hkLock s step cause) := by
  unfold State.hkLock
  try dsimp only
  with_reducible repeat' (first | assumption | intro _ | apply State.draw_mem | apply State.wrB_mem | apply mem_ite | apply mem_foldl | simp only [memIs_mk] | split)

theorem State.stepEnds_mem {rM : Tab Byte} {s0 : State} (r : BootRes) (h_s0 : s0.memIs rM) :
    State.memIs rM (State.stepEnds s0 r) := by
  unfold State.stepEnds
  try dsimp only
  with_reducible repeat' (first | assumption | intro _ | apply State.stepPass_mem | apply State.mapBoot_mem | apply State.stepFences_mem | apply State.sigFail_mem | apply State.failSet_mem | apply State.bootStop_mem | apply State.hkLock_mem | apply State.bootNow_mem | apply State.wrF_mem | apply mem_ite | apply mem_foldl | simp only [memIs_mk] | split)

theorem State.stepTimeout_mem {rM : Tab Byte} {s : State} (t : Nat) (units : List Nat) (h_s : s.memIs rM) :
    State.memIs rM (State.stepTimeout s t units) := by
  unfold State.stepTimeout
  try dsimp only
  with_reducible repeat' (first | assumption | intro _ | apply State.stepEnds_mem | apply mem_ite | apply mem_foldl | simp only [memIs_mk] | split)

theorem State.showAll_mem {rM : Tab Byte} {s : State} (h_s : s.memIs rM) :
    State.memIs rM (State.showAll s) := by
  unfold State.showAll
  try dsimp only
  with_reducible repeat' (first | assumption | intro _ | apply State.showTufts_mem | apply State.reclaim_mem | apply State.showResv_mem | apply mem_ite | apply mem_foldl | simp only [memIs_mk] | split)

theorem State.adcStart_mem {rM : Tab Byte} {s : State} (h_s : s.memIs rM) :
    State.memIs rM (State.adcStart s) := by
  unfold State.adcStart
  try dsimp only
  with_reducible repeat' (first | assumption | intro _ | apply State.adcNext_mem | apply mem_ite | apply mem_foldl | simp only [memIs_mk] | split)

theorem State.ptpDataset_mem {rM : Tab Byte} {s : State} (n off : Nat) (v : Word) (h_s : s.memIs rM) :
    State.memIs rM (State.ptpDataset s n off v) := by
  unfold State.ptpDataset
  try dsimp only
  with_reducible repeat' (first | assumption | intro _ | apply State.wr_mem | apply State.ptpDecide_mem | apply mem_ite | apply mem_foldl | simp only [memIs_mk] | split)

theorem State.wordAt_mem {rM : Tab Byte} {s : State} (e : WordEv) (h_s : s.memIs rM) (h_at : ∀ b, (s.at b).memIs rM) :
    State.memIs rM (State.wordAt s e) := by
  unfold State.wordAt
  try dsimp only
  with_reducible repeat' (first | assumption | intro _ | apply h_at | apply mem_ite | apply mem_foldl | simp only [memIs_mk] | split)

theorem wordRow_mem {rM : Tab Byte} (e : WordEv) (p : Uw → Bool) {s : State} (h_s : s.memIs rM) (h_at : ∀ b, (s.at b).memIs rM) :
    outMem rM (wordRow e p s) := by
  unfold wordRow
  try dsimp only
  with_reducible repeat' (first | assumption | intro _ | apply outMem_next | apply h_at | apply State.wordAt_mem | apply State.word_mem | apply mem_ite | apply mem_foldl | simp only [memIs_mk] | split)

theorem waitRow_mem {rM : Tab Byte} (e : WordEv) (m : Nat) {s : State} (h_s : s.memIs rM) (h_at : ∀ b, (s.at b).memIs rM) :
    outMem rM (waitRow e m s) := by
  unfold waitRow
  try dsimp only
  with_reducible repeat' (first | assumption | intro _ | apply outMem_next | apply h_at | apply wordRow_mem | apply mem_ite | apply mem_foldl | simp only [memIs_mk] | split)

theorem execWaitClamp_mem {rM : Tab Byte} (e : WordEv) {s : State} (h_s : s.memIs rM) (h_at : ∀ b, (s.at b).memIs rM) :
    outMem rM (execWaitClamp e s) := by
  unfold execWaitClamp
  try dsimp only
  with_reducible repeat' (first | assumption | intro _ | apply outMem_next | apply h_at | apply waitRow_mem | apply mem_ite | apply mem_foldl | simp only [memIs_mk] | split)

theorem execProbeStart_mem {rM : Tab Byte} (e : FrondEv) {s : State} (h_s : s.memIs rM) (h_at : ∀ b, (s.at b).memIs rM) :
    outMem rM (execProbeStart e s) := by
  unfold execProbeStart
  try dsimp only
  with_reducible repeat' (first | assumption | intro _ | apply outMem_next | apply State.probeStart_mem | apply h_at | apply mem_ite | apply mem_foldl | simp only [memIs_mk] | split)

theorem execMappingPair_mem {rM : Tab Byte} (b m : Nat) (ph : Fin 64) {s : State} (h_s : s.memIs rM) (h_at : ∀ b, (s.at b).memIs rM) :
    outMem rM (execMappingPair b m ph s) := by
  unfold execMappingPair
  try dsimp only
  with_reducible repeat' (first | assumption | intro _ | apply outMem_next | apply State.mapPair_mem | apply State.macTo_mem | apply h_at | apply mem_ite | apply mem_foldl | simp only [memIs_mk] | split)

theorem execFluxStart_mem {rM : Tab Byte} (e : FrondEv) {s : State} (h_s : s.memIs rM) (h_at : ∀ b, (s.at b).memIs rM) :
    outMem rM (execFluxStart e s) := by
  unfold execFluxStart
  try dsimp only
  with_reducible repeat' (first | assumption | intro _ | apply outMem_next | apply State.fluxStart_mem | apply h_at | apply mem_ite | apply mem_foldl | simp only [memIs_mk] | split)

theorem execThermalLockPowerOff_mem {rM : Tab Byte} (b : Nat) {s : State} (h_s : s.memIs rM) (h_at : ∀ b, (s.at b).memIs rM) :
    outMem rM (execThermalLockPowerOff b s) := by
  unfold execThermalLockPowerOff
  try dsimp only
  with_reducible repeat' (first | assumption | intro _ | apply outMem_next | apply State.lockPowerOff_mem | apply h_at | apply mem_ite | apply mem_foldl | simp only [memIs_mk] | split)

theorem seqRow_mem {rM : Tab Byte} (e : WordEv) (op : Nat) {s : State} (h_s : s.memIs rM) (h_at : ∀ b, (s.at b).memIs rM) :
    outMem rM (seqRow e op s) := by
  unfold seqRow
  try dsimp only
  with_reducible repeat' (first | assumption | intro _ | apply outMem_next | apply h_at | apply wordRow_mem | apply mem_ite | apply mem_foldl | simp only [memIs_mk] | split)

theorem execUwBrf_mem {rM : Tab Byte} (e : WordEv) {s : State} (h_s : s.memIs rM) (h_at : ∀ b, (s.at b).memIs rM) :
    outMem rM (execUwBrf e s) := by
  unfold execUwBrf
  try dsimp only
  with_reducible repeat' (first | assumption | intro _ | apply outMem_next | apply h_at | apply seqRow_mem | apply mem_ite | apply mem_foldl | simp only [memIs_mk] | split)

theorem aluRow_mem {rM : Tab Byte} (e : WordEv) (op : Nat) {s : State} (h_s : s.memIs rM) (h_at : ∀ b, (s.at b).memIs rM) :
    outMem rM (aluRow e op s) := by
  unfold aluRow
  try dsimp only
  with_reducible repeat' (first | assumption | intro _ | apply outMem_next | apply h_at | apply wordRow_mem | apply mem_ite | apply mem_foldl | simp only [memIs_mk] | split)

theorem execAluMov_mem {rM : Tab Byte} (e : WordEv) {s : State} (h_s : s.memIs rM) (h_at : ∀ b, (s.at b).memIs rM) :
    outMem rM (execAluMov e s) := by
  unfold execAluMov
  try dsimp only
  with_reducible repeat' (first | assumption | intro _ | apply outMem_next | apply h_at | apply aluRow_mem | apply mem_ite | apply mem_foldl | simp only [memIs_mk] | split)

theorem execStartSend_mem {rM : Tab Byte} (b : Nat) {s : State} (h_s : s.memIs rM) (h_at : ∀ b, (s.at b).memIs rM) :
    outMem rM (execStartSend b s) := by
  unfold execStartSend
  try dsimp only
  with_reducible repeat' (first | assumption | intro _ | apply outMem_next | apply State.startSend_mem | apply h_at | apply mem_ite | apply mem_foldl | simp only [memIs_mk] | split)

theorem execTrainingTimeout_mem {rM : Tab Byte} (b : Nat) (p : Fin 4) (alt : Bool) {s : State} (h_s : s.memIs rM) (h_at : ∀ b, (s.at b).memIs rM) :
    outMem rM (execTrainingTimeout b p alt s) := by
  unfold execTrainingTimeout
  try dsimp only
  with_reducible repeat' (first | assumption | intro _ | apply outMem_next | apply State.trainTimeout_mem | apply h_at | apply mem_ite | apply mem_foldl | simp only [memIs_mk] | split)

theorem execCalDue_mem {rM : Tab Byte} (e : FrondEv) {s : State} (h_s : s.memIs rM) (h_at : ∀ b, (s.at b).memIs rM) :
    outMem rM (execCalDue e s) := by
  unfold execCalDue
  try dsimp only
  with_reducible repeat' (first | assumption | intro _ | apply outMem_next | apply State.dueNow_mem | apply h_at | apply mem_ite | apply mem_foldl | simp only [memIs_mk] | split)

theorem execCalOverdue_mem {rM : Tab Byte} (e : FrondEv) {s : State} (h_s : s.memIs rM) (h_at : ∀ b, (s.at b).memIs rM) :
    outMem rM (execCalOverdue e s) := by
  unfold execCalOverdue
  try dsimp only
  with_reducible repeat' (first | assumption | intro _ | apply outMem_next | apply State.overdue_mem | apply h_at | apply mem_ite | apply mem_foldl | simp only [memIs_mk] | split)

theorem execDecisionBusRecord_mem {rM : Tab Byte} (b : Nat) (f : Fin 32) (r : Nat) (dst : Fin 33) (perr : Bool) {s : State} (h_s : s.memIs rM) (h_at : ∀ b, (s.at b).memIs rM) :
    outMem rM (execDecisionBusRecord b f r dst perr s) := by
  unfold execDecisionBusRecord
  try dsimp only
  with_reducible repeat' (first | assumption | intro _ | apply outMem_next | apply State.busRecord_mem | apply h_at | apply mem_ite | apply mem_foldl | simp only [memIs_mk] | split)

theorem execDecisionBeat_mem {rM : Tab Byte} (b : Nat) (g : Fin 64) {s : State} (h_s : s.memIs rM) (h_at : ∀ b, (s.at b).memIs rM) :
    outMem rM (execDecisionBeat b g s) := by
  unfold execDecisionBeat
  try dsimp only
  with_reducible repeat' (first | assumption | intro _ | apply outMem_next | apply State.decisionBeat_mem | apply h_at | apply mem_ite | apply mem_foldl | simp only [memIs_mk] | split)

theorem execVfAbortDoorbell_mem {rM : Tab Byte} (b : Nat) (fn : Fin 32) (v : Word) {s : State} (h_s : s.memIs rM) (h_at : ∀ b, (s.at b).memIs rM) :
    outMem rM (execVfAbortDoorbell b fn v s) := by
  unfold execVfAbortDoorbell
  try dsimp only
  with_reducible repeat' (first | assumption | intro _ | apply outMem_next | apply State.abortBell_mem | apply h_at | apply mem_ite | apply mem_foldl | simp only [memIs_mk] | split)

theorem execMacmin_mem {rM : Tab Byte} (e : FrondEv) (t : Fin 16) (codes : List (BitVec 12)) (ecc : Ecc) {s : State} (h_s : s.memIs rM) (h_at : ∀ b, (s.at b).memIs rM) :
    outMem rM (execMacmin e t codes ecc s) := by
  unfold execMacmin
  try dsimp only
  with_reducible repeat' (first | assumption | intro _ | apply outMem_next | apply State.macStep_mem | apply h_at | apply mem_ite | apply mem_foldl | simp only [memIs_mk] | split)

theorem resumeRow_mem {rM : Tab Byte} (e : WordEv) (st : Nat) {s : State} (h_s : s.memIs rM) (h_at : ∀ b, (s.at b).memIs rM) :
    outMem rM (resumeRow e st s) := by
  unfold resumeRow
  try dsimp only
  with_reducible repeat' (first | assumption | intro _ | apply outMem_next | apply h_at | apply State.wordAt_mem | apply State.word_mem | apply mem_ite | apply mem_foldl | simp only [memIs_mk] | split)

theorem execStallRelease_mem {rM : Tab Byte} (e : WordEv) {s : State} (h_s : s.memIs rM) (h_at : ∀ b, (s.at b).memIs rM) :
    outMem rM (execStallRelease e s) := by
  unfold execStallRelease
  try dsimp only
  with_reducible repeat' (first | assumption | intro _ | apply outMem_next | apply h_at | apply resumeRow_mem | apply mem_ite | apply mem_foldl | simp only [memIs_mk] | split)

theorem execGddr7CrcError_mem {rM : Tab Byte} (b : Nat) (c : Fin 8) (kind : CrcKind) (persist : Bool) {s : State} (h_s : s.memIs rM) (h_at : ∀ b, (s.at b).memIs rM) :
    outMem rM (execGddr7CrcError b c kind persist s) := by
  unfold execGddr7CrcError
  try dsimp only
  with_reducible repeat' (first | assumption | intro _ | apply outMem_next | apply State.crcError_mem | apply h_at | apply mem_ite | apply mem_foldl | simp only [memIs_mk] | split)

theorem execQuietSlotDecision_mem {rM : Tab Byte} (e : FrondEv) (found : Bool) {s : State} (h_s : s.memIs rM) (h_at : ∀ b, (s.at b).memIs rM) :
    outMem rM (execQuietSlotDecision e found s) := by
  unfold execQuietSlotDecision
  try dsimp only
  with_reducible repeat' (first | assumption | intro _ | apply outMem_next | apply State.slotDecision_mem | apply h_at | apply mem_ite | apply mem_foldl | simp only [memIs_mk] | split)

theorem execLdacN_mem {rM : Tab Byte} (b : Nat) (k : Fin 4) {s : State} (h_s : s.memIs rM) (h_at : ∀ b, (s.at b).memIs rM) :
    outMem rM (execLdacN b k s) := by
  unfold execLdacN
  try dsimp only
  with_reducible repeat' (first | assumption | intro _ | apply outMem_next | apply State.strobe_mem | apply h_at | apply mem_ite | apply mem_foldl | simp only [memIs_mk] | split)

theorem execCmdHalt_mem {rM : Tab Byte} (path : Path) (e : FrondEv) (key : BitVec 16) {s : State} (h_s : s.memIs rM) (h_at : ∀ b, (s.at b).memIs rM) :
    outMem rM (execCmdHalt path e key s) := by
  unfold execCmdHalt
  try dsimp only
  with_reducible repeat' (first | assumption | intro _ | apply outMem_next | apply State.cmdHalt_mem | apply State.rowWrite_mem | apply h_at | apply mem_ite | apply mem_foldl | simp only [memIs_mk] | split)

theorem execNdeorDecisionRecord_mem {rM : Tab Byte} (b : Nat) (dst : Fin 32) (w : BitVec 64) {s : State} (h_s : s.memIs rM) (h_at : ∀ b, (s.at b).memIs rM) :
    outMem rM (execNdeorDecisionRecord b dst w s) := by
  unfold execNdeorDecisionRecord
  try dsimp only
  with_reducible repeat' (first | assumption | intro _ | apply outMem_next | apply State.unicast_mem | apply State.decisionRecord_mem | apply State.count_mem | apply h_at | apply mem_ite | apply mem_foldl | simp only [memIs_mk] | split)

theorem execFrameToggleXz_mem {rM : Tab Byte} (e : FrondEv) {s : State} (h_s : s.memIs rM) (h_at : ∀ b, (s.at b).memIs rM) :
    outMem rM (execFrameToggleXz e s) := by
  unfold execFrameToggleXz
  try dsimp only
  with_reducible repeat' (first | assumption | intro _ | apply outMem_next | apply State.frameRow_mem | apply h_at | apply mem_ite | apply mem_foldl | simp only [memIs_mk] | split)

theorem execUwShotBegin_mem {rM : Tab Byte} (e : WordEv) {s : State} (h_s : s.memIs rM) (h_at : ∀ b, (s.at b).memIs rM) :
    outMem rM (execUwShotBegin e s) := by
  unfold execUwShotBegin
  try dsimp only
  with_reducible repeat' (first | assumption | intro _ | apply outMem_next | apply h_at | apply seqRow_mem | apply mem_ite | apply mem_foldl | simp only [memIs_mk] | split)

theorem execClrNRelease_mem {rM : Tab Byte} (b : Nat) {s : State} (h_s : s.memIs rM) (h_at : ∀ b, (s.at b).memIs rM) :
    outMem rM (execClrNRelease b s) := by
  unfold execClrNRelease
  try dsimp only
  with_reducible repeat' (first | assumption | intro _ | apply outMem_next | apply State.clrRelease_mem | apply h_at | apply mem_ite | apply mem_foldl | simp only [memIs_mk] | split)

theorem execAluRdslot_mem {rM : Tab Byte} (e : WordEv) {s : State} (h_s : s.memIs rM) (h_at : ∀ b, (s.at b).memIs rM) :
    outMem rM (execAluRdslot e s) := by
  unfold execAluRdslot
  try dsimp only
  with_reducible repeat' (first | assumption | intro _ | apply outMem_next | apply h_at | apply aluRow_mem | apply mem_ite | apply mem_foldl | simp only [memIs_mk] | split)

theorem execReadyBeat_mem {rM : Tab Byte} (b : Nat) (g : Fin 64) {s : State} (h_s : s.memIs rM) (h_at : ∀ b, (s.at b).memIs rM) :
    outMem rM (execReadyBeat b g s) := by
  unfold execReadyBeat
  try dsimp only
  with_reducible repeat' (first | assumption | intro _ | apply outMem_next | apply State.readyBeat_mem | apply h_at | apply mem_ite | apply mem_foldl | simp only [memIs_mk] | split)

theorem execStartLo_mem {rM : Tab Byte} (b : Nat) (port : Fin 4) (w : BitVec 64) {s : State} (h_s : s.memIs rM) (h_at : ∀ b, (s.at b).memIs rM) :
    outMem rM (execStartLo b port w s) := by
  unfold execStartLo
  try dsimp only
  with_reducible repeat' (first | assumption | intro _ | apply outMem_next | apply State.startLo_mem | apply h_at | apply mem_ite | apply mem_foldl | simp only [memIs_mk] | split)

theorem execSyncReq_mem {rM : Tab Byte} (b : Nat) (port : Fin 4) (phi : Fin 2048) (turn : Nat) (w : BitVec 64) {s : State} (h_s : s.memIs rM) (h_at : ∀ b, (s.at b).memIs rM) :
    outMem rM (execSyncReq b port phi turn w s) := by
  unfold execSyncReq
  try dsimp only
  with_reducible repeat' (first | assumption | intro _ | apply outMem_next | apply State.syncReq_mem | apply h_at | apply mem_ite | apply mem_foldl | simp only [memIs_mk] | split)

theorem execCsyncPing_mem {rM : Tab Byte} (b : Nat) (dst : Fin 32) (w : BitVec 64) {s : State} (h_s : s.memIs rM) (h_at : ∀ b, (s.at b).memIs rM) :
    outMem rM (execCsyncPing b dst w s) := by
  unfold execCsyncPing
  try dsimp only
  with_reducible repeat' (first | assumption | intro _ | apply outMem_next | apply State.ping_mem | apply State.unicast_mem | apply h_at | apply mem_ite | apply mem_foldl | simp only [memIs_mk] | split)

theorem execHoldRelease_mem {rM : Tab Byte} (e : WordEv) {s : State} (h_s : s.memIs rM) (h_at : ∀ b, (s.at b).memIs rM) :
    outMem rM (execHoldRelease e s) := by
  unfold execHoldRelease
  try dsimp only
  with_reducible repeat' (first | assumption | intro _ | apply outMem_next | apply h_at | apply resumeRow_mem | apply mem_ite | apply mem_foldl | simp only [memIs_mk] | split)

theorem execCaptureEnd_mem {rM : Tab Byte} (b : Nat) (c : Fin 16) {s : State} (h_s : s.memIs rM) (h_at : ∀ b, (s.at b).memIs rM) :
    outMem rM (execCaptureEnd b c s) := by
  unfold execCaptureEnd
  try dsimp only
  with_reducible repeat' (first | assumption | intro _ | apply outMem_next | apply State.captureEnd_mem | apply h_at | apply mem_ite | apply mem_foldl | simp only [memIs_mk] | split)

theorem execPcieLinkUp_mem {rM : Tab Byte} (b width : Nat) (up : PcieUp) {s : State} (h_s : s.memIs rM) (h_at : ∀ b, (s.at b).memIs rM) :
    outMem rM (execPcieLinkUp b width up s) := by
  unfold execPcieLinkUp
  try dsimp only
  with_reducible repeat' (first | assumption | intro _ | apply outMem_next | apply State.pcieUp_mem | apply h_at | apply mem_ite | apply mem_foldl | simp only [memIs_mk] | split)

theorem execVoteReceived_mem {rM : Tab Byte} (b : Nat) (dst : Fin 32) (w : BitVec 64) {s : State} (h_s : s.memIs rM) (h_at : ∀ b, (s.at b).memIs rM) :
    outMem rM (execVoteReceived b dst w s) := by
  unfold execVoteReceived
  try dsimp only
  with_reducible repeat' (first | assumption | intro _ | apply outMem_next | apply State.voteArrives_mem | apply State.unicast_mem | apply h_at | apply mem_ite | apply mem_foldl | simp only [memIs_mk] | split)

theorem execRingRefill_mem {rM : Tab Byte} (e : FrondEv) (r : Fin 8) {s : State} (h_s : s.memIs rM) (h_at : ∀ b, (s.at b).memIs rM) :
    outMem rM (execRingRefill e r s) := by
  unfold execRingRefill
  try dsimp only
  with_reducible repeat' (first | assumption | intro _ | apply outMem_next | apply State.ringRefill_mem | apply h_at | apply mem_ite | apply mem_foldl | simp only [memIs_mk] | split)

theorem execUwWaitev_mem {rM : Tab Byte} (e : WordEv) {s : State} (h_s : s.memIs rM) (h_at : ∀ b, (s.at b).memIs rM) :
    outMem rM (execUwWaitev e s) := by
  unfold execUwWaitev
  try dsimp only
  with_reducible repeat' (first | assumption | intro _ | apply outMem_next | apply h_at | apply seqRow_mem | apply mem_ite | apply mem_foldl | simp only [memIs_mk] | split)

theorem execFeSwitch_mem {rM : Tab Byte} (e : FrondEv) {s : State} (h_s : s.memIs rM) (h_at : ∀ b, (s.at b).memIs rM) :
    outMem rM (execFeSwitch e s) := by
  unfold execFeSwitch
  try dsimp only
  with_reducible repeat' (first | assumption | intro _ | apply outMem_next | apply State.feStep_mem | apply h_at | apply mem_ite | apply mem_foldl | simp only [memIs_mk] | split)

theorem execAluAddi_mem {rM : Tab Byte} (e : WordEv) {s : State} (h_s : s.memIs rM) (h_at : ∀ b, (s.at b).memIs rM) :
    outMem rM (execAluAddi e s) := by
  unfold execAluAddi
  try dsimp only
  with_reducible repeat' (first | assumption | intro _ | apply outMem_next | apply h_at | apply aluRow_mem | apply mem_ite | apply mem_foldl | simp only [memIs_mk] | split)

theorem execModelStep_mem {rM : Tab Byte} (b : Nat) (nodes : List Int) {s : State} (h_s : s.memIs rM) (h_at : ∀ b, (s.at b).memIs rM) :
    outMem rM (execModelStep b nodes s) := by
  unfold execModelStep
  try dsimp only
  with_reducible repeat' (first | assumption | intro _ | apply outMem_next | apply State.modelStep_mem | apply State.past_mem | apply State.past_mem | apply State.past_mem | apply State.past_mem | apply h_at | apply State.past_mem | apply mem_ite | apply mem_foldl | simp only [memIs_mk] | split)

theorem execStartHi_mem {rM : Tab Byte} (b : Nat) (port : Fin 4) (w : BitVec 64) {s : State} (h_s : s.memIs rM) (h_at : ∀ b, (s.at b).memIs rM) :
    outMem rM (execStartHi b port w s) := by
  unfold execStartHi
  try dsimp only
  with_reducible repeat' (first | assumption | intro _ | apply outMem_next | apply State.startHi_mem | apply h_at | apply mem_ite | apply mem_foldl | simp only [memIs_mk] | split)

theorem execUwSync_mem {rM : Tab Byte} (e : WordEv) {s : State} (h_s : s.memIs rM) (h_at : ∀ b, (s.at b).memIs rM) :
    outMem rM (execUwSync e s) := by
  unfold execUwSync
  try dsimp only
  with_reducible repeat' (first | assumption | intro _ | apply outMem_next | apply h_at | apply seqRow_mem | apply mem_ite | apply mem_foldl | simp only [memIs_mk] | split)

theorem execUwGoto_mem {rM : Tab Byte} (e : WordEv) {s : State} (h_s : s.memIs rM) (h_at : ∀ b, (s.at b).memIs rM) :
    outMem rM (execUwGoto e s) := by
  unfold execUwGoto
  try dsimp only
  with_reducible repeat' (first | assumption | intro _ | apply outMem_next | apply h_at | apply seqRow_mem | apply mem_ite | apply mem_foldl | simp only [memIs_mk] | split)

theorem execDrainCopy_mem {rM : Tab Byte} (b : Nat) (q : Fin 64) {s : State} (h_s : s.memIs rM) (h_at : ∀ b, (s.at b).memIs rM) :
    outMem rM (execDrainCopy b q s) := by
  unfold execDrainCopy
  try dsimp only
  with_reducible repeat' (first | assumption | intro _ | apply outMem_next | apply State.drainCopy_mem | apply h_at | apply mem_ite | apply mem_foldl | simp only [memIs_mk] | split)

theorem execShotStatusItem_mem {rM : Tab Byte} (e : FrondEv) {s : State} (h_s : s.memIs rM) (h_at : ∀ b, (s.at b).memIs rM) :
    outMem rM (execShotStatusItem e s) := by
  unfold execShotStatusItem
  try dsimp only
  with_reducible repeat' (first | assumption | intro _ | apply outMem_next | apply State.shotStatus_mem | apply h_at | apply mem_ite | apply mem_foldl | simp only [memIs_mk] | split)

theorem execJoinMs_mem {rM : Tab Byte} (b : Nat) {s : State} (h_s : s.memIs rM) (h_at : ∀ b, (s.at b).memIs rM) :
    outMem rM (execJoinMs b s) := by
  unfold execJoinMs
  try dsimp only
  with_reducible repeat' (first | assumption | intro _ | apply outMem_next | apply State.joinMs_mem | apply h_at | apply mem_ite | apply mem_foldl | simp only [memIs_mk] | split)

theorem execWaitAdd_mem {rM : Tab Byte} (e : WordEv) {s : State} (h_s : s.memIs rM) (h_at : ∀ b, (s.at b).memIs rM) :
    outMem rM (execWaitAdd e s) := by
  unfold execWaitAdd
  try dsimp only
  with_reducible repeat' (first | assumption | intro _ | apply outMem_next | apply h_at | apply waitRow_mem | apply mem_ite | apply mem_foldl | simp only [memIs_mk] | split)

theorem execClockUnlock_mem {rM : Tab Byte} (b : Nat) (ref : Bool) {s : State} (h_s : s.memIs rM) (h_at : ∀ b, (s.at b).memIs rM) :
    outMem rM (execClockUnlock b ref s) := by
  unfold execClockUnlock
  try dsimp only
  with_reducible repeat' (first | assumption | intro _ | apply outMem_next | apply State.unlockNow_mem | apply h_at | apply mem_ite | apply mem_foldl | simp only [memIs_mk] | split)

theorem execSegmentBoundary_mem {rM : Tab Byte} (e : FrondEv) (c : Fin 40) {s : State} (h_s : s.memIs rM) (h_at : ∀ b, (s.at b).memIs rM) :
    outMem rM (execSegmentBoundary e c s) := by
  unfold execSegmentBoundary
  try dsimp only
  with_reducible repeat' (first | assumption | intro _ | apply outMem_next | apply State.passBoundary_mem | apply h_at | apply mem_ite | apply mem_foldl | simp only [memIs_mk] | split)

theorem execGroupExpired_mem {rM : Tab Byte} (b : Nat) (g : Fin 64) {s : State} (h_s : s.memIs rM) (h_at : ∀ b, (s.at b).memIs rM) :
    outMem rM (execGroupExpired b g s) := by
  unfold execGroupExpired
  try dsimp only
  with_reducible repeat' (first | assumption | intro _ | apply outMem_next | apply State.expire_mem | apply h_at | apply mem_ite | apply mem_foldl | simp only [memIs_mk] | split)

theorem execRingUnderrun_mem {rM : Tab Byte} (e : FrondEv) (c : Fin 40) {s : State} (h_s : s.memIs rM) (h_at : ∀ b, (s.at b).memIs rM) :
    outMem rM (execRingUnderrun e c s) := by
  unfold execRingUnderrun
  try dsimp only
  with_reducible repeat' (first | assumption | intro _ | apply outMem_next | apply State.ringUnderrun_mem | apply h_at | apply mem_ite | apply mem_foldl | simp only [memIs_mk] | split)

theorem execUncorrectableSramError_mem {rM : Tab Byte} (b : Nat) {s : State} (h_s : s.memIs rM) (h_at : ∀ b, (s.at b).memIs rM) :
    outMem rM (execUncorrectableSramError b s) := by
  unfold execUncorrectableSramError
  try dsimp only
  with_reducible repeat' (first | assumption | intro _ | apply outMem_next | apply State.fatal_mem | apply h_at | apply mem_ite | apply mem_foldl | simp only [memIs_mk] | split)

theorem execAluSubi_mem {rM : Tab Byte} (e : WordEv) {s : State} (h_s : s.memIs rM) (h_at : ∀ b, (s.at b).memIs rM) :
    outMem rM (execAluSubi e s) := by
  unfold execAluSubi
  try dsimp only
  with_reducible repeat' (first | assumption | intro _ | apply outMem_next | apply h_at | apply aluRow_mem | apply mem_ite | apply mem_foldl | simp only [memIs_mk] | split)

theorem execBootStepComplete_mem {rM : Tab Byte} (b : Nat) (r : BootRes) {s : State} (h_s : s.memIs rM) (h_at : ∀ b, (s.at b).memIs rM) :
    outMem rM (execBootStepComplete b r s) := by
  unfold execBootStepComplete
  try dsimp only
  with_reducible repeat' (first | assumption | intro _ | apply outMem_next | apply State.stepEnds_mem | apply h_at | apply mem_ite | apply mem_foldl | simp only [memIs_mk] | split)

theorem execUwHalt_mem {rM : Tab Byte} (e : WordEv) {s : State} (h_s : s.memIs rM) (h_at : ∀ b, (s.at b).memIs rM) :
    outMem rM (execUwHalt e s) := by
  unfold execUwHalt
  try dsimp only
  with_reducible repeat' (first | assumption | intro _ | apply outMem_next | apply h_at | apply seqRow_mem | apply mem_ite | apply mem_foldl | simp only [memIs_mk] | split)

theorem execWindowResult_mem {rM : Tab Byte} (e : FrondEv) (t : Fin 16) {s : State} (h_s : s.memIs rM) (h_at : ∀ b, (s.at b).memIs rM) :
    outMem rM (execWindowResult e t s) := by
  unfold execWindowResult
  try dsimp only
  with_reducible repeat' (first | assumption | intro _ | apply outMem_next | apply State.windowResult_mem | apply h_at | apply mem_ite | apply mem_foldl | simp only [memIs_mk] | split)

theorem execHoldoffEnd_mem {rM : Tab Byte} (b : Nat) (c : Fin 16) {s : State} (h_s : s.memIs rM) (h_at : ∀ b, (s.at b).memIs rM) :
    outMem rM (execHoldoffEnd b c s) := by
  unfold execHoldoffEnd
  try dsimp only
  with_reducible repeat' (first | assumption | intro _ | apply outMem_next | apply State.acqStep_mem | apply h_at | apply mem_ite | apply mem_foldl | simp only [memIs_mk] | split)

theorem execAluRdlc_mem {rM : Tab Byte} (e : WordEv) {s : State} (h_s : s.memIs rM) (h_at : ∀ b, (s.at b).memIs rM) :
    outMem rM (execAluRdlc e s) := by
  unfold execAluRdlc
  try dsimp only
  with_reducible repeat' (first | assumption | intro _ | apply outMem_next | apply h_at | apply aluRow_mem | apply mem_ite | apply mem_foldl | simp only [memIs_mk] | split)

theorem execBeatCounterLoad_mem {rM : Tab Byte} (b : Nat) {s : State} (h_s : s.memIs rM) (h_at : ∀ b, (s.at b).memIs rM) :
    outMem rM (execBeatCounterLoad b s) := by
  unfold execBeatCounterLoad
  try dsimp only
  with_reducible repeat' (first | assumption | intro _ | apply outMem_next | apply State.counterLoad_mem | apply h_at | apply mem_ite | apply mem_foldl | simp only [memIs_mk] | split)

theorem State.idle_mem {rM : Tab Byte} {s : State} (h_s : s.memIs rM) (h_at : ∀ b, (s.at b).memIs rM) :
    State.memIs rM (State.idle s) := by
  unfold State.idle
  try dsimp only
  with_reducible repeat' (first | assumption | intro _ | apply h_at | apply mem_ite | apply mem_foldl | simp only [memIs_mk] | split)

theorem execUwCall_mem {rM : Tab Byte} (e : WordEv) {s : State} (h_s : s.memIs rM) (h_at : ∀ b, (s.at b).memIs rM) :
    outMem rM (execUwCall e s) := by
  unfold execUwCall
  try dsimp only
  with_reducible repeat' (first | assumption | intro _ | apply outMem_next | apply h_at | apply seqRow_mem | apply mem_ite | apply mem_foldl | simp only [memIs_mk] | split)

theorem execStopTimeout_mem {rM : Tab Byte} (b : Nat) {s : State} (h_s : s.memIs rM) (h_at : ∀ b, (s.at b).memIs rM) :
    outMem rM (execStopTimeout b s) := by
  unfold execStopTimeout
  try dsimp only
  with_reducible repeat' (first | assumption | intro _ | apply outMem_next | apply State.stopTimeout_mem | apply h_at | apply mem_ite | apply mem_foldl | simp only [memIs_mk] | split)

theorem execWaitResume_mem {rM : Tab Byte} (e : WordEv) {s : State} (h_s : s.memIs rM) (h_at : ∀ b, (s.at b).memIs rM) :
    outMem rM (execWaitResume e s) := by
  unfold execWaitResume
  try dsimp only
  with_reducible repeat' (first | assumption | intro _ | apply outMem_next | apply h_at | apply resumeRow_mem | apply mem_ite | apply mem_foldl | simp only [memIs_mk] | split)

theorem execInterruptEntry_mem {rM : Tab Byte} (e : FrondEv) {s : State} (h_s : s.memIs rM) (h_at : ∀ b, (s.at b).memIs rM) :
    outMem rM (execInterruptEntry e s) := by
  unfold execInterruptEntry
  try dsimp only
  with_reducible repeat' (first | assumption | intro _ | apply outMem_next | apply State.interrupt_mem | apply h_at | apply mem_ite | apply mem_foldl | simp only [memIs_mk] | split)

theorem execFrondScrubEnd_mem {rM : Tab Byte} (b : Nat) (f : Fin 32) {s : State} (h_s : s.memIs rM) (h_at : ∀ b, (s.at b).memIs rM) :
    outMem rM (execFrondScrubEnd b f s) := by
  unfold execFrondScrubEnd
  try dsimp only
  with_reducible repeat' (first | assumption | intro _ | apply outMem_next | apply State.frondScrubEnd_mem | apply h_at | apply mem_ite | apply mem_foldl | simp only [memIs_mk] | split)

theorem execFrameToggleX_mem {rM : Tab Byte} (e : FrondEv) {s : State} (h_s : s.memIs rM) (h_at : ∀ b, (s.at b).memIs rM) :
    outMem rM (execFrameToggleX e s) := by
  unfold execFrameToggleX
  try dsimp only
  with_reducible repeat' (first | assumption | intro _ | apply outMem_next | apply State.frameRow_mem | apply h_at | apply mem_ite | apply mem_foldl | simp only [memIs_mk] | split)

theorem execHkCalDone_mem {rM : Tab Byte} (b h : Nat) (pairs : List CalPair) {s : State} (h_s : s.memIs rM) (h_at : ∀ b, (s.at b).memIs rM) :
    outMem rM (execHkCalDone b h pairs s) := by
  unfold execHkCalDone
  try dsimp only
  with_reducible repeat' (first | assumption | intro _ | apply outMem_next | apply State.hkCalDone_mem | apply State.hkTo_mem | apply h_at | apply mem_ite | apply mem_foldl | simp only [memIs_mk] | split)

theorem execTrimTakeEffect_mem {rM : Tab Byte} (e : FrondEv) (u : Fin 12) {s : State} (h_s : s.memIs rM) (h_at : ∀ b, (s.at b).memIs rM) :
    outMem rM (execTrimTakeEffect e u s) := by
  unfold execTrimTakeEffect
  try dsimp only
  with_reducible repeat' (first | assumption | intro _ | apply outMem_next | apply State.trimEffect_mem | apply h_at | apply mem_ite | apply mem_foldl | simp only [memIs_mk] | split)

theorem execWaitParam_mem {rM : Tab Byte} (e : WordEv) {s : State} (h_s : s.memIs rM) (h_at : ∀ b, (s.at b).memIs rM) :
    outMem rM (execWaitParam e s) := by
  unfold execWaitParam
  try dsimp only
  with_reducible repeat' (first | assumption | intro _ | apply outMem_next | apply h_at | apply waitRow_mem | apply mem_ite | apply mem_foldl | simp only [memIs_mk] | split)

theorem execUwBrt_mem {rM : Tab Byte} (e : WordEv) {s : State} (h_s : s.memIs rM) (h_at : ∀ b, (s.at b).memIs rM) :
    outMem rM (execUwBrt e s) := by
  unfold execUwBrt
  try dsimp only
  with_reducible repeat' (first | assumption | intro _ | apply outMem_next | apply h_at | apply seqRow_mem | apply mem_ite | apply mem_foldl | simp only [memIs_mk] | split)

theorem execShotEndIssue_mem {rM : Tab Byte} (e : FrondEv) {s : State} (h_s : s.memIs rM) (h_at : ∀ b, (s.at b).memIs rM) :
    outMem rM (execShotEndIssue e s) := by
  unfold execShotEndIssue
  try dsimp only
  with_reducible repeat' (first | assumption | intro _ | apply outMem_next | apply State.shotEndIssue_mem | apply h_at | apply mem_ite | apply mem_foldl | simp only [memIs_mk] | split)

theorem execArmNotice_mem {rM : Tab Byte} (e : FrondEv) (perr : Bool) {s : State} (h_s : s.memIs rM) (h_at : ∀ b, (s.at b).memIs rM) :
    outMem rM (execArmNotice e perr s) := by
  unfold execArmNotice
  try dsimp only
  with_reducible repeat' (first | assumption | intro _ | apply outMem_next | apply State.portDiscard_mem | apply State.armNotice_mem | apply h_at | apply mem_ite | apply mem_foldl | simp only [memIs_mk] | split)

theorem execUwDispatch_mem {rM : Tab Byte} (e : WordEv) {s : State} (h_s : s.memIs rM) (h_at : ∀ b, (s.at b).memIs rM) :
    outMem rM (execUwDispatch e s) := by
  unfold execUwDispatch
  try dsimp only
  with_reducible repeat' (first | assumption | intro _ | apply outMem_next | apply h_at | apply seqRow_mem | apply mem_ite | apply mem_foldl | simp only [memIs_mk] | split)

theorem execDecideReceived_mem {rM : Tab Byte} (b : Nat) (dst : Fin 32) (w : BitVec 64) {s : State} (h_s : s.memIs rM) (h_at : ∀ b, (s.at b).memIs rM) :
    outMem rM (execDecideReceived b dst w s) := by
  unfold execDecideReceived
  try dsimp only
  with_reducible repeat' (first | assumption | intro _ | apply outMem_next | apply State.decideArrives_mem | apply State.unicast_mem | apply h_at | apply mem_ite | apply mem_foldl | simp only [memIs_mk] | split)

theorem execClusterVote_mem {rM : Tab Byte} (b : Nat) (g : Fin 64) {s : State} (h_s : s.memIs rM) (h_at : ∀ b, (s.at b).memIs rM) :
    outMem rM (execClusterVote b g s) := by
  unfold execClusterVote
  try dsimp only
  with_reducible repeat' (first | assumption | intro _ | apply outMem_next | apply State.voteNow_mem | apply h_at | apply mem_ite | apply mem_foldl | simp only [memIs_mk] | split)

theorem execQueueTimeout_mem {rM : Tab Byte} (b : Nat) (q : Fin 64) {s : State} (h_s : s.memIs rM) (h_at : ∀ b, (s.at b).memIs rM) :
    outMem rM (execQueueTimeout b q s) := by
  unfold execQueueTimeout
  try dsimp only
  with_reducible repeat' (first | assumption | intro _ | apply outMem_next | apply State.queueTimeout_mem | apply h_at | apply mem_ite | apply mem_foldl | simp only [memIs_mk] | split)

theorem execOutcomeLost_mem {rM : Tab Byte} (b : Nat) (port : Fin 4) (w : BitVec 64) {s : State} (h_s : s.memIs rM) (h_at : ∀ b, (s.at b).memIs rM) :
    outMem rM (execOutcomeLost b port w s) := by
  unfold execOutcomeLost
  try dsimp only
  with_reducible repeat' (first | assumption | intro _ | apply outMem_next | apply State.outcomeArrives_mem | apply h_at | apply mem_ite | apply mem_foldl | simp only [memIs_mk] | split)

theorem execBootStepTimeout_mem {rM : Tab Byte} (b t : Nat) (units : List Nat) {s : State} (h_s : s.memIs rM) (h_at : ∀ b, (s.at b).memIs rM) :
    outMem rM (execBootStepTimeout b t units s) := by
  unfold execBootStepTimeout
  try dsimp only
  with_reducible repeat' (first | assumption | intro _ | apply outMem_next | apply State.stepTimeout_mem | apply h_at | apply mem_ite | apply mem_foldl | simp only [memIs_mk] | split)

theorem execHoldMs_mem {rM : Tab Byte} (b : Nat) {s : State} (h_s : s.memIs rM) (h_at : ∀ b, (s.at b).memIs rM) :
    outMem rM (execHoldMs b s) := by
  unfold execHoldMs
  try dsimp only
  with_reducible repeat' (first | assumption | intro _ | apply outMem_next | apply State.holdMs_mem | apply h_at | apply mem_ite | apply mem_foldl | simp only [memIs_mk] | split)

theorem execUwLoop_mem {rM : Tab Byte} (e : WordEv) {s : State} (h_s : s.memIs rM) (h_at : ∀ b, (s.at b).memIs rM) :
    outMem rM (execUwLoop e s) := by
  unfold execUwLoop
  try dsimp only
  with_reducible repeat' (first | assumption | intro _ | apply outMem_next | apply h_at | apply seqRow_mem | apply mem_ite | apply mem_foldl | simp only [memIs_mk] | split)

theorem execRefreshInterval_mem {rM : Tab Byte} (b : Nat) (temps : List (Option (BitVec 16))) {s : State} (h_s : s.memIs rM) (h_at : ∀ b, (s.at b).memIs rM) :
    outMem rM (execRefreshInterval b temps s) := by
  unfold execRefreshInterval
  try dsimp only
  with_reducible repeat' (first | assumption | intro _ | apply outMem_next | apply State.refresh_mem | apply h_at | apply mem_ite | apply mem_foldl | simp only [memIs_mk] | split)

theorem execUwNext_mem {rM : Tab Byte} (e : WordEv) {s : State} (h_s : s.memIs rM) (h_at : ∀ b, (s.at b).memIs rM) :
    outMem rM (execUwNext e s) := by
  unfold execUwNext
  try dsimp only
  with_reducible repeat' (first | assumption | intro _ | apply outMem_next | apply h_at | apply seqRow_mem | apply mem_ite | apply mem_foldl | simp only [memIs_mk] | split)

theorem execAbortN_mem {rM : Tab Byte} (b : Nat) (low : Option Nat) {s : State} (h_s : s.memIs rM) (h_at : ∀ b, (s.at b).memIs rM) :
    outMem rM (execAbortN b low s) := by
  unfold execAbortN
  try dsimp only
  with_reducible repeat' (first | assumption | intro _ | apply outMem_next | apply State.abortLevel_mem | apply State.enterHold_mem | apply h_at | apply mem_ite | apply mem_foldl | simp only [memIs_mk] | split)

theorem execAluShl6_mem {rM : Tab Byte} (e : WordEv) {s : State} (h_s : s.memIs rM) (h_at : ∀ b, (s.at b).memIs rM) :
    outMem rM (execAluShl6 e s) := by
  unfold execAluShl6
  try dsimp only
  with_reducible repeat' (first | assumption | intro _ | apply outMem_next | apply h_at | apply aluRow_mem | apply mem_ite | apply mem_foldl | simp only [memIs_mk] | split)

theorem execSyncReqSend_mem {rM : Tab Byte} (b : Nat) (phi : Fin 2048) {s : State} (h_s : s.memIs rM) (h_at : ∀ b, (s.at b).memIs rM) :
    outMem rM (execSyncReqSend b phi s) := by
  unfold execSyncReqSend
  try dsimp only
  with_reducible repeat' (first | assumption | intro _ | apply outMem_next | apply State.syncReqSend_mem | apply h_at | apply mem_ite | apply mem_foldl | simp only [memIs_mk] | split)

theorem execAdcOvr_mem {rM : Tab Byte} (e : OvrEv) {s : State} (h_s : s.memIs rM) (h_at : ∀ b, (s.at b).memIs rM) :
    outMem rM (execAdcOvr e s) := by
  unfold execAdcOvr
  try dsimp only
  with_reducible repeat' (first | assumption | intro _ | apply outMem_next | apply State.ovrBeat_mem | apply h_at | apply mem_ite | apply mem_foldl | simp only [memIs_mk] | split)

theorem execFrameClearAll_mem {rM : Tab Byte} (e : FrondEv) {s : State} (h_s : s.memIs rM) (h_at : ∀ b, (s.at b).memIs rM) :
    outMem rM (execFrameClearAll e s) := by
  unfold execFrameClearAll
  try dsimp only
  with_reducible repeat' (first | assumption | intro _ | apply outMem_next | apply State.frameRow_mem | apply h_at | apply mem_ite | apply mem_foldl | simp only [memIs_mk] | split)

theorem execEstimateDone_mem {rM : Tab Byte} (e : FrondEv) (ests : List CalEst) (weak : Bool) {s : State} (h_s : s.memIs rM) (h_at : ∀ b, (s.at b).memIs rM) :
    outMem rM (execEstimateDone e ests weak s) := by
  unfold execEstimateDone
  try dsimp only
  with_reducible repeat' (first | assumption | intro _ | apply outMem_next | apply State.estimates_mem | apply h_at | apply mem_ite | apply mem_foldl | simp only [memIs_mk] | split)

theorem execCsyncPong_mem {rM : Tab Byte} (b : Nat) (dst : Fin 32) (w : BitVec 64) {s : State} (h_s : s.memIs rM) (h_at : ∀ b, (s.at b).memIs rM) :
    outMem rM (execCsyncPong b dst w s) := by
  unfold execCsyncPong
  try dsimp only
  with_reducible repeat' (first | assumption | intro _ | apply outMem_next | apply State.pong_mem | apply State.unicast_mem | apply h_at | apply mem_ite | apply mem_foldl | simp only [memIs_mk] | split)

theorem execDiodeReading_mem {rM : Tab Byte} (b : Nat) (i : Fin 40) (t : BitVec 16) {s : State} (h_s : s.memIs rM) (h_at : ∀ b, (s.at b).memIs rM) :
    outMem rM (execDiodeReading b i t s) := by
  unfold execDiodeReading
  try dsimp only
  with_reducible repeat' (first | assumption | intro _ | apply outMem_next | apply State.diodeReading_mem | apply State.past_mem | apply State.past_mem | apply State.past_mem | apply State.past_mem | apply h_at | apply State.past_mem | apply mem_ite | apply mem_foldl | simp only [memIs_mk] | split)

theorem execUwIrq_mem {rM : Tab Byte} (e : WordEv) {s : State} (h_s : s.memIs rM) (h_at : ∀ b, (s.at b).memIs rM) :
    outMem rM (execUwIrq e s) := by
  unfold execUwIrq
  try dsimp only
  with_reducible repeat' (first | assumption | intro _ | apply outMem_next | apply h_at | apply seqRow_mem | apply mem_ite | apply mem_foldl | simp only [memIs_mk] | split)

theorem execAluLdlci_mem {rM : Tab Byte} (e : WordEv) {s : State} (h_s : s.memIs rM) (h_at : ∀ b, (s.at b).memIs rM) :
    outMem rM (execAluLdlci e s) := by
  unfold execAluLdlci
  try dsimp only
  with_reducible repeat' (first | assumption | intro _ | apply outMem_next | apply h_at | apply aluRow_mem | apply mem_ite | apply mem_foldl | simp only [memIs_mk] | split)

theorem execDeadlinePassed_mem {rM : Tab Byte} (b : Nat) (n : Fin 64) (r : Fin 16) {s : State} (h_s : s.memIs rM) (h_at : ∀ b, (s.at b).memIs rM) :
    outMem rM (execDeadlinePassed b n r s) := by
  unfold execDeadlinePassed
  try dsimp only
  with_reducible repeat' (first | assumption | intro _ | apply outMem_next | apply State.deadline_mem | apply h_at | apply mem_ite | apply mem_foldl | simp only [memIs_mk] | split)

theorem execAluLdlc_mem {rM : Tab Byte} (e : WordEv) {s : State} (h_s : s.memIs rM) (h_at : ∀ b, (s.at b).memIs rM) :
    outMem rM (execAluLdlc e s) := by
  unfold execAluLdlc
  try dsimp only
  with_reducible repeat' (first | assumption | intro _ | apply outMem_next | apply h_at | apply aluRow_mem | apply mem_ite | apply mem_foldl | simp only [memIs_mk] | split)

theorem execXyStart_mem {rM : Tab Byte} (e : FrondEv) {s : State} (h_s : s.memIs rM) (h_at : ∀ b, (s.at b).memIs rM) :
    outMem rM (execXyStart e s) := by
  unfold execXyStart
  try dsimp only
  with_reducible repeat' (first | assumption | intro _ | apply outMem_next | apply State.xyStart_mem | apply h_at | apply mem_ite | apply mem_foldl | simp only [memIs_mk] | split)

theorem execJumpLatch_mem {rM : Tab Byte} (e : FrondEv) (c : Fin 32) {s : State} (h_s : s.memIs rM) (h_at : ∀ b, (s.at b).memIs rM) :
    outMem rM (execJumpLatch e c s) := by
  unfold execJumpLatch
  try dsimp only
  with_reducible repeat' (first | assumption | intro _ | apply outMem_next | apply State.latchJump_mem | apply h_at | apply mem_ite | apply mem_foldl | simp only [memIs_mk] | split)

theorem execFrameToggleZ_mem {rM : Tab Byte} (e : FrondEv) {s : State} (h_s : s.memIs rM) (h_at : ∀ b, (s.at b).memIs rM) :
    outMem rM (execFrameToggleZ e s) := by
  unfold execFrameToggleZ
  try dsimp only
  with_reducible repeat' (first | assumption | intro _ | apply outMem_next | apply State.frameRow_mem | apply h_at | apply mem_ite | apply mem_foldl | simp only [memIs_mk] | split)

theorem execSyncIssue_mem {rM : Tab Byte} (e : FrondEv) {s : State} (h_s : s.memIs rM) (h_at : ∀ b, (s.at b).memIs rM) :
    outMem rM (execSyncIssue e s) := by
  unfold execSyncIssue
  try dsimp only
  with_reducible repeat' (first | assumption | intro _ | apply outMem_next | apply State.syncIssue_mem | apply h_at | apply mem_ite | apply mem_foldl | simp only [memIs_mk] | split)

theorem execNdeorAbort_mem {rM : Tab Byte} (b : Nat) (port : Fin 4) (w : BitVec 64) {s : State} (h_s : s.memIs rM) (h_at : ∀ b, (s.at b).memIs rM) :
    outMem rM (execNdeorAbort b port w s) := by
  unfold execNdeorAbort
  try dsimp only
  with_reducible repeat' (first | assumption | intro _ | apply outMem_next | apply State.abortArrives_mem | apply h_at | apply mem_ite | apply mem_foldl | simp only [memIs_mk] | split)

theorem execValidationComplete_mem {rM : Tab Byte} (b : Nat) (g : Fin 64) {s : State} (h_s : s.memIs rM) (h_at : ∀ b, (s.at b).memIs rM) :
    outMem rM (execValidationComplete b g s) := by
  unfold execValidationComplete
  try dsimp only
  with_reducible repeat' (first | assumption | intro _ | apply outMem_next | apply State.validate_mem | apply h_at | apply mem_ite | apply mem_foldl | simp only [memIs_mk] | split)

theorem execNdeorFrame_mem {rM : Tab Byte} (b : Nat) (port lane : Fin 4) (crc : BitVec 15) (mode : Fin 4) (dst : Fin 32) (cls : Fin 4) (phi : Fin 2048) (turn : Nat) (w : BitVec 64) {s : State} (h_s : s.memIs rM) (h_at : ∀ b, (s.at b).memIs rM) :
    outMem rM (execNdeorFrame b port lane crc mode dst cls phi turn w s) := by
  unfold execNdeorFrame
  try dsimp only
  with_reducible repeat' (first | assumption | intro _ | apply outMem_next | apply State.frameIn_mem | apply h_at | apply mem_ite | apply mem_foldl | simp only [memIs_mk] | split)

theorem execTrainingStateDone_mem {rM : Tab Byte} (b : Nat) (p : Fin 4) (vals : List Nat) (dev : Fin 32) {s : State} (h_s : s.memIs rM) (h_at : ∀ b, (s.at b).memIs rM) :
    outMem rM (execTrainingStateDone b p vals dev s) := by
  unfold execTrainingStateDone
  try dsimp only
  with_reducible repeat' (first | assumption | intro _ | apply outMem_next | apply State.trainDone_mem | apply h_at | apply mem_ite | apply mem_foldl | simp only [memIs_mk] | split)

theorem execToneChange_mem {rM : Tab Byte} (e : FrondEv) (t : Fin 16) {s : State} (h_s : s.memIs rM) (h_at : ∀ b, (s.at b).memIs rM) :
    outMem rM (execToneChange e t s) := by
  unfold execToneChange
  try dsimp only
  with_reducible repeat' (first | assumption | intro _ | apply outMem_next | apply State.toneStep_mem | apply h_at | apply mem_ite | apply mem_foldl | simp only [memIs_mk] | split)

theorem execUwRet_mem {rM : Tab Byte} (e : WordEv) {s : State} (h_s : s.memIs rM) (h_at : ∀ b, (s.at b).memIs rM) :
    outMem rM (execUwRet e s) := by
  unfold execUwRet
  try dsimp only
  with_reducible repeat' (first | assumption | intro _ | apply outMem_next | apply h_at | apply seqRow_mem | apply mem_ite | apply mem_foldl | simp only [memIs_mk] | split)

theorem execUwShotEnd_mem {rM : Tab Byte} (e : WordEv) {s : State} (h_s : s.memIs rM) (h_at : ∀ b, (s.at b).memIs rM) :
    outMem rM (execUwShotEnd e s) := by
  unfold execUwShotEnd
  try dsimp only
  with_reducible repeat' (first | assumption | intro _ | apply outMem_next | apply h_at | apply seqRow_mem | apply mem_ite | apply mem_foldl | simp only [memIs_mk] | split)

theorem execAluAdd_mem {rM : Tab Byte} (e : WordEv) {s : State} (h_s : s.memIs rM) (h_at : ∀ b, (s.at b).memIs rM) :
    outMem rM (execAluAdd e s) := by
  unfold execAluAdd
  try dsimp only
  with_reducible repeat' (first | assumption | intro _ | apply outMem_next | apply h_at | apply aluRow_mem | apply mem_ite | apply mem_foldl | simp only [memIs_mk] | split)

theorem execJumpRequest_mem {rM : Tab Byte} (e : FrondEv) {s : State} (h_s : s.memIs rM) (h_at : ∀ b, (s.at b).memIs rM) :
    outMem rM (execJumpRequest e s) := by
  unfold execJumpRequest
  try dsimp only
  with_reducible repeat' (first | assumption | intro _ | apply outMem_next | apply State.jumpRequest_mem | apply h_at | apply mem_ite | apply mem_foldl | simp only [memIs_mk] | split)

theorem execPfAbortDoorbell_mem {rM : Tab Byte} (b : Nat) (v : Word) {s : State} (h_s : s.memIs rM) (h_at : ∀ b, (s.at b).memIs rM) :
    outMem rM (execPfAbortDoorbell b v s) := by
  unfold execPfAbortDoorbell
  try dsimp only
  with_reducible repeat' (first | assumption | intro _ | apply outMem_next | apply State.abortBell_mem | apply h_at | apply mem_ite | apply mem_foldl | simp only [memIs_mk] | split)

theorem execPgoodLost_mem {rM : Tab Byte} (b : Nat) (d : Fin 26) {s : State} (h_s : s.memIs rM) (h_at : ∀ b, (s.at b).memIs rM) :
    outMem rM (execPgoodLost b d s) := by
  unfold execPgoodLost
  try dsimp only
  with_reducible repeat' (first | assumption | intro _ | apply outMem_next | apply State.pgoodLost_mem | apply h_at | apply mem_ite | apply mem_foldl | simp only [memIs_mk] | split)

theorem execDacCalDone_mem {rM : Tab Byte} (e : FrondEv) (pairs : List CalPair) {s : State} (h_s : s.memIs rM) (h_at : ∀ b, (s.at b).memIs rM) :
    outMem rM (execDacCalDone e pairs s) := by
  unfold execDacCalDone
  try dsimp only
  with_reducible repeat' (first | assumption | intro _ | apply outMem_next | apply State.dacDone_mem | apply h_at | apply mem_ite | apply mem_foldl | simp only [memIs_mk] | split)

theorem execSlotResolution_mem {rM : Tab Byte} (e : FrondEv) (perr : Bool) {s : State} (h_s : s.memIs rM) (h_at : ∀ b, (s.at b).memIs rM) :
    outMem rM (execSlotResolution e perr s) := by
  unfold execSlotResolution
  try dsimp only
  with_reducible repeat' (first | assumption | intro _ | apply outMem_next | apply State.portDiscard_mem | apply State.slotResolution_mem | apply h_at | apply mem_ite | apply mem_foldl | simp only [memIs_mk] | split)

theorem execFrameXorSlot_mem {rM : Tab Byte} (e : FrondEv) {s : State} (h_s : s.memIs rM) (h_at : ∀ b, (s.at b).memIs rM) :
    outMem rM (execFrameXorSlot e s) := by
  unfold execFrameXorSlot
  try dsimp only
  with_reducible repeat' (first | assumption | intro _ | apply outMem_next | apply State.frameRow_mem | apply h_at | apply mem_ite | apply mem_foldl | simp only [memIs_mk] | split)

theorem execFrameClear_mem {rM : Tab Byte} (e : FrondEv) {s : State} (h_s : s.memIs rM) (h_at : ∀ b, (s.at b).memIs rM) :
    outMem rM (execFrameClear e s) := by
  unfold execFrameClear
  try dsimp only
  with_reducible repeat' (first | assumption | intro _ | apply outMem_next | apply State.frameRow_mem | apply h_at | apply mem_ite | apply mem_foldl | simp only [memIs_mk] | split)

theorem State.cntCmd_mem {rM : Tab Byte} {s : State} (p : Nat) (v : Word) (b : Nat) (h_s : s.memIs rM) (h_at : ∀ b, (s.at b).memIs rM) :
    State.memIs rM (State.cntCmd s p v b) := by
  unfold State.cntCmd
  try dsimp only
  with_reducible repeat' (first | assumption | intro _ | apply State.recErr_mem | apply State.snapCounters_mem | apply h_at | apply mem_ite | apply mem_foldl | simp only [memIs_mk] | split)

theorem execCounterSnap_mem {rM : Tab Byte} (path : Path) (b : Nat) (p : Fin 16) (key : BitVec 16) {s : State} (h_s : s.memIs rM)
    (h_at : ∀ b, (s.at b).memIs rM) : outMem rM (execCounterSnap path b p key s) := by
  unfold execCounterSnap State.rowWrite State.rowTurn
  refine outMem_next ?_
  split
  · exact State.putBehind_mem _ _ h_s
  · show State.memIs rM (State.withWrite s path (pCnt p.val) 0x100 _)
    unfold State.withWrite
    split
    · exact h_s
    · split
      · rename_i h
        exact optMem_get h (State.writeStop_mem _ _ _ h_s)
      · exact State.cntCmd_mem _ _ _ h_s h_at

theorem execAluSub_mem {rM : Tab Byte} (e : WordEv) {s : State} (h_s : s.memIs rM) (h_at : ∀ b, (s.at b).memIs rM) :
    outMem rM (execAluSub e s) := by
  unfold execAluSub
  try dsimp only
  with_reducible repeat' (first | assumption | intro _ | apply outMem_next | apply h_at | apply aluRow_mem | apply mem_ite | apply mem_foldl | simp only [memIs_mk] | split)

theorem execSyncResp_mem {rM : Tab Byte} (b : Nat) (port : Fin 4) (phi : Fin 2048) (w : BitVec 64) {s : State} (h_s : s.memIs rM) (h_at : ∀ b, (s.at b).memIs rM) :
    outMem rM (execSyncResp b port phi w s) := by
  unfold execSyncResp
  try dsimp only
  with_reducible repeat' (first | assumption | intro _ | apply outMem_next | apply State.syncResp_mem | apply h_at | apply mem_ite | apply mem_foldl | simp only [memIs_mk] | split)

theorem execGroup63Round_mem {rM : Tab Byte} (b : Nat) {s : State} (h_s : s.memIs rM) (h_at : ∀ b, (s.at b).memIs rM) :
    outMem rM (execGroup63Round b s) := by
  unfold execGroup63Round
  try dsimp only
  with_reducible repeat' (first | assumption | intro _ | apply outMem_next | apply State.round63_mem | apply h_at | apply mem_ite | apply mem_foldl | simp only [memIs_mk] | split)

theorem execAluRdshot_mem {rM : Tab Byte} (e : WordEv) {s : State} (h_s : s.memIs rM) (h_at : ∀ b, (s.at b).memIs rM) :
    outMem rM (execAluRdshot e s) := by
  unfold execAluRdshot
  try dsimp only
  with_reducible repeat' (first | assumption | intro _ | apply outMem_next | apply h_at | apply aluRow_mem | apply mem_ite | apply mem_foldl | simp only [memIs_mk] | split)

theorem execFastExit_mem {rM : Tab Byte} (b : Nat) (p : Fin 4) {s : State} (h_s : s.memIs rM) (h_at : ∀ b, (s.at b).memIs rM) :
    outMem rM (execFastExit b p s) := by
  unfold execFastExit
  try dsimp only
  with_reducible repeat' (first | assumption | intro _ | apply outMem_next | apply State.fastExit_mem | apply h_at | apply mem_ite | apply mem_foldl | simp only [memIs_mk] | split)

theorem execReadoutWindow_mem {rM : Tab Byte} (e : FrondEv) {s : State} (h_s : s.memIs rM) (h_at : ∀ b, (s.at b).memIs rM) :
    outMem rM (execReadoutWindow e s) := by
  unfold execReadoutWindow
  try dsimp only
  with_reducible repeat' (first | assumption | intro _ | apply outMem_next | apply State.readoutWindow_mem | apply h_at | apply mem_ite | apply mem_foldl | simp only [memIs_mk] | split)

theorem execParentLinkLoss_mem {rM : Tab Byte} (b : Nat) {s : State} (h_s : s.memIs rM) (h_at : ∀ b, (s.at b).memIs rM) :
    outMem rM (execParentLinkLoss b s) := by
  unfold execParentLinkLoss
  try dsimp only
  with_reducible repeat' (first | assumption | intro _ | apply outMem_next | apply State.parentLoss_mem | apply h_at | apply mem_ite | apply mem_foldl | simp only [memIs_mk] | split)

theorem execClusterDecide_mem {rM : Tab Byte} (b : Nat) (g : Fin 64) {s : State} (h_s : s.memIs rM) (h_at : ∀ b, (s.at b).memIs rM) :
    outMem rM (execClusterDecide b g s) := by
  unfold execClusterDecide
  try dsimp only
  with_reducible repeat' (first | assumption | intro _ | apply outMem_next | apply State.decideNow_mem | apply h_at | apply mem_ite | apply mem_foldl | simp only [memIs_mk] | split)

theorem execAluMovi_mem {rM : Tab Byte} (e : WordEv) {s : State} (h_s : s.memIs rM) (h_at : ∀ b, (s.at b).memIs rM) :
    outMem rM (execAluMovi e s) := by
  unfold execAluMovi
  try dsimp only
  with_reducible repeat' (first | assumption | intro _ | apply outMem_next | apply h_at | apply aluRow_mem | apply mem_ite | apply mem_foldl | simp only [memIs_mk] | split)

theorem execSelfcalDone_mem {rM : Tab Byte} (e : FrondEv) (pairs : List CalPair) {s : State} (h_s : s.memIs rM) (h_at : ∀ b, (s.at b).memIs rM) :
    outMem rM (execSelfcalDone e pairs s) := by
  unfold execSelfcalDone
  try dsimp only
  with_reducible repeat' (first | assumption | intro _ | apply outMem_next | apply State.adcDone_mem | apply h_at | apply mem_ite | apply mem_foldl | simp only [memIs_mk] | split)

theorem execHostCopy_mem {rM : Tab Byte} (b : Nat) (c : Fin 16) {s : State} (h_s : s.memIs rM) (h_at : ∀ b, (s.at b).memIs rM) :
    outMem rM (execHostCopy b c s) := by
  unfold execHostCopy
  try dsimp only
  with_reducible repeat' (first | assumption | intro _ | apply outMem_next | apply State.hostCopy_mem | apply h_at | apply mem_ite | apply mem_foldl | simp only [memIs_mk] | split)

theorem execClrNAssert_mem {rM : Tab Byte} (b : Nat) {s : State} (h_s : s.memIs rM) (h_at : ∀ b, (s.at b).memIs rM) :
    outMem rM (execClrNAssert b s) := by
  unfold execClrNAssert
  try dsimp only
  with_reducible repeat' (first | assumption | intro _ | apply outMem_next | apply State.clrAssert_mem | apply h_at | apply mem_ite | apply mem_foldl | simp only [memIs_mk] | split)

theorem execRunStopComplete_mem {rM : Tab Byte} (b : Nat) {s : State} (h_s : s.memIs rM) (h_at : ∀ b, (s.at b).memIs rM) :
    outMem rM (execRunStopComplete b s) := by
  unfold execRunStopComplete
  try dsimp only
  with_reducible repeat' (first | assumption | intro _ | apply outMem_next | apply State.runStopComplete_mem | apply h_at | apply mem_ite | apply mem_foldl | simp only [memIs_mk] | split)

theorem execGranuleScrubEnd_mem {rM : Tab Byte} (b : Nat) (k : Fin 128) {s : State} (h_s : s.memIs rM) (h_at : ∀ b, (s.at b).memIs rM) :
    outMem rM (execGranuleScrubEnd b k s) := by
  unfold execGranuleScrubEnd
  try dsimp only
  with_reducible repeat' (first | assumption | intro _ | apply outMem_next | apply State.granuleScrubEnd_mem | apply h_at | apply mem_ite | apply mem_foldl | simp only [memIs_mk] | split)

end Sys2Proof.Machine
end

