-- ==== Sys2Proof/WellFormed.lean ====
section
/-! DEFINITION. Which operands a command may carry: what the types of Syntax.lean do not say already. exec answers for every operand;
these are the ones that describe something the block can meet. -/
namespace Sys2Proof

/-- A value of the 64-bit beat counter (01_architecture.md R28). -/
def okBeat (b : Nat) : Bool := decide (b < 2 ^ 64)

/-- The ADC codes of one filter span: 192 samples (08_readout_front_end.md R244). -/
def DemodUnit.wf (u : DemodUnit) : Bool := decide (u.f < 32) && decide (u.tone < 16) && u.codes.length == 192

/-- An aligned offset in a page and a bit of its register (15_calibration.md R407). -/
def CalPair.wf (x : CalPair) : Bool := decide (x.off < 0x1000) && x.off % 4 == 0 && decide (x.lo < 32)

/-- An estimate likewise, begun at a beat. -/
def CalEst.wf (x : CalEst) : Bool := decide (x.off < 0x1000) && x.off % 4 == 0 && decide (x.lo < 32) && okBeat x.start

/-- The fields of a PTP frame in their widths (13_time_and_cluster.md R352). -/
def PtpMsg.wf (x : PtpMsg) : Bool := decide (x.domain < 256) && decide (x.seq < 65536) && decide (x.src < 2 ^ 64) && decide (x.csum < 65536)

/-- Cause codes and details in the widths of a boot record (02_modes_power_boot.md R67, R71). -/
def BootRes.wf (r : BootRes) : Bool :=
  decide (r.cause < 65536) && r.units.all (fun u => decide (0 < u.cause) && decide (u.cause < 65536))

/-- A command is well-formed. -/
def Instr.wf (i : Instr) : Bool :=
  match i with
  | .registerWrite _ _ v _ => !v.isEmpty
  | .loRead _ _ dw _ => decide (1 ≤ dw)
  | .loWrite _ _ _ => true
  | .hiWrite _ _ _ => true
  | .flagsClear _ _ _ => true
  | .flagsSet _ _ _ => true
  | .flagsEnWrite _ _ _ => true
  | .cntClr _ _ => true
  | .shadowWrite _ _ _ => true
  | .powerOnReset => true
  | .pinReset => true
  | .supplyReset => true
  | .wakeN => true
  | .bootStepComplete b r => okBeat b && r.wf
  | .bootStepTimeout b _ _ => okBeat b
  | .modeReqRun _ _ => true
  | .modeReqReady _ _ => true
  | .modeReqService _ _ => true
  | .modeReqDormant _ _ => true
  | .modeReqHold _ _ => true
  | .runStopComplete b => okBeat b
  | .stopTimeout b => okBeat b
  | .warmReset _ _ => true
  | .thermalLockPowerOff b => okBeat b
  | .pgoodLost b _ => okBeat b
  | .domGateWrite _ _ => true
  | .clrCnt _ => true
  | .logMirror _ => true
  | .pcieFundamentalReset b => okBeat b
  | .functionLevelReset b _ => okBeat b
  | .clockUnlock b _ => okBeat b
  | .mainPllRelock => true
  | .pfAbortDoorbell b _ => okBeat b
  | .vfAbortDoorbell b _ _ => okBeat b
  | .abortN b _ => okBeat b
  | .ndeorAbort b _ _ => okBeat b
  | .decisionBusRecord b _ _ _ _ => okBeat b
  | .beatCountSample b => okBeat b
  | .openGroup _ _ _ => true
  | .armGroup _ _ _ => true
  | .abortGroup _ _ _ => true
  | .validationComplete b _ => okBeat b
  | .readyBeat b _ => okBeat b
  | .decisionBeat b _ => okBeat b
  | .applyBeat b _ => okBeat b
  | .groupExpired b _ => okBeat b
  | .clusterVote b _ => okBeat b
  | .voteReceived b _ _ => okBeat b
  | .clusterDecide b _ => okBeat b
  | .decideReceived b _ _ => okBeat b
  | .outcomeLost b _ _ => okBeat b
  | .uwNext e => okBeat e.b
  | .uwGoto e => okBeat e.b
  | .uwBrt e => okBeat e.b
  | .uwBrf e => okBeat e.b
  | .uwCall e => okBeat e.b
  | .uwRet e => okBeat e.b
  | .uwLoop e => okBeat e.b
  | .uwDispatch e => okBeat e.b
  | .uwShotBegin e => okBeat e.b
  | .uwShotEnd e => okBeat e.b
  | .uwSync e => okBeat e.b
  | .uwHalt e => okBeat e.b
  | .uwWaitev e => okBeat e.b
  | .uwIrq e => okBeat e.b
  | .aluMovi e => okBeat e.b
  | .aluAddi e => okBeat e.b
  | .aluSubi e => okBeat e.b
  | .aluMov e => okBeat e.b
  | .aluAdd e => okBeat e.b
  | .aluSub e => okBeat e.b
  | .aluShl6 e => okBeat e.b
  | .aluLdlc e => okBeat e.b
  | .aluLdlci e => okBeat e.b
  | .aluRdslot e => okBeat e.b
  | .aluRdlc e => okBeat e.b
  | .aluRdshot e => okBeat e.b
  | .waitAdd e => okBeat e.b
  | .waitParam e => okBeat e.b
  | .waitClamp e => okBeat e.b
  | .stallRelease e => okBeat e.b
  | .waitResume e => okBeat e.b
  | .holdRelease e => okBeat e.b
  | .cmdHalt _ e _ => okBeat e.b
  | .interruptEntry e => okBeat e.b
  | .xyStart e => okBeat e.b
  | .probeStart e => okBeat e.b
  | .fluxStart e => okBeat e.b
  | .jumpRequest e => okBeat e.b
  | .readoutWindow e => okBeat e.b
  | .evPulse e => okBeat e.b
  | .frameToggleX e => okBeat e.b
  | .frameToggleZ e => okBeat e.b
  | .frameToggleXz e => okBeat e.b
  | .frameClear e => okBeat e.b
  | .frameClearAll e => okBeat e.b
  | .frameXorSlot e => okBeat e.b
  | .shotEndIssue e => okBeat e.b
  | .syncIssue e => okBeat e.b
  | .shotStatusItem e => okBeat e.b
  | .segmentBoundary e _ => okBeat e.b
  | .jumpLatch e _ => okBeat e.b
  | .ringWr _ _ _ _ _ => true
  | .ringRefill e _ => okBeat e.b
  | .ringUnderrun e _ => okBeat e.b
  | .stbSw _ _ => true
  | .ldacN b _ => okBeat b
  | .strobeLoad _ _ => true
  | .clrNAssert b => okBeat b
  | .clrNRelease b => okBeat b
  | .adcOvr e => okBeat e.b
  | .feSwitch e => okBeat e.b
  | .toneChange e _ => okBeat e.b
  | .selfcal _ _ _ => true
  | .selfcalDone e pairs => okBeat e.b && pairs.all CalPair.wf
  | .macmin e _ codes _ => okBeat e.b && codes.length == 192
  | .windowResult e _ => okBeat e.b
  | .wmemDataLoRead _ _ => true
  | .deadlinePassed b _ _ => okBeat b
  | .armNotice e _ => okBeat e.b
  | .slotResolution e _ => okBeat e.b
  | .lockstepDisagreement b _ _ => okBeat b
  | .ndeorDecisionRecord b _ _ => okBeat b
  | .trigIn b _ _ _ => okBeat b
  | .timeMatch b _ => okBeat b
  | .swtrigFire _ _ => true
  | .autoTrigger b _ => okBeat b
  | .captureEnd b _ => okBeat b
  | .holdoffEnd b _ => okBeat b
  | .dataRecord b _ _ demod _ => okBeat b && demod.all DemodUnit.wf
  | .hostCopy b _ => okBeat b
  | .hostRd _ _ _ _ => true
  | .queueFirstWord b _ => okBeat b
  | .queueWord b _ => okBeat b
  | .queueHead _ _ => true
  | .headTimeout b _ => okBeat b
  | .drainCopy b _ => okBeat b
  | .queueDrd _ _ _ _ => true
  | .queueRelease _ _ _ => true
  | .queueAll _ _ => true
  | .queueMark _ _ => true
  | .queueRewind _ _ => true
  | .queueFlush _ _ => true
  | .queueTimeout b _ => okBeat b
  | .swpulse _ _ _ _ => true
  | .channelEvent b _ => okBeat b
  | .clockSet _ _ _ => true
  | .clockAdj _ _ _ => true
  | .clockSnap _ _ _ => true
  | .clockAlarm _ _ => true
  | .mappingPair b _ _ => okBeat b
  | .syncMessage x => x.wf
  | .followUp x => x.wf
  | .delayReq x => x.wf
  | .delayResp x => x.wf
  | .pdelayReq x => x.wf
  | .pdelayResp x => x.wf
  | .pdelayRespFollowUp x => x.wf
  | .announce x => x.wf
  | .signaling x => x.wf
  | .management x _ _ => x.wf
  | .ptpMessageTx _ _ _ kind => [0, 1, 2, 11].contains kind
  | .announceTimeout _ _ _ _ => true
  | .servoSel _ _ _ => true
  | .syncReqSend b _ => okBeat b
  | .syncReq b _ _ _ _ => okBeat b
  | .syncResp b _ _ _ => okBeat b
  | .startSend b => okBeat b
  | .startHi b _ _ => okBeat b
  | .startLo b _ _ => okBeat b
  | .beatCounterLoad b => okBeat b
  | .csyncPing b _ _ => okBeat b
  | .csyncPong b _ _ => okBeat b
  | .csyncJoin _ _ => true
  | .csyncLeave _ _ => true
  | .csyncRemeasure _ _ => true
  | .parentLinkLoss b => okBeat b
  | .holdMs b => okBeat b
  | .joinMs b => okBeat b
  | .ethFrameRx _ _ _ _ => true
  | .ethFrameTx _ _ => true
  | .ndeorFrame b _ _ _ _ _ _ _ _ _ => okBeat b
  | .trainingStateDone b _ vals _ => okBeat b && (vals.isEmpty || vals.length == 4)
  | .trainingTimeout b _ _ => okBeat b
  | .portRetrain _ _ _ => true
  | .portEidle _ _ _ => true
  | .fastExit b _ => okBeat b
  | .laneSlip _ _ _ => true
  | .laneResume _ _ _ => true
  | .prbsChk _ _ _ => true
  | .prbsGen _ _ _ => true
  | .injFire _ _ _ => true
  | .mboxTx _ _ => true
  | .mboxRxLoRead _ => true
  | .gddr7CrcError b _ _ _ => okBeat b
  | .bar2Read _ _ n => decide (1 ≤ n)
  | .bar2Write _ _ bytes => !bytes.isEmpty
  | .smbusRegRead _ => true
  | .smbusRegWrite _ _ => true
  | .smbusWake => true
  | .smbusMode => true
  | .jtagDebug _ _ => true
  | .calFull _ _ _ => true
  | .calDac _ _ _ => true
  | .dacCalDone e pairs => okBeat e.b && pairs.all CalPair.wf
  | .estimateDone e ests _ => okBeat e.b && ests.all CalEst.wf
  | .quietSlotDecision e _ => okBeat e.b
  | .calDue e => okBeat e.b
  | .calOverdue e => okBeat e.b
  | .group63Round b => okBeat b
  | .trimTakeEffect e _ => okBeat e.b
  | .fuseBurn _ _ => true
  | .fuseBurnDone _ => true
  | .fuseRevoke _ _ _ => true
  | .windowBecomesSet b _ _ levels _ => okBeat b && !levels.isEmpty
  | .winmonEnable _ _ _ => true
  | .winmonResolve b _ _ levels _ => okBeat b && !levels.isEmpty
  | .thermoExc _ _ _ _ => true
  | .thermoResult _ _ _ => true
  | .hkConversion _ _ => true
  | .hkInject _ _ _ => true
  | .hkCalAdc _ _ _ => true
  | .hkCalBias _ _ _ => true
  | .hkCalThermo _ _ _ => true
  | .hkCalDone b _ pairs => okBeat b && pairs.all CalPair.wf
  | .timerPeriod _ _ => true
  | .powerSample p => p.length == 26
  | .modelStep b nodes => okBeat b && nodes.length == 64
  | .diodeReading b _ _ => okBeat b
  | .diodeReadmit _ _ _ => true
  | .counterSnap _ b _ _ => okBeat b
  | .lcProvision _ _ => true
  | .lcDeploy _ _ => true
  | .lcReturn _ _ => true
  | .lcRaiseFloor _ _ => true
  | .debugUnlock _ _ => true
  | .debugLock _ _ => true
  | .tamperAlarm b _ => okBeat b
  | .frondScrubEnd b _ => okBeat b
  | .granuleScrubEnd b _ => okBeat b
  | .getVersion => true
  | .getCapabilities ver => decide (ver < 256)
  | .negotiateAlgorithms ver _ _ _ _ => decide (ver < 256)
  | .getDigests ver => decide (ver < 256)
  | .getCertificate ver slot _ _ => decide (ver < 256) && decide (slot < 16)
  | .challenge ver slot nonce => decide (ver < 256) && decide (slot < 16) && nonce.length == 32
  | .getMeasurements ver index _ nonce => decide (ver < 256) && decide (index < 256) && nonce.length == 32
  | .keyExchange ver slot sid pub => decide (ver < 256) && decide (slot < 16) && decide (sid < 2 ^ 32) && pub.length == 96
  | .finish ver sid mac => decide (ver < 256) && decide (sid < 2 ^ 32) && mac.length == 48
  | .heartbeat ver sid => decide (ver < 256) && decide (sid < 2 ^ 32)
  | .keyUpdate ver sid _ => decide (ver < 256) && decide (sid < 2 ^ 32)
  | .endSession ver sid => decide (ver < 256) && decide (sid < 2 ^ 32)
  | .uncorrectableSramError b => okBeat b
  | .modeTransitionDone b => okBeat b
  | .pcieLinkUp b width up => okBeat b && [1, 2, 4, 8, 16].contains width && decide (1 ≤ up.speed) && decide (up.speed ≤ 5)
      && up.masked.all (fun x => decide (x.1 < 32) && decide (x.2 < 256))
  | .lifecycleTransitionDone => true
  | .fuseRevokeDone => true
  | .polarityReversal _ _ => true
  | .refreshInterval b temps => okBeat b && (temps.isEmpty || decide (temps.length ≤ 16))

end Sys2Proof
end

