-- ==== Sys2Proof/Tests/Slice0.lean ====
section
/-! SUPPORT. Tests of one step each on small states, and witnesses that the hypotheses of the statements can be met. -/
namespace Sys2Proof.Tests
set_option Elab.async false
open Sys2Proof Sys2Proof.Machine

/-- The block in a mode with every power domain on, at a beat, its main clock unlocked. -/
def up (m : Nat) (b : Nat := 0) : State :=
  { (State.reset.wr pMode 0x100 (BitVec.ofNat 32 m)).wr pPower 0x100 0xFFFFFFFF with beat := b }

/-- The state after a command. -/
def after (c : Instr) (s : State) : State :=
  match exec c s with
  | .next t => t
  | .fault _ => s
  | .refused _ => s

/-- A state with a Crozier in a state of Table 5.18, at pc 0 with a word there and its time cursor at beat 100. -/
def crozier (f st : Nat) (w : BitVec 192) (s : State) : State :=
  { (s.setCrzState f st).setTc f 100 with cs := [(f * 16384, w)] }

/-- A microword of a sequence operation and other fields. -/
def word (op : Nat) (rest : Nat := 0) : BitVec 192 := BitVec.ofNat 192 (op * 2 ^ 188 + rest)

/-! Operands (Sys2Proof/WellFormed.lean): an ill-formed command for each check. -/

theorem test_wf_beats : (Instr.beatCountSample (2 ^ 64)).wf = false ∧ (Instr.uwNext { f := 0, b := 2 ^ 64 }).wf = false ∧
    (Instr.xyStart { f := 0, b := 2 ^ 64 }).wf = false ∧ (Instr.beatCountSample (2 ^ 64 - 1)).wf = true := by decide

theorem test_wf_accesses : (Instr.registerWrite .smbus 0 [] true).wf = false ∧ (Instr.loRead .smbus 0 0 true).wf = false ∧
    (Instr.bar2Read (.func 0) 0 0).wf = false ∧ (Instr.bar2Write (.func 0) 0 []).wf = false ∧ (Instr.registerWrite .smbus 0 [1] true).wf = true := by
  decide

theorem test_wf_lists : (Instr.macmin { f := 0, b := 0 } 0 [] .clean).wf = false ∧ (Instr.powerSample []).wf = false ∧ (Instr.modelStep 0 []).wf = false ∧
    (Instr.trainingStateDone 0 0 [1] 0).wf = false ∧ (Instr.windowBecomesSet 0 0 0 [] false).wf = false ∧ (Instr.winmonResolve 0 0 0 [] false).wf = false ∧
    (Instr.refreshInterval 0 (List.replicate 17 none)).wf = false ∧ (Instr.trainingStateDone 0 0 [] 0).wf = true := by decide

theorem test_wf_units : (Instr.dataRecord 0 0 [] [{ f := 32, tone := 0, centre := 0, codes := [] }] []).wf = false ∧
    (Instr.selfcalDone { f := 0, b := 0 } [{ off := 0x141, lo := 0, a := 0, b := 0 }]).wf = false ∧
    (Instr.estimateDone { f := 0, b := 0 } [{ off := 0x140, lo := 32, v := 0, start := 0 }] false).wf = false ∧
    (Instr.dacCalDone { f := 0, b := 0 } [{ off := 0x1000, lo := 0, a := 0, b := 0 }]).wf = false ∧ (Instr.hkCalDone 0 0 []).wf = true := by decide

theorem test_wf_frames : (Instr.syncMessage { m := 0, ph := 0, port := 0, domain := 256 }).wf = false ∧
    (Instr.followUp { m := 0, ph := 0, port := 0, seq := 65536 }).wf = false ∧ (Instr.announce { m := 0, ph := 0, port := 0, src := 2 ^ 64 }).wf = false ∧
    (Instr.ptpMessageTx 0 0 0 3).wf = false ∧ (Instr.pcieLinkUp 0 32 { speed := 1 }).wf = false ∧ (Instr.pcieLinkUp 0 16 { speed := 8 }).wf = false ∧
    (Instr.bootStepComplete 0 { t := 0, cause := 65536 }).wf = false ∧
    (Instr.bootStepComplete 0 { t := 0, units := [{ unit := 0, cause := 0, t := 0 }] }).wf = false := by decide

theorem test_wf_spdm : (Instr.getDigests 256).wf = false ∧ (Instr.getCertificate 0x12 16 0 0).wf = false ∧ (Instr.challenge 0x12 0 []).wf = false ∧
    (Instr.getMeasurements 0x12 256 false (List.replicate 32 0)).wf = false ∧ (Instr.keyExchange 0x12 0 1 []).wf = false ∧
    (Instr.finish 0x12 1 []).wf = false ∧ (Instr.heartbeat 0x12 (2 ^ 32)).wf = false ∧ (Instr.heartbeat 0x12 1).wf = true := by decide

/-! Time and modes (01_architecture.md, 02_modes_power_boot.md). -/

/-- R34: the first sample after a relock gives the domains their counts; one before it does not. -/
theorem test_beat_sample : let s := ((up 2 300).wr pTimeline 0x108 2).mapTime (fun t => { t with resync := some 256, held := [] })
    let w := ((up 2 200).wr pTimeline 0x108 2).mapTime (fun t => { t with resync := some 256 })
    (s.at 300).time.resync = some 256 ∧ 256 ≤ (s.at 300).beat / 256 * 256 ∧ (after (.beatCountSample 300) s).time.resync = none ∧
      (w.at 200).time.resync = some 256 ∧ (w.at 200).beat / 256 * 256 < 256 ∧ (after (.beatCountSample 200) w).time.resync = some 256 := by
  decide +kernel

/-- R28, log entry 1: a later beat comes, where the clock is locked. -/
theorem test_beat_passes : let s := (up 2 7).wr pTimeline 0x108 2
    s.clockOn = true ∧ s.quiet = true ∧ (after (.beatCountSample 9) s).beat = 9 ∧ (after (.beatCountSample 5) s).beat = 7 ∧
      (up 2 7).clockOn = false ∧ (after (.beatCountSample 9) (up 2 7)).beat = 7 := by decide +kernel

/-- R19, R20: a record reaches another frond after 24 beats, once. -/
theorem test_bus_record : let x : BusRec := { frond := 1, beat := 10 }
    let s : State := { up 3 34 with bus := [x] }
    let l : State := { up 3 35 with bus := [x] }
    s.bus.find? (fun y => y.frond == 1 && y.beat == 10) = some x ∧ 2 ∉ x.sent ∧ s.beat = 10 + busLat 1 2 ∧
      (after (.decisionBusRecord 0 1 10 2 true) s).bus.map (·.sent) = [[2]] ∧
      l.beat ≠ 10 + busLat 1 2 ∧ after (.decisionBusRecord 0 1 10 2 true) l = l := by decide +kernel

/-- R19: a record that reached the frond does not come again. -/
theorem test_bus_record_once : let s : State := { up 3 40 with bus := [{ frond := 1, beat := 10, sent := [2] }] }
    (s.bus.find? (fun y => y.frond == 1 && y.beat == 10)).isSome = true ∧ after (.decisionBusRecord 0 1 10 2 false) s = s := by
  decide +kernel

/-- R47, R394: WAKE_N boots from DORMANT once the power-on reset has come; under thermal lock it only counts. -/
theorem test_wake : let s : State := { State.reset with boot := { State.reset.boot with por := false } }
    s.mode = 0 ∧ s.thermLock = false ∧ (after .wakeN s).mode = 1 ∧ (after .smbusWake s).rdF pBoot 0x100 23 19 = 1 ∧
      after .wakeN (up 2) = (up 2) := by decide +kernel

/-- R55: under thermal lock a wake trigger only counts. -/
theorem test_wake_locked : let s : State := { State.reset.wrB pMode 0x100 15 true with boot := { State.reset.boot with por := false } }
    s.thermLock = true ∧ s.mode = 0 ∧ (after .wakeN s).mode = 0 ∧ (after .wakeN s).boot.wakeCount = 1 := by decide +kernel

/-- R47: at a power-on reset the always-on domain comes up. -/
theorem test_por : let s : State := { State.reset with boot := { State.reset.boot with por := true } }
    s.mode = 0 ∧ s.boot.por = true ∧ s.thermLock = false := by decide +kernel

/-- R63: a state in canonical form, and a register no reset keeps. -/
theorem test_resets : (up 2 7).canon = true ∧ pinMask ((pClock).reg 0x114) = 0 := by decide +kernel

/-- R49, R50: requests start, are refused BUSY, unlisted or without key. -/
theorem test_mode_request : (up 2).admits .smbus pMode ∧ (up 2).boot.target = none ∧ modeListed 2 3 = true ∧ (up 2).modeCond 3 = true ∧
    (after (.modeReqRun .smbus 0x4D44) (up 2)).boot.target = some 3 ∧ (after (.modeReqRun .smbus 0x4D44) (up 2)).rdB pMode 0x100 14 = true ∧
    (after (.modeReqService .smbus 0x4D44) (up 2)).boot.target = some 4 ∧
    (let s := (up 2).setTarget (some 3)
     s.admits .smbus pMode ∧ s.boot.target ≠ none ∧ (after (.modeReqRun .smbus 0x4D44) s).rdF pMode 0x20 7 0 = 2) ∧
    (modeListed 4 3 = false ∧ (after (.modeReqRun .smbus 0x4D44) (up 4)).rdF pMode 0x20 7 0 = 1) ∧
    (after (.modeReqRun .smbus 0x4D45) (up 2)).rdF pMode 0x20 7 0 = 4 := by decide +kernel

/-- R54: HOLD with an uncleared cause does not lead to READY. -/
theorem test_mode_condition : let s := (up 5).wrB pMode 0x108 4 true
    s.admits .smbus pMode ∧ s.boot.target = none ∧ modeListed 5 2 = true ∧ s.modeCond 2 = false ∧
      (after (.modeReqReady .smbus 0x4D44) s).rdF pMode 0x20 7 0 = 3 := by decide +kernel

/-- R50, R56: a request for READY in RUN limits the stop; HOLD is entered at once. -/
theorem test_stop_begins : let s := (up 3 5).wr pMode 0x10C 2
    s.admits .smbus pMode ∧ s.mode = 3 ∧ s.boot.target = none ∧ s.rdF pMode 0x10C 23 0 ≠ 0 ∧
      (after (.modeReqReady .smbus 0x4D44) s).boot.stopAt = some 2005:= by decide +kernel

/-- R65: warm resets. -/
theorem test_warm : (up 2).admits .smbus pMode ∧ (up 2).thermLock = false ∧ (up 2).cal.burn = none ∧
    (after (.warmReset .smbus 0x4D44) (up 2)).boot.target = some 6 ∧
    (up 3).admits .smbus pMode ∧ (after (.warmReset .smbus 0x4D44) (up 3)).rdF pMode 0x20 15 0 = 1 ∧
    (up 0).admits .smbus pMode ∧ (after (.warmReset .smbus 0x4D44) (up 0)).rdF pMode 0x20 15 0 = 1 ∧
    (let s := (up 5).wrB pMode 0x100 15 true
     s.admits .smbus pMode ∧ s.mode = 5 ∧ s.thermLock = true ∧ (after (.warmReset .smbus 0x4D44) s).rdF pMode 0x20 15 0 = 3) := by
  decide +kernel

/-- R50: transitions complete. -/
theorem test_mode_done : let s := (up 2).setTarget (some 3)
    let w := (up 2).setTarget (some 6)
    s.canon = true ∧ s.boot.target = some 3 ∧ w.canon = true ∧ w.boot.target = some 6 := by decide +kernel

/-- R56: a stop completes, or its limit passes. -/
theorem test_stop_ends : let s := (up 3).setTarget (some 2)
    let l : State := { s with boot := { s.boot with stopAt := some 0 } }
    let i := s.setCrz 0 { shots := [{ uid := 1, num := 6, starts := 0, start := 0 }] }
    i.shotFronds = [0] ∧ i.canon = true ∧ s.canon = true ∧ s.mode = 3 ∧ s.boot.target = some 2 ∧ s.shotFronds = [] ∧ (after (.runStopComplete 0) s).mode = 2 ∧
      l.canon = true ∧ (after (.stopTimeout 0) l).mode = 2 := by decide +kernel

/-- R51: what enters HOLD: aborts, loss of power-good, an ABORT flit where ABORT_IN is set, loss of the main clock. -/
theorem test_hold : let s := ((up 3).wrB pNdeor 0x100 0 true).wr pTimeline 0x108 2
    s.mode ≠ 0 ∧ s.domOn 4 = true ∧ s.rdB pNdeor 0x100 0 = true ∧ nfld (0x0880000000000000 : Nat) 59 55 = 17 ∧ (s.newCast 17 3 0).1 = true ∧
      s.clockOn = true ∧ (s.at 7).mode ≠ 0 := by decide +kernel

/-- R40: a block in HOLD with its outputs forced. -/
theorem test_hold_forced : (up 5 7).mode = 5 ∧ ∀ f, (up 5 7).forced f = true :=
  ⟨by decide +kernel, fun f => by
    have h : (up 5 7).modeForced = true := by decide +kernel
    simp [State.forced, h]⟩

/-- R40, R51: ABORT_N low for 3 beats, a domain that is off and another value of the doorbell enter no HOLD. -/
theorem test_hold_not : let s := ((up 3).wrB pNdeor 0x100 0 true).wr pTimeline 0x108 2
    let o := s.wrB pPower 0x100 4 false
    after (.abortN 0 (some 3)) s = s ∧ (after (.abortN 0 none) s).pins.abortLow = false ∧ after (.pfAbortDoorbell 0 7) s = s ∧ o.domOn 4 = false ∧
      after (.pgoodLost 0 4) o = o := by decide +kernel

/-- R33: the main chain locks again in HOLD. -/
theorem test_relock : let s := up 5 8
    s.mode = 5 ∧ s.clockOn = false ∧ s.domOn 9 = true ∧ s.rdF pBoot 0x100 23 19 = 0 ∧ (after .mainPllRelock s).clockOn = true ∧
      (after .mainPllRelock s).beat = 9 ∧ ((up 2).wr pTimeline 0x108 2).clockOn = true := by decide +kernel

/-- R66, R67: a step that passes leads to the next; one that fails or times out ends in HOLD. -/
theorem test_boot_step : let s := (up 1).wrF pBoot 0x100 23 19 4
    let ok : BootRes := { t := 5 }
    let bad : BootRes := { t := 5, cause := 2 }
    let late : BootRes := { t := 10 ^ 18 }
    let past : State := { s with boot := { s.boot with now := 6 } }
    ok.t ≤ s.stepEnd ∧ s.stepEnd < late.t ∧ after (.bootStepComplete 0 late) s = s ∧ ok.t < past.boot.now ∧ after (.bootStepComplete 0 ok) past = past ∧
      5 < s.stepEnd ∧
      after (.bootStepTimeout 0 5 []) s = s ∧ s.mode = 1 ∧ s.rdF pBoot 0x100 23 19 = 4 ∧ 4 ∈ [1, 2, 3, 4, 6, 15] ∧ s.boot.now ≤ 5 ∧ ok.cause = 0 ∧ bad.cause ≠ 0 ∧
      (after (.bootStepComplete 0 ok) s).rdF pBoot 0x100 23 19 = 5 ∧ 
      after (.bootStepComplete 0 ok) (up 2) = (up 2) := by decide +kernel

/-- R71, Table 2.20: the boot log's mirror, its counters, and the gating of domains. -/
theorem test_boot_log : (up 2).admits .smbus pBoot ∧ (after (.clrCnt .smbus) (up 2)).rd pBoot 0x11C = 0 ∧
    (after (.logMirror .smbus) (up 2)).boot.mirrorSeq = (up 2).boot.seq ∧
    (up 4).admits .smbus pPower ∧ (up 4).mode ≠ 2 ∧ (∀ f, f < 32 → (up 4).frondOwner f = 0x1F) ∧
      (after (.domGateWrite .smbus 0xFFFFFFFF) (up 4)).rd pPower 0x104 = 0x03FFFC00 := by decide +kernel

/-- R63, R372, R481: the PCIe link goes and comes, and a function is reset. -/
theorem test_links_reset : (after (.pcieFundamentalReset 0) (up 2)).rd pPcie 0x100 = 0 ∧ (up 2).domOn 3 = true ∧ (up 2).boot.fencedPcie = false ∧
    (after (.pcieLinkUp 0 16 { speed := 5 }) (up 2)).rd pPcie 0x100 = 0x100501 ∧ (2 : Fin 32).val ≠ 0 ∧
    (let s : State := { up 2 with hiLatch := [(2 * 2 ^ 26 + 8, 7), (3 * 2 ^ 26 + 8, 9)] }
     Tab.get 0 (after (.functionLevelReset 0 2) s).hiLatch (2 * 2 ^ 26 + 8) = 0 ∧
      Tab.get 0 (after (.functionLevelReset 0 2) s).hiLatch (3 * 2 ^ 26 + 8) = 9) := by decide +kernel

/-- R38, R51, R394: the ABORT doorbell of a tuft's function acts on one value; the SMBus command MODE. -/
theorem test_tuft_abort : let s := ((up 3).wr (pTuft 4) 0x100 0x80000002)
    let o := s.wr (pCrozier 6) 0x08 4
    s.tuftOf 2 = some 4 ∧ after (.vfAbortDoorbell 0 2 1) s = s ∧ s.tuftOf 3 = none ∧ o.frondOwner 6 = 4 ∧ o.frondOwner 7 ≠ 4 ∧
      (after (.vfAbortDoorbell 0 2 0x41420000) o).rdF pTimeline 0x10C 12 8 = 2 ∧
      (after (.vfAbortDoorbell 0 2 0x41420000) o).rdB (pCrozier 6) 0x14 9 = true ∧
      (after (.vfAbortDoorbell 0 2 0x41420000) o).rdB (pCrozier 7) 0x14 9 = false ∧
      (after .smbusMode s).outbox = [.smbus (some [3])] := by decide +kernel

/-- R55: a thermal lock turns the slices off in HOLD, one each 50 µs; with the beat counter standing, at once. -/
theorem test_thermal_lock : let s := fun b => ({ up 5 b with boot := { (up 5).boot with holdAt := some 0 } } |>.wrB pMode 0x100 15 true).wr pTimeline 0x108 2
    let l := s 10000000
    let e := s 9999999
    let u := (up 5 10000000).wrB pMode 0x100 15 true
    l.thermLock = true ∧ l.mode = 5 ∧ l.heldLong = true ∧ l.boot.sw = [] ∧ l.clockOn = true ∧ l.boot.swAt = none ∧
      (after (.thermalLockPowerOff 0) l).domWill 25 = false ∧ (after (.thermalLockPowerOff 0) l).domWill 9 = true ∧
      (after (.thermalLockPowerOff 0) l).boot.sw.head?.map (·.2.2) = some 10050000 ∧ e.heldLong = false ∧ after (.thermalLockPowerOff 0) e = e ∧
      u.clockOn = false ∧ u.heldLong = true ∧ (after (.thermalLockPowerOff 0) u).domOn 25 = false ∧
      (after (.thermalLockPowerOff 0) u).domOn 9 = true := by decide +kernel

/-! The queue of commands and the register interconnect (03_register_pages.md). -/

/-- The command in front runs; an empty queue lets a beat pass. -/
theorem test_step : let s : State := { up 2 with pending := [.smbusMode, .wakeN] }
    (match step s with | .next t => t | _ => s).pending = [.wakeN] ∧ (match step s with | .next t => t | _ => s).outbox = [.smbus (some [2])] := by
  decide +kernel

/-- Log entry 1: idle steps. -/
theorem test_idle : let s := (up 2 7).wr pTimeline 0x108 2
    s.pending = [] ∧ s.clockOn = true ∧ (match step s with | .next t => t | _ => s).beat = 8 ∧ (up 2 7).pending = [] ∧ (up 2 7).clockOn = false := by
  decide +kernel

/-- A canonical state whose step answers. -/
theorem test_canon_kept : State.reset.canon = true ∧ (match step State.reset with | .next t => t.canon | _ => false) = true := by decide +kernel

/-- A command that cannot write GDDR7. -/
theorem test_gddr_kept : Claims.mayWriteGddr .smbusMode = false ∧ (after .smbusMode (up 2)).gddr = (up 2).gddr := by decide +kernel

/-- R78, Table 0.4: a plain RW register. -/
theorem test_register_write : let a := BitVec.ofNat 25 (pCsync.reg 0x104)
    place a.toNat = some (pCsync, 0x104) ∧ (up 2).freePage .smbus a.toNat ∧ (up 2).admits .smbus pCsync ∧ a.toNat % 4 = 0 ∧
      (regRow pCsync 0x104).pair = 0 ∧ (regRow pCsync 0x104).rwc = 0 ∧ (up 2).pointBusy pCsync 0x104 = false ∧
      ((up 2).special .smbus pCsync 0x104 7).isNone = true ∧ (after (.registerWrite .smbus a [7] true) (up 2)).rd pCsync 0x104 = 7 := by
  decide +kernel

/-- R77: a write without all byte enables is dropped and recorded. -/
theorem test_register_write_dropped : let a := BitVec.ofNat 25 (pCsync.reg 0x104)
    place a.toNat = some (pCsync, 0x104) ∧ (up 2).admits .smbus pCsync ∧
      (after (.registerWrite .smbus a [7] false) (up 2)).rd pCsync 0x20 = BitVec.ofNat 32 (0x41 * 2 ^ 16 + 0x82) ∧
      (after (.registerWrite .smbus a [7] false) (up 2)).rd pCsync 0x24 = 1 := by decide +kernel

/-- R96: a read of the LO word latches the upper word. -/
theorem test_pair_read : let a := BitVec.ofNat 25 (pClock.reg 0x104)
    let s := (up 2).wr pClock 0x108 9
    place a.toNat = some (pClock, 0x104) ∧ s.freePage .smbus a.toNat ∧ s.reads .smbus pClock ∧ a.toNat % 4 = 0 ∧ (regRow pClock 0x104).pair = 1 ∧
      pClock.kind ≠ .nlane ∧ Tab.get 0 (after (.loRead .smbus a 1 true) s).hiLatch (latchKey .smbus a.toNat) = 9 := by decide +kernel

/-- R96: the other reads: the HI word, both words, the shadow view, MBOX_RX_LO, a plain register, an unpowered unit, an unmapped address, and a
read without all byte enables. -/
theorem test_read_forms : let s := up 2
    let r := fun (p : Pg) (o : Nat) => BitVec.ofNat 25 (p.reg o)
    let off := s.wr pPower 0x100 0
    (regRow pClock 0x108).pair = 2 ∧ place (r pClock 0x108).toNat = some (pClock, 0x108) ∧
      (after (.loRead .smbus (r pClock 0x108) 1 true) s).outbox = [readOut .smbus [0]] ∧ (r pClock 0x170).toNat % 8 = 0 ∧
      (regRow pClock 0x170).pair = 1 ∧ (regRow pClock 0x174).pair = 2 ∧ place ((r pClock 0x170).toNat + 4) = some (pClock, 0x174) ∧
      (after (.loRead .smbus (r pClock 0x170) 2 true) s).outbox.length = 2 ∧ place (r (pCgrp 3) 0x914).toNat = some (pCgrp 3, 0x914) ∧
      (regRow (pCgrp 3) 0x114).pair = 1 ∧ (after (.loRead .smbus (r (pCgrp 3) 0x914) 1 true) s).outbox.length = 1 ∧
      place (r pNdeor 0x14C).toNat = some (pNdeor, 0x14C) ∧ (after (.loRead .smbus (r pNdeor 0x14C) 1 true) s).outbox.length = 1 ∧
      (regRow pCsync 0x104).pair = 0 ∧ (after (.loRead .smbus (r pCsync 0x104) 1 true) s).outbox.length = 1 ∧
      off.powered pCsync = false ∧ heldOff (0x104 % 0x800) = false ∧ off.pathLive .smbus = true ∧ off.grant .smbus pCsync false = .ok ∧
      (after (.loRead .smbus (r pCsync 0x104) 1 true) off).outbox = [readOut .smbus [0]] ∧
      (after (.loRead .smbus (r pCsync 0x104) 1 false) s).rdF pCsync 0x20 7 0 = 0x82 ∧
      (after (.loRead .smbus 0x5000 1 true) s).outbox = [readOut .smbus [0]] := by decide +kernel

/-- R97: the LO word waits, and the HI word acts with it. -/
theorem test_pair_write : let a := BitVec.ofNat 25 ((pCgrp 3).reg 0x114)
    let b := BitVec.ofNat 25 ((pCgrp 3).reg 0x118)
    place a.toNat = some (pCgrp 3, 0x114) ∧ place b.toNat = some (pCgrp 3, 0x118) ∧ (up 2).freePage .smbus a.toNat ∧ (up 2).admits .smbus (pCgrp 3) ∧
      (up 2).pointBusy (pCgrp 3) 0x114 = false ∧ (regRow (pCgrp 3) 0x114).rw ≠ 0 ∧ (regRow (pCgrp 3) 0x114).pair = 1 ∧
      (regRow (pCgrp 3) 0x118).pair = 2 ∧ (regRow (pCgrp 3) 0x118).rw ≠ 0 ∧
      (after (.loWrite .smbus a 7) (up 2)).rd (pCgrp 3) 0x114 = 0 ∧
      (after (.hiWrite .smbus b 5) (after (.loWrite .smbus a 7) (up 2))).rd64 (pCgrp 3) 0x114 = 5 * 2 ^ 32 + 7 := by decide +kernel

/-- R99, Table 0.4: FLAGS, FLAGS_SET and FLAGS_EN. -/
theorem test_flags : let r := fun (o : Nat) => BitVec.ofNat 25 (pClock.reg o)
    place (r 0x14).toNat = some (pClock, 0x14) ∧ place (r 0x1C).toNat = some (pClock, 0x1C) ∧ place (r 0x18).toNat = some (pClock, 0x18) ∧
      (up 2).freePage .smbus (r 0x14).toNat ∧ (up 2).admits .smbus pClock ∧
      (after (.flagsSet .smbus (r 0x1C) 0xFFFFFFFF) (up 2)).rd pClock 0x14 = 0x1F ∧
      (after (.flagsClear .smbus (r 0x14) 0x3) (after (.flagsSet .smbus (r 0x1C) 0xFFFFFFFF) (up 2))).rd pClock 0x14 = 0x1C ∧
      (after (.flagsEnWrite .smbus (r 0x18) 0xFF) (up 2)).rd pClock 0x18 = 0x1F := by decide +kernel

/-- R99, R374: the interrupt of a page of the warden, its vector free and masked; the mask is lifted. -/
theorem test_irq : let s := ((up 2).wr pClock 0x14 1).wr pClock 0x18 1
    let k := { s with pcie := { masked := [(0, 0)] } }
    let u := after (.pcieLinkUp 0 16 { speed := 5 }) { up 2 with pcie := { masked := [(0, 0)], pend := [(0, 0)] } }
    s.pendingIrq pClock ≠ 0 ∧ s.irqFunc pClock = some 0 ∧ s.rdF pClock 0x0C 15 8 < msixVectors 0 ∧
      (s.irqAfterWrite pClock).outbox = [.msix 0 0] ∧ (k.irqAfterWrite pClock).outbox = [] ∧
      k.pcie.masked.contains (0, s.rdF pClock 0x0C 15 8) = true ∧ (k.irqAfterWrite pClock).pcie.pend = [(0, 0)] ∧ u.outbox = [.msix 0 0] ∧ (up 2).pendingIrq pClock = 0 := by decide +kernel

/-- Table 3.9: CNT_CLR. -/
theorem test_cnt_clr : let a := BitVec.ofNat 25 (pClock.reg 0x0C)
    let s := (up 2).wr pClock 0x44 9
    place a.toNat = some (pClock, 0x0C) ∧ s.freePage .smbus a.toNat ∧ s.admits .smbus pClock ∧ (after (.cntClr .smbus a) s).rd pClock 0x44 = 0 := by
  decide +kernel

/-- R106: a shadow write binds its page to the path's group. -/
theorem test_shadow : let a := BitVec.ofNat 25 ((pHcell 3).reg 0x200)
    let s := after (.openGroup .smbus 5 0x4347) (up 2)
    place a.toNat = some (pHcell 3, 0x200) ∧ s.freePage .smbus a.toNat ∧ s.admits .smbus (pHcell 3) ∧ (regRow (pHcell 3) 0x200).pair = 0 ∧
      (regRow (pHcell 3) 0x200).rwc ≠ 0 ∧ (regRow (pHcell 3) 0x200).rw = 0 ∧ (regRow (pHcell 3) 0x200).w1c = 0 ∧
      (regRow (pHcell 3) 0x200).w1s = 0 ∧ (s.special .smbus (pHcell 3) 0x200 1).isNone = true ∧ s.ident .smbus = .warden ∧
      s.attached .smbus = some 5 ∧ (pHcell 3).ofFrond = none ∧ s.boundTo (pHcell 3) = none ∧
      Tab.find? (after (.shadowWrite .smbus a 1) s).shadow a.toNat = some (1 &&& rwcMask a.toNat) := by decide +kernel

/-- R79, R100: an unmapped address. -/
theorem test_unmapped : place (BitVec.ofNat 25 0x5000).toNat = none ∧ (up 2).pathLive .smbus = true ∧
    (after (.registerWrite .smbus 0x5000 [1] true) (up 2)).rd pRegbus 0x100 = 1 := by decide +kernel

/-- R90: a keeper's write to a foreign page is dropped and logged. -/
theorem test_refused_write : let s := (up 2).wr (pTuft 4) 0x100 0x80000002
    let a := BitVec.ofNat 25 (pClock.reg 0x150)
    place a.toNat = some (pClock, 0x150) ∧ a.toNat % 4 = 0 ∧ s.tuftOf 2 = some 4 ∧ s.owner pClock ≠ 4 ∧
      (after (.registerWrite (.func 2) a [1] true) s).rdF pViolog 0x100 7 0 = 1 ∧
      (after (.registerWrite (.func 2) a [1] true) s).rd pClock 0x150 = 0 := by decide +kernel

/-- R394: SMBus reads and writes a dword. -/
theorem test_smbus : let a := BitVec.ofNat 32 (pCsync.reg 0x104)
    (up 2).mode ≠ 0 ∧ place a.toNat = some (pCsync, 0x104) ∧ (up 2).freePage .smbus a.toNat ∧ (up 2).reads .smbus pCsync ∧
      (after (.smbusRegWrite a 0x0A0B0C0D) (up 2)).rd pCsync 0x104 = 0x0A0B0C0D ∧
      (after (.smbusRegRead a) ((up 2).wr pCsync 0x104 0x0A0B0C0D)).outbox = [.smbus (some [0, 0x0D, 0x0C, 0x0B, 0x0A])] := by decide +kernel

/-- R395: JTAG reads while debug is unlocked, and bypasses otherwise. -/
theorem test_jtag : let a := BitVec.ofNat 32 (pCsync.reg 0x104)
    let l := ((up 2).wrF pSec 0x100 1 0 2)
    (up 2).reads .jtag pCsync ∧ place a.toNat = some (pCsync, 0x104) ∧ (after (.jtagDebug a none) (up 2)).outbox = [.readData .jtag [0]] ∧
      (up 2).pathLive .jtag = true ∧ l.pathLive .jtag = false ∧ l.unlocked = false ∧ (after (.jtagDebug a none) l).outbox = [.bypass] := by decide +kernel

/-! Commit groups (04_commit_groups.md). -/

/-- A group of a state of Table 4.1, with its commit point and time. -/
def group (g st kind time : Nat) (s : State) : State :=
  ((s.setGrpState g st).wr (pCgrp g) 0x108 (BitVec.ofNat 32 kind)).wr64 (pCgrp g) 0x10C time

/-- R103, R109, R120: OPEN, ARM and ABORT, their refusals and a wrong KEY. -/
theorem test_group : let s := up 2
    let o := after (.openGroup .smbus 5 0x4347) s
    let m := after (.armGroup .smbus 5 0x4347) o
    s.admits .smbus (pCgrp 5) ∧ s.rdF (pCgrp 5) 0x104 2 0 = 0 ∧ s.attached .smbus = none ∧ o.rdF (pCgrp 5) 0x104 2 0 = 1 ∧
      o.rdF (pCgrp 5) 0x104 21 16 = 32 ∧ o.admits .smbus (pCgrp 5) ∧ o.pointBad 5 = false ∧ m.rdF (pCgrp 5) 0x104 2 0 = 2 ∧
      (after (.abortGroup .smbus 5 0x4347) o).rdF (pCgrp 5) 0x128 15 8 = 8 ∧
      (after (.armGroup .smbus 5 0x4348) o) = o ∧ (after (.openGroup .smbus 63 0x4347) s).rdF (pCgrp 63) 0x20 7 0 = 0x22 ∧
      (after (.openGroup .smbus 5 0x4347) o).rdF (pCgrp 5) 0x20 7 0 = 0x20 ∧ o.attached .smbus ≠ none ∧
      (after (.openGroup .smbus 6 0x4347) o).rdF (pCgrp 6) 0x20 7 0 = 0x21 ∧ (after (.armGroup .smbus 5 0x4347) s).rdF (pCgrp 5) 0x20 7 0 = 0x20 := by
  decide +kernel

/-- R120: ABORT of a group past OPEN reaches the apply stage 4 beats later; past its decision beat it is refused there; a group that has
voted refuses it. -/
theorem test_group_abort : let s := (group 5 3 1 100 (up 2 20)).wr pTimeline 0x108 2
    let d := s.setGrp 5 { dec := some 24 }
    let v := s.wrB (pCgrp 5) 0x104 5 true
    s.admits .smbus (pCgrp 5) ∧ 2 ≤ s.rdF (pCgrp 5) 0x104 2 0 ∧ s.rdB (pCgrp 5) 0x104 5 = false ∧ (s.grp 5).abortAt = none ∧ s.clockOn = true ∧
      ((after (.abortGroup .smbus 5 0x4347) s).grp 5).abortAt = some 24 ∧ (s.grp 5).dec = none ∧ (s.abortActs 5 24).rdF (pCgrp 5) 0x128 15 8 = 8 ∧
      (d.grp 5).dec = some 24 ∧ d.beat + 4 = 24 ∧ (d.abortActs 5 24).rdF (pCgrp 5) 0x20 7 0 = 0x20 ∧ v.rdB (pCgrp 5) 0x104 5 = true ∧
      (after (.abortGroup .smbus 5 0x4347) v).rdF (pCgrp 5) 0x20 7 0 = 0x24 := by decide +kernel

/-- R104: ARM with a commit point of KIND CLUSTER outside a cluster. -/
theorem test_group_point : let s := group 5 1 3 0 (up 2)
    s.rdF (pCgrp 5) 0x104 2 0 = 1 ∧ s.pointBad 5 = true ∧ (after (.armGroup .smbus 5 0x4347) s).rdF (pCgrp 5) 0x20 7 0 = 0x23 := by decide +kernel

/-- R119: a deadline that has passed aborts; DEADLINE 0 and other kinds do not expire. -/
theorem test_group_expires : let s := (group 5 2 0 0 (up 2 9)).wr64 (pCgrp 5) 0x114 9
    s.grpKind 5 = 0 ∧ s.rd64 (pCgrp 5) 0x114 ≠ 0 ∧ s.rd64 (pCgrp 5) 0x114 ≤ s.beat ∧ s.rdF (pCgrp 5) 0x104 2 0 = 2 ∧ s.grpSt 5 ≠ 4 ∧
      (s.grp 5).dec = none ∧ (after (.groupExpired 0 5) s).rdF (pCgrp 5) 0x128 15 8 = 7 ∧
      after (.groupExpired 0 5) (group 5 2 1 0 (up 2 9)) = group 5 2 1 0 (up 2 9) := by decide +kernel

/-- R119: an armed SYNC group, whose decision beat lies after the deadline. -/
theorem test_group_expires_armed : let s := ((group 5 3 2 0 (up 2 9)).wr64 (pCgrp 5) 0x114 9).fixBeats 5 20 54
    s.grpKind 5 = 2 ∧ s.rd64 (pCgrp 5) 0x114 ≤ s.beat ∧ s.rdF (pCgrp 5) 0x104 2 0 = 3 ∧ s.grpSt 5 ≠ 4 ∧ (s.grp 5).dec = some 20 ∧
      s.rd64 (pCgrp 5) 0x114 < 20 ∧ (after (.groupExpired 0 5) s).rdF (pCgrp 5) 0x104 2 0 = 0 := by decide +kernel

/-- R111: a doomed group, and a page of another owner. -/
theorem test_validate_doomed : let s := (group 5 2 1 0 (up 2)).wrB (pCgrp 5) 0x104 4 true
    s.rdF (pCgrp 5) 0x104 2 0 = 2 ∧ s.scrubWait 5 = false ∧ s.rdB (pCgrp 5) 0x104 4 = true ∧
      (after (.validationComplete 0 5) s).rdF (pCgrp 5) 0x128 15 8 = 1 := by decide +kernel

/-- R111, R471: a group of a tuft that does not exist. -/
theorem test_validate_owner : let s := ((group 5 2 1 0 (up 2)).wr (pCgrp 5) 0x08 4).setGrp 5 { bound := [pHcell 3] }
    s.rdF (pCgrp 5) 0x104 2 0 = 2 ∧ s.scrubWait 5 = false ∧ s.rdB (pCgrp 5) 0x104 4 = false ∧ s.ownershipOk 5 = false ∧
      (after (.validationComplete 0 5) s).rdF (pCgrp 5) 0x128 15 8 = 2 := by decide +kernel

/-- R111: a group without writes passes, and is ready 4 beats later. -/
theorem test_validate_ok : let s := group 5 2 1 0 (up 2)
    s.rdF (pCgrp 5) 0x104 2 0 = 2 ∧ s.scrubWait 5 = false ∧ s.rdB (pCgrp 5) 0x104 4 = false ∧ s.imageRefs 5 = [] ∧
      (State.checkRead 0x1F [] none s).2 = true := by decide +kernel

/-- R111, R117, R124: R fixes D and A of a TIME group, or the group is LATE. -/
theorem test_ready : let s := (group 5 3 1 100 (up 2 20)).setGrp 5 { ready := some 18 }
    (s.grp 5).ready = some 18 ∧ s.rdF (pCgrp 5) 0x104 2 0 = 3 ∧ (s.grp 5).isReady = false ∧ s.ownerBusy 5 = false ∧ s.grpKind 5 = 1 ∧
      18 + 34 ≤ s.grpT 5 ∧ ((after (.readyBeat 0 5) s).grp 5).dec = some 66 ∧ ((after (.readyBeat 0 5) s).grp 5).app = some 100 := by decide +kernel

/-- R117: T nearer than 34 beats. -/
theorem test_ready_late : let s := (group 5 3 1 40 (up 2 20)).setGrp 5 { ready := some 18 }
    s.ownerBusy 5 = false ∧ s.grpKind 5 = 1 ∧ s.grpT 5 < 18 + 34 ∧ (after (.readyBeat 0 5) s).rdF (pCgrp 5) 0x128 15 8 = 6 := by decide +kernel

/-- R124: R of a SYNC group, and of SHOT groups: behind a boundary, between shots, with the stretch factor at 8, and inside a shot. -/
theorem test_ready_shot : let g := fun k => (group 5 3 k 0 (up 2 200)).setGrp 5 { ready := some 180 }
    let b : State := { g 0 with bounds := [(0, (1, 170))] }
    let i := (g 0).setCrz 0 { shots := [{ uid := 1, num := 6, starts := 0, start := 0 }] }
    let h := (((g 0).wrF pTherm 0x108 31 16 2048).wrF (pCrozier 0) 0x08 4 0 0).setCrzState 0 2
    2048 ≤ h.stretch ∧ h.frondOwner 0 = 0 ∧ h.active 0 = true ∧ h.betweenShots 0 180 = true ∧ ((after (.readyBeat 0 5) h).grp 5).stretch = true ∧
      (g 2).ownerBusy 5 = false ∧ (g 2).grpKind 5 = 2 ∧ ((after (.readyBeat 0 5) (g 2)).grp 5).isReady = true ∧ (g 0).grpKind 5 = 0 ∧
      (Tab.get (0, 0) b.bounds 0).2 = 170 ∧ ((after (.readyBeat 0 5) b).grp 5).dec = some 184 ∧ ((after (.readyBeat 0 5) b).grp 5).app = some 218 ∧
      (g 0).betweenShots 0 180 = true ∧ ((after (.readyBeat 0 5) (g 0)).grp 5).dec = some 182 ∧ (after (.readyBeat 0 5) (i)).rdF (pCgrp 5) 0x104 2 0 = 3 := by
  decide +kernel

/-- R124: an owner change of a group's page while that group is not IDLE. -/
theorem test_ready_owner : let s := { (((group 5 3 1 100 (up 2 20)).setGrpState 7 1).setGrp 5 { ready := some 18, bound := [pCgrp 7] }).bindPage (pCgrp 7) (some 5)
                                      with shadow := [((pCgrp 7).reg 0x08, 4)] }
    (s.grp 5).ready = some 18 ∧ s.ownerBusy 5 = true ∧ (after (.readyBeat 0 5) s).rdF (pCgrp 5) 0x128 15 8 = 2 := by decide +kernel

/-- R116: at D the group is DECIDED. -/
theorem test_decides : let s := (group 5 3 1 100 (up 2 70)).setGrp 5 { isReady := true, dec := some 66, app := some 100 }
    s.rdF (pCgrp 5) 0x104 2 0 = 3 ∧ s.grpKind 5 ≠ 3 ∧ (s.grp 5).dec = some 66 ∧ 66 ≤ s.beat ∧
      (after (.decisionBeat 0 5) s).rdF (pCgrp 5) 0x104 2 0 = 4 := by decide +kernel

/-- R121: at A the shadow values become active. -/
theorem test_applies : let s := { ((group 5 3 1 100 (up 2 100)).setGrp 5 { isReady := true, dec := some 66, app := some 100, bound := [pHcell 3] }).bindPage
                                    (pHcell 3) (some 5) with shadow := [((pHcell 3).reg 0x200, 1)] }
    (s.grp 5).app = some 100 ∧ 100 ≤ s.beat ∧ s.grpSt 5 = 4 ∧ (s.grp 5).lost = false ∧ Tab.find? s.shadow ((pHcell 3).reg 0x200) = some 1 ∧
      (pHcell 3).base ≤ (pHcell 3).reg 0x200 ∧ (pHcell 3).reg 0x200 < (pHcell 3).base + 0x800 ∧
      (s.shadow.map Prod.fst).Nodup ∧ (s.swap [pHcell 3]).rd (pHcell 3) 0x200 = mergeRwc ((pHcell 3).reg 0x200) 0 1 ∧
      Tab.find? s.shadow ((pHcell 3).reg 0x204) = none ∧ (s.swap [pHcell 4]).rd (pHcell 3) 0x200 = s.rd (pHcell 3) 0x200 := by decide +kernel

/-- R121: the pages of other domains wait while those lack their counts. -/
theorem test_wait_pages : let s := (up 2).mapTime (fun t => { t with resync := some 256 })
    pBias 3 ∈ s.waitPages [pBias 3, pHcell 3] ∧ pHcell 3 ∉ s.waitPages [pBias 3, pHcell 3] ∧ pBias 3 ∉ (up 2).waitPages [pBias 3] := by decide +kernel

/-- A device number and a route for the cluster tests: device 3, device 5 on port 1, which is ACTIVE. -/
def linked (s : State) : State :=
  ((s.wrF pCsync 0x100 28 24 3).wrF pNdeor 0x130 23 20 1).wrF pNdeor 0x118 10 8 5

/-- R129: a vote leaves at T − L: OK from an armed group, FAIL from one still validating. -/
theorem test_vote : let s := ((linked (group 5 3 3 1000 (up 2 800))).wr (pCgrp 5) 0x11C 0x50007).wr (pCgrp 5) 0x124 300
    s.inTx 5 = true ∧ (s.grp 5).voteSent = false ∧ s.grpT 5 ≤ s.beat + s.lead 5 ∧ s.rdF (pCgrp 5) 0x104 2 0 = 3 ∧
      s.rdF pCsync 0x10C 2 0 ≠ 6 ∧ (after (.clusterVote 0 5) s).outbox = [.flit 1 1 5 1 (s.commitFlit 0xA 7 true 0 1000)] ∧
      (after (.clusterVote 0 5) s).rdB (pCgrp 5) 0x104 5 = true := by decide +kernel

/-- R129: a group still in VALIDATING votes FAIL and aborts. -/
theorem test_vote_late : let s := ((linked (group 5 2 3 1000 (up 2 800))).wr (pCgrp 5) 0x11C 0x50007).wr (pCgrp 5) 0x124 300
    s.inTx 5 = true ∧ s.rdF (pCgrp 5) 0x104 2 0 = 2 ∧ (after (.clusterVote 0 5) s).rdF (pCgrp 5) 0x128 15 8 = 6 := by decide +kernel

/-- R129: a vote counts at its coordinator, and passes on elsewhere. -/
theorem test_vote_received : let s := (linked (group 5 3 3 1000 (up 2 800))).wr (pCgrp 5) 0x11C 0x30007
    let w := BitVec.ofNat 64 (0xA * 2 ^ 60 + 5 * 2 ^ 55 + 7 * 2 ^ 39 + 2 ^ 38 + 1000)
    s.devnum = 3 ∧ s.inTx 5 = true ∧ s.coord 5 = s.devnum ∧ s.txid 5 = nfld w.toNat 54 39 ∧ s.grpT 5 % 2 ^ 32 = nfld w.toNat 31 0 ∧
      ((after (.voteReceived 0 3 w) s).grp 5).votes = 2 ^ 5 ∧ (after (.voteReceived 0 5 w) s).outbox = [.flit 1 1 5 1 w] := by decide +kernel

/-- R129: the coordinator decides at T − L / 2; a participant takes note. -/
theorem test_cluster_decide : let s := (((linked (group 5 3 3 1000 (up 2 900))).wr (pCgrp 5) 0x11C 0x30007).wr (pCgrp 5) 0x124 300).wr (pCgrp 5) 0x120 0x20
    let w := BitVec.ofNat 64 (0xB * 2 ^ 60 + 3 * 2 ^ 55 + 7 * 2 ^ 39 + 2 ^ 38 + 1000)
    s.inTx 5 = true ∧ s.coord 5 = s.devnum ∧ (s.grp 5).sentOut = false ∧ s.grpT 5 ≤ s.beat + s.lead 5 / 2 ∧
      (after (.clusterDecide 0 5) s).outbox.length = 1 ∧ s.coord 5 = nfld w.toNat 59 55 ∧ 2 ≤ s.rdF (pCgrp 5) 0x104 2 0 ∧
      ((after (.decideReceived 0 3 w) s).grp 5).decided = some true := by decide +kernel

/-- R129: the second and the third copy of the decision. -/
theorem test_cluster_copies : let s := fun n => ((linked (group 5 3 3 1000 (up 2 900))).wr (pCgrp 5) 0x120 0x20).setGrp 5 { copies := n, decOk := true }
    ((s 1).grp 5).abortAt = none ∧ ((s 1).groupDue 5).outbox.length = 1 ∧ (((s 1).groupDue 5).grp 5).copies = 2 ∧
      ((s 2).groupDue 5).outbox.length = 1 ∧ (((s 3).groupDue 5).outbox.length = 0) := by decide +kernel

/-- R129, R131: at D a CLUSTER group applies, aborts, or is lost. -/
theorem test_cluster_decision : let s := fun (d : Option Bool) => (linked (group 5 3 3 1000 (up 2 970))).setGrp 5 { isReady := true, decided := d }
    (s none).rdF (pCgrp 5) 0x104 2 0 = 3 ∧ (s none).grpKind 5 = 3 ∧ ((s none).grp 5).isReady = true ∧ (s none).grpT 5 ≤ (s none).beat + 34 ∧
      ((after (.decisionBeat 0 5) (s (some true))).grp 5).app = some 1000 ∧
      (after (.decisionBeat 0 5) (s (some false))).rdF (pCgrp 5) 0x128 15 8 = 0x0B ∧
      (after (.decisionBeat 0 5) (s none)).rdF (pCgrp 5) 0x128 15 8 = 0x0C := by decide +kernel

/-- R131: an OUTCOME flit that tells a loss where the device applied: a split. -/
theorem test_outcome_lost : let s : State := { linked (up 2 800) with txs := [{ txid := 7, owner := 0x1F, t := 500 }] }
    let w := BitVec.ofNat 64 (0xC * 2 ^ 60 + 5 * 2 ^ 55 + 7 * 2 ^ 39 + 2 ^ 38 + 500)
    (s.newCast (nfld w.toNat 59 55) 0xC (nfld w.toNat 54 39)).1 = true ∧ tst w.toNat 38 = true ∧ nfld w.toNat 54 39 = 7 ∧
      (after (.outcomeLost 0 1 w) s).rdB pCommit 0x14 0 = true := by decide +kernel

/-- R111: an image that could not be read. -/
theorem test_validate_read : let s := { (group 5 2 1 0 (up 2)).setGrp 5 { badRead := some 0, bound := [pCrozier 0] } with
                                         shadow := [((pCrozier 0).reg 0x14C, 256)] }
    s.imageRefs 5 = [(pCrozier 0, 256)] ∧ s.rdF (pCgrp 5) 0x104 2 0 = 2 ∧ s.scrubWait 5 = false ∧ s.rdB (pCgrp 5) 0x104 4 = false ∧
      s.ownershipOk 5 = true ∧ (State.checkRead 0x1F [(pCrozier 0, 256)] (some 0) s).2 = false := by decide +kernel

/-- A validating group without writes whose device has bandwidth to give. -/
def checked (s : State) : State := ((group 5 2 1 0 s).wrF pCommit 0x110 15 0 640)

/-- R111, R112: without bandwidth; and with it. -/
theorem test_validate_pool : let s := (group 5 2 1 0 (up 2)).showClaims 5
    let w := (checked (up 2)).showClaims 5
    bandwidthBad (s.overlayOwn 5) (s.overlay 5) (s.rdF pCommit 0x110 15 0) 0x1F false = true ∧
      bandwidthBad (w.overlayOwn 5) (w.overlay 5) (w.rdF pCommit 0x110 15 0) 0x1F false = false := by decide +kernel

/-- R111: no loop, and a loop of channel 5 and cell 3 without a register. -/
theorem test_validate_loop : let l := (((up 2).wr (pHchan 0) 0x214 0x20003).wr (pHcell 0) 0x230 0x405).wr (pHcell 0) 0x238 1
    let w := (checked l).showClaims 5
    ((checked (up 2)).showClaims 5 |>.overlay 5).evtLoop = false ∧ (w.overlay 5).evtLoop = true := by decide +kernel

/-- The other checks before the loop, passed. -/
theorem test_validate_before : let l := (((up 2).wr (pHchan 0) 0x214 0x20003).wr (pHcell 0) 0x230 0x405).wr (pHcell 0) 0x238 1
    let w := (checked l).showClaims 5
    bandwidthBad (w.overlayOwn 5) (w.overlay 5) (w.rdF pCommit 0x110 15 0) 0x1F false = false ∧ (checked l).ownershipOk 5 = true := by decide +kernel
/-! The Crozier sequencer (05_crozier_sequencer.md). -/

/-- Frond 0's event at beat 0, and its next word's. -/
def e0 : FrondEv := { f := 0, b := 0 }
def w0 : WordEv := { f := 0, b := 0 }

/-- A running, enabled Crozier of frond 0 with a word at pc 0. -/
def runs (w : BitVec 192) : State := crozier 0 1 w ((up 3).wrB (pCrozier 0) 0x100 0 true)

/-- NEXT with a wait of 5 beats. -/
theorem test_uw_next : let s := runs (word 0 (5 * 2 ^ 154))
    s.wordAt w0 = s ∧ s.crzState 0 = 1 ∧ (s.crz 0).ready ≤ s.beat ∧ Claims.wordFree s 0 ∧ (s.fetch 0).op = 0 ∧ (s.fetch 0).wmode = 0 ∧
      (s.fetch 0).posts = false ∧ (after (.uwNext w0) s).pc 0 = 1 ∧ (after (.uwNext w0) s).tc 0 = 105 ∧ (after (.waitAdd w0) s).tc 0 = 105 := by
  decide +kernel

/-- GOTO 9. -/
theorem test_uw_goto : let s := runs (word 1 (9 * 2 ^ 170))
    Claims.wordFree s 0 ∧ (s.fetch 0).op = 1 ∧ (after (.uwGoto w0) s).pc 0 = 9 := by decide +kernel

/-- BRT and BRF on condition 0. -/
theorem test_uw_branch : let s := runs (word 2 (9 * 2 ^ 170 + 25 * 2 ^ 183))
    let t := runs (word 3 (9 * 2 ^ 170 + 25 * 2 ^ 183))
    Claims.wordFree s 0 ∧ Claims.wordFree t 0 ∧ (s.fetch 0).op = 2 ∧ (t.fetch 0).op = 3 ∧
      ((after (.uwBrt w0) s).pc 0, (after (.uwBrf w0) t).pc 0) = (1, 9) := by decide +kernel

/-- CALL pushes PC + 1 and RET pops it. -/
theorem test_uw_call : let s := runs (word 4 (9 * 2 ^ 170))
    let t := (runs (word 5)).setCrz 0 { (runs 0).crz 0 with stack := [7, 8] }
    Claims.wordFree s 0 ∧ Claims.wordFree t 0 ∧ (s.fetch 0).op = 4 ∧ (t.fetch 0).op = 5 ∧ (after (.uwCall w0) s).pc 0 = 9 ∧
      ((after (.uwCall w0) s).crz 0).stack = [1] ∧ (after (.uwRet w0) t).pc 0 = 7 ∧ ((after (.uwRet w0) t).crz 0).stack = [8] := by decide +kernel

/-- LOOP on a counter that its own word loads: the branch is taken while the count is above 1. -/
theorem test_uw_loop : let s := runs (word 6 (9 * 2 ^ 170 + 3 * 2 ^ 183 + 9 * 2 ^ 12 + 3 * 2 ^ 6 + 4))
    Claims.wordFree s 0 ∧ (s.fetch 0).op = 6 ∧ (after (.uwLoop w0) s).pc 0 = 9 ∧ (after (.uwLoop w0) s).lc 0 3 = 4 ∧
      (after (.uwLoop w0) (runs (word 6 (9 * 2 ^ 170)))).pc 0 = 1 := by decide +kernel

/-- DISPATCH on an empty slot. -/
theorem test_uw_dispatch : let s := runs (word 7 (9 * 2 ^ 170))
    Claims.wordFree s 0 ∧ (s.fetch 0).op = 7 ∧ (after (.uwDispatch w0) s).pc 0 = 9 := by decide +kernel

/-- SHOT_BEGIN numbers and opens a shot; SHOT_END posts its bundle and closes it. -/
theorem test_uw_shot : let s := runs (word 8)
    let t := (runs (word 9)).setCrz 0 { (runs 0).crz 0 with inShot := true }
    Claims.wordFree s 0 ∧ Claims.wordFree t 0 ∧ (s.fetch 0).op = 8 ∧ (t.fetch 0).op = 9 ∧ (t.fetch 0).posts = true ∧
      (after (.uwShotBegin w0) s).rd (pCrozier 0) 0x118 = 1 ∧ ((after (.uwShotBegin w0) s).crz 0).inShot = true ∧
      (after (.uwShotBegin w0) s).rd64 (pCrozier 0) 0x11C = 100 ∧ ((after (.uwShotEnd w0) t).crz 0).inShot = false ∧
      ((after (.uwShotEnd w0) t).crz 0).queue.map (·.issue) = [100] := by decide +kernel

/-- SYNC posts its group; HALT stays and is HALTED; WAITEV on a condition that holds goes on; IRQ writes its code. -/
theorem test_uw_rest : let s := runs (word 10 (5 * 2 ^ 170))
    let h := runs (word 11)
    let v := (runs (word 12)).setCrz 0 { (runs 0).crz 0 with evin := 1 }
    let i := runs (word 13 (5 * 2 ^ 170))
    Claims.wordFree s 0 ∧ Claims.wordFree h 0 ∧ Claims.wordFree i 0 ∧ ((after (.uwSync w0) s).crz 0).queue.map (·.grp) = [5] ∧
      (after (.uwHalt w0) h).crzState 0 = 5 ∧ (after (.uwHalt w0) h).pc 0 = 0 ∧ (after (.uwIrq w0) i).rd (pCrozier 0) 0x164 = 5 ∧
      (v.fetch 0).op = 12 ∧ Claims.wordFree v 0 ∧ (after (.uwWaitev w0) v).crzState 0 = 1 := by decide +kernel

/-- PARAM waits by a parameter register; CLAMP raises a stamp nearer than 3 beats. -/
theorem test_wait_modes : let s := (runs (word 0 (1 * 2 ^ 168 + 4 * 2 ^ 154))).wr (pCrozier 0) (0x200 + 16) 30
    let t := { runs (word 0 (2 * 2 ^ 168 + 4 * 2 ^ 154)) with beat := 200 }
    Claims.wordFree s 0 ∧ Claims.wordFree t 0 ∧ (s.fetch 0).wmode = 1 ∧ (t.fetch 0).wmode = 2 ∧
      (after (.waitParam w0) s).tc 0 = 130 ∧ (after (.waitClamp w0) t).tc 0 = 207 := by decide +kernel

/-- A Crozier of frond 0 whose word holds an ALU operation on P[2] = 5 and source 3, with P[3] = 7. -/
def alu (k : Nat) : State := ((runs (word 0 (k * 2 ^ 12 + 2 * 2 ^ 6 + 3))).wr (pCrozier 0) 0x208 5).wr (pCrozier 0) 0x20C 7

/-- Table 5.7 on P[2] = 5, source 3 and P[3] = 7. -/
theorem test_alu : (∀ k ∈ [1, 2, 3, 4, 5, 6, 7, 8, 9, 10, 11, 12], Claims.wordFree (alu k) 0 ∧ ((alu k).fetch 0).alu = k) ∧
    ((after (.aluMovi w0) (alu 1)).par 0 2, (after (.aluAddi w0) (alu 2)).par 0 2, (after (.aluSubi w0) (alu 3)).par 0 2) = (3, 8, 2) ∧
    ((after (.aluMov w0) (alu 4)).par 0 2, (after (.aluAdd w0) (alu 5)).par 0 2, (after (.aluSub w0) (alu 6)).par 0 2) = (7, 12, 4294967294) ∧
    ((after (.aluShl6 w0) (alu 7)).par 0 2, (after (.aluLdlc w0) (alu 8)).lc 0 2, (after (.aluLdlci w0) (alu 9)).lc 0 2) = (323, 7, 4) ∧
    ((after (.aluRdslot w0) (alu 10)).par 0 2, (after (.aluRdlc w0) (alu 11)).par 0 2, (after (.aluRdshot w0) (alu 12)).par 0 2) = (0xFFFFFFFF, 0, 0) := by
  decide +kernel

/-- R166: a write to a parameter register in its apply beat is lost. -/
theorem test_alu_lost : let s := (alu 1).setCrz 0 { (alu 1).crz 0 with parBeat := 0, parMask := 4 }
    Claims.wordFree s 0 ∧ (s.crz 0).parBeat = s.beat ∧ tst (s.crz 0).parMask (s.fetch 0).dst = true ∧ (after (.aluMovi w0) s).par 0 2 = 5 := by
  decide +kernel

/-- R162, R145: a paused Crozier goes on. -/
theorem test_resumes : let s := fun st => crozier 0 st (word 0) ((up 2).wrB (pCrozier 0) 0x100 0 true)
    (∀ k ∈ [2, 3, 4], Claims.wordFree (s k) 0 ∧ (s k).crzState 0 = k) ∧ (after (.holdRelease w0) (s 2)).pc 0 = 1 ∧
      (after (.stallRelease w0) (s 3)).pc 0 = 1 ∧ (after (.waitResume w0) (s 4)).pc 0 = 1 := by decide +kernel

/-- R164: an interrupt enters its handler at IVEC[1] = 77. -/
theorem test_interrupt : let s := (((runs (word 0)).setCrz 0 { (runs 0).crz 0 with evin := 2 }).wr (pCrozier 0) 0x134 2).wr (pCrozier 0) 0x13C 77
    s.active 0 = true ∧ s.faultNow 0 (s.fetch 0) = none ∧ (s.crz 0).ready = 0 ∧ s.irqInput 0 = some 1 ∧ (after (.interruptEntry e0) s).pc 0 = 77 ∧
      ((after (.interruptEntry e0) s).crz 0).stack = [0] ∧ ((after (.interruptEntry e0) s).crz 0).evin = 0 := by decide +kernel

/-- R156: HALT with and without its key. -/
theorem test_cmd_halt : let s := runs (word 0)
    s.admits .smbus (pCrozier 0) ∧ ((after (.cmdHalt .smbus e0 0x435A) s).crz 0).haltAt = some 4 ∧ after (.cmdHalt .smbus e0 0x435B) s = s := by
  decide +kernel

/-- Frond 0 with one bundle, which issues now. -/
def issues (b : Bundle) (s : State := runs (word 0)) : State := s.setCrz 0 { s.crz 0 with queue := [b] }

/-- R149: XY, second XY and probe fields start their tones. -/
theorem test_starts : let x := issues { issue := 0, xy0 := { en := true, tone := 3 } }
    let y := issues { issue := 0, xy1 := { en := true, tone := 3 } }
    let p := issues { issue := 0, probe := { en := true, tone := 2 } }
    (x.due 0).length = 1 ∧ x.gate 0 0 0 (0 - 2) = none ∧ (y.due 0).length = 1 ∧ (p.due 0).length = 1 ∧
      ((after (.xyStart e0) x).due 0) = [] ∧ ((after (.xyStart e0) y).due 0) = [] ∧ ((after (.probeStart e0) p).due 0) = [] ∧
      after (.xyStart e0) x ≠ x ∧ after (.xyStart e0) y ≠ y ∧ after (.probeStart e0) p ≠ p := by decide +kernel

/-- R149: a bundle with both XY fields starts both tones. -/
theorem test_start_both : let x := issues { issue := 0, xy0 := { en := true, tone := 3 }, xy1 := { en := true, tone := 2 } }
    (x.due 0).length = 1 ∧ (3 : Nat) ≠ 8 + 2 ∧ ((after (.xyStart e0) x).due 0) = [] ∧ x.gate 0 0 0 (0 - 2) = none := by decide +kernel

/-- R150: a gate on an empty slot suppresses a probe start. -/
theorem test_gated : let p := issues { issue := 0, probe := { en := true, tone := 2, cond := 1 } }
    p.gate 0 1 0 (0 - 2) ≠ none ∧ ((after (.probeStart e0) p).due 0) = [] := by decide +kernel

/-- R153, R154: flux starts and read-out windows: opened, of a tone that integrates, and with LEN 0. -/
theorem test_flux_readout : let x := issues { issue := 0, fluxMask := 3 }
    let r := (issues { issue := 0, roMask := 4 }).setFe 0 { (up 3).fe 0 with tones := [(2, { len := 3 })] }
    let y : Win := { tone := 2, issue := 0, ks := 560, len := 3, n := 0, shot := 0, num := 0 }
    let w := (issues { issue := 0, roMask := 4 }).setFe 0 { (up 3).fe 0 with tones := [(2, { len := 3 })], wins := [y] }
    let z := issues { issue := 0, roMask := 4 }
    (x.due 0).length = 1 ∧ ((after (.fluxStart e0) x).due 0) = [] ∧ (r.due 0).length = 1 ∧ (r.fe 0).lenAt 2 576 = 3 ∧
      ((r.openWindow 0 2 0 0 0).fe 0).wins.map (·.ks) = [576] ∧ (w.fe 0).lenAt 2 576 = 3 ∧
      ((w.fe 0).wins.any (fun w => decide (w.tone = 2) && decide (576 < w.ks + 48 * w.len))) = true ∧
      (after (.readoutWindow e0) w).rdB (pCrozier 0) 0x14 4 = true ∧ (z.fe 0).lenAt 2 576 = 0 ∧
      (after (.readoutWindow e0) z).rd (pReadout 0) 0x50 = 1 := by decide +kernel

/-- R158: the bundle of a SHOT_END finds no slot held by a discarded record, or one. -/
theorem test_shot_slots : let x := (issues { issue := 0, shotEnd := true }).setSlot 0 3 { st := 2, lock := true }
    (x.due 0).length = 1 ∧ (x.slot 0 4).lock = false ∧ ((after (.shotEndIssue e0) x).slot 0 4).st = 0 ∧ (x.slot 0 3).lock = true ∧
      ((after (.shotEndIssue e0) x).slot 0 3).st = 2 := by decide +kernel

/-- A jump request of channel 0. -/
def aJump : Jump := { chan := 0, entry := 3, issue := 5, posted := 0, seq := 0 }

/-- R154: a posted jump request reaches its player. -/
theorem test_jump : let s := (runs (word 0)).setCrz 0 { (runs 0).crz 0 with handed := [aJump] }
    (s.crz 0).handed = [aJump] ∧ ((s.setCrz 0 { s.crz 0 with handed := [] }).handJump 0 aJump).idleJumps 0 s.beat = [] := by decide +kernel

/-- R155, R158: EV pulses, the issue of SHOT_END and SYNC. -/
theorem test_marks : let v := issues { issue := 0, ev := 2 }
    let x := issues { issue := 0, shotEnd := true }
    let y := issues { issue := 0, sync := true, grp := 9 }
    let q := v.wr (pCalf 0) 0x104 0x10002
    q.rdB (pCalf 0) 0x104 1 = true ∧ tst 2 (q.rdF (pCalf 0) 0x104 17 16) = true ∧ Tab.find? (after (.evPulse e0) q).cal.decl 0 = some 0 ∧
      v.rdB (pCalf 0) 0x104 1 = false ∧ ((after (.evPulse e0) v).due 0) = [] ∧
      (after (.shotEndIssue e0) x).bus.map (·.shotEnd) = [true] ∧ (after (.syncIssue e0) y).bus.map (·.syncs) = [[9]] := by decide +kernel

/-- R159: a settled shot's status item. -/
theorem test_shot_status : let s := ({ runs (word 0) with beat := 40 }.setCrz 0 { (runs 0).crz 0 with shots := [{ uid := 1, num := 6, starts := 0, start := 0, ended := some 0 }] }).wr (pCrozier 0) 0x168 0x105
    let o := s.wr (pCrozier 0) 0x168 5
    let p := s.wr (pCrozier 0) 0x08 4
    (after (.shotStatusItem e0) o).transit = [] ∧ (after (.shotStatusItem e0) p).rdB (pCrozier 0) 0x14 10 = true ∧
      p.owner (pQueue 5) ≠ p.frondOwner 0 ∧ ((s.crz 0).shots.find? (fun x => s.shotSettled 0 x)).isSome = true ∧ s.rdB (pCrozier 0) 0x168 8 = true ∧
      s.owner (pQueue (s.rdF (pCrozier 0) 0x168 5 0)) = s.frondOwner 0 ∧ (after (.shotStatusItem e0) s).transit.map (·.q) = [5] := by
  decide +kernel

/-- Frame bits: qubit 3's pair of frond 0 holds 1. -/
theorem test_frames : let s := fun k => issues { issue := 0, frOp := k, frQubit := 3 } ((runs (word 0)).wr pSorus 0x200 0x40)
    ((s 1).due 0).length = 1 ∧ (after (.frameToggleX e0) (s 1)).rd pSorus 0x200 = 0xC0 ∧ (after (.frameToggleZ e0) (s 2)).rd pSorus 0x200 = 0 ∧
      (after (.frameToggleXz e0) (s 3)).rd pSorus 0x200 = 0x80 ∧ (after (.frameClear e0) (s 4)).rd pSorus 0x200 = 0 ∧
      (after (.frameClearAll e0) (s 5)).rd pSorus 0x200 = 0 := by decide +kernel

/-- R152: FRAME_CLEAR_ALL leaves the pair of a qubit it lost to a later operation. -/
theorem test_frame_lost : let s := issues { issue := 0, frOp := 5, frQubit := 3, frLost := 8 } ((runs (word 0)).wr pSorus 0x200 0xC0C0)
    (s.due 0).length = 1 ∧ (after (.frameClearAll e0) s).rd pSorus 0x200 = 0xC0 := by decide +kernel

/-- R296: FRAME_XOR_SLOT with a trusted slot. -/
theorem test_frame_xor : let s := issues { issue := 0, frOp := 6, frQubit := 3 } ((runs (word 0)).setSlot 0 3 { st := 2, word := 0x11 })
    ((s.slot 0 3).view (0 - 2)).st = 2 ∧ ((s.slot 0 3).view (0 - 2)).qual = 0 ∧ (after (.frameXorSlot e0) s).rd pSorus 0x200 = 0x11 := by
  decide +kernel
/-! Players, rings, strobes, events and the read-out path (06_waveform_store.md to 09_readout_kernels.md, 12_hypha_events.md). -/

/-- Frond 0's player of channel c plays a pass of 64 samples from sample 0. -/
def plays (c : Nat) (ent : BitVec 128) (s : State := up 3 2) : State :=
  s.setPlayer 0 c { playing := true, ent := ent, len := 64 }

/-- R178: without LINK the pass ends; with LINK the next entry follows. -/
theorem test_boundary : let s := plays 2 0
    let t := { plays 2 (BitVec.ofNat 128 (2 ^ 27 + 5)) with lists := [(5, BitVec.ofNat 128 (7 * 2 ^ 14))], descs := [(7, BitVec.ofNat 64 (2 ^ 62 + 3))] }
    (s.player 0 2).playing = true ∧ (s.player 0 2).bj ≤ s.beat ∧ s.cutNow 0 2 64 = false ∧ entLinkEn (s.player 0 2).ent = false ∧
      ((after (.segmentBoundary e0 2) s).player 0 2).playing = false ∧ t.cutNow 0 2 64 = false ∧ entLinkEn (t.player 0 2).ent = true ∧
      entLink (t.player 0 2).ent = 5 ∧ t.segError 0 2 (t.descOf 0 (entSeg (t.listOf 0 5))) = none ∧
      ((after (.segmentBoundary e0 2) t).player 0 2).entry = 5 := by decide +kernel

/-- R180: a jump request in time for the boundary is latched. -/
theorem test_jump_latch : let s := (up 3 20).setPlayer 0 0 { playing := true, len := 32 * 20, jumps := [{ aJump with posted := 14 }] }
    let p := s.player 0 0
    p.bj = 20 ∧ p.latchK ≠ p.k0 + p.len ∧
      (p.jumps.filter (fun x => s.names 0 0 x && decide (x.posted + 6 ≤ p.bj))).getLast? = some { aJump with posted := 14 } ∧
      s.gate 0 0 0 (20 - 6) = none ∧ ((after (.jumpLatch e0 0) s).player 0 0).latched = some { aJump with posted := 14 } := by decide +kernel

/-- R190: a ring of 64 KiB: writes of 65536, 65537 and 65600. -/
theorem test_ring_wr : let s := up 2
    s.admits .smbus (pWaveform 0) ∧ s.ringSize 0 1 = 65536 ∧ (after (.ringWr .smbus 0 1 65536 false) s).rd (pWaveform 0) (ringReg 1 5) = 65536 ∧
      (after (.ringWr .smbus 0 1 65537 false) s).rdF (pWaveform 0) 0x20 7 0 = 2 ∧
      (after (.ringWr .smbus 0 1 65600 false) s).rdF (pWaveform 0) 0x20 7 0 = 1 := by decide +kernel

/-- An enabled ring 1 of 4 staging blocks that holds 8 bytes, RESV GB/s reserved for it. -/
def ring (resv : Nat := 16) : State :=
  let s := ((((up 3).wrB (pWaveform 0) (ringReg 1 2) 31 true).wrF (pWaveform 0) (ringReg 1 2) 20 16 resv).wrF (pWaveform 0) (ringReg 1 3) 8 0 4).wr (pWaveform 0) (ringReg 1 5) 8
  { s with gddr := [(4, 7)] }

/-- R191: a refill moves the bytes and RD. -/
theorem test_refill : let s := ring
    let n := ring 0
    s.ringOn 0 1 = true ∧ min 256 (s.ringFill 0 1) = 8 ∧ s.stageFill 0 1 s.beat + 8 ≤ 4096 ∧ (s.ringPaced 0 1 8).1 = true ∧
      (after (.ringRefill e0 1) s).rd (pWaveform 0) (ringReg 1 6) = 8 ∧ Tab.get 0 (after (.ringRefill e0 1) s).sram 1 = 7 ∧
      (n.ringPaced 0 1 8).1 = false ∧ after (.ringRefill e0 1) n = n ∧ (up 3).ringOn 0 1 = false := by decide +kernel

/-- R194: a player reads more than the ring holds. -/
theorem test_underrun : let s := (up 3 2).setPlayer 0 2 { playing := true, ring := some 1, desc := BitVec.ofNat 64 100, len := 6400, k0 := 70 }
    let p := s.player 0 2
    p.under = false ∧ 32 * s.beat ≤ 70 + 0 * descSpan p.desc ∧ 70 + 0 * descSpan p.desc < 32 * s.beat + 32 ∧ 0 * descSpan p.desc < p.len ∧
      ahead (p.ringPos + (0 + 1) * descBytes p.desc) (s.rd (pWaveform 0) (ringReg 1 6)).toNat ≠ 0 ∧
      ((after (.ringUnderrun e0 2) s).player 0 2).under = true ∧ ((after (.ringUnderrun e0 2) s).player 0 2).underK = 70 := by decide +kernel

/-- R217: strobe 1 by software; strobe 2 20 beats after its last load, which merges, and 21 beats after it. -/
theorem test_stb_sw : let s := (up 2 30).mapHk (fun h => { h with fired := [(2, 20), (3, 19)] })
    s.admits .smbus pHk ∧ (after (.stbSw .smbus 14) s).hk.strobes.all (· != 2) ∧ 1 ∈ (after (.stbSw .smbus 14) s).hk.strobes ∧
      3 ∈ (after (.stbSw .smbus 14) s).hk.strobes ∧ Tab.get 0 (after (.stbSw .smbus 14) s).hk.fired 3 = 39 := by decide +kernel

/-- R216: LDAC_N[2] for a strobe that follows it, and one that merges. -/
theorem test_ldac : let s := ((up 2 30).wr pHk 0x104 0x10002).wr pHk 0x108 0x10002
    s.strobesOf 1 2 = [1, 2] ∧ 1 ∈ (after (.ldacN 0 2) s).hk.strobes ∧
      (after (.ldacN 0 2) (s.mapHk (fun h => { h with fired := [(2, 30)] }))).hk.strobes = [1] := by decide +kernel

/-- R426: a load strobe loads a staged code of a channel that selects it. -/
theorem test_strobe : let u := (up 2).mapHk (fun h => { h with strobes := [1] })
    let s := ((u.wr (pBias 0) (biasReg 0 1) 1).wr (pBias 0) (biasReg 0 0) 77).wr (pBias 0) (biasReg 0 3) 0x40000000
    s.biasForced = false ∧ s.biasLoad 0 0 = 1 ∧ s.rdB (pBias 0) (biasReg 0 3) 30 = true ∧ s.biasLoad 0 1 ≠ 1 ∧
      (after (.strobeLoad 0 1) s).rd (pBias 0) (biasReg 0 3) = 77 := by decide +kernel

/-- R220: CLR_N high and low. -/
theorem test_clr : let s := up 2 40
    let t := { up 2 40 with pins := { clr := true, clrFrom := 54 } }
    s.pins.clr = false ∧ t.pins.clr = true ∧ t.edgeAt 35 = 35 := by decide +kernel

/-- R329: a software pulse is carried 5 beats later. -/
theorem test_swpulse : let s := up 2
    s.admits .smbus (pHchan 2) ∧ (after (.swpulse .smbus 2 1 9) s).hypha.events = [(5, 1184), (5, 1187)] := by decide +kernel

/-- R334: a channel of an earlier beat, and one of this beat. -/
theorem test_channel : let s := (up 3 6).mapHypha (fun h => { h with carried := [(5, 9)] })
    let t := (up 3 6).mapHypha (fun h => { h with events := [(6, 1033)] })
    (5, 9) ∈ s.hypha.carried ∧ (after (.channelEvent 5 9) s).hypha.carried = [] ∧ (6, 9) ∉ t.hypha.carried ∧ 9 ∈ t.hyphaNow.1 ∧
      (after (.channelEvent 6 9) t).hypha.delivered = [9] := by decide +kernel

/-- R233: ADC_OVR outside blanking. -/
theorem test_ovr : let s := up 3 30
    let e : OvrEv := { f := 0, b := 0, rails := [(5, true), (7, false)] }
    (s.fe 0).blankAt s.beat = false ∧ (s.fe 0).ovr.head? ≠ some s.beat ∧ ((after (.adcOvr e) s).fe 0).ovr.head? = some 30 ∧
      (e.rails.find? (fun x => x.1 == 5)) = some (5, true) ∧ ((after (.adcOvr e) s).fe 0).codeAt (24 * 30 + 5) 3 = 2047 ∧
      ((after (.adcOvr e) s).fe 0).codeAt (24 * 30 + 7) 3 = -2048 ∧ ((after (.adcOvr e) s).fe 0).codeAt (24 * 30 + 6) 3 = 3 := by decide +kernel

/-- R237: a pending range change. -/
theorem test_fe_switch : let s := (up 3 30).setFe 0 { reqs := [(20, 2, 1)] }
    (s.fe 0).pendingAt s.beat = true ∧ (s.fe 0).clear s.beat = true ∧ s.feBusy 0 = false ∧ s.inSlot 0 s.beat = false ∧
      ((after (.feSwitch e0) s).fe 0).rangeAt 30 = 2 := by decide +kernel

/-- R246: a committed tone change, and one held back by a window over its first sample. -/
theorem test_tone : let s := (up 3 30).setFe 0 { toneChg := [(3, 5, { len := 9 })] }
    let w := (up 3 30).setFe 0 { toneChg := [(3, 5, { len := 9 })],
                                 wins := [{ tone := 3, issue := 0, ks := 700, len := 2, n := 0, shot := 0, num := 0 }] }
    (s.fe 0).toneChg.find? (fun x => x.1 == 3) = some (3, 5, { len := 9 }) ∧ (s.fe 0).toneFrom 3 5 = 696 ∧
      24 * s.beat < (s.fe 0).toneFrom 3 5 + 201600 ∧ ((after (.toneChange e0 3) s).fe 0).demodAt 3 696 = { len := 9 } ∧
      ((after (.toneChange e0 3) s).fe 0).demodAt 3 695 = {} ∧ (w.fe 0).toneFrom 3 5 = 869 := by
  decide +kernel

/-- A window of tone 3 from ADC sample 0, of length len, n samples done; accumulator I has saturated where sat says so. -/
def window (len n : Nat) (sat : Bool := false) (b : Nat := 90) : State :=
  (up 3 b).setFe 0 { wins := [{ tone := 3, issue := 0, ks := 0, len := len, n := n, shot := 0, num := 0, ovfI := if sat then some 1 else none,
                                 ovfQ := if sat then some 1 else none }] }

/-- R259: one MACMIN step, and one on saturated accumulators. -/
theorem test_macmin : ((window 8 0).fe 0).openWin 3 = ((window 8 0).fe 0).wins.head? ∧
    (((window 8 0).fe 0).wins.map (fun w => decide (w.present 0 ≤ 90))) = [true] ∧
    ((after (.macmin e0 3 (List.replicate 192 0) .clean) (window 8 0)).fe 0).wins.map (·.n) = [1] ∧
    ((after (.macmin e0 3 (List.replicate 192 0) .clean) (window 8 0 true)).fe 0).wins.map (·.accI) = [0] ∧
    (after (.macmin e0 3 (List.replicate 192 0) .bad) (window 8 0)).rdB (pKernel 0) 0x14 3 = true := by decide +kernel

/-- R264, R267: a result, without and with a queue. -/
theorem test_result : let s := window 1 1 false 35
    let o : List Word := [0, 0, 0, 0, 0, 0, 0, 0x105]
    let t := s.setFe 0 { wins := (s.fe 0).wins.map (fun w => { w with cfg := o }) }
    (s.resultDue 0 3).isSome = true ∧ (t.resultDue 0 3).map (·.cfg) = some o ∧ t.owner (pQueue 5) = t.frondOwner 0 ∧
      (after (.windowResult e0 3) s).bus.map (·.results.length) = [1] ∧ (after (.windowResult e0 3) t).transit.map (·.q) = [5] := by decide +kernel

/-- R271: WMEM_DATA_LO answers the selected word. -/
theorem test_wmem_read : (up 2).reads .smbus (pKernel 0) ∧ (after (.wmemDataLoRead .smbus 0) (up 2)).outbox ≠ [] := by decide +kernel
/-! Feedback (10_sorus_feedback.md). -/

/-- Rule 0 of SLOT page 0, of a kind, enabled: frond 0, slot 3. -/
def rule (k : Nat) (s : State := up 3 50) : State :=
  ((s.wrB (pSlot 0) (ruleReg 0 0) 31 true).wrF (pSlot 0) (ruleReg 0 0) 30 28 k).wrF (pSlot 0) (ruleReg 0 0) 20 17 3

/-- R283: deadlines passed: a record's, an EVENT rule's with a tap, and without. -/
theorem test_deadline : let x : Flight := { issue := 5, round := 6, dl := 40 }
    let w := (rule 3).setFlight 0 0 (some { x with ready := some 52 })
    let s := (rule 0).setFlight 0 0 (some x)
    let e := (rule 4).setFlight 0 0 (some x)
    let p := e.mapHypha (fun h => { h with taps := [(0, ruleTask 0 0)] })
    s.flight 0 0 = some x ∧ x.dl < s.beat ∧ s.ruleKind 0 0 = 0 ∧ e.ruleKind 0 0 = 4 ∧ (after (.deadlinePassed 0 0 0) s).flight 0 0 = none ∧
      (after (.deadlinePassed 0 0 0) s).rd (pSlot 0) (ruleReg 0 5) = 0x40600000 ∧
      (after (.deadlinePassed 0 0 0) e).rd (pSlot 0) (ruleReg 0 5) = 0xC0600000 ∧
      e.owner (pHchan (e.rdF (pSlot 0) (ruleReg 0 1) 21 12 / 64)) = e.ruleOwner 0 ∧
      (after (.deadlinePassed 0 0 0) p).rd (pSlot 0) (ruleReg 0 5) = 0x00600000 ∧ w.ruleKind 0 0 = 3 ∧
      (after (.deadlinePassed 0 0 0) w).flight 0 0 = none ∧ (after (.deadlinePassed 0 0 0) w).rd (pSlot 0) (ruleReg 0 5) = 0x40600000 := by
  decide +kernel

/-- R285: an arm notice and a resolution reach frond 0's port; R294: an uncorrectable error there. -/
theorem test_port : let x : Notice := { due := 50, frond := 0, rule := 0, round := 6, shot := none }
    let y : Resol := { due := 50, frond := 0, rule := 0, qual := 0, value := 1, word := 0x11, shot := none, round := 6 }
    let s := (rule 1).mapSorus (fun o => { o with notices := [x], resols := [y] })
    s.sorus.notices.filter (fun y => decide (y.due ≤ s.beat) && y.frond == 0) = [x] ∧ s.ruleFeeds 0 0 = true ∧
      s.shotLasts (s.ruleDF 0 0) none = true ∧ (s.slot (s.ruleDF 0 0) (s.ruleDS 0 0)).lock = false ∧ s.sorus.resols.filter (fun y => decide (y.due ≤ s.beat) && y.frond == 0) = [y] ∧
      ((after (.armNotice e0 false) s).slot 0 3).st = 1 ∧ ((after (.slotResolution e0 false) s).slot 0 3).value = 1 ∧
      s.writerOf 0 3 = some (0, 0) ∧ s.ruleAtPort 0 0 = false ∧ ((after (.armNotice e0 true) s).slot 0 3).qual = 3 := by decide +kernel

/-- R298: the central Sorus's copies disagree. -/
theorem test_lockstep : let x : Flight := { issue := 5, round := 6, dl := 90 }
    let s := ((rule 1).setFlight 0 0 (some x)).wr pSorus 0x200 0xC0
    (0, 0) ∈ s.rulesAt 32 ∧ (after (.lockstepDisagreement 0 32 [(0, 3)]) s).flight 0 0 = none ∧
      (after (.lockstepDisagreement 0 32 [(0, 3)]) s).rd pSorus 0x200 = 0 ∧
      (after (.lockstepDisagreement 0 32 [(0, 3)]) s).rd pSorus 0x100 = 0x02000032 := by decide +kernel

/-- R287, R293, R294: a decision record for another device, one in HOLD, and one that an EXTERNAL rule takes: ROUND 6, source 4, state 0,
value 1. -/
theorem test_decision_record : let x : Flight := { issue := 5, round := 6, dl := 90 }
    let s := ((rule 3).setFlight 0 0 (some x)).wrF (pSlot 0) (ruleReg 0 4) 30 26 4
    let w : BitVec 64 := BitVec.ofNat 64 (2 * 2 ^ 60 + 4 * 2 ^ 55 + 6 * 2 ^ 37 + 2 ^ 33 + 0x11)
    (5 ≠ s.devnum) ∧ (0 = s.devnum) ∧ s.mode ≠ 5 ∧ (up 5).mode = 5 ∧ 0 = (up 5).devnum ∧ s.ruleOn 0 0 = true ∧ s.ruleKind 0 0 = 3 ∧ s.rdB (pSlot 0) (ruleReg 0 1) 22 = false ∧
      s.flight 0 0 = some x ∧ nfld w.toNat 63 60 = 2 ∧ s.ruleFwd 0 0 = false ∧ nfld w.toNat 59 55 = s.rdF (pSlot 0) (ruleReg 0 4) 30 26 ∧ nfld w.toNat 44 37 = 6 ∧
      ((after (.ndeorDecisionRecord 0 0 w) s).flight 0 0).map (fun y => (y.ready, y.out)) = some (some 53, some (0, 1, 0x11)) := by decide +kernel

/-- R283, R280, R294: a record after the deadline, one that an XARM rule takes from the rule's source frond, an export record, and one of no
type. -/
theorem test_decision_records : let s := ((rule 3).setFlight 0 0 (some { issue := 5, round := 6, dl := 40 })).wrF (pSlot 0) (ruleReg 0 4) 30 26 4
    let x := ((rule 3).wrB (pSlot 0) (ruleReg 0 1) 22 true).wrF (pSlot 0) (ruleReg 0 1) 31 27 4
    let w : BitVec 64 := BitVec.ofNat 64 (2 * 2 ^ 60 + 4 * 2 ^ 55 + 6 * 2 ^ 37 + 2 ^ 33 + 0x11)
    40 < s.beat ∧ (after (.ndeorDecisionRecord 0 0 w) s).flight 0 0 = none ∧ (after (.ndeorDecisionRecord 0 0 w) s).rd (pSlot 0) (ruleReg 0 5) = 0x40600000 ∧
      x.rdB (pSlot 0) (ruleReg 0 1) 22 = true ∧ x.ruleSF 0 0 = 4 ∧ (after (.ndeorDecisionRecord 0 0 w) x).sorus.intake = [(53, w, false)] ∧
      after (.ndeorDecisionRecord 0 0 (BitVec.ofNat 64 (2 ^ 60))) s = s.extDiscard ∧ after (.ndeorDecisionRecord 0 0 7) s = s.count pNdeor 1 1 := by decide +kernel

/-! Capture contexts and result queues (11_acquisition_queues.md). -/

/-- Context 2 in a state of Table 11.7, with sources enabled; GATED where g says so. -/
def acq (st src : Nat) (g : Bool := false) (b : Nat := 50) : State :=
  (((up 3 b).setAcqState 2 st).wr (pAcq 2) 0x110 (BitVec.ofNat 32 src)).wrF (pAcq 2) 0x104 2 1 (if g then 1 else 0)

/-- R302, R308: triggers of a CONT and a GATED context. -/
theorem test_trigger : Claims.mayTrigger (acq 4 2) 2 1 40 ∧ Claims.mayTrigger (acq 1 2 true) 2 1 40 ∧
    ((acq 4 2).trigger 2 1 40 false).acqState 2 = 4 ∧ ((acq 1 2 true).trigger 2 1 40 false).acqState 2 = 2 ∧
    (((acq 4 2).trigger 2 1 40 false).acq 2).marks = [(40, 2, false)] := by decide +kernel

/-- R303, Table 11.1: TRIG_IN, in time and late TIME sources, AUTO and SWTRIG. -/
theorem test_sources : let s := acq 4 0x380
    let m := (s.wr (pAcq 2) 0x124 45).setAcq 2 { timeDone := false }
    let t := m.setAcq 2 { timeDone := false, timeFrom := 46 }
    let a := s.wr (pAcq 2) 0x120 20
    s.rdB pTrig 0x104 8 = false ∧ s.rdF pTrig 0x104 3 0 ≤ 3 ∧ (after (.trigIn 0 1 false 3) s).rd pTrig 0x44 = 1 ∧
      m.acqLive 2 = true ∧ m.rdB (pAcq 2) 0x110 7 = true ∧ (m.acq 2).timeDone = false ∧ (m.acq 2).timeFrom ≤ m.beat ∧ m.rd64 (pAcq 2) 0x124 = 45 ∧
      (t.acq 2).timeFrom = 46 ∧ ((after (.timeMatch 0 2) m).acq 2).marks = [(45, 128, false)] ∧
      ((after (.timeMatch 0 2) t).acq 2).marks = [(46, 128, true)] ∧
      (a.acq 2).autoFrom + a.rdF (pAcq 2) 0x120 23 0 = 20 ∧ ((after (.autoTrigger 0 2) a).acq 2).marks = [(20, 512, false)] ∧
      s.admits .smbus (pAcq 2) ∧ (after (.swtrigFire .smbus 2) s).trigs = [(54, 8, 2)] ∧
      (let u := { after (.swtrigFire .smbus 2) s with beat := 54 }
       u.trigs.filter (fun e => decide (e.1 ≤ u.beat)) = [(54, 8, 2)] ∧ (u.trigsDue.acq 2).marks = [(54, 256, false)]) := by decide +kernel

/-- R308: the end of a capture and of its holdoff. -/
theorem test_holdoff : let s := (acq 2 0 true).setAcq 2 { capTo := 50 }
    let h := (acq 3 0 true).setAcq 2 { capTo := 50 }
    (s.acq 2).capTo ≤ s.beat ∧ (h.acq 2).capTo + h.rdF (pAcq 2) 0x11C 23 0 ≤ h.beat ∧ (after (.captureEnd 0 2) s).acqState 2 = 3 ∧
      (after (.holdoffEnd 0 2) h).acqState 2 = 1 := by decide +kernel

/-- R313: a data record of a CONT context is due. -/
theorem test_record : let s := (acq 4 0 false 1100).setAcq 2 { next := 1020 }
    s.acqStep 2 = s ∧ s.acqLive 2 = true ∧ (s.acq 2).stopAt = none ∧ s.recFrom 2 < s.recEnd 2 ∧ s.acqGated 2 = false ∧ s.recEnd 2 + 26 ≤ s.beat ∧
      (s.acq 2).marks = [] ∧ (s.acq 2).lost = none ∧ fld (s.acqSel 2 1020).1 9 8 < 2 ∧ (s.capFull 2 1020 1024 []).1 = [] ∧
      s.payload 2 1020 1024 [] [] [] = ([], 0) ∧ bit (s.acqCtl 2) 4 = false ∧
      ((after (.dataRecord 0 2 [] [] []) s).acq 2).next = 1024 ∧ (after (.dataRecord 0 2 [] [] []) s).rd (pAcq 2) 0x13C = 64 := by decide +kernel

/-- R313, R314: a record of items without one is left out; a record of a HOST context is staged. -/
theorem test_record_items : let s := ((acq 4 0 false 1100).wrF (pAcq 2) 0x104 9 8 3).setAcq 2 { next := 1020 }
    let h := ((acq 4 0 false 1100).wrB (pAcq 2) 0x104 4 true).setAcq 2 { next := 1020 }
    s.acqStep 2 = s ∧ fld (s.acqSel 2 1020).1 9 8 = 3 ∧ (s.payload 2 (s.recFrom 2) (s.recEnd 2) [] [] []).1 = [] ∧
      ((after (.dataRecord 0 2 [] [] []) s).acq 2).seq = 0 ∧ ((after (.dataRecord 0 2 [] [] []) s).acq 2).next = 1024 ∧
      bit (h.acqCtl 2) 4 = true ∧ ((after (.dataRecord 0 2 [] [] []) h).acq 2).stage = [(1020, 0, 64)] := by decide +kernel

/-- R311: a GATED context whose elastic buffer is full at beat 1020. -/
theorem test_record_full : let s := (((acq 2 0 true 1100).wr (pAcq 2) 0x108 1).wrF (pAcq 2) 0x104 9 8 0).setAcq 2 { buf := (32768, 1020) }
    s.acqLoses 2 1020 = true ∧ fld (s.acqSel 2 1020).1 9 8 < 2 ∧ (s.capFull 2 1020 1021 []).1 = [1020] := by decide +kernel

/-- R314, R315: copies of a staged record to the host ring, with room and without. -/
theorem test_host_copy : let s := ((acq 4 0).setAcq 2 { stage := [(5, 0, 128)] }).wrB pPcie 0x100 0 true
    let t := s.wr (pAcq 2) 0x154 65408
    (s.acq 2).stage = [(5, 0, 128)] ∧ s.rdB pPcie 0x100 0 = true ∧
      128 + 64 ≤ hostRoom (ringBytes (s.rdF (pAcq 2) 0x148 27 24)) (s.rd (pAcq 2) 0x154) (s.rd (pAcq 2) 0x158) ∧
      hostRoom (ringBytes (t.rdF (pAcq 2) 0x148 27 24)) (t.rd (pAcq 2) 0x154) (t.rd (pAcq 2) 0x158) < 192 ∧
      (after (.hostCopy 0 2) s).rd (pAcq 2) 0x154 = 128 := by decide +kernel

/-- R314: HOST_RD of 128, 127 and 192 with 128 bytes written. -/
theorem test_host_rd : let s := (acq 4 0).wr (pAcq 2) 0x154 128
    s.admits .smbus (pAcq 2) ∧ (after (.hostRd .smbus 2 128 false) s).rd (pAcq 2) 0x158 = 128 ∧
      (after (.hostRd .smbus 2 127 false) s).rd (pAcq 2) 0x158 = 0 ∧ (after (.hostRd .smbus 2 192 false) s).rd (pAcq 2) 0x158 = 0 := by
  decide +kernel

/-- Queue 4, which holds an item of two words unless x says otherwise; an item of two words is on its way to it. -/
def queue (x : Queue := { vis := 2, alloc := 2, items := [{ start := 0, len := 2, got := 2 }], mark := some 0 }) : State :=
  { (up 3 50).setQ 4 x with transit := [{ q := 4, words := [9, 8], len := 2 }] }

/-- R317: a first word with room and without, and a next one. -/
theorem test_queue_words : let s := queue
    let f := queue { alloc := 65536, vis := 65536, items := [{ start := 0, len := 65536, got := 65536 }] }
    let n := { queue with transit := [{ q := 4, words := [8], len := 2, placed := some (some 0) }] }
    s.transit[0]? = some ⟨4, [9, 8], 2, none⟩ ∧ s.qcap 4 = 65536 ∧ (s.queue 4).alloc + 2 ≤ (s.queue 4).rel + s.qcap 4 ∧
      ((after (.queueFirstWord 0 0) s).queue 4).alloc = 4 ∧ (f.queue 4).rel + f.qcap 4 < (f.queue 4).alloc + 2 ∧
      (after (.queueFirstWord 0 0) f).rdB (pQueue 4) 0x14 1 = true ∧ n.transit[0]? = some ⟨4, [8], 2, some (some 0)⟩ ∧
      Tab.get 0 (after (.queueWord 0 0) n).qmem (65536 * 4 + 1) = 8 := by decide +kernel

/-- R318: HEAD with a word, HEAD that waits, and its time-out. -/
theorem test_head : let s := queue
    let w := (up 3 3000).setQ 4 { waits := [(.smbus, 900)] }
    s.reads .smbus (pQueue 4) ∧ s.freePage .smbus ((pQueue 4).reg 0x100) ∧ s.rdB (pQueue 4) 0x110 8 = false ∧ (s.queue 4).rd ≠ (s.queue 4).vis ∧
      ((after (.queueHead .smbus 4) s).queue 4).rd = 1 ∧ ((up 3).queue 4).rd = ((up 3).queue 4).vis ∧
      ((after (.queueHead .smbus 4) (up 3)).queue 4).waits = [(.smbus, 0)] ∧ (w.queue 4).waits = [(.smbus, 900)] ∧
      ((after (.headTimeout 0 4) w).queue 4).waits = [] := by decide +kernel

/-- R318: a drain copy. -/
theorem test_drain : let s := (queue.wrB pPcie 0x100 0 true).wrB (pQueue 4) 0x110 8 true
    (s.queue 4).itemAt 0 = some { start := 0, len := 2, got := 2 } ∧ s.rdB pPcie 0x100 0 = true ∧ s.rdB (pQueue 4) 0x110 8 = true ∧
      8 * 3 ≤ hostRoom (ringBytes (s.rdF (pQueue 4) 0x12C 27 24)) (s.rd (pQueue 4) 0x138) (s.rd (pQueue 4) 0x13C) ∧
      (after (.drainCopy 0 4) s).rd (pQueue 4) 0x138 = 24 := by decide +kernel

/-- R319, R321: RELEASE, ALL, MARK, REWIND, FLUSH and DRD. -/
theorem test_queue_cmds : let s := queue
    let d := s.wr (pQueue 4) 0x138 64
    s.admits .smbus (pQueue 4) ∧ s.freePage .smbus ((pQueue 4).reg 0x10C) ∧ ((after (.queueRelease .smbus 4 1) s).queue 4).rel = 0 ∧
      ((after (.queueAll .smbus 4) s).queue 4).rel = 0 ∧ ((after (.queueMark .smbus 4) s).queue 4).mark = some 0 ∧
      (s.queue 4).mark = some 0 ∧ ((after (.queueRewind .smbus 4) s).queue 4).rd = 0 ∧ ((up 3).queue 4).mark = none ∧
      (s.queue 4).items.all (fun i => decide (i.len ≤ i.got)) ∧ ((after (.queueFlush .smbus 4) s).queue 4).rel = 2 ∧
      (after (.queueDrd .smbus 4 64 false) d).rd (pQueue 4) 0x13C = 64 := by decide +kernel

/-- R319, R321: FLUSH with a partial item; DRD that is not a multiple of 64, or beyond WR. -/
theorem test_queue_refused : let s := queue { vis := 2, alloc := 4, items := [{ start := 0, len := 2, got := 2 }, { start := 2, len := 2, got := 1 }] }
    ((s.queue 4).items.dropWhile (fun i => decide (i.len ≤ i.got))).map (·.start) = [2] ∧
      (after (.queueFlush .smbus 4) s).rdB (pQueue 4) 0x14 2 = true ∧ ((after (.queueFlush .smbus 4) s).queue 4).rel = 2 ∧
      (after (.queueDrd .smbus 4 32 false) s).rd (pQueue 4) 0x13C = 0 ∧ (after (.queueDrd .smbus 4 64 false) s).rd (pQueue 4) 0x13C = 0 := by
  decide +kernel

/-- R320: the queue's timer. -/
theorem test_queue_timer : let s := { (up 3 5000).wr (pQueue 4) 0x114 1 with queues := [(4, { vis := 2, timer := some 900 })] }
    (s.queue 4).timer = some 900 ∧ s.rdF (pQueue 4) 0x114 15 0 = 1 ∧ ((after (.queueTimeout 0 4) s).queue 4).timer = none := by decide +kernel
/-! Time and cluster (13_time_and_cluster.md). -/

/-- R347, R350: SET, ADJ, SNAP and a wrong key. -/
theorem test_clock : let s := (((up 2).wr pClock 0x114 7).wr pClock 0x11C 1000000000).wr pClock 0x120 0xFFFFFFFF
    let m := (s.mapTime (fun t => { t with pairs := [(4096, 5 * 2 ^ 32)] }))
    s.macTo 0 = s ∧ s.admits .smbus pClock ∧ (after (.clockSet .smbus 0 0x544D) s).time.ptp = { s := 7, ns := 999999999 } ∧
      (after (.clockAdj .smbus 0 0x544D) s).time.ptp = { s := 2 ^ 48 - 1, ns := 999999999 } ∧ m.time.pairs = [(4096, 5 * 2 ^ 32)] ∧
      (after (.clockSnap .smbus 0 0x544D) m).rd64 pClock 0x170 = 4096 ∧ (after (.clockSnap .smbus 0 0x544D) m).rd pClock 0x180 = 5 ∧
      (after (.clockSet .smbus 0 0x544C) s).rdF pClock 0x20 7 0 = 1 := by decide +kernel

/-- R348, R349: an alarm that is due, and one that is not enabled. -/
theorem test_alarm : let s := (up 2).wr pClock 0x154 0x80000000
    s.alarmOn 0 = true ∧ s.time.ptp.atOrAfter (s.alarmTime 0) = true ∧ s.alarmOn 1 = false ∧ (after (.clockAlarm 0 0) s).alarmOn 0 = false ∧
      after (.clockAlarm 0 1) s = s := by decide +kernel

/-- R350: a mapping pair. R351: SERVO.CTRL. -/
theorem test_mapping : let s := (up 2 8192).mapTime (fun t => { t with ptp := { ns := 9 } })
    s.beat % 4096 = 0 ∧ (after (.mappingPair 8192 0 0) s).time.pairs = [(8192, 9 * 2 ^ 32)] ∧ s.admits .smbus pServo ∧
      (after (.servoSel .smbus 0 0x333) s).rd pServo 0x100 = 0x111 := by decide +kernel

/-- PTP instance 0, enabled on port 0, with other bits of CFG0, its port in a state, and its own state. -/
def ptp (cfg st : Nat) (i : PtpInst := {}) : State :=
  ((((up 2).wrB pTimeline 0x108 4 true).wr (pPtp 0) 0x100 (BitVec.ofNat 32 (2 ^ 31 + 2 ^ 16 + cfg))).wrF (pPtp 0) 0x10 19 16 st).mapInst 0 (fun _ => i)

/-- A message on port 0 with sequence number 6. -/
def msg : PtpMsg := { m := 0, ph := 0, port := 0, seq := 6, twoStep := true, src := 9, ds := [1, 2] }

/-- R355, R356: Sync and Follow_Up from the master. -/
theorem test_sync : let s := ptp 0 8 { master := some ([1, 9], 0) }
    let f := ptp 0 8 { master := some ([1, 9], 0), sync := some (6, 5, 1, 0) }
    s.macTo 0 = s ∧ s.ptpLive 0 = true ∧ Claims.onlyServes s 0 msg ∧ s.fromMaster 0 msg = true ∧
      ((after (.syncMessage msg) s).pinst 0).sync = some (6, 0, 0, 0) ∧ f.ptpLive 0 = true ∧ Claims.onlyServes f 0 msg ∧
      (f.pinst 0).sync = some (6, 5, 1, 0) ∧ f.fromMaster 0 msg = true ∧
      ((after (.followUp msg) f).pinst 0).pair.map (fun q => (q.t1, q.t2)) = some (1, 5) := by decide +kernel

/-- Delay_Req at a master port, Delay_Resp at a slave; a unicast message does nothing. -/
theorem test_delay : let s := ptp 0 6
    let r := ptp 0 8 { master := some ([1, 9], 0), dreq := some (6, 5, 0), pair := some { t1 := 3, t2 := 10, steps := 0 } }
    s.ptpLive 0 = true ∧ Claims.onlyServes s 0 msg ∧ s.portSt 0 0 = 6 ∧ s.ptpP2p 0 = false ∧
      (after (.delayReq msg) s).outbox = [.ptp 0 0 0x011B19000000 9 0 6 0 0 []] ∧ after (.delayReq { msg with multi := false }) s = s ∧
      r.ptpLive 0 = true ∧ Claims.onlyServes r 0 msg ∧ (r.pinst 0).dreq = some (6, 5, r.time.steps) ∧ r.fromMaster 0 msg = true ∧
      msg.mine = true ∧ r.ptpP2p 0 = false ∧ Tab.find? ((after (.delayResp { msg with ts := 8 }) r).pinst 0).delays 0 = some 5 := by decide +kernel

/-- R354: the peer delay mechanism. -/
theorem test_pdelay : let s := ptp (2 ^ 27) 6
    let w := ptp (2 ^ 27 + 2 ^ 26) 6
    let r := ptp (2 ^ 27) 6 { preq := [(0, { seq := 6, t1 := 5, steps := 0 })] }
    let f := ptp (2 ^ 27) 6 { preq := [(0, { seq := 6, t1 := 5, steps := 0, resp := some (7, 11) })] }
    s.ptpLive 0 = true ∧ Claims.onlyServes s 0 msg ∧ s.ptpP2p 0 = true ∧ s.ptpTwo 0 = false ∧
      (after (.pdelayReq msg) s).outbox = [.ptp 0 0 0x0180C200000E 3 0 6 0 0 []] ∧ Claims.onlyServes w 0 msg ∧ w.ptpTwo 0 = true ∧
      (after (.pdelayReq msg) w).outbox = [.ptp 0 0 0x0180C200000E 10 0 6 0 0 [], .ptp 0 0 0x0180C200000E 3 0 6 0 0 []] ∧
      Claims.onlyServes r 0 msg ∧ Tab.find? (r.pinst 0).preq 0 = some { seq := 6, t1 := 5, steps := 0 } ∧
      (Tab.find? ((after (.pdelayResp { msg with ts := 8 }) r).pinst 0).preq 0).map (·.resp) = some (some (8, 0)) ∧
      Tab.find? ((after (.pdelayResp { msg with corr := -9, twoStep := false }) r).pinst 0).delays 0 = some 2 ∧
      Tab.find? (f.pinst 0).preq 0 = some { seq := 6, t1 := 5, steps := f.time.steps, resp := some (7, 11) } ∧
      Tab.find? ((after (.pdelayRespFollowUp { msg with ts := 9 }) f).pinst 0).delays 0 = some 2 := by decide +kernel

/-- R356: a slave-only clock follows the second Announce of the first sender it hears, not the first. Other messages are counted or passed
on. -/
theorem test_announce : let s := ptp (2 ^ 25) 4
    let f := ptp (2 ^ 25) 4 { foreign := [{ port := 0, ds := [1, 2, 9], last := 0 }] }
    s.ptpLive 0 = true ∧ Claims.onlyServes s 0 msg ∧ (s.pinst 0).master = none ∧ s.ptpSlaveOnly 0 = true ∧ (s.pinst 0).foreign = [] ∧
      ((after (.announce msg) s).pinst 0).master = none ∧ Claims.onlyServes f 0 msg ∧ (f.pinst 0).master = none ∧
      (f.pinst 0).foreign = [{ port := 0, ds := [1, 2, 9], last := 0 }] ∧
      ((after (.announce msg) f).pinst 0).master = some ([1, 2, 9], 0) ∧ (after (.announce msg) f).portSt 0 0 = 8 ∧
      s.rdB (pPtp 0) 0x0C 1 = false ∧ (after (.signaling msg) s).rd (pPtp 0) 0x54 = 1 ∧
      (after (.management msg [1] false) s).outbox = [.received 0 [1]] := by decide +kernel

/-- R355: the transparent clock passes messages on, Delay_Req with its residence time. -/
theorem test_transparent : let s := ptp (2 ^ 29) 4
    s.ptpLive 0 = true ∧ s.ptpLive 1 = true ∧ s.ptpTc 0 = true ∧ s.ptpServes 0 msg = true ∧ s.ptpServes 1 msg = false ∧ s.ptpP2p 0 = false ∧
      s.portSt 0 0 ≠ 6 ∧ (after (.announce msg) s).outbox = [.ptpPass 1 11 msg] ∧ (after (.signaling msg) s).outbox = [.ptpPass 1 12 msg] ∧
      (after (.delayReq msg) s).outbox = [.ptpPass 1 1 msg] := by decide +kernel

/-- R352: a master port sends a Sync, no earlier than its interval after the last; the other messages of an instance. -/
theorem test_ptp_send : let s := ptp 0 6
    let w := ptp (2 ^ 26) 6
    let t := ptp 0 6 { sentAt := [(0, 0)] }
    let d := ptp 0 8
    let p := ptp (2 ^ 27) 8
    s.ptpLive 0 = true ∧ s.ptpPort 0 0 = true ∧ Tab.find? (s.pinst 0).sentAt 0 = none ∧ s.portSt 0 0 = 6 ∧ s.ptpTc 0 = false ∧ s.ptpTwo 0 = false ∧
      (after (.ptpMessageTx 0 0 0 0) s).outbox = [.ptp 0 0 0x011B19000000 0 0 0 0 0 []] ∧ w.ptpTwo 0 = true ∧
      (after (.ptpMessageTx 0 0 0 0) w).outbox = [.ptp 0 0 0x011B19000000 8 0 0 0 0 [], .ptp 0 0 0x011B19000000 0 0 0 0 0 []] ∧
      Tab.find? (t.pinst 0).sentAt 0 = some 0 ∧ t.ptpAged 0 0 1 0 = false ∧ after (.ptpMessageTx 0 0 0 0) t = t ∧
      (s.pinst 0).master = none ∧ (after (.ptpMessageTx 0 0 0 11) s).outbox.length = 1 ∧ d.portSt 0 0 = 8 ∧ d.ptpP2p 0 = false ∧
      ((after (.ptpMessageTx 0 0 0 1) d).pinst 0).dreq = some (0, 0, 0) ∧ p.ptpP2p 0 = true ∧
      (after (.ptpMessageTx 0 0 0 2) p).outbox = [.ptp 0 0 0x0180C200000E 2 0 0 0 0 []] := by decide +kernel

/-- R356, R358: the master is lost; a locked clock goes to HOLDOVER; neither before its time. -/
theorem test_timeouts : let t := (ptp 0 8 { master := some ([1, 9], 0) }).mapTime (fun t => { t with mac := 3000000000 })
    let l := ((ptp 0 8).wrF (pPtp 0) 0x10 25 24 2).mapTime (fun t => { t with mac := 3000000000 })
    let e := ptp 0 8 { master := some ([1, 9], 0) }
    t.macTo 0 = t ∧ t.ptpPort 0 0 = true ∧ t.ptpAged 0 11 (t.annTmo 0) 3000000000 = true ∧ t.ptpTc 0 = false ∧ t.portSt 0 0 ≠ 6 ∧
      (t.pinst 0).foreign = [] ∧ (after (.announceTimeout 0 0 0 true) t).portSt 0 0 = 6 ∧ l.ptpLock 0 = 2 ∧
      l.ptpAged 0 0 (l.annTmo 0) 3000000000 = true ∧ (after (.announceTimeout 0 0 0 false) l).ptpLock 0 = 3 ∧
      e.ptpAged 0 11 (e.annTmo 0) 0 = false ∧ after (.announceTimeout 0 0 0 true) e = e ∧ after (.announceTimeout 0 0 0 false) e = e := by
  decide +kernel

/-- CSYNC in a state, its parent on port 1, which is ACTIVE; device 3. -/
def joined (st : Nat) (b : Nat := 4096) (k : TimeSt := {}) : State :=
  { (((linked (up 2 b)).wrF pCsync 0x100 18 16 1).setCs st) with time := k }

/-- R361: SYNC_REQ sent and answered, with a turn-around in range and beyond it. -/
theorem test_sync_req : let s := joined 1
    s.csParent = 1 ∧ s.portState 1 = 5 ∧ s.csState = 1 ∧ (after (.syncReqSend 0 5) s).time.req = some (0, 2048 * 4096 + 5) ∧
      (after (.syncReq 0 1 5 32767 0) s).outbox.length = 1 ∧ (after (.syncReq 0 1 5 32768 0) s).rd pCsync 0x4C = 1 := by decide +kernel

/-- R362: the first SYNC_RESP from an aligned parent. -/
theorem test_sync_resp : let s := joined 1 4096 { req := some (6, 2048 * 4090) }
    let w := BitVec.ofNat 64 (4 * 2 ^ 55 + 6 * 2 ^ 39 + 2 ^ 38 + 88)
    s.csState = 1 ∧ s.time.req = some (nfld w.toNat 54 39, 2048 * 4090) ∧ nfld w.toNat 59 55 ≠ s.devnum ∧ tst w.toNat 38 = true ∧
      (after (.syncResp 0 1 0 w) s).csState = 2 ∧ (after (.syncResp 0 1 0 w) s).rd pCsync 0x118 = 6100 := by decide +kernel

/-- R364: START_HI, START_LO and the load of the beat counter. -/
theorem test_start : let s := joined 3
    let h := joined 3 4096 { startHi := some (1, 2) }
    let l := joined 3 4096 { load := some (4096, some 9000), newDepth := 3 }
    let w := BitVec.ofNat 64 (2 * 2 ^ 52 + 7)
    s.csState = 3 ∧ s.csParent = 1 ∧ s.time.load = none ∧ (after (.startHi 0 1 w) s).time.startHi = some (7, 2) ∧
      h.rdF (pCgrp 63) 0x104 2 0 = 0 ∧ (after (.startLo 0 1 w) h).time.load = some (4113, some (2 ^ 32 + 24)) ∧ l.csState = 3 ∧
      l.time.newDepth < 8 ∧ l.time.load = some (l.beat, some 9000) ∧ (after (.beatCounterLoad 0) l).beat = 9000 := by decide +kernel

/-- R364: the two halves of START to a child on port 0. -/
theorem test_start_send : let s := fun b => (joined 4 b { kids := 1 }).wrF pNdeor 0x114 10 8 5
    (s 4095).csState = 4 ∧ tst (s 4095).time.kids 0 = true ∧ 0 ≠ (s 4095).csParent ∧ (s 4095).portState 0 = 5 ∧
      (after (.startSend 0) (s 4095)).outbox.length = 1 ∧ (after (.startSend 0) (s 4096)).outbox.length = 1 := by decide +kernel

/-- R367: PING and PONG for another device and for this one. -/
theorem test_ping : let s := joined 4 50 { wait := 2 ^ 5, pingSeq := 6 }
    let w := BitVec.ofNat 64 (5 * 2 ^ 55 + 6 * 2 ^ 34 + 7 * 2 ^ 24 + 10)
    s.devnum = 3 ∧ s.route 5 = some 1 ∧ s.portState 1 = 5 ∧ nfld w.toNat 59 55 = 5 ∧ nfld w.toNat 49 34 = 6 ∧ tst s.time.wait 5 = true ∧
      (after (.csyncPing 0 5 w) s).outbox = [.flit 1 1 5 1 w] ∧ (after (.csyncPong 0 5 w) s).outbox = [.flit 1 1 5 1 w] ∧
      (after (.csyncPing 0 3 w) s).outbox.length = 1 ∧ (after (.csyncPong 0 3 w) s).time.wait = 0 ∧
      (after (.csyncPong 0 3 w) s).rdF pCsync 0x144 15 8 = 40 := by decide +kernel

/-- R366: the link to the parent is lost; the HOLDOVER and JOIN times end. -/
theorem test_hold_join : let h := (joined 5 3000000 {}).wr pCsync 0x134 0x20000
    let j := (joined 2 3000000 {}).wr pCsync 0x134 2
    (joined 4).csState = 4 ∧ (joined 4).csParent < 4 ∧ (after (.parentLinkLoss 0) (joined 4)).csState = 5 ∧ h.csState = 5 ∧
      h.time.holdAt + h.rdF pCsync 0x134 31 16 * 10 ^ 6 ≤ h.beat ∧ (after (.holdMs 0) h).csState = 6 ∧ j.csState = 2 ∧
      j.time.joinAt + j.rdF pCsync 0x134 15 0 * 10 ^ 6 ≤ j.beat ∧ (after (.joinMs 0) j).csState = 7 := by decide +kernel

/-- R364, R365, R368: JOIN of the root, refused outside READY; LEAVE, REMEASURE and wrong keys. -/
theorem test_join : let s := (up 2).wrF pCsync 0x100 18 16 7
    s.admits .smbus pCsync ∧ s.joinCause = none ∧ s.csParent = 7 ∧ s.rdB pCsync 0x100 8 = false ∧
      (after (.csyncJoin .smbus 0x4353) s).csState = 4 ∧ (up 3).mode ≠ 2 ∧ (after (.csyncJoin .smbus 0x4353) (up 3)).rdF pCsync 0x20 7 0 = 1 ∧
      (after (.csyncLeave .smbus 0x4353) (joined 4)).csState = 0 ∧ (joined 4).admits .smbus pCsync ∧
      (after (.csyncRemeasure .smbus 0x4353) (joined 4)).time.pingSeq = 1 ∧ after (.csyncJoin .smbus 0x4354) s = s := by decide +kernel
/-! Links (14_serial_links.md). -/

/-- R377, R378: frames received, good and bad, and sent; short ones and PAUSE. -/
theorem test_eth_frame : let s := (up 2).wrB pTimeline 0x108 4 true
    let p := List.replicate 64 (7 : Byte)
    let pause := List.replicate 12 (7 : Byte) ++ [0x88, 0x08] ++ List.replicate 50 0
    s.ptpLive 1 = true ∧ s.rdB (pEth 1) 0x0C 1 = false ∧ ethPlain p = true ∧ (after (.ethFrameRx 1 1 p false) s).outbox = [.received 1 p] ∧
      (after (.ethFrameRx 1 1 p true) s).rd (pEth 1) 0x44 = 1 ∧ (after (.ethFrameTx 1 p) s).outbox = [.frame 1 p] ∧
      ethLength [7] = false ∧ after (.ethFrameTx 1 [7]) s = s ∧ ethPlain pause = false ∧ after (.ethFrameRx 1 1 pause false) s = s := by decide +kernel

/-- A device of 1 GiB, granule 1 owned and granule 2 under scrub. -/
def memory : State :=
  { (((up 3).wrF pMemctl 0x104 5 0 1).wrF pGranule 0x100 15 8 3).wrB pGranule 0x100 23 true with gddr := [(5, 7)] }

/-- R477, R479, R480: BAR2 accesses of the warden: its memory, beyond it, under scrub, another owner's; and one of no tuft. -/
theorem test_bar2 : let s := memory
    s.bar2 (.func 0) 4 = .mem 4 ∧ s.domOn 6 = true ∧ (after (.bar2Read (.func 0) 4 2) s).outbox = [.completion (.func 0) false [0, 7]] ∧
      (List.range 64).all (fun g => !(s.holders 0).contains g) ∧ (after (.bar2Write (.func 0) 4 [9]) s).gddr = [(4, 9), (5, 7)] ∧
      s.bar2 (.func 0) (2 ^ 30) = .absent ∧ s.bar2 (.func 0) (2 ^ 29) = .scrub ∧ s.bar2 (.func 0) (2 ^ 28) = .refused 5 ∧
      s.bar2 (.func 9) 4 = .refused 2 ∧ (after (.bar2Write (.func 0) (2 ^ 29) [9]) s).rd pGranule 0x40 = 1 := by decide +kernel

/-- R114: a write into an image that a group holds is counted there. -/
theorem test_bar2_held : let s := (memory.setGrpState 5 3).setGrp 5 { images := [(0, 64)] }
    5 ∈ s.holders 0 ∧ s.rdB (pCgrp 5) 0x0C 1 = false ∧ (after (.bar2Write (.func 0) 4 [9]) s).rd (pCgrp 5) 0x50 = 1 := by decide +kernel

/-- R392: GDDR7 errors, corrected and not, of BAR2 and of an image. -/
theorem test_crc : let s := memory.setGrpState 5 2
    s.rdB (pMemch 3) 0x0C 1 = false ∧ (after (.gddr7CrcError 0 3 (.bar2 (.func 0) 2) false) s).rd (pMemch 3) 0x40 = 1 ∧
      (after (.gddr7CrcError 0 3 (.bar2 (.func 0) 2) true) s).rd (pMemch 3) 0x44 = 1 ∧ s.rdF (pCgrp 5) 0x104 2 0 = 2 ∧
      ((after (.gddr7CrcError 0 3 (.image 5 1) true) s).grp 5).badRead = some 1 := by decide +kernel

/-- Port 1 in a state, its link state given; device 3, device 5 routed to port 1. -/
def port (st : Nat) (l : Link := {}) : State := ((linked (up 2 50)).wrF pNdeor 0x118 10 8 st).mapLink (fun _ => l)

/-- R381 to R384: frames: passed on, kept, of an undefined kind, and failed. -/
theorem test_frames_in : let s := port 5
    let f := (port 5 { fails := [(6, 15)] }).wrB pNdeor 0x108 3 false
    let c := fun (mode dst cls : Nat) (w : BitVec 64) => ndeorCrc mode dst cls w
    let vote : BitVec 64 := BitVec.ofNat 64 (0xA * 2 ^ 60)
    s.portState 1 = 5 ∧ s.route 5 = some 1 ∧ c 1 3 3 9 ≠ 0 ∧ recordRoute (nfld vote.toNat 63 60) = some (1, 1) ∧
      (after (.ndeorFrame 0 1 2 (c 1 5 1 vote) 1 5 1 0 0 vote) s).outbox = [.flit 1 1 5 1 vote] ∧
      (after (.ndeorFrame 0 1 2 (c 1 3 3 9) 1 3 3 0 0 9) s).link.inbox = [(1, 9)] ∧ recordRoute (nfld (9#64).toNat 63 60) ≠ some (1, 1) ∧
      s.rdB pNdeor 0x0C 1 = false ∧ (after (.ndeorFrame 0 1 2 (c 1 3 1 9) 1 3 1 0 0 9) s).rd pNdeor 0x44 = 1 ∧
      c 1 3 1 9 ≠ 0 ∧ Tab.get 0 (after (.ndeorFrame 0 1 2 0 1 3 1 0 0 9) s).link.fails 6 = 1 ∧ Tab.get 0 f.link.fails 6 = 15 ∧
      f.rdB pNdeor 0x108 3 = false ∧ (after (.ndeorFrame 0 1 2 0 1 3 1 0 0 9) f).portState 1 = 0 ∧
      (port 7).portState 1 = 7 ∧ (port 0).portState 1 = 0 := by decide +kernel

/-- R382: a bulk word for another device, with a credit of its port and without. -/
theorem test_bulk_on : let s := port 5 { credits := [(1, 9)] }
    let n := port 5
    let c := ndeorCrc 1 5 3 9
    s.route 5 = some 1 ∧ s.link.fwd = [] ∧ s.link.out = [] ∧ Tab.get 0 s.link.credits 1 = 9 ∧ Tab.get 0 n.link.credits 1 = 0 ∧
      Tab.get 0 (after (.ndeorFrame 0 1 2 c 1 5 3 0 0 9) s).link.credits 1 = 8 ∧ (after (.ndeorFrame 0 1 2 c 1 5 3 0 0 9) n).link.fwd = [(1, 5, 9)] := by
  decide +kernel

/-- R396: a mailbox word: sent, kept while the port is down, refused by a full buffer; to the own device; and reads of what arrived. -/
theorem test_mbox : let s := (port 5 { credits := [(1, 9)], inbox := [(1, 8)] }).wr pNdeor 0x140 5
    let d := (port 0).wr pNdeor 0x140 5
    let o := (port 5).wr pNdeor 0x140 3
    s.admits .smbus pNdeor ∧ s.rdF pNdeor 0x140 4 0 = 5 ∧ 5 ≠ s.devnum ∧ (after (.mboxTx .smbus 9) s).outbox = [.flit 1 1 5 3 9] ∧
      d.portUp 1 = false ∧ (after (.mboxTx .smbus 9) d).link.out = [(5, 9)] ∧ s.reads .smbus pNdeor ∧ s.heldBy none .smbus = none ∧
      (after (.mboxRxLoRead .smbus) s).link.inbox = [] ∧ (after (.mboxRxLoRead .smbus) d).link = d.link ∧ o.rdF pNdeor 0x140 4 0 = o.devnum ∧
      (after (.mboxTx .smbus 9) o).link.inbox = [(4, 9)] := by decide +kernel

/-- A buffer of 512 waiting words. -/
theorem test_mbox_full : 512 ≤ (port 5 { out := List.replicate 512 (5, 9) }).link.out.length ∧
    (port 5 { inbox := List.replicate 511 (1, 9) }).link.inbox.length < 512 := by decide +kernel

/-- R385: the training states; time-outs; R389: the way out of electrical idle, and into it at once. -/
theorem test_training : let s := fun k => port k
    let x := fun k => { s k with tx := [(1, 1, 5, 2, 9)] }
    ((s 1).portState 1, (s 2).portState 1) = (1, 2) ∧ (after (.trainingStateDone 0 1 [1, 2, 3, 4] 5) (s 1)).portState 1 = 2 ∧
      (List.range 4).all (fun l => !(s 2).rdB (pNlane (4 + l)) 0x100 4) ∧ (after (.trainingStateDone 0 1 [1, 2, 3, 4] 5) (s 2)).portState 1 = 3 ∧
      (after (.trainingStateDone 0 1 [1, 2, 3, 48] 5) (s 3)).portState 1 = 4 ∧ (after (.trainingStateDone 0 1 [] 5) (s 4)).portState 1 = 5 ∧
      (s 4).treePort 1 = false ∧ (after (.trainingStateDone 0 1 [] 5) ((s 4).wrB pNdeor 0x108 2 true)).portState 1 = 6 ∧
      (after (.trainingTimeout 0 1 true) (s 1)).rdF pNdeor 0x118 7 0 = 1 ∧ (s 6).rdB pNdeor 0x108 2 = false ∧ (s 6).link.out = [] ∧ (s 6).link.fwd = [] ∧
      (after (.fastExit 0 1) (x 6)).portState 1 = 5 ∧ (after (.fastExit 0 1) (x 6)).outbox.contains (.flit 1 1 5 2 9) = true ∧
      (after (.fastExit 0 1) (x 6)).outbox.contains (.lane 4 5) = true := by decide +kernel

/-- R386, R389: RETRAIN and EIDLE, and EIDLE of a port of the timing tree. -/
theorem test_port_ctrl : let s := (port 5).wrB pNdeor 0x108 0 true
    let t := ((port 5).wrF pCsync 0x100 18 16 1).setCs 4
    s.admits .smbus pNdeor ∧ s.treePort 1 = false ∧ (after (.portRetrain .smbus 1 3) s).portState 1 = 1 ∧
      (after (.portEidle .smbus 1 5) s).portState 1 = 6 ∧ t.treePort 1 = true ∧ (after (.portEidle .smbus 1 5) t).rdF pNdeor 0x20 7 0 = 1 := by decide +kernel

/-- R387, R390, R397: SLIP, RESUME, the test patterns and INJ. -/
theorem test_lane : let s := port 0
    let l := (List.range 4).foldl (fun a n => a.wrB (pNlane (4 + n)) 0x108 31 true) (port 2)
    s.admits .smbus (pNlane 5) ∧ s.portUp 1 = false ∧ s.laneTest 5 = true ∧ (after (.laneSlip .smbus 5 1) s).rdF (pNlane 5) 0x108 22 16 = 1 ∧
      (List.range 4).all (fun n => l.flock (4 + n)) ∧ (after (.laneResume .smbus 5 2) l).portState 1 = 3 ∧
      (after (.prbsChk .smbus 5 0x1000) s).rd (pNlane 5) 0x100 = 0x1000 ∧ (after (.prbsGen .smbus 5 0x800) s).rd (pNlane 5) 0x100 = 0x800 ∧
      (after (.injFire .smbus 5 0x701) s).outbox.head? = some (.corrupt 5 7) ∧ (port 5).laneTest 5 = false ∧ (port 5).portUp 1 = true ∧
      (after (.injFire .smbus 5 0x701) (port 5)).rdF (pNlane 5) 0x20 7 0 = 1 := by decide +kernel
/-! Calibration (15_calibration.md). -/

/-- R404, R405: calibrations allowed, refused, and asked for with a wrong key or by a keeper. -/
theorem test_cal_cmds : let s := up 2
    let k := ((up 2).wr (pTuft 4) 0x100 0x80000002).wr (pReadout 0) 0x08 4
    s.admits .smbus (pReadout 0) ∧ s.admits .smbus (pCalf 0) ∧ s.ident .smbus = .warden ∧ s.calRefused 0 = none ∧
      (up 3).calRefused 0 = some 1 ∧
      (after (.selfcal .smbus 0 0x4144) (up 3)).rdF (pReadout 0) 0x20 7 0 = 1 ∧ (after (.calFull .smbus 0 0x4346) (up 3)).rdF (pCalf 0) 0x20 7 0 = 1 ∧
      after (.calFull .smbus 0 0x4347) s = s ∧
      k.admits (.func 2) (pReadout 0) ∧ k.ident (.func 2) ≠ .warden := by decide +kernel

/-- Frond 0 in a run with parts still to do. -/
def run (adc dac : Bool) : State := (up 2 20000000).mapCal (fun c => { c with runs := [(0, { adc := adc, dac := dac, start := 0 })] })

/-- R250, R405: a part does not end before its time. -/
theorem test_cal_early : let a := { run true false with beat := 17999999 }
    let d := { run false true with beat := 5999999 }
    (a.run? 0).isSome = true ∧ a.beat ≠ 0 + 18000000 ∧ after (.selfcalDone e0 []) a = a ∧ (d.run? 0).isSome = true ∧ d.beat ≠ 0 + 6000000 ∧
      after (.dacCalDone e0 []) d = d := by decide +kernel

/-- The pairs of a part, each of one value. -/
def pairsOf (adc : Bool) (v : Int) : List CalPair := (calKeys adc).map (fun k => { off := k.1, lo := k.2, a := v, b := v })

/-- R250, R406: the ADC part ends: accepted, and rejected by a value out of its field's range. -/
theorem test_cal_done : let s := fun dac => { run true dac with beat := 18000000 }
    (s false).run? 0 = some { adc := true, dac := false, start := 0 } ∧ (s false).beat = 0 + 18000000 ∧
      breach ((s false).measured true (pairsOf true 0)).1 = none ∧ breach ((s false).measured true (pairsOf true 40000)).1 = some 1 ∧
      (after (.selfcalDone e0 (pairsOf true 0)) (s false)).rdF (pReadout 0) 0x11C 31 28 = 1 ∧
      ((s true).run? 0).map (·.dac) = some true ∧
      (after (.selfcalDone e0 (pairsOf true 40000)) (s false)).rdF (pReadout 0) 0x11C 31 28 = 2 := by decide +kernel

/-- R404, R406: the DAC part ends: accepted, and rejected. -/
theorem test_dac_done : let s := { run false true with beat := 6000000 }
    (s.run? 0).isSome = true ∧ breach ((s.measured false (pairsOf false 0)).1.filter (fun x => x.1.trim)) = none ∧
      breach ((s.measured false (pairsOf false 40000)).1.filter (fun x => x.1.trim)) = some 1 ∧
      (after (.dacCalDone e0 (pairsOf false 0)) s).rdF (pCalf 0) 0x108 31 28 = 1 ∧
      (after (.dacCalDone e0 (pairsOf false 40000)) s).rdF (pCalf 0) 0x108 31 28 = 2 := by decide +kernel

/-- Background calibration of frond 0 is on, in a mode; slots declared and found are allowed. -/
def background (m : Nat) (g : Cal := {}) : State :=
  (((up m 5000).wrB pCal 0x100 0 true).wr (pCalf 0) 0x104 7).mapCal (fun _ => g)

/-- R407 to R409: the first and the second estimate of a pair; the second repeats, or does not; one taken too early; a DAC unit's. -/
theorem test_estimate : let k := quantKey (pCalf 0) 0x140 0
    let b := fun g => { background 3 g with beat := 6000000 }
    let s := b {}
    let r := b { est := [(k, (3, 100))] }
    let d := b { meas := [(1, 16384)] }
    let x := fun (v : Int) (st : Nat) => Instr.estimateDone e0 [{ off := 0x140, lo := 0, v := v, start := st }] false
    let y := Instr.estimateDone e0 [{ off := 0x210, lo := 0, v := 4, start := 200 }] false
    s.bgOn 0 = true ∧ (quantOf 0x140 0).map (fun q => (q.bg, q.unit)) = some (true, 0) ∧ Tab.find? s.cal.est k = none ∧
      Tab.find? (after (x 4 200) s).cal.est k = some (4, 200) ∧ Tab.find? (after (x 4 5000000) s).cal.est k = none ∧
      Tab.find? r.cal.est k = some (3, 100) ∧ (Tab.find? (after (x 5 3000000) r).cal.pend k).map (·.value) = some 4 ∧
      (after (x 500 3000000) r).rdF (pCalf 0) 0x30C 23 16 = 1 ∧ (quantOf 0x210 0).map (fun q => (q.bg, q.unit)) = some (true, 1) ∧
      Tab.get 0 (after y d).cal.meas 1 = 0 ∧ Tab.find? (after y d).cal.est (quantKey (pCalf 0) 0x210 0) = some (4, 200) ∧
      Tab.find? (after y s).cal.est (quantKey (pCalf 0) 0x210 0) = none := by decide +kernel

/-- R409 to R411: quiet slots in SERVICE; found and declared ones in RUN; and one that is not long enough. -/
theorem test_slot : let v := (background 4).wr (pCalf 0) 0x104 3
    let s := (background 3).setTc 0 6000
    let d := (background 3 { decl := [(0, 5000)] }).setTc 0 6000
    let claims := fun (t : State) (found : Bool) => (Tab.get [] (after (.quietSlotDecision e0 found) t).cal.slots 0).map (fun z => (z.b, z.e))
    v.bgOn 0 = true ∧ v.mode = 4 ∧ Tab.get [] (v.gather 0).cal.slots 0 = [] ∧ v.run? 0 = none ∧ claims v false = [(5032, 5095)] ∧
      s.bgOn 0 = true ∧ s.captured 0 = false ∧ s.run? 0 = none ∧
      5000 + 31 + 64 ≤ s.tc 0 + 23 ∧ s.windowsClear 0 5032 5095 = true ∧ (s.fe 0).pendingAt 5000 = false ∧ (s.slotUnit 0 5032 5095 false).isSome = true ∧
      claims s true = [(5032, 5095)] ∧ Tab.find? d.cal.decl 0 = some 5000 ∧ claims d false = [(5032, 5095)] ∧
      (s.setFe 0 { s.fe 0 with reqs := [(4000, 2, 1)] } |>.fe 0).pendingAt 5000 = true ∧ (background 3).tc 0 + 23 < 5000 + 31 + 64 ∧
      (after (.quietSlotDecision e0 true) (background 3)).rd (pCalf 0) 0x50 = 1 := by decide +kernel

/-- R409: the measured beats of a slot that is over are gathered, 12 fewer than it had. -/
theorem test_gather : let s := (background 3 { slots := [(0, [{ b := 4900, e := 4999, unit := 2 }])] })
    Tab.get 0 (s.gather 0).cal.meas 2 = 88 ∧ (Tab.get [] (s.gather 0).cal.slots 0).map (·.done) = [true] := by decide +kernel

/-- R413: DUE and OVERDUE. R415: a committed trim takes effect. -/
theorem test_due : let s := ((up 3 5000).wrB pCal 0x100 1 true).wr pTherm 0x110 500
    let o := (up 3 5000).mapCal (fun c => { c with due := [(0, 9)] })
    let t := ((up 3 5000).wrB (pCalf 0) 0x10C 2 true).mapCal (fun c => { c with eff := [((pCalf 0).reg 0x214, 7)] })
    s.rdB pCal 0x100 1 = true ∧ s.rdB pCal 0x114 0 = false ∧
      s.rdF pCal 0x104 15 0 < (sgn (s.sliceT 0) 16 - sgn (s.rdF (pCalf 0) 0x110 15 0) 16).natAbs ∧
      (after (.calDue e0) s).rdB pCal 0x114 0 = true ∧ Tab.find? o.cal.due 0 = some 9 ∧
      (o.rdF pCal 0x10C 15 0 = 0 → (after (.calOverdue e0) o).rdB pCal 0x14 0 = true) ∧ t.unitQuiet 0 2 5000 = true ∧
      t.rd64 (pCalf 0) 0x324 + 24 ≤ t.beat ∧ (after (.trimTakeEffect e0 2) t).trim (pCalf 0) 0x214 = 0 := by decide +kernel

/-- R414: group 63 makes the pending writes of an owner; it waits while it is not IDLE, and with nothing pending. -/
theorem test_round : let v : CalVal := { value := 7, src := 2, temp := 0 }
    let s := (up 3 5000).mapCal (fun c => { c with pend := [(quantKey (pCalf 0) 0x140 0, v)] })
    let b := (up 3 5000).setGrpState 63 2
    s.may63 = true ∧ s.mode = 3 ∧ s.pend63 16 = [pCalf 0] ∧ s.deferred63 (pCalf 0) = false ∧
      ((List.range 17).map (fun i => (s.cal.last + 1 + i) % 17)).find? (fun o => !(s.pend63 o).isEmpty) = some 16 ∧
      (after (.group63Round 0) s).cal.pend = [] ∧ (after (.group63Round 0) s).rdF (pCgrp 63) 0x104 2 0 ≠ 0 ∧ b.may63 = false ∧
      (List.range 17).all (fun o => (up 3).pend63 o == []) := by decide +kernel

/-- A fuse bank in SERVICE: generations used and revoked, and its state bits. -/
def bank (v : Word) (b : Option (Nat × Bool) := none) : State := ((up 4).wr pFusebank 0x104 v).mapCal (fun c => { c with burn := b })

/-- R402, R403: BURN and REVOKE, and their refusals. -/
theorem test_fuse : let s := bank 1
    let r := s.wrB pCal 0x110 31 true
    let busy := bank 0x80000001
    s.admits .smbus pFusebank ∧ s.mode = 4 ∧ s.rdB pFusebank 0x104 31 = false ∧ (after (.fuseRevoke .smbus 0x4642 0) s).cal.burn = some (0, true) ∧
      (after (.fuseRevoke .smbus 0x4642 1) s).rdF pFusebank 0x20 7 0 = 5 ∧ (after (.fuseRevoke .smbus 0x4642 0) busy).rdF pFusebank 0x20 7 0 = 4 ∧
      s.rdB pCal 0x110 31 = false ∧ (after (.fuseBurn .smbus 0x4642) s).rdF pFusebank 0x20 7 0 = 3 ∧
      (after (.fuseBurn .smbus 0x4642) r).cal.burn = some (1, false) ∧ (after (.fuseBurn .smbus 0x4642) (up 2)).rdF pFusebank 0x20 7 0 = 1 ∧
      after (.fuseBurn .smbus 0x4643) s = s := by decide +kernel

/-- R402: BURN with every generation used, and during another burn. -/
theorem test_fuse_burn : let b := (bank 0x80000001).wrB pCal 0x110 31 true
    (∀ k, k < 8 → (bank 0xFF).rdB pFusebank 0x104 k = true) ∧ (after (.fuseBurn .smbus 0x4642) (bank 0xFF)).rdF pFusebank 0x20 7 0 = 2 ∧
      b.rdB pFusebank 0x104 1 = false ∧ b.rdB pCal 0x110 31 = true ∧ (after (.fuseBurn .smbus 0x4642) b).rdF pFusebank 0x20 7 0 = 4 := by
  decide +kernel

/-- R402, R403: a burn and a revocation end. -/
theorem test_fuse_done : (after (.fuseBurnDone true) (bank 0x80000003 (some (1, false)))).rd pFusebank 0x104 = 0x01000003 ∧
    (after (.fuseBurnDone true) (bank 0x80000003 (some (1, false)))).cal.good = 2 ∧
    (after .fuseRevokeDone (bank 0x80000003 (some (1, true)))).rdB pFusebank 0x104 9 = true := by decide +kernel
/-! The housekeeping die (16_housekeeping_analog.md). -/

/-- R428, R429: a window monitor turned on, and a write while it is on. -/
theorem test_winmon_enable : let s := up 2
    let o := s.wr pWinmon (winReg 3 0) 0x80000000
    s.admits .smbus pWinmon ∧ s.rdB pWinmon (winReg 3 0) 31 = false ∧ (after (.winmonEnable .smbus 3 0xA0000000) s).rdF pWinmon (winReg 3 3) 31 30 = 3 ∧
      o.rdB pWinmon (winReg 3 0) 31 = true ∧ (after (.winmonEnable .smbus 3 0) o).rd pWinmon (winReg 3 0) = 0 := by decide +kernel

/-- R428 to R431: the first levels of an enabled monitor, and a window that becomes set. -/
theorem test_winmon : let s := ((up 2).wr pWinmon (winReg 3 0) 0x80000000).wr pWinmon (winReg 3 1) 0x0C000100
    let n := s.setWin 3 { first := true }
    let k := s.setWin 3 { hiKnown := true, loKnown := true }
    (n.winSt 3).first = true ∧ n.rdB pWinmon (winReg 3 3) 30 = true ∧ comparator 0xC00 0 (4096 * 0x800) = some false ∧
      comparator 0x100 0 (4096 * 0x800) = some (!false) ∧ (after (.winmonResolve 0 0 3 [some (4096 * 0x800)] false) n).rdB pWinmon (winReg 3 3) 30 = false ∧
      k.rdB pWinmon (winReg 3 3) 30 = false ∧ comparator 0xC00 0 (4096 * 0xD00) = some true ∧ k.rdF pWinmon (winReg 3 0) 21 20 = 0 ∧
      (after (.windowBecomesSet 0 0 3 [some (4096 * 0xD00)] false) k).rdB pWinmon 0x100 3 = true ∧ (k.winSt 3).clrAt ≠ k.hk.now + 1 ∧
      (after (.windowBecomesSet 0 0 3 [some (4096 * 0xD00)] false) k).rdB pWinmon 0x14 3 = true ∧ (up 2).rdB pWinmon (winReg 3 0) 31 = false := by decide +kernel

/-- R430, R431: in LEVEL mode an INSIDE window that resolves at once latches. -/
theorem test_winmon_level : let l := (((up 2).wr pWinmon (winReg 3 0) 0xD0000000).wr pWinmon (winReg 3 1) 0x0C000100).setWin 3 { first := true }
    (after (.winmonResolve 0 0 3 [some (4096 * 0x800)] false) l).rdB pWinmon (winReg 3 3) 31 = true ∧
      (after (.winmonResolve 0 0 3 [some (4096 * 0x800)] false) l).rdB pWinmon 0x100 3 = true := by decide +kernel

/-- R428, R443: windows of one input see one level in a cycle; the test DAC on it gives the level. -/
theorem test_winmon_input : let s := (up 2).mapHk (fun h => { h with ain := [(0, 0, 77)] })
    let d := (up 2).wr pHkadc 0x110 0x80000010
    (s.hk.ain.find? (fun e => e.1 == s.hk.now && e.2.1 == 0)) = some (0, 0, 77) ∧ (s.ainLevel 0 s.hk.now (some 9)).1 = 77 ∧
      ((up 2).ainLevel 0 0 (some 9)).1 = 9 ∧ d.rdB pHkadc 0x110 31 = true ∧ d.rdF pHkadc 0x110 20 16 = 0 ∧
      (d.ainLevel 0 0 none).1 = 16 * 2 ^ 14 := by decide +kernel

/-- R433 to R436: an excitation written anew and unchanged; the reversal; results, at the limit, short and good. -/
theorem test_thermo : let s := up 2
    let p := ((up 2).wr pThermo (thReg 3 0) 0x60000000).mapHk (fun h => { h with now := 10000000 })
    let m : ThermoMeas := { vp := 5, vm := -4, current := 128000, limit := false, tfe := 0 }
    let q := (((up 2).wr pThermo (thReg 3 0) 0x60000000).wr pThermo (thReg 3 2) 0).mapHk (fun h =>
      { h with now := 10000000, thermo := [(3, { restart := 0, neg := true })] })
    let sh := q.wr pThermo (thReg 3 2) 1
    s.admits .smbus pThermo ∧ s.rd pThermo (thReg 3 0) = 0 ∧ (after (.thermoExc .smbus 0 3 0x41000000) s).rdB pThermo (thReg 3 4) 30 = true ∧
      (Tab.get ({} : Thermo) p.hk.thermo 3).restart + p.thPhase 3 ≤ p.hk.now ∧ p.rdB pThermo (thReg 3 0) 29 = true ∧
      p.rdF pThermo (thReg 3 0) 31 30 = 1 ∧ (Tab.get ({} : Thermo) (after (.polarityReversal 0 3) p).hk.thermo 3).neg = true ∧
      q.thReady 3 = true ∧ p.thReady 3 = false ∧ q.rdF pThermo (thReg 3 2) 15 0 * 200000 ≤ (q.thSense 3 m).natAbs ∧ q.thR 3 m = 9 ∧
      (after (.thermoResult 0 3 m) q).rd pThermo (thReg 3 5) = 9 ∧ (sh.thSense 3 m).natAbs < sh.rdF pThermo (thReg 3 2) 15 0 * 200000 ∧
      (after (.thermoResult 0 3 m) sh).rdF pThermo (thReg 3 4) 28 27 = 2 ∧
      (after (.thermoResult 0 3 { m with limit := true }) q).rdF pThermo (thReg 3 4) 28 27 = 1 := by decide +kernel

/-- The converter in a state, its own state given. -/
def adc (st : Nat) (x : AdcSt := {}) : State := (((up 2).setAdcState st).wrB pHkadc 0x100 31 true).mapAdc (fun _ => x)

/-- R439 to R441: conversions discarded, summed, and of an injected entry; INJECT in each state. -/
theorem test_hkadc : let f : State := (adc 1).wrF pHkadc 0x180 10 8 1
    (adc 1 { left := 2 }).adcState = 1 ∧ (after (.hkConversion 0 (some 9)) (adc 1 { left := 2 })).hk.adc.left = 1 ∧
      f.hk.adc.n + 1 ≠ 2 ^ f.rdF pHkadc (0x180 + 4 * f.rdF pHkadc 0x118 20 16) 10 8 ∧ (after (.hkConversion 0 (some 9)) f).hk.adc.sum = 9 ∧
      (adc 2).rdF pHkadc 0x108 10 8 = 0 ∧ (after (.hkConversion 0 (some 70000)) (adc 2)).rd pHkadc 0x10C = 0xC000FFFF ∧
      after (.hkConversion 0 (some 9)) (adc 3) = adc 3 ∧
      (adc 1).admits .smbus pHkadc ∧ (after (.hkInject .smbus 0 0x4843) (adc 1)).hk.adc.inj = true ∧ (adc 0).hk.adc.inj = false ∧
      (after (.hkInject .smbus 0 0x4843) (adc 0)).adcState = 2 ∧ (after (.hkInject .smbus 0 0x4843) (adc 3)).hk.adc.held = true ∧
      (after (.hkInject .smbus 0 0x4843) (adc 2)).rdB pHkadc 0x14 2 = true ∧ after (.hkInject .smbus 0 0x4844) (adc 1) = adc 1 := by decide +kernel

/-- R439, R443: the test DAC and a DC bias channel as inputs of the converter. -/
theorem test_hkadc_input : let s := ((up 2).wr pHkadc 0x110 0x200).wr (pBias 0) (biasReg 0 3) 0x400
    (s.adcInput 41 (some 3)).1 = 0x200 * 64 + 3 ∧ (s.adcInput 44 none).1 = 64 ∧ (s.adcInput 40 (some 5)).1 = 5 := by decide +kernel

/-- R444: housekeeping calibrations begun, refused, held back by an injection, and done in their time. -/
theorem test_hk_cal : let s := up 2
    let b := s.wrB pHk 0x128 31 true
    let w := (adc 2).mapHk (fun h => { h with adc := { h.adc with inj := false } })
    let d := b.mapHk (fun h => { h with parts := 2, banks := 1, plan := 1, calFrom := 0, now := 10 ^ 9 })
    let e := b.mapHk (fun h => { h with parts := 2, banks := 1, plan := 1 })
    s.admits .smbus pHk ∧ s.rdB pHk 0x128 31 = false ∧ s.idle63 = true ∧ s.adcState ≠ 2 ∧ s.hk.adc.inj = false ∧
      (after (.hkCalAdc .smbus 0 0x484B) s).adcState = 3 ∧ (after (.hkCalAdc .smbus 0 0x484B) w).hk.adc.calWait = true ∧
      (after (.hkCalBias .smbus 0 0x484B) s).hk.parts = 2 ∧ (after (.hkCalThermo .smbus 0 0x484B) s).rdB pThermo (thReg 3 4) 30 = true ∧
      (after (.hkCalAdc .smbus 0 0x484B) b).rdF pHk 0x20 7 0 = 2 ∧ after (.hkCalAdc .smbus 0 0x484C) s = s ∧
      (hkQuantOf 0x140 0).map (·.unit) = some 1 ∧ tst d.hk.parts 1 = true ∧ d.hkCalOver = true ∧ e.hkCalOver = false ∧
      after (.hkCalDone 0 0 [{ off := 0x140, lo := 0, a := 3, b := 4 }]) e = e ∧
      (after (.hkCalDone 0 0 [{ off := 0x140, lo := 0, a := 3, b := 4 }]) d).rdB pHk 0x128 31 = false := by decide +kernel

/-- R445: a timer's period; it clears a latch it releases, not one set in the same cycle. -/
theorem test_timer : let s := (((up 2).wr pWinmon (winReg 3 0) 0x85000000).wr pWinmon 0x100 8).mapHk (fun h => { h with tmrs := [(1, { due := 2 })] })
    (Tab.get ({} : Tmr) s.hk.tmrs 1).due = 2 ∧ (Tab.get ({} : Tmr) s.hk.tmrs 0).due = 0 ∧ s.rdB pWinmon (winReg 3 0) 26 = true ∧
      s.rdF pWinmon (winReg 3 0) 25 24 = 1 ∧ (s.winSt 3).setAt ≠ s.hk.now + 1 ∧ (after (.timerPeriod 0 1) s).rdB pWinmon 0x100 3 = false ∧
      (after (.timerPeriod 0 1) (s.setWin 3 { setAt := 1 })).rdB pWinmon 0x100 3 = true ∧
      (Tab.get ({} : Tmr) (after (.timerPeriod 0 1) s).hk.tmrs 1).due = 1 ∧ (after (.timerPeriod 0 1) s).rdB pTimer 0x14 4 = true := by decide +kernel

/-! Temperatures and event counters (17_thermal_and_counters.md). -/

/-- R453: a power sample, and none with the thermal logic unpowered. -/
theorem test_power : let s := up 2
    let o := s.wrB pPower 0x100 1 false
    s.domOn 1 = true ∧ (after (.powerSample (List.replicate 26 3)) s).rd pTherm 0x1A8 = 78 ∧
      (after (.powerSample (List.replicate 26 3)) s).rd pTherm 0x1A4 = 3 ∧ o.domOn 1 = false ∧ after (.powerSample []) o = o := by decide +kernel

/-- The thermal model runs; diodes 2 and 3 read 0. -/
def warm : State := { ((up 2).wrB pDiode 0x108 31 true).wrB pDiode 0x10C 31 true with therm := { running := true } }

/-- R454: when the model steps, and which nodes a diode corrects. -/
theorem test_model : warm.therm.running = true ∧ warm.therm.hot = 0 ∧ (up 2).therm.running = false ∧ warm.diodeUse 2 = true ∧
    warm.diodeUse 5 = false := by decide +kernel

/-- R455 to R458: readings before the model runs, and ones that deviate, the first and the fourth in a row. -/
theorem test_diode : let v := (warm.wrF pDiode 0x108 15 0 2000).wrB pDiode 0x108 31 true
    let f := warm.wrF pDiode 0x108 17 16 3
    (up 2).domOn 1 = true ∧ (up 2).rdB pDiode 0x108 30 = false ∧ (after (.diodeReading 0 2 2000) (up 2)).diodeT 2 = 2000 ∧
      ({ warm with therm := { warm.therm with late := mclr warm.therm.late 2 } } : State) = warm ∧ v.deviates 2 = some true ∧
      (after (.diodeReading 0 2 2000) warm).rdF pDiode 0x108 17 16 = 1 ∧ f.rdF pDiode 0x108 17 16 = 3 ∧
      (after (.diodeReading 0 2 2000) f).rdB pDiode 0x108 30 = true := by decide +kernel

/-- R459, R460: the memory's refresh interval, with temperatures and without. R457: READMIT. -/
theorem test_refresh : let s := up 2
    let b := (up 2).wr pDiode 0x108 0x40030007
    s.domOn 6 = true ∧ (after (.refreshInterval 0 [some 0x1800]) s).rdF pTherm 0x10C 9 8 = 3 ∧
      (after (.refreshInterval 0 []) s).rdF pTherm 0x10C 9 8 = 0 ∧ b.admits .smbus pDiode ∧
      (after (.diodeReadmit .smbus 0x444F 2) b).rd pDiode 0x108 = 0x80000007 ∧ (after (.diodeReadmit .smbus 0x444E 2) b).rdF pDiode 0x20 7 0 = 1 := by
  decide +kernel

/-- R467: a snapshot of the counters of CNT[3]. -/
theorem test_snap : let s := (up 2).wr (pCnt 3) (cntReg 2 1) 7
    s.admits .smbus (pCnt 3) ∧ (after (.counterSnap .smbus 0 3 0x434E) s).rd64 (pCnt 3) (cntReg 2 3) = 7 ∧
      (after (.counterSnap .smbus 0 3 0x434F) s).rdF (pCnt 3) 0x20 7 0 = 1 := by decide +kernel
/-! Tufts and security (18_tufts_and_security.md). -/

/-- The base point of P-384 (NIST SP 800-186). -/
def basePoint : List Byte :=
  ((List.range 48).map (fun k => BitVec.ofNat 8
    (0xAA87CA22BE8B05378EB1C71EF320AD746E1D3B628BA79B9859F741E082542A385502F25DBF55296C3A545E3872760AB7 / 256 ^ (47 - k)))) ++
  ((List.range 48).map (fun k => BitVec.ofNat 8
    (0x3617DE4A96262C6F5D9E98BF9292DC29F8F41DBD289A147CE9DA3113B5F0B8C00A60B1CE1D7E819D7A431D7C90EA0E5F / 256 ^ (47 - k))))

/-- A device of 1 GiB in a lifecycle state, with a P-384 point at address 0. -/
def device (lc : Nat) (m : Nat := 2) : State :=
  { ((up m).wrF pMemctl 0x104 5 0 1).wrF pSec 0x100 1 0 lc with gddr := (List.range 96).map (fun k => (k, basePoint.getD k 0)) }

/-- R487: PROVISION. -/
theorem test_provision : let s := device 0
    let n := { device 0 with gddr := [] }
    s.admits .smbus pSec ∧ s.lcState = 0 ∧ s.sec.lc = none ∧ s.mode = 2 ∧ s.wardenSpan 0 96 = true ∧ p384Point (s.gbytes 0 96) = true ∧
      (after (.lcProvision .smbus 0x4C43) s).sec.lc.isSome = true ∧ p384Point (n.gbytes 0 96) = false ∧
      (after (.lcProvision .smbus 0x4C43) n).rdF pSec 0x20 7 0 = 2 ∧ (after (.lcProvision .smbus 0x4C43) (device 1)).rdF pSec 0x20 7 0 = 1 ∧
      (after (.lcProvision .smbus 0x4C43) (device 0 3)).rdF pSec 0x20 7 0 = 1 ∧ (after (.lcProvision .smbus 0x4C44) s).sec.lc = none := by decide +kernel

/-- R487: DEPLOY, RETURN and the raising of the rollback floor, and their refusals. -/
theorem test_lifecycle : let t := fun (lc : Nat) => (device lc).wr (pTuft 4) 0x100 0x80000002
    (device 1).anyTuft = false ∧ (t 1).anyTuft = true ∧ (after (.lcDeploy .smbus 0x4C43) (device 1)).sec.lc = some (2, []) ∧
      (after (.lcDeploy .smbus 0x4C43) (t 1)).rdF pSec 0x20 7 0 = 3 ∧ (after (.lcReturn .smbus 0x4C43) (device 2)).sec.lc = some (3, []) ∧
      (after (.lcReturn .smbus 0x4C43) (t 2)).rdF pSec 0x20 7 0 = 3 ∧ (after (.lcReturn .smbus 0x4C43) (device 3)).rdF pSec 0x20 7 0 = 1 ∧
      (after (.lcRaiseFloor .smbus 0x4C43) ((device 2).wr pSec 0x110 0x70003)).rdF pSec 0x110 15 0 = 7 ∧
      (after (.lcRaiseFloor .smbus 0x4C43) ((device 2).mapSec (fun x => { x with raises := 64 }))).rdF pSec 0x20 7 0 = 4 := by decide +kernel

/-- R487: the fuses are burnt. -/
theorem test_lifecycle_done : let s := fun (op : Nat) => (device (op - 1)).mapSec (fun x => { x with lc := some (op, [9]) })
    (s 1).sec.lc = some (1, [9]) ∧ (after .lifecycleTransitionDone (s 1)).sec.wardenKey = [9] ∧
      (after .lifecycleTransitionDone (s 2)).lcState = 2 ∧ (after .lifecycleTransitionDone (s 3)).lcState = 3 ∧
      (after .lifecycleTransitionDone (s 3)).gddr = [] := by decide +kernel

/-- R488, R489: LOCK; what UNLOCK looks at: the lifecycle, tufts, warden memory. -/
theorem test_debug : let s := (device 2).wrB pDebug 0x10 16 true
    let t := (device 2).wr (pTuft 4) 0x100 0x80000002
    s.admits .smbus pDebug ∧ (after (.debugLock .smbus 0x4447) s).rdB pDebug 0x10 16 = false ∧ s.wardenSpan 0 0x140 = true ∧
      after (.debugLock .smbus 0x4446) s = s ∧ after (.debugLock .smbus 0x4447) (device 1) = device 1 ∧
      t.lcState = 2 ∧ t.anyTuft = true ∧ (device 2).wardenSpan (2 ^ 32) 0x140 = false := by decide +kernel

/-- R483, R489: a token whose body fits; what its signature is worth is open (Config.ecdsa). -/
theorem test_token_body : let s := { device 2 with gddr := [(0, 0x51), (1, 0x44), (2, 0x54), (3, 0x4B), (4, 1)] }
    s.anyTuft = false ∧ s.wardenSpan 0 0x140 = true ∧ s.tokenBody 0 = true ∧ s.gnum 0 4 = 0x4B544451 ∧ s.gnum 4 2 = 1 := by decide +kernel

/-- R474, R475: the modes in which an alarm acts; scrubs end. -/
theorem test_scrub : let s := ((up 3).wr pSec 0x11C 6)
    let g := memory.wr pGranule 0x180 1
    ((up 2).mode, (up 3).mode, (up 4).mode) = (2, 3, 4) ∧ (after (.frondScrubEnd 0 2) s).rd pSec 0x11C = 2 ∧ g.granScrub 2 = true ∧
      g.granScrub 0 = false ∧ (after (.granuleScrubEnd 0 2) g).granScrub 2 = false ∧ (after (.granuleScrubEnd 0 2) g).rdF pGranule 0x180 7 0 = 0 ∧
      (after (.granuleScrubEnd 0 2) g).rd pGranule 0x44 = 1 ∧ after (.granuleScrubEnd 0 0) g = g := by decide +kernel

/-- A device with an SPDM connection at a stage, and a session. -/
def spdm (stage : Nat) (sid : Option Nat := none) (secure : Bool := false) : State :=
  (device 2).mapSec (fun x => { x with stage := stage, session := sid, secure := secure })

/-- R486: the order of requests; versions; capabilities and algorithms. -/
theorem test_spdm : (spdm 3).powered pSec = true ∧ (spdm 3).lcState ≠ 3 ∧ (device 3).lcState = 3 ∧
    (after .getVersion (device 3)).outbox = [.spdm (.error spdmUnspecified)] ∧ (after .getVersion (spdm 3)).outbox = [.spdm (.version [0x12])] ∧
    (after .getVersion (spdm 3)).sec.stage = 1 ∧ (after (.heartbeat 0x11 5) (spdm 3)).outbox = [.spdm (.error spdmVersion)] ∧
    (after (.heartbeat 0x12 5) (spdm 2)).outbox = [.spdm (.error spdmUnexpected)] ∧
    (after (.getCapabilities 0x12) (spdm 1)).outbox = [.spdm (.capabilities spdmCaps)] ∧
    (after (.negotiateAlgorithms 0x12 0x80 2 0x10 2) (spdm 2)).outbox = [.spdm (.algorithms 0x80 2 0x10 2)] ∧
    (after (.negotiateAlgorithms 0x12 0x80 1 0x10 2) (spdm 2)).outbox = [.spdm (.error spdmInvalid)] := by decide +kernel

/-- R486: a slot that does not exist, a measurement, a session's life. -/
theorem test_session : let s := spdm 3 (some 5)
    let k := spdm 3 (some 5) true
    (after (.challenge 0x12 1 []) s).outbox = [.spdm (.error spdmInvalid)] ∧ (s.measure 2).isSome = true ∧ p384Point basePoint = true ∧
      (after (.keyExchange 0x12 0 7 basePoint) s).sec.session = some 7 ∧ s.sec.session = some 5 ∧ s.sec.secure = false ∧ k.sec.secure = true ∧
      (after (.heartbeat 0x12 5) k).outbox = [.spdm (.heartbeat 5)] ∧ (after (.keyUpdate 0x12 5 2) k).outbox = [.spdm (.keyUpdate 5 2)] ∧
      (after (.endSession 0x12 5) k).sec.session = none ∧ (after (.endSession 0x12 5) s).outbox = [.spdm (.error spdmUnexpected)] := by decide +kernel

end Sys2Proof.Tests
end

section
/-! The register pages (03_register_pages.md): what the accesses of BAR0 do to the registers of a page, and the obligations about them. -/
namespace Sys2Proof.Machine

/-! The rows of the register accesses are accesses of the bus. -/

@[simp] theorem exec_registerWrite (path : Path) (a : BitVec 25) (v : List Word) (be : Bool) (s : State) :
    exec (.registerWrite path a v be) s = .next (s.busWrite path a.toNat v be) := rfl

@[simp] theorem exec_loRead (path : Path) (a : BitVec 25) (dw : Nat) (be : Bool) (s : State) :
    exec (.loRead path a dw be) s = .next (s.busRead path a.toNat dw be) := rfl

@[simp] theorem exec_loWrite (path : Path) (a : BitVec 25) (v : Word) (s : State) :
    exec (.loWrite path a v) s = .next (s.busWrite path a.toNat [v] true) := rfl

@[simp] theorem exec_hiWrite (path : Path) (a : BitVec 25) (v : Word) (s : State) :
    exec (.hiWrite path a v) s = .next (s.busWrite path a.toNat [v] true) := rfl

@[simp] theorem exec_flagsClear (path : Path) (a : BitVec 25) (v : Word) (s : State) :
    exec (.flagsClear path a v) s = .next (s.busWrite path a.toNat [v] true) := rfl

@[simp] theorem exec_flagsSet (path : Path) (a : BitVec 25) (v : Word) (s : State) :
    exec (.flagsSet path a v) s = .next (s.busWrite path a.toNat [v] true) := rfl

@[simp] theorem exec_flagsEnWrite (path : Path) (a : BitVec 25) (v : Word) (s : State) :
    exec (.flagsEnWrite path a v) s = .next (s.busWrite path a.toNat [v] true) := rfl

@[simp] theorem exec_cntClr (path : Path) (a : BitVec 25) (s : State) :
    exec (.cntClr path a) s = .next (s.busWrite path a.toNat [s.rdA a.toNat ||| 1] true) := rfl

/-! Addresses. -/

/-- The word before the one an address reaches lies in the same page. -/
theorem Pg.reg_sub_four (p : Pg) {off : Nat} (h : 4 ≤ off) : p.reg off - 4 = p.reg (off - 4) := by
  unfold Pg.reg; omega

/-- The page of a register is the page of every other register of its page (R79). -/
theorem pageOf_reg {a off o : Nat} {p : Pg} (h : place a = some (p, off)) (ho : o < 0x1000) : pageOf (p.reg o) = some p := by
  have hb := pageOf_base (place_page h)
  have e : p.reg o / 0x1000 = a / 0x1000 := by unfold Pg.reg; omega
  rw [← place_page h]
  unfold pageOf
  rw [e]

/-- The offset an address reaches has the address's alignment. -/
theorem place_mod_four {a off : Nat} {p : Pg} (h : place a = some (p, off)) : a % 4 = off % 4 := by
  have := (place_reg h).2
  omega

/-! What a write of a register of the active view does, one rule per kind of register. -/

theorem State.regWrite_ctrl (s : State) (path : Path) (p : Pg) (v : Word) : s.regWrite path p 0x0C v = s.ctrlWrite p v := rfl

theorem State.regWrite_flags (s : State) (path : Path) (p : Pg) (v : Word) :
    s.regWrite path p 0x14 v = s.flagsClear p (v &&& BitVec.ofNat 32 p.kind.flagMask) := rfl

theorem State.regWrite_flagsEn (s : State) (path : Path) (p : Pg) (v : Word) : s.regWrite path p 0x18 v = s.flagsEn p v := rfl

theorem State.regWrite_flagsSet (s : State) (path : Path) (p : Pg) (v : Word) : s.regWrite path p 0x1C v = s.flagsSet p v := rfl

theorem above_flags {off : Nat} (h : 0x20 ≤ off) : off ≠ 0x0C ∧ off ≠ 0x14 ∧ off ≠ 0x18 ∧ off ≠ 0x1C := by omega

/-- Above the flags of the header, a register that is no half of a pair, holds no RW-C field and has no rule of its own takes a plain
write. -/
theorem State.regWrite_plain {s : State} {path : Path} {p : Pg} {off : Nat} {v : Word} (ho : 0x20 ≤ off) (hpair : (regRow p off).pair = 0)
    (hrwc : (regRow p off).rwc = 0) (hbusy : s.pointBusy p off = false) (hsp : s.special path p off v = none) :
    s.regWrite path p off v = s.plainWrite p off v := by
  unfold State.regWrite
  simp [above_flags ho, hbusy, hpair, hrwc, hsp]

/-- The LO word of a writable pair is staged (R97). -/
theorem State.regWrite_lo {s : State} {path : Path} {p : Pg} {off : Nat} {v : Word} (ho : 0x20 ≤ off) (hpair : (regRow p off).pair = 1)
    (hrw : (regRow p off).rw ≠ 0) (hbusy : s.pointBusy p off = false) :
    s.regWrite path p off v = { s with loStage := Tab.set none s.loStage (latchKey path (p.reg off)) (some v) } := by
  unfold State.regWrite
  simp [above_flags ho, hbusy, hpair, hrw]

/-- The HI word of a writable pair acts with the staged LO word (R97). -/
theorem State.regWrite_hi {s : State} {path : Path} {p : Pg} {off : Nat} {v : Word} (ho : 0x20 ≤ off) (hpair : (regRow p off).pair = 2)
    (hrw : (regRow p off).rw ≠ 0) (hbusy : s.pointBusy p off = false) : s.regWrite path p off v = s.pairWrite path p off v := by
  unfold State.regWrite
  simp [above_flags ho, hbusy, hpair, hrw]

/-- No plain register is CLOCK.INCR_NOM_HI, whose write sets the increment (R347). -/
theorem ne_clock128_of_pair {p : Pg} {off : Nat} (h : (regRow p off).pair = 0) : p.kind = .clock → off ≠ 0x128 := by
  rintro hk rfl
  rw [regRow_clock128 p hk] at h
  cases h

/-- Settles O20: such a write is a plain write of the register. -/
theorem registerWriteStores : Obligations.RegisterWriteStores := by
  unfold Obligations.RegisterWriteStores
  intro s path a v p off hplace hfree hadm halign hlo hhi hpair hrwc hbusy hsp
  refine ⟨s.plainWrite p off v, ?_, fun x => ?_, State.plainWrite_gddr .., State.plainWrite_beat ..⟩
  · rw [exec_registerWrite, State.busWrite_admits v hplace hfree hadm halign hhi, State.regWrite_plain hlo hpair hrwc hbusy hsp]
  · rw [State.plainWrite_rdA _ _ _ _ _ (ne_clock128_of_pair hpair), State.rd, (place_reg hplace).1]

/-! The flags of a page (R99). -/

/-- The interrupt rule leaves the register whose write it follows as written. -/
theorem State.rd_irqAfterWrite_wr (s : State) (p : Pg) (v : Word) {off : Nat} (h : off < 0x1000) (h1 : off ≠ 0x40) :
    ((s.wr p off v).irqAfterWrite p).rd p off = v := by
  rw [State.irqAfterWrite_rd _ _ _ h h1, State.rd_wr_self]

/-- Settles O24: each of the three writes is one write of the page's flags or enables, then the interrupt rule. -/
theorem flagWrites : Obligations.FlagWrites := by
  unfold Obligations.FlagWrites
  intro s path a v p hfree hadm
  refine ⟨fun hplace => ?_, fun hplace => ?_, fun hplace => ?_⟩
  · refine ⟨s.flagsClear p (v &&& BitVec.ofNat 32 p.kind.flagMask), ?_, ?_, fun hnow => ?_, rfl, fun x hx => State.flagsClear_blk hx rfl⟩
    · rw [exec_flagsClear, State.busWrite_admits v hplace hfree hadm (place_mod_four hplace) (by decide), State.regWrite_flags]
    · exact State.rd_irqAfterWrite_wr _ _ _ (by decide) (by decide)
    · have hset : s.setNow p = 0 := by rw [State.setNow, hnow]; rfl
      have hall : ~~~(BitVec.ofNat 32 0) = BitVec.allOnes 32 := rfl
      rw [State.flagsClear, State.rd_irqAfterWrite_wr _ _ _ (by decide) (by decide), hset, hall, BitVec.and_allOnes]
  · refine ⟨s.flagsSet p v, ?_, ?_, rfl, fun x hx => State.flagsSet_blk hx rfl⟩
    · rw [exec_flagsSet, State.busWrite_admits v hplace hfree hadm (place_mod_four hplace) (by decide), State.regWrite_flagsSet]
    · exact State.rd_irqAfterWrite_wr _ _ _ (by decide) (by decide)
  · refine ⟨s.flagsEn p v, ?_, ?_, rfl, fun x hx => State.flagsEn_blk hx rfl⟩
    · rw [exec_flagsEnWrite, State.busWrite_admits v hplace hfree hadm (place_mod_four hplace) (by decide), State.regWrite_flagsEn]
    · exact State.rd_irqAfterWrite_wr _ _ _ (by decide) (by decide)

/-! The interrupt of a page (R99, R374). -/

theorem State.irqAfterWrite_none {s : State} {p : Pg} (h : s.pendingIrq p = 0) : s.irqAfterWrite p = s := by
  simp [State.irqAfterWrite, h]

/-- A pending value of a page whose owner has a function with the page's vector fires that vector. -/
theorem State.irqAfterWrite_msix {s : State} {p : Pg} {fn : Nat} (h : s.pendingIrq p ≠ 0) (hfn : s.irqFunc p = some fn)
    (hv : s.rdF p 0x0C 15 8 < msixVectors fn) : s.irqAfterWrite p = s.msix fn (s.rdF p 0x0C 15 8) := by
  rw [State.irqAfterWrite, if_pos (by simpa using h)]
  simp only [State.sendIrq, hfn, hv, if_true]

theorem State.msix_unmasked {s : State} {fn v : Nat} (h : s.pcie.masked.contains (fn, v) = false) : s.msix fn v = s.emit (.msix fn v) := by
  simp only [State.msix, h]
  rfl

/-- A masked vector sets its pending bit alone. -/
theorem State.msix_masked {s : State} {fn v : Nat} (h : s.pcie.masked.contains (fn, v) = true) :
    (s.msix fn v).outbox = s.outbox ∧ (s.msix fn v).regs = s.regs ∧ (fn, v) ∈ (s.msix fn v).pcie.pend := by
  simp only [State.msix, h, if_true, List.mem_cons, true_or, and_self]

/-- Settles O25: the interrupt rule fires the vector of CTRL.IRQ_VEC, which is sent or left pending. -/
theorem irqSends : Obligations.IrqSends := by
  unfold Obligations.IrqSends
  intro s p fn
  refine ⟨fun hpend hfn hv => ?_, State.irqAfterWrite_none⟩
  rw [State.irqAfterWrite_msix hpend hfn hv]
  exact ⟨State.msix_unmasked, State.msix_masked⟩

/-! CTRL.CNT_CLR (Table 3.9). -/

theorem bit_zero_or_one (w : Word) : bit (w ||| 1) 0 = true := by
  simp [bit, fld, nfld, BitVec.toNat_or, Nat.or_mod_two_eq_one]

/-- The clear of a page's counters, register by register. -/
theorem State.rdA_cntClr (s : State) (p : Pg) (x : Nat) :
    (s.cntClr p).rdA x = if p.reg 0x24 = x then 0 else if x < p.reg 0x40 ∨ p.reg 0x100 ≤ x then s.rdA x else regReset x := by
  rw [State.cntClr, State.rdA_wr, State.rdA_resetRange]

/-- A write of CTRL with CNT_CLR, seen at a register other than the page's block registers, which some kinds restart as well. -/
theorem State.rdA_ctrlWrite_clr (s : State) (p : Pg) {v : Word} {x : Nat} (hv : bit v 0 = true)
    (hx : ∀ o, 0x100 ≤ o → o < 0x1000 → p.reg o ≠ x) : (s.ctrlWrite p v).rdA x = ((s.plainWrite p 0x0C v).cntClr p).rdA x := by
  unfold State.ctrlWrite
  simp only [hv, if_true]
  split
  · rw [State.rdA_wrF, if_neg (hx _ (by decide) (by decide))]
  · rw [State.rdA_wrF, if_neg (hx _ (by decide) (by decide))]
  · rw [State.rdA_wr, if_neg (hx _ (by decide) (by decide))]
  · rfl

theorem State.ctrlWrite_gddr (s : State) (p : Pg) (v : Word) : (s.ctrlWrite p v).gddr = s.gddr := State.ctrlWrite_mem p v rfl

/-- A write of CTRL with CNT_CLR zeroes every local counter of the page. -/
theorem State.rd_ctrlWrite_lcnt (s : State) {p : Pg} {v : Word} {n : Nat} (hv : bit v 0 = true) (hp : pageOf (p.reg (0x40 + 4 * n)) = some p)
    (hn : n < 48) : (s.ctrlWrite p v).rd p (0x40 + 4 * n) = 0 := by
  rw [State.rd, State.rdA_ctrlWrite_clr s p hv (fun o _ _ => by rw [Ne, Pg.reg_inj]; omega), State.rdA_cntClr,
    if_neg (by rw [Pg.reg_inj]; omega), if_neg (by unfold Pg.reg; omega), regReset_header hp (by omega) (by omega)]

theorem State.rd_ctrlWrite_errCount (s : State) (p : Pg) {v : Word} (hv : bit v 0 = true) : (s.ctrlWrite p v).rd p 0x24 = 0 := by
  rw [State.rd, State.rdA_ctrlWrite_clr s p hv (fun o _ _ => by rw [Ne, Pg.reg_inj]; omega), State.rdA_cntClr, if_pos rfl]

/-- A write of CTRL with CNT_CLR moves no register of another page. -/
theorem State.rdA_ctrlWrite_page (s : State) (p : Pg) {v : Word} {x : Nat} (hv : bit v 0 = true)
    (hx : ∀ o, o < 0x1000 → p.reg o ≠ x) : (s.ctrlWrite p v).rdA x = s.rdA x := by
  have hout : x < p.reg 0x40 ∨ p.reg 0x100 ≤ x := by
    have hin : ¬(p.reg 0x40 ≤ x ∧ x < p.reg 0x100) := fun h =>
      hx (x - p.base) (by unfold Pg.reg at h; omega) (by unfold Pg.reg at h ⊢; omega)
    omega
  rw [State.rdA_ctrlWrite_clr s p hv (fun o _ => hx o), State.rdA_cntClr, if_neg (hx _ (by decide)), if_pos hout,
    State.plainWrite_rdA _ _ _ _ _ (fun _ => by decide), if_neg (fun e => hx 0x0C (by decide) e.symm)]

/-- Settles O26: the write is one of CTRL with CNT_CLR set. -/
theorem cntClrClears : Obligations.CntClrClears := by
  unfold Obligations.CntClrClears
  intro s path a p hplace hfree hadm
  have hv := bit_zero_or_one (s.rdA a.toNat)
  have hbase := pageOf_base (place_page hplace)
  refine ⟨s.ctrlWrite p (s.rdA a.toNat ||| 1), ?_, fun n hn => s.rd_ctrlWrite_lcnt hv (pageOf_reg hplace (by omega)) hn,
    s.rd_ctrlWrite_errCount p hv, fun x hx => s.rdA_ctrlWrite_page p hv (fun o ho e => hx ?_), State.ctrlWrite_gddr ..⟩
  · rw [exec_cntClr, State.busWrite_admits _ hplace hfree hadm (place_mod_four hplace) (by decide), State.regWrite_ctrl]
  · rw [← e]; unfold Pg.reg; omega

/-! Accesses that break the form of R77, and accesses of unmapped addresses (R79). -/

theorem State.rd_recErr_cause (s : State) (p : Pg) (code off : Nat) :
    (s.recErr p code off).rd p 0x20 = BitVec.ofNat 32 (off / 4 % 1024 * 2 ^ 16 + code) := by
  unfold State.recErr
  split
  · exact State.rd_wr_self ..
  · rw [State.rd_wr_off _ _ _ (by decide), State.rd_wr_self]

theorem State.rd_recErr_count (s : State) (p : Pg) (code off : Nat) :
    (s.recErr p code off).rd p 0x24 = if s.rdB p 0x0C 1 then s.rd p 0x24 else satInc (s.rd p 0x24) 1 := by
  unfold State.recErr
  split
  · exact State.rd_wr_off _ _ _ (by decide)
  · exact State.rd_wr_self ..

/-- A recorded error moves ERR_CAUSE and ERR_COUNT of its page alone. -/
theorem State.rdA_recErr_ne (s : State) {p : Pg} (code off : Nat) {x : Nat} (h1 : x ≠ p.reg 0x20) (h2 : x ≠ p.reg 0x24) :
    (s.recErr p code off).rdA x = s.rdA x := by
  unfold State.recErr
  split
  · rw [State.rdA_wr, if_neg h1.symm]
  · rw [State.rdA_wr, if_neg h2.symm, State.rdA_wr, if_neg h1.symm]

/-- An admitted write without all byte enables is recorded in its page, and that is all (R77). -/
theorem State.busWrite_disabled {s : State} {path : Path} {a off : Nat} {p : Pg} (l : List Word) (hplace : place a = some (p, off))
    (hadm : s.admits path p) : s.busWrite path a l false = s.recErr p 0x82 off := by
  unfold State.busWrite
  rw [if_neg (by simp [hadm.1]), if_neg (by simp [accessOk])]
  simp only [State.badAccess, hplace, if_true]
  exact State.withWrite_admits _ _ hadm

/-- Settles O21: the write comes down to the record of its error. -/
theorem registerWriteDropped : Obligations.RegisterWriteDropped := by
  unfold Obligations.RegisterWriteDropped
  intro s path a v p off hplace hadm
  exact ⟨s.recErr p 0x82 off, by rw [exec_registerWrite, State.busWrite_disabled v hplace hadm], s.rd_recErr_cause ..,
    s.rd_recErr_count .., fun x => s.rdA_recErr_ne _ _, State.recErr_gddr ..⟩

/-- No access of an unmapped address waits at a QUEUE page. -/
theorem State.heldQueue_unmapped (s : State) (skip : Option Nat) (path : Path) {a : Nat} (write : Bool) (h : place a = none) :
    s.heldQueue skip path a write = none := by
  simp only [State.heldQueue, h]

theorem State.busWrite_unmapped {s : State} {path : Path} {a : Nat} (v : Word) (hplace : place a = none) (hlive : s.pathLive path = true)
    (halign : a % 4 = 0) : s.busWrite path a [v] true = s.unmapped path a true := by
  unfold State.busWrite
  rw [if_neg (by simp [hlive]), if_pos (by simp [accessOk, halign])]
  simp only [State.writeDword, State.heldQueue_unmapped _ _ _ _ hplace, State.writeNow, hplace]

theorem State.busRead_unmapped {s : State} {path : Path} {a : Nat} (hplace : place a = none) (hlive : s.pathLive path = true)
    (halign : a % 4 = 0) : s.busRead path a 1 true = (s.unmapped path a false).answer path [0] := by
  unfold State.busRead
  rw [if_neg (by simp [hlive]), if_pos (by simp [accessOk, halign]), if_pos rfl]
  simp only [State.readDword, State.heldQueue_unmapped _ _ _ _ hplace, State.readNow, hplace]

theorem State.rd_unmapped_count (s : State) (path : Path) (a : Nat) (write : Bool) :
    (s.unmapped path a write).rd pRegbus 0x100 = satInc (s.rd pRegbus 0x100) 1 := by
  rw [State.unmapped, State.rd_wr_off _ _ _ (by decide), State.rd_wr_self]

theorem pRegbus_reg (off : Nat) : pRegbus.reg off = 0x3000 + off := rfl

/-- An access of an unmapped address moves no register outside REGBUS. -/
theorem State.rdA_unmapped_ne (s : State) (path : Path) (a : Nat) (write : Bool) {x : Nat} (h : x / 0x1000 ≠ 3) :
    (s.unmapped path a write).rdA x = s.rdA x := by
  rw [State.unmapped, State.rdA_wr, if_neg (by rw [pRegbus_reg]; omega), State.rdA_wr, if_neg (by rw [pRegbus_reg]; omega)]

/-- Settles O28: the write comes down to the count and record in REGBUS. -/
theorem unmappedCounted : Obligations.UnmappedCounted := by
  unfold Obligations.UnmappedCounted
  intro s path a v hplace hlive halign
  exact ⟨s.unmapped path a.toNat true, by rw [exec_registerWrite, State.busWrite_unmapped v hplace hlive halign],
    s.rd_unmapped_count .., fun x => s.rdA_unmapped_ne _ _ _, State.unmapped_mem _ _ _ rfl⟩

/-! Writes of a pair (R97). -/

/-- Outside CLOCK and CALF a write brings about nothing beside the register's new value. -/
theorem State.afterWrite_other (s : State) {p : Pg} (off : Nat) (h1 : p.kind ≠ .clock) (h2 : p.kind ≠ .calf) : s.afterWrite p off = s := by
  unfold State.afterWrite
  split
  · exact absurd ‹_› h1
  · exact absurd ‹_› h2
  · rfl

theorem State.plainWrite_loStage {s : State} {p : Pg} (off : Nat) (v : Word) (h1 : p.kind ≠ .clock) (h2 : p.kind ≠ .calf) :
    (s.plainWrite p off v).loStage = s.loStage := by
  unfold State.plainWrite
  dsimp only
  split
  · rfl
  · rw [State.afterWrite_other _ _ h1 h2, State.wr_loStage]

/-- The state in which the HI word of an RW pair is written: the staging latch is empty, and LO holds the staged word, if any. -/
def State.unstage (s : State) (path : Path) (p : Pg) (lo : Nat) : State :=
  let k := latchKey path (p.reg lo)
  let s1 := { s with loStage := Tab.set none s.loStage k none }
  match Tab.get none s.loStage k with
  | some w => s1.wr p lo (plainBits (regRow p lo) (s.rd p lo) w)
  | none => s1

theorem State.unstage_gddr (s : State) (path : Path) (p : Pg) (lo : Nat) : (s.unstage path p lo).gddr = s.gddr := by
  unfold State.unstage
  dsimp only
  split <;> rfl

theorem State.unstage_loStage (s : State) (path : Path) (p : Pg) (lo : Nat) :
    Tab.get none (s.unstage path p lo).loStage (latchKey path (p.reg lo)) = none := by
  have hset := Tab.get_set none none s.loStage (latchKey path (p.reg lo)) (latchKey path (p.reg lo)) none (fun _ => rfl)
  rw [if_pos rfl] at hset
  unfold State.unstage
  dsimp only
  split <;> exact hset

theorem State.rd_unstage_some {s : State} {path : Path} {p : Pg} {lo : Nat} {w : Word}
    (h : Tab.get none s.loStage (latchKey path (p.reg lo)) = some w) :
    (s.unstage path p lo).rd p lo = plainBits (regRow p lo) (s.rd p lo) w := by
  simp only [State.unstage, h, State.rd_wr_self]

theorem State.rd_unstage_none {s : State} {path : Path} {p : Pg} {lo : Nat}
    (h : Tab.get none s.loStage (latchKey path (p.reg lo)) = none) : (s.unstage path p lo).rd p lo = s.rd p lo := by
  simp only [State.unstage, h]
  rfl

theorem State.rdA_unstage_ne (s : State) (path : Path) {p : Pg} {lo x : Nat} (h : x ≠ p.reg lo) :
    (s.unstage path p lo).rdA x = s.rdA x := by
  unfold State.unstage
  dsimp only
  split
  · rw [State.rdA_wr, if_neg h.symm]; rfl
  · rfl

/-- The HI write of an RW pair outside NDEOR: LO takes the staged word, then HI its own. -/
theorem State.pairWrite_rw {s : State} {path : Path} {p : Pg} {off : Nat} (v : Word) (ho : 4 ≤ off) (hrwc : (regRow p off).rwc = 0)
    (hk : p.kind ≠ .ndeor) : s.pairWrite path p off v = (s.unstage path p (off - 4)).plainWrite p off v := by
  unfold State.pairWrite State.unstage
  simp only [hrwc, hk, p.reg_sub_four ho, ne_eq, not_true_eq_false, if_false]
  rfl

/-- Settles O23: LO is staged; HI takes the staged LO along. -/
theorem pairWrite : Obligations.PairWrite := by
  unfold Obligations.PairWrite
  intro s path a v p off hplace hfree hadm halign hlo hhi hbusy hclock hndeor hcalf hrw hrwc
  have hreg := (place_reg hplace).1
  have hreg4 : p.reg (off - 4) = a.toNat - 4 := by rw [← hreg, p.reg_sub_four (by omega)]
  have hbus := State.busWrite_admits v hplace hfree hadm halign hhi
  refine ⟨fun hpair => ?_, fun hpair => ?_⟩
  · rw [exec_loWrite, hbus, State.regWrite_lo (by omega) hpair hrw hbusy, hreg]
  · have hwrite : ∀ x, ((s.unstage path p (off - 4)).plainWrite p off v).rdA x =
        if x = p.reg off then plainBits (regRow p off) (s.rd p off) v else (s.unstage path p (off - 4)).rdA x := fun x => by
      rw [State.plainWrite_rdA _ _ _ _ _ (fun h => absurd h hclock), State.rd, State.rdA_unstage_ne _ _ (by rw [Ne, Pg.reg_inj]; omega)]
      rfl
    have hne : p.reg (off - 4) ≠ p.reg off := by rw [Ne, Pg.reg_inj]; omega
    rw [← hreg4, ← hreg]
    refine ⟨(s.unstage path p (off - 4)).plainWrite p off v, ?_, ?_, fun w hw => ?_, fun hw => ?_, ?_, fun x hx hx4 => ?_, ?_⟩
    · rw [exec_hiWrite, hbus, State.regWrite_hi (by omega) hpair hrw hbusy, State.pairWrite_rw v (by omega) hrwc hndeor]
    · rw [hwrite, if_pos rfl]; rfl
    · rw [hwrite, if_neg hne]; exact State.rd_unstage_some hw
    · rw [hwrite, if_neg hne]; exact State.rd_unstage_none hw
    · rw [State.plainWrite_loStage off v hclock hcalf, State.unstage_loStage]
    · rw [hwrite, if_neg hx, State.rdA_unstage_ne _ _ hx4]
    · rw [State.plainWrite_gddr, State.unstage_gddr]

/-! Reads (R84, R90, R93, R96). -/

/-- The row of a block register is found among the rows of its page's kind. -/
theorem regRow_block {p : Pg} {off : Nat} {k : PageKind} (h : p.kind = k) (ho : 0x100 ≤ off) :
    regRow p off = (findRow k.rows off).getD { name := "", off := off } := by
  rw [regRow, if_neg (by omega), h]

/-- A register whose read is no plain answer: HEAD of a queue, and the live registers of a lane (R96; 14_serial_links.md R388, R390). -/
def liveReg (p : Pg) (off : Nat) : Prop := (p.kind = .queue ∧ off = 0x100) ∨ (p.kind = .nlane ∧ (off = 0x10C ∨ off = 0x110))

/-- No such register is half of a pair. -/
theorem liveReg_pair {p : Pg} {off : Nat} (h : liveReg p off) : (regRow p off).pair = 0 := by
  rcases h with ⟨hk, rfl⟩ | ⟨hk, rfl | rfl⟩ <;> (rw [regRow_block hk (by decide)]; decide)

/-- MBOX_RX_LO is the LO word of a pair. -/
theorem regRow_mboxRx {p : Pg} (h : p.kind = .ndeor) : (regRow p 0x14C).pair = 1 := by
  rw [regRow_block h (by decide)]
  decide

theorem not_liveReg {p : Pg} {off : Nat} (h : (regRow p off).pair ≠ 0) : ¬liveReg p off := fun k => h (liveReg_pair k)

theorem not_mboxRx {p : Pg} {off : Nat} (h : (regRow p off).pair ≠ 1) : ¬(p.kind = .ndeor ∧ off = 0x14C) := by
  rintro ⟨hk, rfl⟩
  exact h (regRow_mboxRx hk)

section
variable {s : State} {path : Path} {p : Pg} {off : Nat}

/-- A read of a register that is not live leaves the lanes alone. -/
theorem State.laneStep_other (h : ¬liveReg p off) : (if p.kind = .nlane then s.laneLive p.i off else s) = s := by
  split
  · next hk =>
    have h1 : off ≠ 0x10C := fun e => h (.inr ⟨hk, .inl e⟩)
    have h2 : off ≠ 0x110 := fun e => h (.inr ⟨hk, .inr e⟩)
    simp only [State.laneLive, h1, h2, false_and, if_false]
  · rfl

/-- The LO word of a pair of the active view, MBOX_RX_LO apart, is answered and latches its HI word. -/
theorem State.activeRead_lo (hpair : (regRow p off).pair = 1) (hmbox : ¬(p.kind = .ndeor ∧ off = 0x14C)) :
    s.activeRead path p off = s.answerPair path (p.reg off) (s.regVal path p off) (s.regVal path p (off + 4)) := by
  have hlive : ¬liveReg p off := not_liveReg (by simp [hpair])
  rw [State.activeRead, if_neg (fun h => hlive (.inl h)), if_neg hmbox, State.laneStep_other hlive, hpair]
  rfl

/-- The HI word of a pair of the active view is answered from the requester's latch. -/
theorem State.activeRead_hi (hpair : (regRow p off).pair = 2) :
    s.activeRead path p off = s.answer path [Tab.get 0 s.hiLatch (latchKey path (p.reg off - 4))] := by
  have hlive : ¬liveReg p off := not_liveReg (by simp [hpair])
  have hmbox := not_mboxRx (p := p) (off := off) (by simp [hpair])
  rw [State.activeRead, if_neg (fun h => hlive (.inl h)), if_neg hmbox, State.laneStep_other hlive, hpair]
  rfl

/-- A register of the active view that is no half of a pair and not live is answered as it stands. -/
theorem State.activeRead_single (hpair : (regRow p off).pair = 0) (hlive : ¬liveReg p off) :
    s.activeRead path p off = s.answer path [s.regVal path p off] := by
  have hmbox := not_mboxRx (p := p) (off := off) (by simp [hpair])
  rw [State.activeRead, if_neg (fun h => hlive (.inl h)), if_neg hmbox, State.laneStep_other hlive, hpair]
  rfl

theorem State.activeRead_mbox (hk : p.kind = .ndeor) : s.activeRead path p 0x14C = s.mboxRead path := by
  rw [State.activeRead, if_neg (by simp), if_pos ⟨hk, rfl⟩]

/-- The LO word of a pair of the shadow view is answered and latches its HI word in a latch of its own (R96). -/
theorem State.shadowRead_lo (hpair : (regRow p off).pair = 1) :
    s.shadowRead path p off = s.answerPair path (p.reg off + 2 ^ 25) (s.viewVal path p off) (s.viewVal path p (off + 4)) := by
  simp only [State.shadowRead, hpair]

variable {a : Nat}

/-- One dword read in its turn, at an address whose page the path may read. -/
theorem State.readDword_reads (hplace : place a = some (p, off)) (hfree : s.heldQueue none path a false = none) (hreads : s.reads path p) :
    s.readDword path a = if off < 0x800 then s.activeRead path p off else s.shadowRead path p (off - 0x800) := by
  obtain ⟨-, hgrant, hpow⟩ := hreads
  simp only [State.readDword, hfree, State.readNow, hplace]
  rcases hgrant with hg | hg <;> simp [hg, hpow]

theorem State.busRead_one (hlive : s.pathLive path = true) (halign : a % 4 = 0) : s.busRead path a 1 true = s.readDword path a := by
  simp [State.busRead, hlive, accessOk, halign]

theorem State.busRead_two (hlive : s.pathLive path = true) (halign : a % 8 = 0) :
    s.busRead path a 2 true = (s.readDword path a).readDword path (a + 4) := by
  simp [State.busRead, hlive, accessOk, halign]

/-- What an answered LO word leaves keeps the reads of its path admitted and in their turn. -/
theorem State.answerPair_reads (k b : Nat) (lo hi : Word) (hreads : s.reads path p) : (s.answerPair path k lo hi).reads path p ∧
    (s.answerPair path k lo hi).heldQueue none path b false = s.heldQueue none path b false := ⟨hreads, rfl⟩

/-- A two-dword read of a pair returns both words, HI as the LO word has latched it (R96). -/
theorem State.busRead_pair (hplace : place a = some (p, off)) (hplace4 : place (a + 4) = some (p, off + 4)) (hfree : s.freePage path a)
    (hfree4 : s.freePage path (a + 4)) (hreads : s.reads path p) (halign : a % 8 = 0) (hoff : off < 0x800) (hlo : (regRow p off).pair = 1)
    (hmbox : ¬(p.kind = .ndeor ∧ off = 0x14C)) (hhi : (regRow p (off + 4)).pair = 2) :
    s.busRead path a 2 true =
      (s.answerPair path a (s.regVal path p off) (s.regVal path p (off + 4))).answer path [s.regVal path p (off + 4)] := by
  have hreg := (place_reg hplace).1
  have hreg4 : p.reg (off + 4) - 4 = a := by rw [p.reg_sub_four (by omega), ← hreg]; rfl
  have hoff4 : off + 4 < 0x800 := by have := (place_reg hplace).2; omega
  obtain ⟨hreads', hturn⟩ := State.answerPair_reads a (a + 4) (s.regVal path p off) (s.regVal path p (off + 4)) hreads
  rw [State.busRead_two hreads.1 halign, State.readDword_reads hplace (hfree false) hreads, if_pos hoff, State.activeRead_lo hlo hmbox, hreg,
    State.readDword_reads hplace4 (hturn.trans (hfree4 false)) hreads', if_pos hoff4, State.activeRead_hi hhi, hreg4]
  congr 2
  exact (Tab.get_set _ _ _ _ _ _ (fun _ => rfl)).trans (if_pos rfl)

/-- A register of an unpowered unit reads 0, but for those of its header that its page still returns (R84). -/
theorem State.busRead_unpowered (hplace : place a = some (p, off)) (hfree : s.freePage path a) (hlive : s.pathLive path = true)
    (hgrant : s.grant path p false = .ok ∨ s.grant path p false = .locked) (halign : a % 4 = 0) (hpow : s.powered p = false)
    (hheld : heldOff (off % 0x800) = false) : s.busRead path a 1 true = s.answer path [0] := by
  rw [State.busRead_one hlive halign]
  simp only [State.readDword, hfree false, State.readNow, hplace]
  rcases hgrant with hg | hg <;> simp [hg, hpow, hheld]

/-- A granted read without all byte enables is recorded in its page, and answers 0 in every dword (R77). -/
theorem State.busRead_disabled (n : Nat) (hplace : place a = some (p, off)) (hlive : s.pathLive path = true)
    (hgrant : s.grant path p false = .ok ∨ s.grant path p false = .locked) :
    s.busRead path a n false = (s.recErr p 0x82 off).answer path (List.replicate n 0) := by
  have hbad : s.badAccess path a false = s.recErr p 0x82 off := by
    simp only [State.badAccess, hplace]
    rcases hgrant with hg | hg <;> simp [hg]
  rw [State.busRead, if_neg (by simp [hlive]), if_neg (by simp [accessOk]), hbad]

end

/-- Settles O22: each form of read by the rule of its register's row, its view and its page. -/
theorem pairRead : Obligations.PairRead := by
  unfold Obligations.PairRead
  intro s path a p off
  simp only [exec_loRead]
  refine ⟨fun hplace hfree hreads halign => ?_, fun hplace hlive hgrant => ⟨?_, ?_⟩, fun hplace hlive halign => ?_⟩
  · have hreg := (place_reg hplace).1
    have hbus := (State.busRead_one hreads.1 halign).trans (State.readDword_reads hplace (hfree false) hreads)
    refine ⟨fun hoff hpair hmbox => ?_, fun hoff hpair => ?_, fun halign8 hoff hpair hmbox hhi hplace4 hfree4 => ?_, fun hoff hpair => ?_,
      fun hk hoff => ?_, fun hoff hpair hqueue hlane => ?_⟩
    · rw [hbus, if_pos hoff, State.activeRead_lo hpair hmbox, hreg]; rfl
    · rw [hbus, if_pos hoff, State.activeRead_hi hpair, hreg]; rfl
    · rw [State.busRead_pair hplace hplace4 hfree hfree4 hreads halign8 hoff hpair hmbox hhi]; rfl
    · rw [hbus, if_neg (by omega), State.shadowRead_lo hpair]; rfl
    · subst hoff
      rw [hbus, if_pos (by decide), State.activeRead_mbox hk]
    · rw [hbus, if_pos hoff, State.activeRead_single hpair (not_or.2 ⟨hqueue, hlane⟩)]; rfl
  · intro hfree halign hpow hheld
    rw [State.busRead_unpowered hplace hfree hlive hgrant halign hpow hheld]; rfl
  · intro dw
    rw [State.busRead_disabled dw hplace hlive hgrant]; rfl
  · rw [State.busRead_unmapped hplace hlive halign]; rfl

end Sys2Proof.Machine
end

section
/-! Load strobes, DC bias channels, CLR_N and channel events (07_drive_outputs.md R216 to R222; 12_hypha_events.md R329, R334;
16_housekeeping_analog.md R426, R427), and the obligation about them. -/
namespace Sys2Proof.Machine

/-! Passes over a list of units. -/

/-- A pass whose every step keeps an observation keeps it. -/
theorem foldl_keeps {β γ : Type} (obs : State → γ) {g : State → β → State} (l : List β) (s : State)
    (hstep : ∀ t x, x ∈ l → obs (g t x) = obs t) : obs (l.foldl g s) = obs s := by
  induction l generalizing s with
  | nil => rfl
  | cons x l ih => exact (ih (g s x) fun t y hy => hstep t y (List.mem_cons_of_mem _ hy)).trans (hstep s x List.mem_cons_self)

/-- Where the steps of a pass over distinct units keep the observation of every other unit, the observation of a unit shows that unit's
step alone. -/
theorem foldl_at {β γ : Type} (obs : State → γ) {g : State → β → State} {l : List β} {x : β} (s : State) (hx : x ∈ l) (hl : l.Nodup)
    (hother : ∀ t y, y ∈ l → y ≠ x → obs (g t y) = obs t) : ∃ t, obs t = obs s ∧ obs (l.foldl g s) = obs (g t x) := by
  obtain ⟨before, after, rfl⟩ := List.append_of_mem hx
  obtain ⟨-, hrest, hcross⟩ := List.pairwise_append.1 hl
  have hbefore : ∀ y ∈ before, y ≠ x := fun y hy => hcross y hy x List.mem_cons_self
  have hafter : ∀ y ∈ after, y ≠ x := fun y hy => ((List.pairwise_cons.1 hrest).1 y hy).symm
  refine ⟨before.foldl g s, foldl_keeps obs _ _ fun t y hy => hother t y (List.mem_append_left _ hy) (hbefore y hy), ?_⟩
  rw [List.foldl_append, List.foldl_cons]
  exact foldl_keeps obs _ _ fun t y hy => hother t y (List.mem_append_right _ (List.mem_cons_of_mem _ hy)) (hafter y hy)

theorem mem_maskList {n m i : Nat} : i ∈ maskList n m ↔ i < n ∧ tst m i = true := by
  simp [maskList, tst]

theorem nodup_maskList (n m : Nat) : (maskList n m).Nodup := List.nodup_range.filter _

/-! Strobes (R216, R217). -/

/-- A strobe wire: the beat after its latest load strobe, and whether a strobe is on its way on it. -/
def State.wire (s : State) (n : Nat) : Nat × Bool := (Tab.get 0 s.hk.fired n, s.hk.strobes.contains n)

/-- What a strobe fired in beat b makes of its wire: less than 20 beats after the last it merges with it (R217). -/
def wireFired (w : Nat × Bool) (b : Nat) : Nat × Bool := if w.1 ≠ 0 ∧ b + 1 < w.1 + 20 then w else (b + 1, true)

theorem State.strobe_merged {s : State} {n b : Nat} (h : (s.wire n).1 ≠ 0 ∧ b + 1 < (s.wire n).1 + 20) : s.strobe n b = s.count pHk n 1 :=
  if_pos h

theorem State.strobe_sent {s : State} {n b : Nat} (h : ¬((s.wire n).1 ≠ 0 ∧ b + 1 < (s.wire n).1 + 20)) :
    s.strobe n b = s.mapHk (fun h => { h with fired := Tab.set 0 h.fired n (b + 1), strobes := h.strobes ++ [n] }) := if_neg h

theorem State.wire_strobe (s : State) (n b : Nat) : (s.strobe n b).wire n = wireFired (s.wire n) b := by
  by_cases hc : (s.wire n).1 ≠ 0 ∧ b + 1 < (s.wire n).1 + 20
  · rw [State.strobe_merged hc, wireFired, if_pos hc, State.wire, State.count_hk, State.wire]
  · rw [State.strobe_sent hc, wireFired, if_neg hc]
    simp [State.wire, Tab.get_set]

theorem State.wire_strobe_ne (s : State) {m n : Nat} (b : Nat) (h : m ≠ n) : (s.strobe m b).wire n = s.wire n := by
  by_cases hc : (s.wire m).1 ≠ 0 ∧ b + 1 < (s.wire m).1 + 20
  · rw [State.strobe_merged hc, State.wire, State.count_hk, State.wire]
  · rw [State.strobe_sent hc]
    simp [State.wire, Tab.get_set, h, h.symm]

/-- Strobes fired on distinct wires in a beat fire each on its own wire. -/
theorem State.wire_strobes (s : State) (b : Nat) {l : List Nat} {n : Nat} (hn : n ∈ l) (hl : l.Nodup) :
    (l.foldl (fun a m => a.strobe m b) s).wire n = wireFired (s.wire n) b := by
  obtain ⟨t, hsame, hstep⟩ := foldl_at (State.wire · n) s hn hl fun t m _ hm => t.wire_strobe_ne b hm
  rw [hstep, State.wire_strobe, hsame]

/-- The two cases of a fired wire: it kept its last load strobe, or a strobe is on its way. -/
theorem State.wire_cases {s t : State} {n b : Nat} (h : t.wire n = wireFired (s.wire n) b) :
    if Tab.get 0 s.hk.fired n ≠ 0 ∧ b + 1 < Tab.get 0 s.hk.fired n + 20 then Tab.get 0 t.hk.fired n = Tab.get 0 s.hk.fired n
    else n ∈ t.hk.strobes ∧ Tab.get 0 t.hk.fired n = b + 1 := by
  by_cases hc : (s.wire n).1 ≠ 0 ∧ b + 1 < (s.wire n).1 + 20
  · rw [wireFired, if_pos hc] at h
    exact (if_pos hc).mpr (congrArg Prod.fst h)
  · rw [wireFired, if_neg hc] at h
    exact (if_neg hc).mpr ⟨by simpa [State.wire] using congrArg Prod.snd h, congrArg Prod.fst h⟩

theorem State.strobes_blk {s : State} {l : List Nat} {b a : Nat} {v : Word} (hl : ∀ n ∈ l, n < 8) (hb : blockReg a = true)
    (h : s.rdA a = v) : (l.foldl (fun t n => t.strobe n b) s).rdA a = v :=
  blk_foldl _ h fun _ n hn ht => blk_ite (State.count_blk hb (by have := hl n hn; omega) ht) ht

theorem State.strobes_gddr (s : State) (l : List Nat) (b : Nat) : (l.foldl (fun t n => t.strobe n b) s).gddr = s.gddr :=
  foldl_keeps State.gddr _ _ fun _ n _ => State.strobe_mem n b rfl

theorem State.lt_of_mem_strobesOf {s : State} {kind sel n : Nat} (h : n ∈ s.strobesOf kind sel) : n < 8 :=
  List.mem_range.1 (List.mem_filter.1 h).1

theorem State.nodup_strobesOf (s : State) (kind sel : Nat) : (s.strobesOf kind sel).Nodup := List.nodup_range.filter _

theorem exec_stbSw {s : State} {path : Path} (v : BitVec 8) (h : s.admits path pHk) :
    exec (.stbSw path v) s = .next ((maskList 8 v.toNat).foldl (fun a n => a.strobe n (s.beat + 8)) s) := by
  show Host.Outcome.next _ = _
  rw [State.rowWrite_admits _ _ _ h, State.stbSw, BitVec.toNat_setWidth_of_le (by decide)]

theorem exec_ldacN (s : State) (b : Nat) (k : Fin 4) : exec (.ldacN b k) s =
    .next (((s.at b).strobesOf 1 k.val).foldl (fun a n => a.strobe n (s.at b).beat) (s.at b)) := rfl

/-! DC bias channels (R426, R427). -/

theorem pBias_reg (f off : Nat) : (pBias f).reg off = 0xC01000 + f * 0x1000 + off := by
  simp [Pg.reg, Pg.base, pBias, PageKind.place]

theorem pMode_reg (off : Nat) : pMode.reg off = off := by simp [Pg.reg, Pg.base, pMode, PageKind.place]

theorem pTimer_reg (off : Nat) : pTimer.reg off = 0xC24000 + off := rfl

/-- The registers bias channel k of BIAS[f] acts by: its own, and the mode. -/
def biasAddr (f k x : Nat) : Prop := x = pMode.reg 0x100 ∨ ∃ w < 4, x = (pBias f).reg (biasReg k w)

section
variable {f k f' k' x : Nat}

theorem biasAddr_block (hk : k < 4) (h : biasAddr f k x) : blockReg x = true := by
  rcases h with rfl | ⟨w, hw, rfl⟩
  · decide
  · simp only [blockReg, pBias_reg, biasReg, Bool.and_eq_true, decide_eq_true_eq, Bool.not_eq_true', Bool.and_eq_false_iff,
      decide_eq_false_iff_not]
    omega

theorem biasAddr_ne_timer (hf : f < 32) (hk : k < 4) (h : biasAddr f k x) {off : Nat} : pTimer.reg off ≠ x := by
  rcases h with rfl | ⟨w, hw, rfl⟩
  · rw [pTimer_reg, pMode_reg]; omega
  · rw [pTimer_reg, pBias_reg, biasReg]; omega

/-- STAT of another channel is none of a channel's registers. -/
theorem biasAddr_ne_stat (hk : k < 4) (hk' : k' < 4) (hne : ¬(f' = f ∧ k' = k)) (h : biasAddr f k x) :
    (pBias f').reg (biasReg k' 3) ≠ x := by
  rcases h with rfl | ⟨w, hw, rfl⟩
  · rw [pBias_reg, pMode_reg]; omega
  · rw [pBias_reg, pBias_reg, biasReg, biasReg]; omega

end

/-- A DC bias channel: what forces its output, and its CODE, LOAD, CLEAR_CODE and STAT (Table 16.4). -/
structure BiasChan where
  clr : Bool
  mode : Nat
  code : Word
  load : Word
  clear : Word
  stat : Word

/-- STAT after strobe n, where nothing forces the outputs: a staged code that names the strobe is loaded (R426). -/
def BiasChan.loaded (c : BiasChan) (n : Nat) : Word :=
  if min 8 (fld c.load 3 0) = n ∧ bit c.stat 30 = true then BitVec.ofNat 32 (fld c.code 19 0) else c.stat

/-- STAT once the channel is CLEARED (R427). -/
def BiasChan.cleared (c : BiasChan) : Word := BitVec.ofNat 32 (2 ^ 31 + fld c.clear 19 0)

/-- Channel k of BIAS[f]. -/
def State.biasChan (s : State) (f k : Nat) : BiasChan where
  clr := s.pins.clr
  mode := s.mode
  code := s.rd (pBias f) (biasReg k 0)
  load := s.rd (pBias f) (biasReg k 1)
  clear := s.rd (pBias f) (biasReg k 2)
  stat := s.rd (pBias f) (biasReg k 3)

theorem State.biasForced_eq {s t : State} {f k : Nat} (h : t.biasChan f k = s.biasChan f k) : t.biasForced = s.biasForced :=
  congrArg (fun c : BiasChan => c.clr || c.mode == 5 || c.mode == 1) h

theorem State.biasChan_eq {s t : State} {f k : Nat} (hpins : t.pins = s.pins) (hregs : ∀ x, biasAddr f k x → t.rdA x = s.rdA x) :
    t.biasChan f k = s.biasChan f k := by
  have hreg : ∀ w < 4, t.rd (pBias f) (biasReg k w) = s.rd (pBias f) (biasReg k w) := fun w hw => hregs _ (.inr ⟨w, hw, rfl⟩)
  have hmode : t.mode = s.mode := congrArg (fld · 2 0) (hregs _ (.inl rfl))
  simp only [State.biasChan, hpins, hmode, hreg 0 (by decide), hreg 1 (by decide), hreg 2 (by decide), hreg 3 (by decide)]

section
variable {f k f' k' : Nat}

/-- A write of STAT of another channel. -/
theorem State.biasChan_wrStat (s : State) (v : Word) (hk : k < 4) (hk' : k' < 4) (hne : ¬(f' = f ∧ k' = k)) :
    (s.wr (pBias f') (biasReg k' 3) v).biasChan f k = s.biasChan f k :=
  State.biasChan_eq rfl fun x hx => by rw [State.rdA_wr, if_neg (biasAddr_ne_stat hk hk' hne hx)]

theorem State.biasChan_count (s : State) (p : Pg) {n m : Nat} (hk : k < 4) (hn : n < 48) :
    (s.count p n m).biasChan f k = s.biasChan f k :=
  State.biasChan_eq (State.count_pins ..) fun _ hx => State.count_blk (biasAddr_block hk hx) hn rfl

theorem State.biasChan_flag (s : State) (p : Pg) (i : Nat) (hk : k < 4) : (s.flag p i).biasChan f k = s.biasChan f k :=
  State.biasChan_eq (State.flag_pins ..) fun _ hx => State.flag_blk (biasAddr_block hk hx) rfl

theorem State.biasChan_wrTimer (s : State) (off : Nat) (v : Word) (hf : f < 32) (hk : k < 4) :
    (s.wr pTimer off v).biasChan f k = s.biasChan f k :=
  State.biasChan_eq rfl fun x hx => by rw [State.rdA_wr, if_neg (biasAddr_ne_timer hf hk hx)]

/-- A capture moves timer registers and flags only (R445). -/
theorem State.biasChan_tmrCapture (s : State) (src : Nat) (hf : f < 32) (hk : k < 4) : (s.tmrCapture src).biasChan f k = s.biasChan f k := by
  refine foldl_keeps (State.biasChan · f k) _ s fun t j _ => ?_
  dsimp only
  split
  · split
    · rw [State.biasChan_flag _ _ _ hk, State.biasChan_flag _ _ _ hk, State.biasChan_wrTimer _ _ _ hf hk]
    · rw [State.biasChan_flag _ _ _ hk, State.biasChan_wrTimer _ _ _ hf hk]
  · rfl

theorem State.biasChan_biasPut (s : State) (hk : k < 4) (hk' : k' < 4) (hne : ¬(f' = f ∧ k' = k)) :
    (s.biasPut f' k').biasChan f k = s.biasChan f k := by
  rw [State.biasPut, State.biasChan_count _ _ hk (by decide), State.biasChan_wrStat _ _ hk hk' hne]

end

/-! A strobe arrives at the bias channels (R426). -/

/-- A load strobe at channel k of BIAS[f]: a staged code is loaded. -/
def State.loadChan (s : State) (f k : Nat) : State := if s.rdB (pBias f) (biasReg k 3) 30 then s.biasPut f k else s

/-- The channels of BIAS[f] that name strobe n. -/
def State.biasNamed (s : State) (n f : Nat) : List Nat := (List.range 4).filter (fun k => s.biasLoad f k == n)

/-- Strobe n at BIAS[f]. -/
def State.loadBias (s : State) (n f : Nat) : State :=
  if s.biasNamed n f = [] then s else if s.biasForced then s.count (pBias f) 1 1 else (s.biasNamed n f).foldl (fun c k => c.loadChan f k) s

theorem State.strobeLoad_of_mem {s : State} {n : Nat} (h : n ∈ s.hk.strobes) : s.strobeLoad n =
    (List.range 32).foldl (fun a f => a.loadBias n f) ((s.mapHk (fun h => { h with strobes := h.strobes.erase n })).tmrCapture (17 + n)) := by
  unfold State.strobeLoad
  rw [if_neg (by simpa using h)]
  rfl

theorem State.mem_biasNamed {s : State} {n f k : Nat} : k ∈ s.biasNamed n f ↔ k < 4 ∧ s.biasLoad f k = n := by
  simp [State.biasNamed]

theorem State.loadBias_unforced {s : State} (n f : Nat) (h : s.biasForced = false) :
    s.loadBias n f = (s.biasNamed n f).foldl (fun c k => c.loadChan f k) s := by
  unfold State.loadBias
  split
  · next hnone => rw [hnone]; rfl
  · rw [if_neg (by simp [h])]

section
variable {f k f' k' : Nat}

theorem State.biasChan_loadChan (s : State) (hk : k < 4) (hk' : k' < 4) (hne : ¬(f' = f ∧ k' = k)) :
    (s.loadChan f' k').biasChan f k = s.biasChan f k := by
  unfold State.loadChan
  split
  · exact s.biasChan_biasPut hk hk' hne
  · rfl

theorem State.stat_loadChan {s : State} {n : Nat} (hk : k < 4) (hn : s.biasLoad f k = n) :
    ((s.loadChan f k).biasChan f k).stat = (s.biasChan f k).loaded n := by
  unfold State.loadChan BiasChan.loaded
  split
  · next hstaged =>
    rw [if_pos ⟨hn, hstaged⟩]
    exact State.count_blk (biasAddr_block hk (.inr ⟨3, by decide, rfl⟩)) (by decide) (State.rd_wr_self ..)
  · next hunstaged => rw [if_neg fun h => hunstaged h.2]

/-- A strobe at a page leaves the channels of the other pages. -/
theorem State.biasChan_loadBias (s : State) (n : Nat) (hk : k < 4) (hne : f' ≠ f) :
    (s.loadBias n f').biasChan f k = s.biasChan f k := by
  unfold State.loadBias
  split
  · rfl
  · split
    · exact s.biasChan_count _ hk (by decide)
    · exact foldl_keeps (State.biasChan · f k) _ s fun t j hj =>
        t.biasChan_loadChan hk (State.mem_biasNamed.1 hj).1 fun h => hne h.1

/-- A strobe at a page whose outputs nothing forces loads each staged channel that names it. -/
theorem State.stat_loadBias {s : State} (n : Nat) (hk : k < 4) (hfree : s.biasForced = false) :
    ((s.loadBias n f).biasChan f k).stat = (s.biasChan f k).loaded n := by
  rw [State.loadBias_unforced n f hfree]
  have hother : ∀ (t : State) (j : Nat), j ∈ s.biasNamed n f → j ≠ k → (t.loadChan f j).biasChan f k = t.biasChan f k :=
    fun t j hj hne => t.biasChan_loadChan hk (State.mem_biasNamed.1 hj).1 fun h => hne h.2
  by_cases hn : s.biasLoad f k = n
  · obtain ⟨t, hsame, hstep⟩ := foldl_at (State.biasChan · f k) s (State.mem_biasNamed.2 ⟨hk, hn⟩) (List.nodup_range.filter _) hother
    have hload : t.biasLoad f k = n := (congrArg (fun c : BiasChan => min 8 (fld c.load 3 0)) hsame).trans hn
    rw [hstep, State.stat_loadChan hk hload, hsame]
  · have hkept := foldl_keeps (State.biasChan · f k) (s.biasNamed n f) s fun t j hj =>
      hother t j hj fun h => hn (h ▸ (State.mem_biasNamed.1 hj).2)
    rw [hkept, BiasChan.loaded, if_neg fun h => hn h.1]

/-- A strobe on its way, its outputs unforced, loads each staged channel that names it. -/
theorem State.stat_strobeLoad {s : State} {n : Nat} (hf : f < 32) (hk : k < 4) (hn : n ∈ s.hk.strobes) (hfree : s.biasForced = false) :
    ((s.strobeLoad n).biasChan f k).stat = (s.biasChan f k).loaded n := by
  rw [State.strobeLoad_of_mem hn]
  obtain ⟨t, hsame, hstep⟩ := foldl_at (State.biasChan · f k)
    ((s.mapHk (fun h => { h with strobes := h.strobes.erase n })).tmrCapture (17 + n)) (List.mem_range.2 hf) List.nodup_range
    fun t j _ hne => t.biasChan_loadBias n hk hne
  have hsame : t.biasChan f k = s.biasChan f k := hsame.trans (State.biasChan_tmrCapture _ _ hf hk)
  rw [hstep, State.stat_loadBias n hk ((State.biasForced_eq hsame).trans hfree), hsame]

end

/-! CLR_N (R220, R222, R427). -/

section
variable {f k f' : Nat}

theorem State.biasClear_pins (s : State) (f : Nat) : (s.biasClear f).pins = s.pins := foldl_keeps State.pins _ _ fun _ _ _ => rfl

theorem State.biasClearAll_pins (s : State) : s.biasClearAll.pins = s.pins := foldl_keeps State.pins _ _ fun t f _ => t.biasClear_pins f

/-- Clearing a page leaves the channels of the other pages. -/
theorem State.biasChan_biasClear (s : State) (hk : k < 4) (hne : f' ≠ f) : (s.biasClear f').biasChan f k = s.biasChan f k :=
  foldl_keeps (State.biasChan · f k) _ s fun t _ hj => t.biasChan_wrStat _ hk (List.mem_range.1 hj) fun h => hne h.1

theorem State.stat_biasClear (s : State) (hk : k < 4) : ((s.biasClear f).biasChan f k).stat = (s.biasChan f k).cleared := by
  obtain ⟨t, hsame, hstep⟩ := foldl_at (State.biasChan · f k) s (List.mem_range.2 hk) List.nodup_range fun t j hj hne =>
    t.biasChan_wrStat (BitVec.ofNat 32 (2 ^ 31 + t.rdF (pBias f) (biasReg j 2) 19 0)) hk (List.mem_range.1 hj) fun h => hne h.2
  exact (congrArg BiasChan.stat hstep).trans ((State.rd_wr_self ..).trans (congrArg BiasChan.cleared hsame))

theorem State.stat_biasClearAll (s : State) (hf : f < 32) (hk : k < 4) : (s.biasClearAll.biasChan f k).stat = (s.biasChan f k).cleared := by
  obtain ⟨t, hsame, hstep⟩ := foldl_at (State.biasChan · f k) s (List.mem_range.2 hf) List.nodup_range fun t _ _ hne =>
    t.biasChan_biasClear hk hne
  exact (congrArg BiasChan.stat hstep).trans ((t.stat_biasClear hk).trans (congrArg BiasChan.cleared hsame))

end

/-- The state in which CLR_N has begun to force the outputs. -/
def State.clrLow (s : State) (b : Nat) : State := { s with pins := { s.pins with clr := true, clrFrom := b + 24 } }

theorem State.clrAssert_high {s : State} (b : Nat) (h : s.pins.clr = false) :
    s.clrAssert b = outPages.foldl (fun a p => a.flag p 1) (s.clrLow b).biasClearAll := by
  unfold State.clrAssert
  rw [if_neg (by simp [h])]
  rfl

theorem State.clrAssert_pins {s : State} (b : Nat) (h : s.pins.clr = false) : (s.clrAssert b).pins = (s.clrLow b).pins := by
  rw [State.clrAssert_high b h, foldl_keeps State.pins outPages _ fun t p _ => t.flag_pins p 1, State.biasClearAll_pins]

theorem State.stat_clrAssert {s : State} (b : Nat) {f k : Nat} (h : s.pins.clr = false) (hf : f < 32) (hk : k < 4) :
    ((s.clrAssert b).biasChan f k).stat = (s.biasChan f k).cleared := by
  rw [State.clrAssert_high b h, foldl_keeps (State.biasChan · f k) outPages _ fun t p _ => t.biasChan_flag p 1 hk,
    State.stat_biasClearAll _ hf hk]
  rfl

theorem State.clrRelease_low {s : State} (b : Nat) (h : s.pins.clr = true) :
    s.clrRelease b = { s with pins := { s.pins with clr := false, spans := (s.pins.clrFrom, b + 23) :: s.pins.spans } } := by
  rw [State.clrRelease, if_pos h]

/-! Channel events (12_hypha_events.md R329, R334). -/

/-- A software pulse, by its source number, which page HCHAN[p] counts. -/
def State.pulse (s : State) (p src : Nat) : State := (s.count (pHchan p) 1 1).srcEvent (s.beat + 5) src

theorem State.swPulse_eq (s : State) (p j : Nat) (v : Word) :
    s.swPulse p j v = (maskList 32 v.toNat).foldl (fun a i => a.pulse p (1024 + 64 * p + 32 * j + i)) s := rfl

theorem State.pulse_beat (s : State) (p src : Nat) : (s.pulse p src).beat = s.beat := State.count_beat ..

theorem State.pulse_events (s : State) (p src : Nat) : (s.pulse p src).hypha.events = s.hypha.events ++ [(s.beat + 5, src)] := by
  simp only [State.pulse, State.srcEvent, State.count_hypha]

/-- Pulses ride together in the beat 5 after the write, in rising order of their channels. -/
theorem State.swPulse_events (s : State) (p j : Nat) (v : Word) : (s.swPulse p j v).hypha.events =
    s.hypha.events ++ (maskList 32 v.toNat).map (fun i => (s.beat + 5, 1024 + 64 * p + 32 * j + i)) := by
  rw [State.swPulse_eq]
  induction maskList 32 v.toNat generalizing s with
  | nil => simp
  | cons i l ih => rw [List.foldl_cons, ih, State.pulse_events, State.pulse_beat, List.map_cons, List.append_assoc, List.singleton_append]

theorem State.swPulse_blk {s : State} {p j a : Nat} {v w : Word} (hb : blockReg a = true) (h : s.rdA a = w) : (s.swPulse p j v).rdA a = w :=
  blk_foldl _ h fun _ _ _ ht => State.count_blk hb (by decide) ht

theorem exec_swpulse {s : State} {path : Path} {p : Fin 16} (j : Fin 2) (v : Word) (h : s.admits path (pHchan p.val)) :
    exec (.swpulse path p j v) s = .next (s.swPulse p.val j.val v) :=
  congrArg Host.Outcome.next (State.rowWrite_admits _ _ _ h)

theorem State.channelEvent_carried {s : State} {b c : Nat} (h : (b, c) ∈ s.hypha.carried) :
    s.channelEvent b c = (s.mapHypha (fun h => { h with carried := h.carried.erase (b, c) })).deliver c b := by
  rw [State.channelEvent, if_pos (by simpa using h)]

theorem State.channelEvent_now {s : State} {b c : Nat} (hcarried : (b, c) ∉ s.hypha.carried) (hb : b = s.beat) (hnow : c ∈ s.hyphaNow.1)
    (hnew : c ∉ s.hypha.delivered) : s.channelEvent b c = (s.mapHypha (fun h => { h with delivered := c :: h.delivered })).deliver c b := by
  rw [State.channelEvent, if_neg (by simpa using hcarried), if_pos (by simp [hb, hnow, hnew])]

/-- Settles O42: each strobe acts on its own wire, each load or clear on its own channel, and each pulse adds its own event. -/
theorem strobesAndEvents : Obligations.StrobesAndEvents := by
  unfold Obligations.StrobesAndEvents
  refine ⟨fun s path v hadm => ?_, fun s u b k hu => ?_, fun s u h n hu hn hfree => ?_, fun s u b hu => ⟨fun hclr => ?_, fun hclr => ?_⟩,
    fun s path p j v hadm => ?_, fun s u b c hu => ⟨fun hcarried => ?_, fun hcarried hb hnow hnew => ?_⟩⟩
  · exact ⟨_, exec_stbSw v hadm, fun n hn hv => State.wire_cases (s.wire_strobes _ (mem_maskList.2 ⟨hn, hv⟩) (nodup_maskList ..)),
      fun a ha => State.strobes_blk (fun _ hn => (mem_maskList.1 hn).1) ha rfl, State.strobes_gddr ..⟩
  · subst hu
    exact ⟨_, exec_ldacN s b k, fun n hn => State.wire_cases (State.wire_strobes _ _ hn (State.nodup_strobesOf ..)),
      fun a ha => State.strobes_blk (fun _ hn => State.lt_of_mem_strobesOf hn) ha rfl, State.strobes_gddr ..⟩
  · subst hu
    refine ⟨_, rfl, fun f k hf hk => ⟨fun hload hstaged => ?_, fun hkept => ?_⟩⟩
    · exact (State.stat_strobeLoad hf hk hn hfree).trans (if_pos ⟨hload, hstaged⟩)
    · exact (State.stat_strobeLoad hf hk hn hfree).trans (if_neg fun h => hkept.elim (· h.1) fun h' => by cases h'.symm.trans h.2)
  · subst hu
    have hpins := State.clrAssert_pins ((s.at b).edgeAt b) hclr
    exact ⟨_, rfl, congrArg Pins.clr hpins, congrArg Pins.clrFrom hpins, fun f k hf hk => State.stat_clrAssert _ hclr hf hk⟩
  · subst hu
    exact ⟨_, congrArg Host.Outcome.next (State.clrRelease_low _ hclr), rfl, rfl, fun _ _ => rfl⟩
  · exact ⟨_, exec_swpulse j v hadm, State.swPulse_events .., fun a ha => State.swPulse_blk ha rfl, State.swPulse_mem _ _ _ rfl⟩
  · subst hu
    exact congrArg Host.Outcome.next (State.channelEvent_carried hcarried)
  · subst hu
    exact congrArg Host.Outcome.next (State.channelEvent_now hcarried hb hnow hnew)

end Sys2Proof.Machine
end
